-- ==== Sys2Proof/Word.lean ====
section
/-! DEFINITION. The word and byte types, and the plainest reading and writing of a bit field. -/
namespace Sys2Proof

/-- A register word (R7). -/
abbrev Word := BitVec 32

/-- A byte of memory or of a Trelfieno register. -/
abbrev Byte := BitVec 8

/-- A 16-bit half, such as a Trelfieno register pair. -/
abbrev Half := BitVec 16

end Sys2Proof
end

