-- ==== Sys2Proof/Regs.lean ====
section
/-! DEFINITION. The names of the registers of revision C (spec/25_register_summary.md, R637), exactly those of its
Tables 25.2 to 25.5, and the type of a field of one of them (spec/00_scope.md, Table 0.2). -/
namespace Sys2Proof

/-- A register of Tables 25.2 to 25.5, spelled as the spec spells it. An indexed register is one name here; its
indices are given beside the name. -/
inductive Reg where
  | SYS_CFG | SYS_ISA | SYS_CASN | SYS_CCTL | SYS_CSTAT | SYS_CENTRY | SYS_CBANK | SYS_CBSEL | SYS_CWSN | SYS_CPC
  | SYS_CCHK | SYS_SPG | SYS_SRAM | SYS_SECC | SYS_SADDR | SYS_SCLR | PWR_STAT | PWR_VIN | PWR_VBAT | PWR_VHOLD
  | PWR_HOLDC | PWR_DOM | PWR_WDT | PWR_WDTLEFT | PWR_IDLE | PWR_RCNT | LAT_CTRL | LAT_VPOL | LAT_VCORE | LAT_SLACK
  | LAT_SLACKLOW | LAT_STAGE | LAT_CLR | LAT_OVR | JRN_STAT | JRN_LSN | JRN_QUEUE | JRN_LIVE | JRN_WEAR | JRN_CTIME
  | JRN_CFG | JRN_CLR | JRN_REPAIR | FLS_STAT | FLS_CTL | FLS_ARCH | FLS_POISON | FLS_SECT | FLS_ECNT | RING_CFG
  | RING_PTR | RING_STAT | RING_CLR | EVT_COAL | EVT_PINEN | EVT_SEQ | EVT_ACK | EVT_LOST | EVT_IMASK | EVT_SEEN
  | TC_NOW_LO | TC_NOW_HI | TC_TICK_LO | TC_TICK_HI | TC_STATUS | TC_REFSEL | DEC_STAT | DEC_ISSUED | DEC_CHKS
  | DEC_CLR | DEC_SFLAGS | DEC_OUT | DEC_MBX | MOT_STATE | MOT_SCFG | MOT_HOLDT | MOT_RTOL | MOT_APPF | MOT_CDV
  | MOT_OVR | MOT_LOOK | MOT_VMAX | MOT_VRAP | MOT_AMAX | MOT_JMAX | MOT_JOGF | MOT_SLO | MOT_SHI | MOT_AXCTL
  | MOT_PGM | MOT_AXL | MOT_MFT | MOT_HS | MOT_XSLOT | MOT_XWSN | MOT_XCTL | MOT_CODE | SRV_MODE | SRV_FB | SRV_FBNUM
  | SRV_FBDEN | SRV_KP | SRV_KI | SRV_KVF | SRV_KAF | SRV_VFS | SRV_OUTLIM | SRV_OUTOFS | SRV_KVP | SRV_KVI
  | SRV_TACH | SRV_TACHFS | SRV_TACHTOL | SRV_FEWARN | SRV_FETRIP | SRV_APPLY | SRV_STAT | SRV_FE | SRV_RESNOM
  | SRV_COMP | SRV_BKL | SRV_CSTART | SRV_CSTEP | SRV_CPT | ENC_CFG | ENC_CNT | ENC_ZCAP | ENC_STAT | ENC_ERRS
  | ENC_HWCFG | ENC_HWCNT | ENC_HWSTAT | REB_CMODE | REB_CPAR | REB_CHOFF | REB_CSTAT | REB_RC | REB_RGN | REB_RSER
  | REB_RLOAD | REB_EPOCH_LO | REB_EPOCH_HI | REB_XPT | LGF_CLK | LGF_HMODE | LGF_HVAL | LGF_HMODE2 | LGF_HVAL2
  | LGF_OUT | LGF_OUT2 | LGF_CRC | ADC_PCFG | ADC_PDATA | ADC_PSTAT | ADC_PCALT | ADC_FCFG | ADC_FDATA | ADC_FSTAT
  | ADC_FCALT | ADC_REF | ADC_REFDIFF | ADC_REFCHK | ADC_TEMP | ADC_CALCFG | FCH_CFG | FCH_PHD | FCH_SF | FCH_TAPS
  | FCH_SWAP | FCH_DLY | FCH_RATE | FCH_RES | FCH_ANG | FCH_RAMP | FCH_PLOAD | FCH_COEFA | FCH_COEFB | DAC_CFG
  | DAC_HOLD | DAC_OUT | DAC_MAJOR | DAC_RTGT | DAC_RTCK | DAC_STAT | DAC_LDG | DAC_LOAD | EXC_CFG | EXC_INC
  | EXC_AMP | EXC_PHASE | EXC_RATE | EXC_NOW | EXC_NINC | EXC_STAT | EXC_TSWAP | EXC_TAB | FIO_CFG | FIO_STAT
  | FIO_CUR | FIO_CLR | FIO_GSTAT | FIO_GCUR | FIO_ACFG | FIO_ASTAT | FIO_IN_LO | FIO_IN_HI | FIO_DRV_LO | FIO_DRV_HI
  | PNL_SCAN | PNL_RPT | PNL_OWN | PNL_COMBO | PNL_KACT | PNL_KRPT | PNL_KQ | PNL_KSTAT | PNL_DCFG | PNL_DBRT
  | PNL_DSTAT | PNL_DRAW | PNL_DFLT | PNL_CHCFG | PNL_CHQ | PNL_CHSTAT | PNL_FONT | PNL_CALC | PNL_CSCAN | PNL_CKEY
  | OLK_CFG | OLK_CFG2 | OLK_STAT | OLK_SYNC | OLK_PCTL | OLK_PSTAT | OLK_PCNT | OLK_PDLY | OLK_PAUTH | OLK_OWSN
  | OLK_MIRROR | OLK_FRZ | OLK_INFO | SER_MODE | SER_BAUD | SER_CTRL | SER_ASYNC | SER_STAT | SER_CNT | SER_CLR
  | SER_TAPE | SER_TAPESTAT | CFG_STAT | CFG_SERIAL | CFG_POLICY | CFG_TRY | CFG_KEY | CFG_KFP | CFG_STG | CFG_STGSER
  | CFG_STGINF | NOC_PCFG | NOC_PALO | NOC_PAHI | NOC_PPKT | NOC_PFLIT | NOC_PBLK | NOC_PCLR | OBS_STAT | OBS_FRZ
  | OBS_FRZT_LO | OBS_FRZT_HI | OBS_CTAG | OBS_TRCFG | OBS_TRKIND | OBS_TRENG_LO | OBS_TRENG_HI | OBS_TRSTAT
  | OBS_TRSET | OBS_TRMARK | OBS_RSVOP | OBS_WPLO | OBS_WPHI | OBS_WPCFG | OBS_WPCNT | OBS_WPT_LO | OBS_WPT_HI
  | OBS_SKCFG | OBS_SKN | OBS_SKMIN | OBS_SKMAX | OBS_SKSUM_LO | OBS_SKSUM_HI | OBS_SKCRC | OBS_SKINV | OBS_SNAPT_LO
  | OBS_SNAPT_HI | OBS_EBUSY_LO | OBS_EBUSY_HI | OBS_EIDLE_LO | OBS_EIDLE_HI | OBS_ESTALL_LO | OBS_ESTALL_HI
  | OBS_ENOW
deriving DecidableEq, Repr

/-- The field types of Table 0.2 (R8). A bit that no field lists is RSV. -/
inductive FKind where
  | rw | ro | w1c | wo
deriving DecidableEq, Repr

/-- A field of a register: its lowest bit, its width, its type, whether it is signed (R131), and the values the
owning chapter allows (an empty list allows every bit pattern). -/
structure Fld where
  reg : Reg
  lo : Nat
  wd : Nat
  kind : FKind
  sgn : Bool
  ok : List (Int × Int)
deriving DecidableEq, Repr

end Sys2Proof
end

