-- ==== Sys2Proof/Syntax.lean ====
section
/-! DEFINITION. The commands of the block: one constructor of Instr for each row of spec/opcode_table.json, with the
row's operands. A row that is an event carries what the block observes at that event. -/
namespace Sys2Proof

/-! ## Operand types -/

/-- Who offers a command (Table 3.1). A framed line carries its WSN in the line, a link frame in its header, and a
core's request the WSN and the series of the core's own source counter. -/
inductive Origin where
  | framed (p : Fin 2) (wsn : Nat)
  | typed (p : Fin 2)
  | panel
  | core (c : Fin 6)
  | peer (d : Fin 8) (wsn : Nat)
deriving DecidableEq, Repr

/-- Who makes a register access: a core with its own packets (R24), or the session of a Puarn line (R133). -/
inductive Requester where
  | core (c : Fin 6)
  | line (o : Origin)
deriving DecidableEq, Repr

/-- The target of `REG` and `REG?` (R130): a word address, a register by name and indices, or one of its fields. -/
inductive RegTarget where
  | addr (a : Nat)
  | reg (r : Reg) (i j : Nat)
  | field (f : Fld) (i j : Nat)
deriving DecidableEq, Repr

/-- The two reference sources (R31). -/
inductive RefSrc where
  | xtal | refin
deriving DecidableEq, Repr

/-- The four event classes (Table 6.3), in the order of their numbers. -/
inductive EvClass where
  | trip | fault | attn | fin
deriving DecidableEq, Repr

/-- The owners of Table 5.1: the board and the four stations (R119). -/
inductive Owner where
  | board
  | stn (s : Fin 4)
deriving DecidableEq, Repr

/-- A date and time as `TIME RTC` gives it (R129). -/
structure DateTime where
  year : Nat
  month : Nat
  day : Nat
  hour : Nat
  minute : Nat
  second : Nat
deriving DecidableEq, Repr

/-- The targets of `POLICY` (Table 5.3). -/
inductive PolicyTarget where
  | fio | ain | da | en | res | ref | vcore | link
deriving DecidableEq, Repr

/-- The policy modes, in the order of their codes (R142). -/
inductive PolicyMode where
  | off | report | adapt
deriving DecidableEq, Repr

/-- The pairs of counter words whose LO read latches HI (R37, Table 13.5, R604). -/
inductive LatchPair where
  | now | tick | epoch
  | busy (e : Fin 33)
  | idle (e : Fin 33)
  | stall (e : Fin 33) (r : Fin 8)
deriving DecidableEq, Repr

/-- A decimal number as a line carries it: exact, (-1)^neg × coef × 10^exp (R95, Table 4.2). -/
structure Decimal where
  neg : Bool
  coef : Nat
  exp : Int
deriving DecidableEq, Repr

/-- What the observation block sees of an engine since the last tick (R585): counts spent busy, idle and stalled by reason,
and its state, stall reason and ON at the tick. Counts that none of these names fall to the state at the tick. -/
structure EngObs where
  e : Fin 33
  busy : Nat
  idle : Nat
  stalls : List (Fin 8 × Nat)
  state : Fin 3
  reason : Fin 8
  on : Nat
deriving DecidableEq, Repr

/-- The blocks that attach to the nodes of the Boardwalk (Table 1.4). -/
inductive NocUnit where
  | serial | tape | panel
  | core (c : Fin 6)
  | ohmid
  | sram (b : Fin 2)
  | rings | decimal
  | planner (k : Fin 4)
  | flash | loader
  | servo (a : Fin 12)
  | journal | events | timeCounter | lattice | power
  | converters | chains | dacs | excitation | encoders
  | field | reedbed | fabric | obsPort
deriving DecidableEq, Repr

/-- The packet kinds of Table 1.3, with what the payload of each carries. A memory write's data travel in the flits after
the first; a read response's data start in the first. -/
inductive PktBody where
  | regRead (a : Word)
  | regWrite (a v : Word)
  | response (first : BitVec 128) (more : List (BitVec 128))
  | memRead (a : Word)
  | memWrite (a : Word) (data : List (BitVec 128))
  | ringEntry (lo hi : BitVec 128)
  | decimal (v : BitVec 128)
  | event (first : BitVec 128) (more : List (BitVec 128))
deriving DecidableEq, Repr

/-- A Boardwalk packet since the last tick, as probes and watchpoints see it (R18, R19, R590, R591). `stn` none is board
authority. The destination of a packet that carries a mapped address is the node that serves the address; `dest` is that of
every other packet. -/
structure PktObs where
  tag : BitVec 13
  stn : Option (Fin 4)
  source : NocUnit
  dest : NocUnit
  body : PktBody
  refused : Bool
deriving DecidableEq, Repr

/-- A measured value that a read-only field shows (currents, voltages, temperature). -/
structure MeasObs where
  fld : Fld
  i : Nat
  v : Int
deriving DecidableEq, Repr

/-- What a pass of the scrub has found (R149, R507): words corrected, and rings whose descriptor copies differ. -/
structure ScrubObs where
  corr : Nat
  differ : List (Fin 16)
deriving DecidableEq, Repr

/-- What the loader has found of a candidate: its bytes, where its source is external (R532), and the stations that its image
gives to the axes and to the encoder receivers (log entry 29). -/
structure ImageObs where
  ext : List Byte
  axes : Vector Nat 12
  encs : Vector Nat 12
deriving DecidableEq, Repr

/-- What the block observes at a lattice tick: the inputs sampled or latched on it. Lists name only the channels that
show something other than their last value. -/
structure TickObs where
  /-- Counts from the tick to the completion of its tick-bound work, of the tick before this one (Cdone of R46). -/
  done : Nat
  /-- Stations whose planner's setpoints, and precision channels whose resampler outputs, are unfinished at this tick (R45,
  R51). A tick section is late by the state of its core. -/
  lateSet : List (Fin 4)
  lateCh : List (Fin 16)
  /-- Measured stage time, ps (LAT_STAGE). -/
  stagePs : Nat
  /-- Encoder receivers: live count (R248). -/
  enc : List (Fin 12 × Int)
  /-- Resolver pairs: the angle in its cycle, and A in 0.01 % of full scale squared (R387, R389). -/
  res : List (Fin 16 × Nat × Nat)
  /-- Precision channels in mode PRESET or CUSTOM: the value presented for this tick, and of fast channels the value
  sampled at it; an input beyond the span shows as a value beyond the code range (R366, R367). -/
  pa : List (Fin 16 × Int)
  fa : List (Fin 8 × Int)
  /-- LOUT of analogue cells (R342). -/
  lout : List (Fin 64 × Bool)
  /-- Engines, packets, and counts for which a router held a flit without credit (R585, R590). -/
  eng : List EngObs
  pkts : List PktObs
  blocked : List (Fin 16 × Nat)
  /-- Measured values of read-only fields. -/
  meas : List MeasObs
deriving DecidableEq, Repr

/-- The values `LIMIT AXIS` names (R233): exact decimals in the units of R233; none for a value not named. -/
structure AxisLimits where
  vmax : Option Decimal
  vrapid : Option Decimal
  amax : Option Decimal
  jmax : Option Decimal
  jogf : Option Decimal
  lo : Option Decimal
  hi : Option Decimal
  slen : Option Bool
deriving DecidableEq, Repr

/-- The values `LIMIT STN` names (R233). -/
structure StnLimits where
  holdt : Option Decimal
  rtol : Option Decimal
  appf : Option Decimal
  cdv : Option Decimal
  endly : Option Decimal
  blend : Option Bool
deriving DecidableEq, Repr

/-- A register field setting of `SERVO` or `COMP` (R261, R262): a field of the axis and its value in register units. -/
structure FieldSet where
  fld : Fld
  val : Int
deriving DecidableEq, Repr

/-- The conditions of an encoder receiver as ENC_STAT shows them live (Table 9.2): line breaks of A, B and Z, and low
amplitude; and whether an illegal transition occurred. -/
structure EncCond where
  lb : Fin 8
  ampl : Bool
  illegal : Bool
deriving DecidableEq, Repr
/-- A decimal request (Table 10.4): `req` is the requester, operands are 16 bytes as a number. `conv` says that a
planner's request belongs to the conversion of a block (R273). -/
structure DecReq where
  req : Nat
  op : Nat
  rm : Nat
  deg : Bool
  asrc : Bool
  bsrc : Bool
  csrc : Bool
  dsten : Bool
  dst : Nat
  areg : Nat
  breg : Nat
  creg : Nat
  tag : Nat
  a : Nat
  b : Nat
  c : Nat
  conv : Bool
deriving DecidableEq, Repr

/-- The window addressing modes of Table 12.6. -/
inductive WinMode where
  | at_
  | inc
  | dec
  | off (v : Half)
deriving DecidableEq, Repr

/-- What drives an input of a logic cell or an output of a region (R351): a logic cell of the region, LOUT of one of its
eight analogue cells, one of its logic-to-fabric bits, a link line of a region, or a constant. -/
inductive FabIn where
  | cell (n : Nat)
  | lout (n : Nat)
  | logic (n : Nat)
  | link (r n : Nat)
  | const (b : Bool)
deriving DecidableEq, Repr

/-- A configured logic cell (R351): its number in the region, truth table, four inputs, and, where it has a register, the
clock enable and the initial value; no initial value is INHERIT (R357). -/
structure LogicCell where
  n : Nat
  table : Nat
  ins : List FabIn
  reg : Bool
  en : Option FabIn
  init : Option Bool
deriving DecidableEq, Repr

/-- An analogue cell as a region image sets it (Tables 13.1 and 13.5). -/
structure CellCfg where
  mode : Nat
  sub : Nat
  par : Nat
  trip : Bool
  tmask : Nat
  hmode : Nat
  hconst : Nat
deriving DecidableEq, Repr

/-- The configuration of one region (Table 20.3, REGION): cells, logic, the 56 outputs, fabric clock, routes of sinks (as
pairs of sink and source), hand-off values, SETTLE, and the CRC of the logic configuration. -/
structure RegionCfg where
  cells : List CellCfg
  logic : List LogicCell
  outs : List (Nat × FabIn)
  clkSrc : Nat
  clkDiv : Nat
  routes : List (Nat × Nat)
  hmode : Nat
  hval : Nat
  hmode2 : Nat
  hval2 : Nat
  settle : Nat
  crc : Nat
deriving DecidableEq, Repr

/-- A sink or channel argument of the converter commands: PA0 to PA15 are 0 to 15, FA0 to FA7 are 16 to 23. -/
abbrev Chan := Fin 24


/-- A station code of an assignment: 0 to 3, 4 the board, 7 none (R23). -/
abbrev StnCode := Nat

/-- What a `DAC DAn` line sets (R418). -/
structure DacSet where
  stn : Option StnCode
  span : Option Nat
  ldg : Option (Fin 4)
  dg : Option Bool
  major : Option Nat
deriving DecidableEq, Repr

/-- What an `EXC EXn` line sets (R419): amplitude in V rms, frequency in Hz, phase in degrees, and the two rates. -/
structure ExcSet where
  stn : Option StnCode
  amp : Option Decimal
  f : Option Decimal
  phase : Option Decimal
  ar : Option Nat
  fr : Option Nat
deriving DecidableEq, Repr
/-- What `PANEL?` asks for (R440). -/
inductive PanelPart where
  | all | scan | keys | queue | display | char
deriving DecidableEq, Repr

/-- What `FIO?` asks for (R467): a range of pins or all of them, an AIN pin, or a group. -/
inductive FioPart where
  | pins (r : Option (Nat × Nat))
  | ain (i : Nat)
  | group (g : Nat)
deriving DecidableEq, Repr
/-- What a TOPO frame tells of its sender (R473, R494, Table 18.2): its port states and the addresses of its neighbours;
and, from the master, the path delay of each device in 1/16 count, the largest counter of the ring, and whether every
station of every device is IDLE. -/
structure TopoInfo where
  up0 : Bool
  up1 : Bool
  n0 : Option (Fin 8)
  n1 : Option (Fin 8)
  delays : List Nat
  count : Option Nat
  idle : Bool
deriving DecidableEq, Repr

/-- The scope of `OBS CLEAR` (R587); none is the session's selected station. -/
inductive ObsScope where
  | all
  | owner (w : Owner)
deriving DecidableEq, Repr


/-! ## The commands -/

/-- One constructor for each row of spec/opcode_table.json. -/
inductive Instr where
  /- Lines of the command language. (A constructor that a definition builds must stand among the first 244.) -/
  -- Lines and characters (spec/04_puarn_language.md)
  | auth (o : Origin) (key : Nat)
  | authOff (o : Origin)
  | authQuery (o : Origin)
  | stnSelect (o : Origin) (k : Fin 4)
  | stnQuery (o : Origin)
  | authset (o : Origin) (w : Owner) (key : Nat)
  | idQuery (o : Origin)
  | timeQuery (o : Origin)
  | timeRtc (o : Origin) (d : DateTime)
  | reg (o : Origin) (t : RegTarget) (v : Int)
  | regQuery (o : Origin) (t : RegTarget) (n : Nat)
  | wsnQuery (o : Origin) (src : Option Nat)
  | outcomeQuery (o : Origin) (w : Nat) (src ser : Option Nat) (n : Nat)
  | cancel (o : Origin) (w : Nat) (src ser : Option Nat)
  | release (o : Origin) (w : Nat) (src ser : Option Nat)
  | seriesRestart (o : Origin)
  | jrnQuery (o : Origin)
  | jrnSourcesQuery (o : Origin)
  | resetWarm (o : Origin)
  | resetCold (o : Origin)
  | policy (o : Origin) (t : PolicyTarget) (i j : Nat) (m : PolicyMode)
  | policyQuery (o : Origin) (t : PolicyTarget) (i j : Nat)
  | ringDepth (o : Origin) (r : Fin 16) (n : Nat)
  | ringQuery (o : Origin) (r : Option (Fin 16))
  | eventAck (o : Origin) (c : EvClass) (seq : Nat)
  | eventQuery (o : Origin) (c : EvClass) (frm : Option Nat) (n : Nat)
  -- Programs, tape, conversion and handshakes (spec/07_part_programs.md)
  | progNew (o : Origin) (p : Nat) (title : String)
  | progAdd (o : Origin) (p : Nat) (block : String)
  | progEnd (o : Origin) (p : Nat)
  | progDel (o : Origin) (p : Nat)
  | progQuery (o : Origin) (p frm : Option Nat) (n : Nat)
  | run (o : Origin) (p : Nat) (k : Option (Fin 4)) (frm : Nat)
  | mdi (o : Origin) (block : String) (k : Option (Fin 4))
  | tapeRead (o : Origin) (p : Nat)
  | tapeRun (o : Origin) (k : Option (Fin 4))
  | tapeStop (o : Origin)
  | tapeQuery (o : Origin)
  | mfin (o : Origin) (k : Option (Fin 4))
  -- Motion (spec/08_motion_and_braking.md)
  | hold (o : Origin) (k : Option (Fin 4)) (t : Option Decimal)
  | stop (o : Origin) (k : Option (Fin 4))
  | resume (o : Origin) (k : Option (Fin 4))
  | ovr (o : Origin) (k : Option (Fin 4)) (feed rapid spin : Option Nat)
  | ovrQuery (o : Origin) (k : Option (Fin 4))
  | limitAxis (o : Origin) (a : Nat) (l : AxisLimits)
  | limitStn (o : Origin) (k : Fin 4) (l : StnLimits)
  | limitQuery (o : Origin) (axis : Bool) (n : Nat)
  | axisJog (o : Origin) (a : Nat) (plus : Bool) (f d : Option Decimal)
  | axisJogStop (o : Origin) (a : Nat)
  | axisHw (o : Origin) (a : Nat) (n : Fin 2) (mult : Nat)
  | axisHwOff (o : Origin) (a : Nat)
  | axisRef (o : Origin) (a : Nat) (pos : Decimal)
  | stateQuery (o : Origin) (k : Option (Fin 4))
  -- Servo loops and feedback (spec/09_servo_and_feedback.md)
  | servo (o : Origin) (a : Nat) (sets : List FieldSet)
  | servoRescal (o : Origin) (a : Nat)
  | servoQuery (o : Origin) (a : Nat)
  | comp (o : Origin) (a : Nat) (sets : List FieldSet)
  | compPt (o : Origin) (a i : Nat) (v : Int)
  | compQuery (o : Origin) (a : Nat) (frm n : Nat)
  -- Decimal engine and calculator (spec/10_decimal_engine.md)
  | calcQuery (o : Origin) (expr : String) (rm : Nat) (deg : Bool)
  | decQuery (o : Origin)
  -- Trelfieno cores (spec/11_trelfieno_model.md, spec/12_trelfieno_instructions.md)
  | coreAssign (o : Origin) (c : Nat) (stn : StnCode)
  | coreSpare (o : Origin) (c : Option Nat)
  | coreHalt (o : Origin) (c : Nat)
  | coreStart (o : Origin) (c : Nat)
  | coreClear (o : Origin) (c : Nat)
  | coreQuery (o : Origin) (c : Option Nat)
  -- Reedbed and fabric (spec/13_reedbed_and_fabric.md)
  | regionLoad (o : Origin) (img : Nat) (at_ : Option Nat)
  | regionHandoffCell (o : Origin) (n : Fin 64) (v : Option Decimal)
  | regionHandoffRg (o : Origin) (r : Fin 8) (out : Fin 56) (v : Option Bool)
  | regionRef (o : Origin) (i : Fin 8) (v : Decimal)
  | regionQuery (o : Origin) (r : Option (Fin 8))
  | xpt (o : Origin) (routes : List (Fin 216 × Fin 105))
  | xptQuery (o : Origin) (k : Option (Fin 216))
  -- Converters and filters (spec/14_converters_and_filters.md)
  | adcAssign (o : Origin) (ch : Chan) (stn : StnCode)
  | adcQuery (o : Origin) (ch : Option Chan)
  | cal (o : Origin) (ch : Option (Chan × Chan))
  | calRef (o : Origin) (diff chkA chkB : Int)
  | filterPreset (o : Origin) (n : Fin 16) (preset : Fin 4) (sf : Option Nat)
  | filterCustom (o : Origin) (n : Fin 16) (ord cic fir : Nat)
  | filterPhase (o : Origin) (n : Fin 16) (int frac : Nat)
  | filterTaps (o : Origin) (n : Fin 16) (bankB : Bool) (taps : Nat)
  | filterCoef (o : Origin) (n : Fin 16) (bankB : Bool) (i : Nat) (vs : List Decimal)
  | filterSwap (o : Origin) (n : Fin 16)
  | filterResolver (o : Origin) (n : Fin 16) (trk : Nat) (exc : Option (Fin 4))
  | filterResphase (o : Origin) (n : Fin 16) (phase : Int)
  | filterQuery (o : Origin) (n : Fin 16)
  -- DAC outputs and excitation (spec/15_outputs_and_excitation.md)
  | dacConfig (o : Origin) (n : Fin 16) (c : DacSet)
  | dacValue (o : Origin) (n : Fin 16) (v : Decimal) (t : Nat)
  | dacSafe (o : Origin) (n : Fin 16)
  | dacLoad (o : Origin) (g : Fin 4)
  | dacLdg (o : Origin) (g : Fin 4) (trig : Fin 4)
  | dacQuery (o : Origin) (n : Option (Fin 16))
  | exc (o : Origin) (g : Fin 4) (c : ExcSet)
  | excTable (o : Origin) (g : Fin 4) (i : Nat) (vs : List Nat)
  | excTableSine (o : Origin) (g : Fin 4)
  | excTableSwap (o : Origin) (g : Fin 4)
  | excQuery (o : Origin) (g : Option (Fin 4))
  -- The operator panel (spec/16_operator_panel.md)
  | disp (o : Origin) (row pos : Nat) (text : String)
  | dispFault (o : Origin) (row pos : Nat) (text : String)
  | dispClear (o : Origin) (fault : Bool)
  | dispChr (o : Origin) (text : String)
  | dispChrCmd (o : Origin) (h : Nat)
  | panelScan (o : Origin) (sets : List FieldSet)
  | panelRepeat (o : Origin) (sets : List FieldSet)
  | panelKey (o : Origin) (k : Nat) (on : Bool)
  | panelCombo (o : Origin) (n : Fin 2) (sets : List FieldSet)
  | panelAction (o : Origin) (i : Fin 16) (sets : List FieldSet)
  | panelOwner (o : Origin) (sets : List FieldSet)
  | panelDisplay (o : Origin) (sets : List FieldSet)
  | panelFont (o : Origin) (x : Char) (sets : List FieldSet)
  | panelChar (o : Origin) (sets : List FieldSet)
  | panelQuery (o : Origin) (p : PanelPart)
  -- Field pins (spec/17_field_io.md)
  | fio (o : Origin) (n m : Nat) (sets : List FieldSet)
  | fioOut (o : Origin) (n : Nat) (on : Bool)
  | fioClear (o : Origin) (n : Nat)
  | fioAin (o : Origin) (i : Nat) (sets : List FieldSet)
  | fioQuery (o : Origin) (p : FioPart)
  -- The Ohmid link (spec/18_ohmid_link.md)
  | peer (o : Origin) (d : Fin 8) (line : String)
  | peerQuery (o : Origin) (d : Fin 8) (line : String)
  | peerMask (o : Origin) (m : Nat) (line : String)
  | linkCfg (o : Origin) (sets : List FieldSet)
  | linkClear (o : Origin) (p : Fin 2)
  | linkPortRate (o : Origin) (p : Fin 2) (low : Bool)
  | linkRestart (o : Origin) (d : Fin 8)
  | linkAuth (o : Origin) (d : Fin 8) (stn : Nat) (brd : Bool)
  | linkMirror (o : Origin) (out : Nat) (inp : Option Nat)
  | linkQuery (o : Origin)
  | linkTxnQuery (o : Origin) (w : Nat) (src : Option Nat)
  -- Flash and SRAM (spec/19_storage_and_journal.md)
  | flashErase (o : Origin) (sect : Nat)
  | flashProg (o : Origin) (addr : Nat) (ws : List Nat)
  | flashSuspend (o : Origin)
  | flashResume (o : Origin)
  | flashQuery (o : Origin) (sect : Option Nat)
  -- Records rewritten into half A and into half B, and whether a record verified in neither half (R525).
  | imagePolicy (o : Origin) (sets : List FieldSet)
  | imageKeySet (o : Origin) (k : Fin 4) (key : Nat)
  | imageKeyRevoke (o : Origin) (k : Fin 4)
  | imageLock (o : Origin)
  | imageStage (o : Origin) (n : Nat) (slot : Option (Fin 2))
  | imageUnstage (o : Origin) (n : Nat)
  | imageQuery (o : Origin)
  | imageCheck (o : Origin) (src : Fin 4) (ext : List Byte)
  -- Supplies and idle stations (spec/21_power_domains.md)
  | pwrStnIdle (o : Origin) (k : Fin 4) (sets : List FieldSet)
  | pwrStnOn (o : Origin) (k : Fin 4)
  | pwrObs (o : Origin) (on : Bool)
  | pwrWdt (o : Origin) (on : Bool) (per : Option Nat)
  | pwrHoldmin (o : Origin) (c : Int)
  | pwrQuery (o : Origin)
  -- Observation and trace (spec/22_observation.md)
  | obsClear (o : Origin) (sc : Option ObsScope)
  | obsEngQuery (o : Origin) (e : Option Nat) (k : Option (Fin 4)) (reasons : Bool)
  | obsRsvopQuery (o : Origin)
  | obsProbe (o : Origin) (n : Nat) (sets : List FieldSet)
  | obsWatch (o : Origin) (w : Nat) (sets : List FieldSet)
  | obsProbeQuery (o : Origin) (n : Option Nat)
  | obsWatchQuery (o : Origin) (w : Option Nat)
  | trace (o : Origin) (sets : List FieldSet)
  | traceQuery (o : Origin)
  | traceRead (o : Origin) (n : Nat)
  | skim (o : Origin) (k : Nat) (kind inst : Option Nat)
  | skimStart (o : Origin) (nt : Option Nat) (slots : List Nat)
  | skimStop (o : Origin) (slots : List Nat)
  | skimQuery (o : Origin) (k : Option Nat)
  | freeze (o : Origin)
  | freezeOff (o : Origin)
  | snapQuery (o : Origin) (new : Bool)
  /- Everything else. -/
  -- The reference, the lattice and the trip (spec/02_lattice_and_stages.md)
  | refLost
  | refReturn (periods : Nat)
  | latticeTick (obs : TickObs)
  | latticeOverrun (k : Fin 4)
  | latticeOverrunTrip (k : Fin 4)
  | slackWindowEnd
  | vcoreHoldEnd
  | rateChangeEffect
  | tripInputAsserted
  | tripInputCleared
  | tripCmp (cell : Fin 64)
  -- Lines and characters (spec/04_puarn_language.md)
  | lineTerminated (p : Fin 2) (lf : Bool)
  | journalCommitComplete (okA okB : Bool) (ns : Nat)
  | itemExecutionBegin (src wsn : Nat)
  | typedCharacter (p : Fin 2) (ch : Byte) (bad : Bool)
  | typedBackspace (p : Fin 2)
  | typedLineKill (p : Fin 2)
  | historyPrevious (p : Fin 2)
  | historyNext (p : Fin 2)
  | xoffReceived (p : Fin 2)
  | xonReceived (p : Fin 2)
  | breakReceived (p : Fin 2)
  | asyncLineSend (p : Fin 2) (c : EvClass)
  | serSettingsApply (p : Fin 2)
  | serEnableClear (p : Fin 2)
  | tapeCharacter (t : Byte)
  | tapeBlockAccept
  | authLockoutEnd (p : Fin 2)
  | registerWrite (c : Fin 6) (a v : Nat)
  | tcCounterReadLatch (w : LatchPair)
  | resetCommandBegin
  | ringClr (q : Requester) (r : Fin 16)
  | eventResend (p : Fin 2) (c : EvClass) (seq : Nat)
  -- Programs, tape, conversion and handshakes (spec/07_part_programs.md)
  | blockConvert (k : Fin 4)
  | xctlSubmit (c : Fin 6) (k : Fin 4)
  | xctlEnd (c : Fin 6) (k : Fin 4)
  | xctlReject (c : Fin 6) (k : Fin 4) (err : Nat)
  | extTimeout (k : Fin 4)
  | mfinLate (k : Fin 4)
  -- Motion (spec/08_motion_and_braking.md)
  | brakingComplete (k : Fin 4)
  | motionEnableDelayEnd (k : Fin 4)
  | approachComplete (k : Fin 4)
  | dwellEnd (k : Fin 4)
  | spindleAtSpeed (k : Fin 4)
  | followingError (a : Fin 12)
  | handwheelDetent (n : Fin 2) (d : Int)
  -- Servo loops and feedback (spec/09_servo_and_feedback.md)
  | servoApply (q : Requester) (a : Fin 12)
  | encoderCondition (n : Fin 12) (c : EncCond)
  | encoderIndexCapture (n : Fin 12) (count : Int)
  | outputSat (a : Fin 12)
  | resAmpl (a : Fin 12)
  | tachMismatch (a : Fin 12)
  | feedbackLoss (a : Fin 12)
  -- Decimal engine and calculator (spec/10_decimal_engine.md)
  | decRequest (r : DecReq)
  | decIssue
  | decResult (fails : Fin 3)
  | decLoad
  | decAdd
  | decSub
  | decMul
  | decDiv
  | decSqrt
  | decFma
  | decQuant
  | decRint
  | decCmp
  | decToint
  | decFromint
  | decSin
  | decCos
  | decTan
  | decAtan
  | decAtan2
  | decExp
  | decLn
  | decLog10
  | decPow
  | decInvalidOp
  | decMbxPop (q : Requester) (c : Fin 6)
  | decClr (q : Requester)
  | calcKey (key : Fin 256)
  | calcComputationDone
  | calcAutooff
  -- Trelfieno cores (spec/11_trelfieno_model.md, spec/12_trelfieno_instructions.md)
  | coreFailed (c : Fin 6)
  | takeoverLate
  | coreLate (c : Fin 6)
  | interruptEntry (c : Fin 6)
  | nop (c : Fin 6)
  | waitl (c : Fin 6)
  | waitlTickRelease (c : Fin 6)
  | chkpt (c : Fin 6)
  | chkptCommitted (c : Fin 6)
  | reti (c : Fin 6)
  | ret (c : Fin 6)
  | ei (c : Fin 6)
  | di (c : Fin 6)
  | bfset (c : Fin 6)
  | bfclr (c : Fin 6)
  | bfnot (c : Fin 6)
  | bfc (c : Fin 6)
  | cbf (c : Fin 6)
  | bldw (c : Fin 6) (d : Fin 16) (b : Fin 8)
  | bstw (c : Fin 6) (d : Fin 16) (b : Fin 8)
  | push (c : Fin 6) (d : Fin 16)
  | pop (c : Fin 6) (d : Fin 16)
  | jmp (c : Fin 6) (x : Fin 8)
  | call (c : Fin 6) (x : Fin 8)
  | setam (c : Fin 6) (v : BitVec 6)
  | mov (c : Fin 6) (d s : Fin 16)
  | add (c : Fin 6) (d s : Fin 16)
  | adc (c : Fin 6) (d s : Fin 16)
  | sub (c : Fin 6) (d s : Fin 16)
  | sbc (c : Fin 6) (d s : Fin 16)
  | cmp (c : Fin 6) (d s : Fin 16)
  | and (c : Fin 6) (d s : Fin 16)
  | or (c : Fin 6) (d s : Fin 16)
  | xor (c : Fin 6) (d s : Fin 16)
  | tst (c : Fin 6) (d s : Fin 16)
  | not (c : Fin 6) (d : Fin 16)
  | neg (c : Fin 6) (d : Fin 16)
  | shl (c : Fin 6) (d : Fin 16)
  | shr (c : Fin 6) (d : Fin 16)
  | asr (c : Fin 6) (d : Fin 16)
  | roc (c : Fin 6) (d : Fin 16)
  | movi (c : Fin 6) (d : Fin 16) (v : Byte)
  | addi (c : Fin 6) (d : Fin 16) (v : Byte)
  | cmpi (c : Fin 6) (d : Fin 16) (v : Byte)
  | movx (c : Fin 6) (d s : Fin 8)
  | addx (c : Fin 6) (d s : Fin 8)
  | subx (c : Fin 6) (d s : Fin 8)
  | cmpx (c : Fin 6) (d s : Fin 8)
  | incx (c : Fin 6) (d : Fin 8)
  | decx (c : Fin 6) (d : Fin 8)
  | rds (c : Fin 6) (d : Fin 8) (r : Fin 15)
  | wrs (c : Fin 6) (r : Fin 12) (s : Fin 8)
  | mulu (c : Fin 6) (d : Fin 8) (s : Fin 16)
  | ld (c : Fin 6) (m : WinMode) (r : Fin 16) (x : Fin 8)
  | st (c : Fin 6) (m : WinMode) (r : Fin 16) (x : Fin 8)
  | ldx (c : Fin 6) (m : WinMode) (r : Fin 8) (x : Fin 8)
  | stx (c : Fin 6) (m : WinMode) (r : Fin 8) (x : Fin 8)
  | bcc (c : Fin 6) (cc : Fin 16) (v : Byte)
  | bra (c : Fin 6) (v : BitVec 11)
  | bsr (c : Fin 6) (v : BitVec 11)
  | ldb (c : Fin 6) (a : BitVec 13)
  | ldbn (c : Fin 6) (a : BitVec 13)
  | andb (c : Fin 6) (a : BitVec 13)
  | andbn (c : Fin 6) (a : BitVec 13)
  | orb (c : Fin 6) (a : BitVec 13)
  | orbn (c : Fin 6) (a : BitVec 13)
  | xorb (c : Fin 6) (a : BitVec 13)
  | stb (c : Fin 6) (a : BitVec 13)
  | stbn (c : Fin 6) (a : BitVec 13)
  | setb (c : Fin 6) (a : BitVec 13)
  | clrb (c : Fin 6) (a : BitVec 13)
  | tglb (c : Fin 6) (a : BitVec 13)
  | tsetb (c : Fin 6) (a : BitVec 13)
  | tclrb (c : Fin 6) (a : BitVec 13)
  | setbc (c : Fin 6) (a : BitVec 13)
  | clrbc (c : Fin 6) (a : BitVec 13)
  | ldf8 (c : Fin 6) (d : Fin 16) (k : Fin 4) (off : Half)
  | stf8 (c : Fin 6) (d : Fin 16) (k : Fin 4) (off : Half)
  | ldf16 (c : Fin 6) (d : Fin 8) (k : Fin 4) (off : Half)
  | stf16 (c : Fin 6) (d : Fin 8) (k : Fin 4) (off : Half)
  | ldf32 (c : Fin 6) (q : Fin 4) (k : Fin 4) (off : Half)
  | stf32 (c : Fin 6) (q : Fin 4) (k : Fin 4) (off : Half)
  | movs (c : Fin 6) (sdec ddec : Bool)
  | cmps (c : Fin 6) (sdec ddec : Bool)
  | fils (c : Fin 6) (sdec ddec : Bool) (v : Fin 16)
  | scns (c : Fin 6) (sdec ddec : Bool) (v : Fin 16)
  | dreq (c : Fin 6) (x : Fin 8)
  | dpop (c : Fin 6) (x : Fin 8)
  | dpopResult (c : Fin 6)
  | req (c : Fin 6) (x : Fin 8)
  | reqAnswer (c : Fin 6)
  | take (c : Fin 6) (q : Fin 4)
  | lda (c : Fin 6) (d : Fin 16) (a : Half)
  | sta (c : Fin 6) (d : Fin 16) (a : Half)
  | ldax (c : Fin 6) (d : Fin 8) (a : Half)
  | stax (c : Fin 6) (d : Fin 8) (a : Half)
  | movxi (c : Fin 6) (d : Fin 8) (v : Half)
  | addxi (c : Fin 6) (d : Fin 8) (v : Half)
  | cmpxi (c : Fin 6) (d : Fin 8) (v : Half)
  | andi (c : Fin 6) (d : Fin 16) (v : Byte)
  | ori (c : Fin 6) (d : Fin 16) (v : Byte)
  | xori (c : Fin 6) (d : Fin 16) (v : Byte)
  | tsti (c : Fin 6) (d : Fin 16) (v : Byte)
  | jmpImm (c : Fin 6) (a : Half)
  | callImm (c : Fin 6) (a : Half)
  | reservedOpcode (c : Fin 6) (w0 w1 : Half)
  -- Reedbed and fabric (spec/13_reedbed_and_fabric.md)
  | regionWriteComplete (r : Fin 8) (ok : Bool)
  | regionEpoch (r : Fin 8)
  | cellSat (n : Fin 64) (sat : Bool)
  -- Converters and filters (spec/14_converters_and_filters.md)
  | calibrationDone (ch : Chan) (pass : Bool) (temp : Int)
  | chainMemoryPassed (n : Fin 16)
  | calDue (temp : Int)
  | adcChannel (ch : Chan)
  | refCompare (diff chkA chkB : Int)
  | firBankSwap (n : Fin 16)
  | sfConversionDone (n : Fin 16) (v : Int)
  -- DAC outputs and excitation (spec/15_outputs_and_excitation.md)
  | spanReconfigured (n : Fin 16)
  | ldacEdge (rise : Bool)
  | deglitchRelease (n : Fin 16)
  | dacCondition (n : Fin 16) (short compl isOpen : Bool)
  | dacShortRetry (n : Fin 16) (short : Bool)
  | excRampDone (g : Fin 4)
  | excTableChange (g : Fin 4)
  | excShort (g : Fin 4) (on : Bool)
  | excOff (g : Fin 4)
  -- The operator panel (spec/16_operator_panel.md)
  | keyAccepted (key : Fin 256) (down : Bool)
  | keyRepeat (key : Fin 256)
  | keyLongPress (key : Fin 256)
  | pnlKqRead (q : Requester)
  | panelActionOffer (i : Fin 16)
  | panelBusy (i : Fin 16)
  | combo0Fired
  | combo1Fired
  | pnlChqWrite (q : Requester) (v : Nat)
  | chrByteDone
  | chrTimeout
  -- Field pins (spec/17_field_io.md)
  | vfgStateChange (g : Fin 8) (st : Fin 4)
  | fioInputChange (n : Fin 64) (v : Bool)
  | fioCondition (n : Fin 64) (c : Fin 7) (on : Bool)
  | fioRetry (n : Fin 64)
  | fioRetryEnd (n : Fin 64) (found : Bool)
  | fioPin (n : Fin 64)
  | ainTestBurst (i : Fin 32)
  | ainCondition (i : Fin 32) (c : Fin 3) (on : Bool)
  -- The Ohmid link (spec/18_ohmid_link.md)
  | portTrained (p : Fin 2) (low : Bool) (nbr : Fin 8) (dly : Nat)
  | portDown (p : Fin 2)
  | portRetrain (p : Fin 2)
  | linkRate (p : Fin 2)
  | topo
  | dataFrameReceived (p : Fin 2) (bytes : List Byte)
  | ack (p : Fin 2) (lseq : Nat)
  | nak (p : Fin 2) (lseq : Nat) (full : Bool)
  | attemptTimeout (p : Fin 2) (lseq : Nat)
  | pause (p : Fin 2) (quanta : Nat)
  | pauseExpiry (p : Fin 2)
  | sync (p : Fin 2) (v : Nat) (diff : Int)
  | syncSend
  | syncLost
  | freezeFrame (p : Fin 2)
  | line
  | answer
  | result
  | statusq
  | statusa
  | prepare
  | vote
  | commit
  | abort
  | hello
  | series
  | mirror
  | txnTimeout (txn : Nat)
  | statusQueryRetry (txn : Nat)
  | peerBusyResend (txn : Nat)
  | multicastTimeout (txn : Nat)
  | decisionResend (txn : Nat)
  | multicastApply
  | pauseRefresh (p : Fin 2)
  | nakFullResend (p : Fin 2) (lseq : Nat)
  -- Flash and SRAM (spec/19_storage_and_journal.md)
  | flashOpDone (ok : Bool)
  | flashAutoResume
  | stewardIdle
  | sramUncorr (addr : Nat) (stn : StnCode)
  | sramBank (b : Fin 2)
  | sramScrub (seen : ScrubObs)
  -- Records rewritten into half A and into half B, and whether a record verified in neither half (R525).
  | powerUp (c : Option Nat) (periods : Nat)
  | keepLoss
  | brownOut (det : Fin 6)
  | nreset
  | watchdog
  | warmReset
  | warmStop (k : Fin 4)
  | resetRelease (refin : Bool) (src : Fin 4) (addr : Fin 8)
  | refStartTimeout (other : Bool)
  | refSourceTaken (src : RefSrc)
  | sramSelfTestDone (ok0 ok1 : Bool)
  | startupCalibrationDone (fails : List Chan) (temp : Int)
  | candidateVerified (readErr : Bool) (seen : ImageObs)
  | cfgDoneRelease
  | cfgDoneHigh
  | commitRegionRelease
  | cfgTimeout
  | journalReplayDone (toA toB : Nat) (lost : Bool)
  | imagePut (off : Nat) (ws : List Nat)
  | imageWrite (slot : Fin 2)
  -- Supplies and idle stations (spec/21_power_domains.md)
  | stationIdleEntry (k : Fin 4)
  | wakeComplete (k : Fin 4)
  | wdtKick (q : Requester) (v : Nat)
  | vbatMonitor (mv : Nat)
  | dieHot
  | dieOvertemp
  -- Observation and trace (spec/22_observation.md)
  | obsTrmark (q : Requester) (v : Nat)
  | skimCountDone (k : Fin 16)
  | frzPin
  -- The test access port (spec/23_pins_and_package.md), and the remaining clears and events
  | extest
  | idcode
  | samplePreload (cells : BitVec 256)
  | bypass (code : Nat)
  | latClrLow (q : Requester)
  | latClrOvr (q : Requester) (k : Fin 4)
  | serClrRej (q : Requester) (p : Fin 2)
  | serClrAlost (q : Requester) (p : Fin 2)
  | sysSclr (q : Requester)
  | jrnClr (q : Requester)
  | nocPclr (q : Requester) (n : Fin 16)
  | transmitComplete (p : Fin 2)
  | framedCharacter (p : Fin 2) (ch : Byte) (bad : Bool)
  | loadDataArrival (c : Fin 6)
  | testLogicReset
deriving DecidableEq, Repr

end Sys2Proof
end

