-- ==== Sys2Proof/Decode.lean ====
section
/-! DEFINITION. The commands that words of the opcode table spell. -/
namespace Sys2Proof

/-- No row of the opcode table gives its command bits: commands come as lines, frames, packets and events, whose forms the
meanings of the rows that carry them read. No word spells a command. -/
def decodeTableWord (_nbits _w : Nat) : Option Instr := none

end Sys2Proof
end

