-- ==== Sys2Proof/Machine/Num.lean ====
section
/-! DEFINITION. Exact numbers and their roundings: half to even, and 34 significant digits (R266). -/
namespace Sys2Proof.Machine
open Sys2Proof

/-- n / d, rounded half to even. -/
def roundHE (n : Int) (d : Nat) : Int :=
  let q := n / (d : Int)
  let r := n % (d : Int)
  if 2 * r < d then q else if 2 * r > d then q + 1 else if q % 2 = 0 then q else q + 1

/-- A rational number rounded half to even to an integer. -/
def roundRat (x : Rat) : Int := roundHE x.num x.den

/-- The number of decimal digits, 0 for 0. -/
def numDigits (n : Nat) : Nat := if n = 0 then 0 else (Nat.toDigits 10 n).length

/-- num / den × 10^e rounded half to even to `p` significant digits. -/
def roundDigits (p : Nat) (neg : Bool) (num den : Nat) (e : Int) : Decimal :=
  if num = 0 ∨ den = 0 then ⟨neg, 0, e⟩
  else
    /- The least shift that leaves at least p digits before the point of the quotient. -/
    let sh : Int := (p : Int) + numDigits den - numDigits num
    let up (k : Int) : Nat × Nat := if k ≥ 0 then (num * 10 ^ k.toNat, den) else (num, den * 10 ^ (-k).toNat)
    let (a, b) := up sh
    /- The quotient now has p or p + 1 digits. -/
    let sh := if a / b ≥ 10 ^ p then sh - 1 else sh
    let (a, b) := up sh
    let q := (roundHE (a : Int) b).toNat
    if q ≥ 10 ^ p then ⟨neg, q / 10, e - sh + 1⟩ else ⟨neg, q, e - sh⟩

/-- The exact value of a decimal as a rational number. -/
def decRat (d : Decimal) : Rat :=
  let c : Rat := if d.neg then -(d.coef : Rat) else d.coef
  if d.exp ≥ 0 then c * (10 ^ d.exp.toNat : Nat) else c / (10 ^ (-d.exp).toNat : Nat)

/-- d × k as an integer, where the product is one. -/
def decTimes (d : Decimal) (k : Nat) : Option Int :=
  let r := decRat d * k
  if r.den = 1 then some r.num else none

def isqrtLoop : Nat → Nat → Nat → Nat
  | 0, _, x => x
  | f + 1, n, x =>
    let y := (x + n / x) / 2
    if y < x then isqrtLoop f n y else x

/-- The integer square root. -/
def isqrt (n : Nat) : Nat := if n = 0 then 0 else isqrtLoop (2 * n.log2 + 8) n (2 ^ (n.log2 / 2 + 1))

end Sys2Proof.Machine
end

