-- ==== Sys2Proof/Config.lean ====
section
/-! DEFINITION. What an implementation fixes and what the spec leaves open: the free values. None has a body, so no proof
can see a value of one. -/
namespace Sys2Proof

/-- The free values in their order: each place where the spec leaves a value open takes the next one, reduced to the
width it needs (log entry 1). -/
opaque Config.freeValue : Nat → Nat

/-- Sign and payload of the quiet NaN of an invalid decimal operation, from the operation, RM and the operands
(log entry 21). -/
opaque Config.decNan : Nat → Nat → Nat → Nat → Nat → Nat

/-- Which of two neighbouring results, both within 0.6 ulp, a decimal function delivers, from the operation, RM, DEG and
the operands (log entry 22). -/
opaque Config.decNeighbour : Nat → Nat → Bool → Nat → Nat → Bool

/-- The configuration that the content of a REGION segment spells, or none where it spells none: the layout of the
content is not given (log entry 20). -/
opaque Config.regionSegment : List Nat → Option RegionCfg

/-- What the payload of a TOPO frame tells, or none where it tells nothing, and the payload that tells it: its layout is
not given (log entry 27). -/
opaque Config.topoPayload : List Nat → Option TopoInfo
opaque Config.topoBytes : TopoInfo → List Nat

/-- A byte of external slot A (0) or B (1), where a region image is searched in the chain of a running image that came from
there (log entry 33). -/
opaque Config.external : Nat → Nat → Nat

/-- The value of an enable cell of the boundary register with which its ball drives (log entry 62). -/
opaque Config.scanDrives : Bool

end Sys2Proof
end

