-- ==== Sys2Proof/Machine/RegMap.lean ====
section
/-! DEFINITION. The register map: the address, the reset value and the fields of every register
(spec/25_register_summary.md, R637 to R639; the field tables of the owning chapters). -/
namespace Sys2Proof.Machine
open Sys2Proof

/-- Where a register lies: block number, offset, the count and stride of its first index, and of its second. -/
structure RegPlace where
  blk : Nat
  off : Nat
  n : Nat
  s : Nat
  m : Nat
  t : Nat
deriving DecidableEq, Repr

/-- Tables 25.2 to 25.5: the place of each register (R637, R638). A register without an index has counts of 1. -/
def regPlace : Reg → RegPlace
  | .SYS_CFG => ⟨0, 0x0, 1, 0x0, 1, 0x0⟩
  | .SYS_ISA => ⟨0, 0x4, 1, 0x0, 1, 0x0⟩
  | .SYS_CASN => ⟨0, 0x100, 6, 0x40, 1, 0x0⟩
  | .SYS_CCTL => ⟨0, 0x104, 6, 0x40, 1, 0x0⟩
  | .SYS_CSTAT => ⟨0, 0x108, 6, 0x40, 1, 0x0⟩
  | .SYS_CENTRY => ⟨0, 0x10c, 6, 0x40, 1, 0x0⟩
  | .SYS_CBANK => ⟨0, 0x110, 6, 0x40, 1, 0x0⟩
  | .SYS_CBSEL => ⟨0, 0x114, 6, 0x40, 1, 0x0⟩
  | .SYS_CWSN => ⟨0, 0x118, 6, 0x40, 1, 0x0⟩
  | .SYS_CPC => ⟨0, 0x11c, 6, 0x40, 1, 0x0⟩
  | .SYS_CCHK => ⟨0, 0x120, 6, 0x40, 1, 0x0⟩
  | .SYS_SPG => ⟨0, 0x300, 20, 0x4, 1, 0x0⟩
  | .SYS_SRAM => ⟨0, 0x350, 1, 0x0, 1, 0x0⟩
  | .SYS_SECC => ⟨0, 0x354, 1, 0x0, 1, 0x0⟩
  | .SYS_SADDR => ⟨0, 0x358, 1, 0x0, 1, 0x0⟩
  | .SYS_SCLR => ⟨0, 0x35c, 1, 0x0, 1, 0x0⟩
  | .PWR_STAT => ⟨1, 0x0, 1, 0x0, 1, 0x0⟩
  | .PWR_VIN => ⟨1, 0x4, 1, 0x0, 1, 0x0⟩
  | .PWR_VBAT => ⟨1, 0x8, 1, 0x0, 1, 0x0⟩
  | .PWR_VHOLD => ⟨1, 0xc, 1, 0x0, 1, 0x0⟩
  | .PWR_HOLDC => ⟨1, 0x10, 1, 0x0, 1, 0x0⟩
  | .PWR_DOM => ⟨1, 0x14, 1, 0x0, 1, 0x0⟩
  | .PWR_WDT => ⟨1, 0x18, 1, 0x0, 1, 0x0⟩
  | .PWR_WDTLEFT => ⟨1, 0x1c, 1, 0x0, 1, 0x0⟩
  | .PWR_IDLE => ⟨1, 0x20, 4, 0x4, 1, 0x0⟩
  | .PWR_RCNT => ⟨1, 0x30, 1, 0x0, 1, 0x0⟩
  | .LAT_CTRL => ⟨2, 0x0, 1, 0x0, 1, 0x0⟩
  | .LAT_VPOL => ⟨2, 0x4, 1, 0x0, 1, 0x0⟩
  | .LAT_VCORE => ⟨2, 0x8, 1, 0x0, 1, 0x0⟩
  | .LAT_SLACK => ⟨2, 0xc, 1, 0x0, 1, 0x0⟩
  | .LAT_SLACKLOW => ⟨2, 0x10, 1, 0x0, 1, 0x0⟩
  | .LAT_STAGE => ⟨2, 0x14, 1, 0x0, 1, 0x0⟩
  | .LAT_CLR => ⟨2, 0x18, 1, 0x0, 1, 0x0⟩
  | .LAT_OVR => ⟨2, 0x20, 4, 0x4, 1, 0x0⟩
  | .JRN_STAT => ⟨3, 0x0, 1, 0x0, 1, 0x0⟩
  | .JRN_LSN => ⟨3, 0x4, 1, 0x0, 1, 0x0⟩
  | .JRN_QUEUE => ⟨3, 0x8, 1, 0x0, 1, 0x0⟩
  | .JRN_LIVE => ⟨3, 0xc, 1, 0x0, 1, 0x0⟩
  | .JRN_WEAR => ⟨3, 0x10, 1, 0x0, 1, 0x0⟩
  | .JRN_CTIME => ⟨3, 0x14, 1, 0x0, 1, 0x0⟩
  | .JRN_CFG => ⟨3, 0x18, 1, 0x0, 1, 0x0⟩
  | .JRN_CLR => ⟨3, 0x1c, 1, 0x0, 1, 0x0⟩
  | .JRN_REPAIR => ⟨3, 0x20, 1, 0x0, 1, 0x0⟩
  | .FLS_STAT => ⟨4, 0x0, 1, 0x0, 1, 0x0⟩
  | .FLS_CTL => ⟨4, 0x4, 1, 0x0, 1, 0x0⟩
  | .FLS_ARCH => ⟨4, 0x8, 1, 0x0, 1, 0x0⟩
  | .FLS_POISON => ⟨4, 0xc, 1, 0x0, 1, 0x0⟩
  | .FLS_SECT => ⟨4, 0x10, 4, 0x4, 1, 0x0⟩
  | .FLS_ECNT => ⟨4, 0x100, 64, 0x4, 1, 0x0⟩
  | .RING_CFG => ⟨5, 0x0, 16, 0x10, 1, 0x0⟩
  | .RING_PTR => ⟨5, 0x4, 16, 0x10, 1, 0x0⟩
  | .RING_STAT => ⟨5, 0x8, 16, 0x10, 1, 0x0⟩
  | .RING_CLR => ⟨5, 0xc, 16, 0x10, 1, 0x0⟩
  | .EVT_COAL => ⟨6, 0x0, 1, 0x0, 1, 0x0⟩
  | .EVT_PINEN => ⟨6, 0x4, 1, 0x0, 1, 0x0⟩
  | .EVT_SEQ => ⟨6, 0x10, 4, 0x4, 1, 0x0⟩
  | .EVT_ACK => ⟨6, 0x20, 4, 0x4, 1, 0x0⟩
  | .EVT_LOST => ⟨6, 0x30, 4, 0x4, 1, 0x0⟩
  | .EVT_IMASK => ⟨6, 0x40, 6, 0x4, 1, 0x0⟩
  | .EVT_SEEN => ⟨6, 0x60, 6, 0x10, 4, 0x4⟩
  | .TC_NOW_LO => ⟨7, 0x0, 1, 0x0, 1, 0x0⟩
  | .TC_NOW_HI => ⟨7, 0x4, 1, 0x0, 1, 0x0⟩
  | .TC_TICK_LO => ⟨7, 0x8, 1, 0x0, 1, 0x0⟩
  | .TC_TICK_HI => ⟨7, 0xc, 1, 0x0, 1, 0x0⟩
  | .TC_STATUS => ⟨7, 0x10, 1, 0x0, 1, 0x0⟩
  | .TC_REFSEL => ⟨7, 0x14, 1, 0x0, 1, 0x0⟩
  | .DEC_STAT => ⟨8, 0x0, 1, 0x0, 1, 0x0⟩
  | .DEC_ISSUED => ⟨8, 0x4, 1, 0x0, 1, 0x0⟩
  | .DEC_CHKS => ⟨8, 0x8, 1, 0x0, 1, 0x0⟩
  | .DEC_CLR => ⟨8, 0xc, 1, 0x0, 1, 0x0⟩
  | .DEC_SFLAGS => ⟨8, 0x40, 24, 0x4, 1, 0x0⟩
  | .DEC_OUT => ⟨8, 0xc0, 24, 0x4, 1, 0x0⟩
  | .DEC_MBX => ⟨8, 0x200, 6, 0x20, 6, 0x4⟩
  | .MOT_STATE => ⟨9, 0x0, 4, 0x100, 1, 0x0⟩
  | .MOT_SCFG => ⟨9, 0x4, 4, 0x100, 1, 0x0⟩
  | .MOT_HOLDT => ⟨9, 0x8, 4, 0x100, 1, 0x0⟩
  | .MOT_RTOL => ⟨9, 0xc, 4, 0x100, 1, 0x0⟩
  | .MOT_APPF => ⟨9, 0x10, 4, 0x100, 1, 0x0⟩
  | .MOT_CDV => ⟨9, 0x14, 4, 0x100, 1, 0x0⟩
  | .MOT_OVR => ⟨9, 0x18, 4, 0x100, 1, 0x0⟩
  | .MOT_LOOK => ⟨9, 0x1c, 4, 0x100, 1, 0x0⟩
  | .MOT_VMAX => ⟨9, 0x400, 12, 0x40, 1, 0x0⟩
  | .MOT_VRAP => ⟨9, 0x404, 12, 0x40, 1, 0x0⟩
  | .MOT_AMAX => ⟨9, 0x408, 12, 0x40, 1, 0x0⟩
  | .MOT_JMAX => ⟨9, 0x40c, 12, 0x40, 1, 0x0⟩
  | .MOT_JOGF => ⟨9, 0x410, 12, 0x40, 1, 0x0⟩
  | .MOT_SLO => ⟨9, 0x414, 12, 0x40, 1, 0x0⟩
  | .MOT_SHI => ⟨9, 0x418, 12, 0x40, 1, 0x0⟩
  | .MOT_AXCTL => ⟨9, 0x41c, 12, 0x40, 1, 0x0⟩
  | .MOT_PGM => ⟨9, 0x800, 4, 0x100, 1, 0x0⟩
  | .MOT_AXL => ⟨9, 0x810, 4, 0x100, 6, 0x4⟩
  | .MOT_MFT => ⟨9, 0x828, 4, 0x100, 1, 0x0⟩
  | .MOT_HS => ⟨9, 0x82c, 4, 0x100, 1, 0x0⟩
  | .MOT_XSLOT => ⟨9, 0x830, 4, 0x100, 1, 0x0⟩
  | .MOT_XWSN => ⟨9, 0x834, 4, 0x100, 1, 0x0⟩
  | .MOT_XCTL => ⟨9, 0x838, 4, 0x100, 1, 0x0⟩
  | .MOT_CODE => ⟨9, 0x840, 4, 0x100, 32, 0x4⟩
  | .SRV_MODE => ⟨10, 0x0, 12, 0x100, 1, 0x0⟩
  | .SRV_FB => ⟨10, 0x4, 12, 0x100, 1, 0x0⟩
  | .SRV_FBNUM => ⟨10, 0x8, 12, 0x100, 1, 0x0⟩
  | .SRV_FBDEN => ⟨10, 0xc, 12, 0x100, 1, 0x0⟩
  | .SRV_KP => ⟨10, 0x10, 12, 0x100, 1, 0x0⟩
  | .SRV_KI => ⟨10, 0x14, 12, 0x100, 1, 0x0⟩
  | .SRV_KVF => ⟨10, 0x18, 12, 0x100, 1, 0x0⟩
  | .SRV_KAF => ⟨10, 0x1c, 12, 0x100, 1, 0x0⟩
  | .SRV_VFS => ⟨10, 0x20, 12, 0x100, 1, 0x0⟩
  | .SRV_OUTLIM => ⟨10, 0x24, 12, 0x100, 1, 0x0⟩
  | .SRV_OUTOFS => ⟨10, 0x28, 12, 0x100, 1, 0x0⟩
  | .SRV_KVP => ⟨10, 0x2c, 12, 0x100, 1, 0x0⟩
  | .SRV_KVI => ⟨10, 0x30, 12, 0x100, 1, 0x0⟩
  | .SRV_TACH => ⟨10, 0x34, 12, 0x100, 1, 0x0⟩
  | .SRV_TACHFS => ⟨10, 0x38, 12, 0x100, 1, 0x0⟩
  | .SRV_TACHTOL => ⟨10, 0x3c, 12, 0x100, 1, 0x0⟩
  | .SRV_FEWARN => ⟨10, 0x40, 12, 0x100, 1, 0x0⟩
  | .SRV_FETRIP => ⟨10, 0x44, 12, 0x100, 1, 0x0⟩
  | .SRV_APPLY => ⟨10, 0x48, 12, 0x100, 1, 0x0⟩
  | .SRV_STAT => ⟨10, 0x4c, 12, 0x100, 1, 0x0⟩
  | .SRV_FE => ⟨10, 0x50, 12, 0x100, 1, 0x0⟩
  | .SRV_RESNOM => ⟨10, 0x54, 12, 0x100, 1, 0x0⟩
  | .SRV_COMP => ⟨10, 0x58, 12, 0x100, 1, 0x0⟩
  | .SRV_BKL => ⟨10, 0x5c, 12, 0x100, 1, 0x0⟩
  | .SRV_CSTART => ⟨10, 0x60, 12, 0x100, 1, 0x0⟩
  | .SRV_CSTEP => ⟨10, 0x64, 12, 0x100, 1, 0x0⟩
  | .SRV_CPT => ⟨10, 0x8000, 12, 0x200, 128, 0x4⟩
  | .ENC_CFG => ⟨11, 0x0, 12, 0x20, 1, 0x0⟩
  | .ENC_CNT => ⟨11, 0x4, 12, 0x20, 1, 0x0⟩
  | .ENC_ZCAP => ⟨11, 0x8, 12, 0x20, 1, 0x0⟩
  | .ENC_STAT => ⟨11, 0xc, 12, 0x20, 1, 0x0⟩
  | .ENC_ERRS => ⟨11, 0x10, 12, 0x20, 1, 0x0⟩
  | .ENC_HWCFG => ⟨11, 0x200, 2, 0x20, 1, 0x0⟩
  | .ENC_HWCNT => ⟨11, 0x204, 2, 0x20, 1, 0x0⟩
  | .ENC_HWSTAT => ⟨11, 0x208, 2, 0x20, 1, 0x0⟩
  | .REB_CMODE => ⟨12, 0x0, 64, 0x10, 1, 0x0⟩
  | .REB_CPAR => ⟨12, 0x4, 64, 0x10, 1, 0x0⟩
  | .REB_CHOFF => ⟨12, 0x8, 64, 0x10, 1, 0x0⟩
  | .REB_CSTAT => ⟨12, 0xc, 64, 0x10, 1, 0x0⟩
  | .REB_RC => ⟨12, 0x400, 8, 0x4, 1, 0x0⟩
  | .REB_RGN => ⟨12, 0x500, 8, 0x10, 1, 0x0⟩
  | .REB_RSER => ⟨12, 0x504, 8, 0x10, 1, 0x0⟩
  | .REB_RLOAD => ⟨12, 0x508, 8, 0x10, 1, 0x0⟩
  | .REB_EPOCH_LO => ⟨12, 0x600, 1, 0x0, 1, 0x0⟩
  | .REB_EPOCH_HI => ⟨12, 0x604, 1, 0x0, 1, 0x0⟩
  | .REB_XPT => ⟨12, 0x800, 216, 0x4, 1, 0x0⟩
  | .LGF_CLK => ⟨13, 0x0, 8, 0x40, 1, 0x0⟩
  | .LGF_HMODE => ⟨13, 0x4, 8, 0x40, 1, 0x0⟩
  | .LGF_HVAL => ⟨13, 0x8, 8, 0x40, 1, 0x0⟩
  | .LGF_HMODE2 => ⟨13, 0xc, 8, 0x40, 1, 0x0⟩
  | .LGF_HVAL2 => ⟨13, 0x10, 8, 0x40, 1, 0x0⟩
  | .LGF_OUT => ⟨13, 0x14, 8, 0x40, 1, 0x0⟩
  | .LGF_OUT2 => ⟨13, 0x18, 8, 0x40, 1, 0x0⟩
  | .LGF_CRC => ⟨13, 0x1c, 8, 0x40, 1, 0x0⟩
  | .ADC_PCFG => ⟨14, 0x0, 16, 0x10, 1, 0x0⟩
  | .ADC_PDATA => ⟨14, 0x4, 16, 0x10, 1, 0x0⟩
  | .ADC_PSTAT => ⟨14, 0x8, 16, 0x10, 1, 0x0⟩
  | .ADC_PCALT => ⟨14, 0xc, 16, 0x10, 1, 0x0⟩
  | .ADC_FCFG => ⟨14, 0x100, 8, 0x10, 1, 0x0⟩
  | .ADC_FDATA => ⟨14, 0x104, 8, 0x10, 1, 0x0⟩
  | .ADC_FSTAT => ⟨14, 0x108, 8, 0x10, 1, 0x0⟩
  | .ADC_FCALT => ⟨14, 0x10c, 8, 0x10, 1, 0x0⟩
  | .ADC_REF => ⟨14, 0x200, 1, 0x0, 1, 0x0⟩
  | .ADC_REFDIFF => ⟨14, 0x204, 1, 0x0, 1, 0x0⟩
  | .ADC_REFCHK => ⟨14, 0x208, 1, 0x0, 1, 0x0⟩
  | .ADC_TEMP => ⟨14, 0x20c, 1, 0x0, 1, 0x0⟩
  | .ADC_CALCFG => ⟨14, 0x210, 1, 0x0, 1, 0x0⟩
  | .FCH_CFG => ⟨15, 0x0, 16, 0x40, 1, 0x0⟩
  | .FCH_PHD => ⟨15, 0x4, 16, 0x40, 1, 0x0⟩
  | .FCH_SF => ⟨15, 0x8, 16, 0x40, 1, 0x0⟩
  | .FCH_TAPS => ⟨15, 0xc, 16, 0x40, 1, 0x0⟩
  | .FCH_SWAP => ⟨15, 0x10, 16, 0x40, 1, 0x0⟩
  | .FCH_DLY => ⟨15, 0x14, 16, 0x40, 1, 0x0⟩
  | .FCH_RATE => ⟨15, 0x18, 16, 0x40, 1, 0x0⟩
  | .FCH_RES => ⟨15, 0x20, 16, 0x40, 1, 0x0⟩
  | .FCH_ANG => ⟨15, 0x24, 16, 0x40, 1, 0x0⟩
  | .FCH_RAMP => ⟨15, 0x28, 16, 0x40, 1, 0x0⟩
  | .FCH_PLOAD => ⟨15, 0x800, 4, 0x4, 1, 0x0⟩
  | .FCH_COEFA => ⟨15, 0x4000, 16, 0xc00, 384, 0x4⟩
  | .FCH_COEFB => ⟨15, 0x4600, 16, 0xc00, 384, 0x4⟩
  | .DAC_CFG => ⟨16, 0x0, 16, 0x20, 1, 0x0⟩
  | .DAC_HOLD => ⟨16, 0x4, 16, 0x20, 1, 0x0⟩
  | .DAC_OUT => ⟨16, 0x8, 16, 0x20, 1, 0x0⟩
  | .DAC_MAJOR => ⟨16, 0xc, 16, 0x20, 1, 0x0⟩
  | .DAC_RTGT => ⟨16, 0x10, 16, 0x20, 1, 0x0⟩
  | .DAC_RTCK => ⟨16, 0x14, 16, 0x20, 1, 0x0⟩
  | .DAC_STAT => ⟨16, 0x18, 16, 0x20, 1, 0x0⟩
  | .DAC_LDG => ⟨16, 0x200, 4, 0x4, 1, 0x0⟩
  | .DAC_LOAD => ⟨16, 0x210, 1, 0x0, 1, 0x0⟩
  | .EXC_CFG => ⟨17, 0x0, 4, 0x40, 1, 0x0⟩
  | .EXC_INC => ⟨17, 0x4, 4, 0x40, 1, 0x0⟩
  | .EXC_AMP => ⟨17, 0x8, 4, 0x40, 1, 0x0⟩
  | .EXC_PHASE => ⟨17, 0xc, 4, 0x40, 1, 0x0⟩
  | .EXC_RATE => ⟨17, 0x10, 4, 0x40, 1, 0x0⟩
  | .EXC_NOW => ⟨17, 0x14, 4, 0x40, 1, 0x0⟩
  | .EXC_NINC => ⟨17, 0x18, 4, 0x40, 1, 0x0⟩
  | .EXC_STAT => ⟨17, 0x1c, 4, 0x40, 1, 0x0⟩
  | .EXC_TSWAP => ⟨17, 0x20, 4, 0x40, 1, 0x0⟩
  | .EXC_TAB => ⟨17, 0x1000, 4, 0x1000, 1024, 0x4⟩
  | .FIO_CFG => ⟨18, 0x0, 64, 0x10, 1, 0x0⟩
  | .FIO_STAT => ⟨18, 0x4, 64, 0x10, 1, 0x0⟩
  | .FIO_CUR => ⟨18, 0x8, 64, 0x10, 1, 0x0⟩
  | .FIO_CLR => ⟨18, 0xc, 64, 0x10, 1, 0x0⟩
  | .FIO_GSTAT => ⟨18, 0x400, 8, 0x8, 1, 0x0⟩
  | .FIO_GCUR => ⟨18, 0x404, 8, 0x8, 1, 0x0⟩
  | .FIO_ACFG => ⟨18, 0x800, 32, 0x8, 1, 0x0⟩
  | .FIO_ASTAT => ⟨18, 0x804, 32, 0x8, 1, 0x0⟩
  | .FIO_IN_LO => ⟨18, 0xa00, 1, 0x0, 1, 0x0⟩
  | .FIO_IN_HI => ⟨18, 0xa04, 1, 0x0, 1, 0x0⟩
  | .FIO_DRV_LO => ⟨18, 0xa08, 1, 0x0, 1, 0x0⟩
  | .FIO_DRV_HI => ⟨18, 0xa0c, 1, 0x0, 1, 0x0⟩
  | .PNL_SCAN => ⟨19, 0x0, 1, 0x0, 1, 0x0⟩
  | .PNL_RPT => ⟨19, 0x4, 1, 0x0, 1, 0x0⟩
  | .PNL_OWN => ⟨19, 0x8, 1, 0x0, 1, 0x0⟩
  | .PNL_COMBO => ⟨19, 0xc, 2, 0x4, 1, 0x0⟩
  | .PNL_KACT => ⟨19, 0x20, 16, 0x4, 1, 0x0⟩
  | .PNL_KRPT => ⟨19, 0x60, 8, 0x4, 1, 0x0⟩
  | .PNL_KQ => ⟨19, 0x80, 1, 0x0, 1, 0x0⟩
  | .PNL_KSTAT => ⟨19, 0x84, 1, 0x0, 1, 0x0⟩
  | .PNL_DCFG => ⟨19, 0xc0, 1, 0x0, 1, 0x0⟩
  | .PNL_DBRT => ⟨19, 0xc4, 1, 0x0, 1, 0x0⟩
  | .PNL_DSTAT => ⟨19, 0xc8, 1, 0x0, 1, 0x0⟩
  | .PNL_DRAW => ⟨19, 0x100, 24, 0x4, 1, 0x0⟩
  | .PNL_DFLT => ⟨19, 0x180, 24, 0x4, 1, 0x0⟩
  | .PNL_CHCFG => ⟨19, 0x1e0, 1, 0x0, 1, 0x0⟩
  | .PNL_CHQ => ⟨19, 0x1e4, 1, 0x0, 1, 0x0⟩
  | .PNL_CHSTAT => ⟨19, 0x1e8, 1, 0x0, 1, 0x0⟩
  | .PNL_FONT => ⟨19, 0x200, 95, 0x4, 1, 0x0⟩
  | .PNL_CALC => ⟨19, 0x400, 1, 0x0, 1, 0x0⟩
  | .PNL_CSCAN => ⟨19, 0x404, 1, 0x0, 1, 0x0⟩
  | .PNL_CKEY => ⟨19, 0x500, 64, 0x4, 1, 0x0⟩
  | .OLK_CFG => ⟨20, 0x0, 1, 0x0, 1, 0x0⟩
  | .OLK_CFG2 => ⟨20, 0x4, 1, 0x0, 1, 0x0⟩
  | .OLK_STAT => ⟨20, 0x8, 1, 0x0, 1, 0x0⟩
  | .OLK_SYNC => ⟨20, 0xc, 1, 0x0, 1, 0x0⟩
  | .OLK_PCTL => ⟨20, 0x10, 2, 0x10, 1, 0x0⟩
  | .OLK_PSTAT => ⟨20, 0x14, 2, 0x10, 1, 0x0⟩
  | .OLK_PCNT => ⟨20, 0x18, 2, 0x10, 1, 0x0⟩
  | .OLK_PDLY => ⟨20, 0x1c, 2, 0x10, 1, 0x0⟩
  | .OLK_PAUTH => ⟨20, 0x100, 8, 0x4, 1, 0x0⟩
  | .OLK_OWSN => ⟨20, 0x140, 8, 0x4, 1, 0x0⟩
  | .OLK_MIRROR => ⟨20, 0x180, 1, 0x0, 1, 0x0⟩
  | .OLK_FRZ => ⟨20, 0x184, 1, 0x0, 1, 0x0⟩
  | .OLK_INFO => ⟨20, 0x188, 1, 0x0, 1, 0x0⟩
  | .SER_MODE => ⟨21, 0x0, 2, 0x20, 1, 0x0⟩
  | .SER_BAUD => ⟨21, 0x4, 2, 0x20, 1, 0x0⟩
  | .SER_CTRL => ⟨21, 0x8, 2, 0x20, 1, 0x0⟩
  | .SER_ASYNC => ⟨21, 0xc, 2, 0x20, 1, 0x0⟩
  | .SER_STAT => ⟨21, 0x10, 2, 0x20, 1, 0x0⟩
  | .SER_CNT => ⟨21, 0x14, 2, 0x20, 1, 0x0⟩
  | .SER_CLR => ⟨21, 0x18, 2, 0x20, 1, 0x0⟩
  | .SER_TAPE => ⟨21, 0x40, 1, 0x0, 1, 0x0⟩
  | .SER_TAPESTAT => ⟨21, 0x44, 1, 0x0, 1, 0x0⟩
  | .CFG_STAT => ⟨22, 0x0, 1, 0x0, 1, 0x0⟩
  | .CFG_SERIAL => ⟨22, 0x4, 1, 0x0, 1, 0x0⟩
  | .CFG_POLICY => ⟨22, 0x8, 1, 0x0, 1, 0x0⟩
  | .CFG_TRY => ⟨22, 0x10, 4, 0x4, 1, 0x0⟩
  | .CFG_KEY => ⟨22, 0x20, 4, 0x4, 1, 0x0⟩
  | .CFG_KFP => ⟨22, 0x30, 4, 0x4, 1, 0x0⟩
  | .CFG_STG => ⟨22, 0x40, 1, 0x0, 1, 0x0⟩
  | .CFG_STGSER => ⟨22, 0x100, 16, 0x8, 1, 0x0⟩
  | .CFG_STGINF => ⟨22, 0x104, 16, 0x8, 1, 0x0⟩
  | .NOC_PCFG => ⟨23, 0x0, 16, 0x100, 1, 0x0⟩
  | .NOC_PALO => ⟨23, 0x4, 16, 0x100, 1, 0x0⟩
  | .NOC_PAHI => ⟨23, 0x8, 16, 0x100, 1, 0x0⟩
  | .NOC_PPKT => ⟨23, 0xc, 16, 0x100, 1, 0x0⟩
  | .NOC_PFLIT => ⟨23, 0x10, 16, 0x100, 1, 0x0⟩
  | .NOC_PBLK => ⟨23, 0x14, 16, 0x100, 1, 0x0⟩
  | .NOC_PCLR => ⟨23, 0x18, 16, 0x100, 1, 0x0⟩
  | .OBS_STAT => ⟨24, 0x0, 1, 0x0, 1, 0x0⟩
  | .OBS_FRZ => ⟨24, 0x4, 1, 0x0, 1, 0x0⟩
  | .OBS_FRZT_LO => ⟨24, 0x8, 1, 0x0, 1, 0x0⟩
  | .OBS_FRZT_HI => ⟨24, 0xc, 1, 0x0, 1, 0x0⟩
  | .OBS_CTAG => ⟨24, 0x10, 6, 0x4, 1, 0x0⟩
  | .OBS_TRCFG => ⟨24, 0x40, 1, 0x0, 1, 0x0⟩
  | .OBS_TRKIND => ⟨24, 0x44, 1, 0x0, 1, 0x0⟩
  | .OBS_TRENG_LO => ⟨24, 0x48, 1, 0x0, 1, 0x0⟩
  | .OBS_TRENG_HI => ⟨24, 0x4c, 1, 0x0, 1, 0x0⟩
  | .OBS_TRSTAT => ⟨24, 0x50, 1, 0x0, 1, 0x0⟩
  | .OBS_TRSET => ⟨24, 0x54, 1, 0x0, 1, 0x0⟩
  | .OBS_TRMARK => ⟨24, 0x60, 1, 0x0, 1, 0x0⟩
  | .OBS_RSVOP => ⟨24, 0x80, 6, 0x4, 1, 0x0⟩
  | .OBS_WPLO => ⟨24, 0x100, 8, 0x20, 1, 0x0⟩
  | .OBS_WPHI => ⟨24, 0x104, 8, 0x20, 1, 0x0⟩
  | .OBS_WPCFG => ⟨24, 0x108, 8, 0x20, 1, 0x0⟩
  | .OBS_WPCNT => ⟨24, 0x10c, 8, 0x20, 1, 0x0⟩
  | .OBS_WPT_LO => ⟨24, 0x110, 8, 0x20, 1, 0x0⟩
  | .OBS_WPT_HI => ⟨24, 0x114, 8, 0x20, 1, 0x0⟩
  | .OBS_SKCFG => ⟨24, 0x200, 16, 0x20, 1, 0x0⟩
  | .OBS_SKN => ⟨24, 0x204, 16, 0x20, 1, 0x0⟩
  | .OBS_SKMIN => ⟨24, 0x208, 16, 0x20, 1, 0x0⟩
  | .OBS_SKMAX => ⟨24, 0x20c, 16, 0x20, 1, 0x0⟩
  | .OBS_SKSUM_LO => ⟨24, 0x210, 16, 0x20, 1, 0x0⟩
  | .OBS_SKSUM_HI => ⟨24, 0x214, 16, 0x20, 1, 0x0⟩
  | .OBS_SKCRC => ⟨24, 0x218, 16, 0x20, 1, 0x0⟩
  | .OBS_SKINV => ⟨24, 0x21c, 16, 0x20, 1, 0x0⟩
  | .OBS_SNAPT_LO => ⟨24, 0x800, 1, 0x0, 1, 0x0⟩
  | .OBS_SNAPT_HI => ⟨24, 0x804, 1, 0x0, 1, 0x0⟩
  | .OBS_EBUSY_LO => ⟨24, 0x1000, 33, 0x60, 1, 0x0⟩
  | .OBS_EBUSY_HI => ⟨24, 0x1004, 33, 0x60, 1, 0x0⟩
  | .OBS_EIDLE_LO => ⟨24, 0x1008, 33, 0x60, 1, 0x0⟩
  | .OBS_EIDLE_HI => ⟨24, 0x100c, 33, 0x60, 1, 0x0⟩
  | .OBS_ESTALL_LO => ⟨24, 0x1010, 33, 0x60, 8, 0x8⟩
  | .OBS_ESTALL_HI => ⟨24, 0x1014, 33, 0x60, 8, 0x8⟩
  | .OBS_ENOW => ⟨24, 0x1050, 33, 0x60, 1, 0x0⟩

/-- The registers of block `b`, in the order of Tables 25.2 to 25.5. -/
def regsOfBlock (b : Nat) : List Reg :=
  match b with
  | 0 =>
    [.SYS_CFG, .SYS_ISA, .SYS_CASN, .SYS_CCTL, .SYS_CSTAT, .SYS_CENTRY, .SYS_CBANK, .SYS_CBSEL, .SYS_CWSN, .SYS_CPC,
    .SYS_CCHK, .SYS_SPG, .SYS_SRAM, .SYS_SECC, .SYS_SADDR, .SYS_SCLR]
  | 1 =>
    [.PWR_STAT, .PWR_VIN, .PWR_VBAT, .PWR_VHOLD, .PWR_HOLDC, .PWR_DOM, .PWR_WDT, .PWR_WDTLEFT, .PWR_IDLE, .PWR_RCNT]
  | 2 =>
    [.LAT_CTRL, .LAT_VPOL, .LAT_VCORE, .LAT_SLACK, .LAT_SLACKLOW, .LAT_STAGE, .LAT_CLR, .LAT_OVR]
  | 3 =>
    [.JRN_STAT, .JRN_LSN, .JRN_QUEUE, .JRN_LIVE, .JRN_WEAR, .JRN_CTIME, .JRN_CFG, .JRN_CLR, .JRN_REPAIR]
  | 4 =>
    [.FLS_STAT, .FLS_CTL, .FLS_ARCH, .FLS_POISON, .FLS_SECT, .FLS_ECNT]
  | 5 =>
    [.RING_CFG, .RING_PTR, .RING_STAT, .RING_CLR]
  | 6 =>
    [.EVT_COAL, .EVT_PINEN, .EVT_SEQ, .EVT_ACK, .EVT_LOST, .EVT_IMASK, .EVT_SEEN]
  | 7 =>
    [.TC_NOW_LO, .TC_NOW_HI, .TC_TICK_LO, .TC_TICK_HI, .TC_STATUS, .TC_REFSEL]
  | 8 =>
    [.DEC_STAT, .DEC_ISSUED, .DEC_CHKS, .DEC_CLR, .DEC_SFLAGS, .DEC_OUT, .DEC_MBX]
  | 9 =>
    [.MOT_STATE, .MOT_SCFG, .MOT_HOLDT, .MOT_RTOL, .MOT_APPF, .MOT_CDV, .MOT_OVR, .MOT_LOOK, .MOT_VMAX, .MOT_VRAP,
    .MOT_AMAX, .MOT_JMAX, .MOT_JOGF, .MOT_SLO, .MOT_SHI, .MOT_AXCTL, .MOT_PGM, .MOT_AXL, .MOT_MFT, .MOT_HS,
    .MOT_XSLOT, .MOT_XWSN, .MOT_XCTL, .MOT_CODE]
  | 10 =>
    [.SRV_MODE, .SRV_FB, .SRV_FBNUM, .SRV_FBDEN, .SRV_KP, .SRV_KI, .SRV_KVF, .SRV_KAF, .SRV_VFS, .SRV_OUTLIM,
    .SRV_OUTOFS, .SRV_KVP, .SRV_KVI, .SRV_TACH, .SRV_TACHFS, .SRV_TACHTOL, .SRV_FEWARN, .SRV_FETRIP, .SRV_APPLY,
    .SRV_STAT, .SRV_FE, .SRV_RESNOM, .SRV_COMP, .SRV_BKL, .SRV_CSTART, .SRV_CSTEP, .SRV_CPT]
  | 11 =>
    [.ENC_CFG, .ENC_CNT, .ENC_ZCAP, .ENC_STAT, .ENC_ERRS, .ENC_HWCFG, .ENC_HWCNT, .ENC_HWSTAT]
  | 12 =>
    [.REB_CMODE, .REB_CPAR, .REB_CHOFF, .REB_CSTAT, .REB_RC, .REB_RGN, .REB_RSER, .REB_RLOAD, .REB_EPOCH_LO,
    .REB_EPOCH_HI, .REB_XPT]
  | 13 =>
    [.LGF_CLK, .LGF_HMODE, .LGF_HVAL, .LGF_HMODE2, .LGF_HVAL2, .LGF_OUT, .LGF_OUT2, .LGF_CRC]
  | 14 =>
    [.ADC_PCFG, .ADC_PDATA, .ADC_PSTAT, .ADC_PCALT, .ADC_FCFG, .ADC_FDATA, .ADC_FSTAT, .ADC_FCALT, .ADC_REF,
    .ADC_REFDIFF, .ADC_REFCHK, .ADC_TEMP, .ADC_CALCFG]
  | 15 =>
    [.FCH_CFG, .FCH_PHD, .FCH_SF, .FCH_TAPS, .FCH_SWAP, .FCH_DLY, .FCH_RATE, .FCH_RES, .FCH_ANG, .FCH_RAMP,
    .FCH_PLOAD, .FCH_COEFA, .FCH_COEFB]
  | 16 =>
    [.DAC_CFG, .DAC_HOLD, .DAC_OUT, .DAC_MAJOR, .DAC_RTGT, .DAC_RTCK, .DAC_STAT, .DAC_LDG, .DAC_LOAD]
  | 17 =>
    [.EXC_CFG, .EXC_INC, .EXC_AMP, .EXC_PHASE, .EXC_RATE, .EXC_NOW, .EXC_NINC, .EXC_STAT, .EXC_TSWAP, .EXC_TAB]
  | 18 =>
    [.FIO_CFG, .FIO_STAT, .FIO_CUR, .FIO_CLR, .FIO_GSTAT, .FIO_GCUR, .FIO_ACFG, .FIO_ASTAT, .FIO_IN_LO, .FIO_IN_HI,
    .FIO_DRV_LO, .FIO_DRV_HI]
  | 19 =>
    [.PNL_SCAN, .PNL_RPT, .PNL_OWN, .PNL_COMBO, .PNL_KACT, .PNL_KRPT, .PNL_KQ, .PNL_KSTAT, .PNL_DCFG, .PNL_DBRT,
    .PNL_DSTAT, .PNL_DRAW, .PNL_DFLT, .PNL_CHCFG, .PNL_CHQ, .PNL_CHSTAT, .PNL_FONT, .PNL_CALC, .PNL_CSCAN,
    .PNL_CKEY]
  | 20 =>
    [.OLK_CFG, .OLK_CFG2, .OLK_STAT, .OLK_SYNC, .OLK_PCTL, .OLK_PSTAT, .OLK_PCNT, .OLK_PDLY, .OLK_PAUTH, .OLK_OWSN,
    .OLK_MIRROR, .OLK_FRZ, .OLK_INFO]
  | 21 =>
    [.SER_MODE, .SER_BAUD, .SER_CTRL, .SER_ASYNC, .SER_STAT, .SER_CNT, .SER_CLR, .SER_TAPE, .SER_TAPESTAT]
  | 22 =>
    [.CFG_STAT, .CFG_SERIAL, .CFG_POLICY, .CFG_TRY, .CFG_KEY, .CFG_KFP, .CFG_STG, .CFG_STGSER, .CFG_STGINF]
  | 23 =>
    [.NOC_PCFG, .NOC_PALO, .NOC_PAHI, .NOC_PPKT, .NOC_PFLIT, .NOC_PBLK, .NOC_PCLR]
  | 24 =>
    [.OBS_STAT, .OBS_FRZ, .OBS_FRZT_LO, .OBS_FRZT_HI, .OBS_CTAG, .OBS_TRCFG, .OBS_TRKIND, .OBS_TRENG_LO,
    .OBS_TRENG_HI, .OBS_TRSTAT, .OBS_TRSET, .OBS_TRMARK, .OBS_RSVOP, .OBS_WPLO, .OBS_WPHI, .OBS_WPCFG, .OBS_WPCNT,
    .OBS_WPT_LO, .OBS_WPT_HI, .OBS_SKCFG, .OBS_SKN, .OBS_SKMIN, .OBS_SKMAX, .OBS_SKSUM_LO, .OBS_SKSUM_HI,
    .OBS_SKCRC, .OBS_SKINV, .OBS_SNAPT_LO, .OBS_SNAPT_HI, .OBS_EBUSY_LO, .OBS_EBUSY_HI, .OBS_EIDLE_LO,
    .OBS_EIDLE_HI, .OBS_ESTALL_LO, .OBS_ESTALL_HI, .OBS_ENOW]
  | _ => []

/-- Entries 0 to 63 of the reset table of R415. -/
def sinePart0 : List Nat :=
  [0, 1608, 3217, 4825, 6434, 8042, 9651, 11259, 12868, 14476, 16084, 17693, 19301, 20909, 22517, 24125, 25733,
   27341, 28949, 30557, 32165, 33773, 35380, 36988, 38595, 40202, 41810, 43417, 45024, 46631, 48238, 49845, 51451,
   53058, 54664, 56270, 57876, 59482, 61088, 62694, 64299, 65905, 67510, 69115, 70720, 72325, 73929, 75534, 77138,
   78742, 80346, 81950, 83553, 85156, 86759, 88362, 89965, 91567, 93170, 94772, 96373, 97975, 99576, 101177]
/-- Entries 64 to 127 of the reset table of R415. -/
def sinePart1 : List Nat :=
  [102778, 104379, 105979, 107579, 109179, 110779, 112378, 113977, 115576, 117175, 118773, 120371, 121969, 123566,
   125163, 126760, 128357, 129953, 131549, 133145, 134740, 136335, 137930, 139524, 141118, 142712, 144305, 145898,
   147491, 149083, 150675, 152267, 153858, 155449, 157039, 158630, 160219, 161809, 163398, 164986, 166575, 168163,
   169750, 171337, 172924, 174510, 176096, 177681, 179266, 180851, 182435, 184019, 185602, 187185, 188768, 190350,
   191931, 193512, 195093, 196673, 198253, 199832, 201411, 202989]
/-- Entries 128 to 191 of the reset table of R415. -/
def sinePart2 : List Nat :=
  [204567, 206144, 207721, 209297, 210873, 212449, 214024, 215598, 217172, 218745, 220318, 221890, 223462, 225033,
   226604, 228174, 229744, 231313, 232882, 234450, 236017, 237584, 239151, 240717, 242282, 243846, 245411, 246974,
   248537, 250099, 251661, 253222, 254783, 256343, 257902, 259461, 261019, 262577, 264134, 265690, 267246, 268801,
   270355, 271909, 273462, 275015, 276567, 278118, 279668, 281218, 282767, 284316, 285864, 287411, 288958, 290504,
   292049, 293593, 295137, 296680, 298223, 299764, 301305, 302846]
/-- Entries 192 to 255 of the reset table of R415. -/
def sinePart3 : List Nat :=
  [304385, 305924, 307462, 309000, 310536, 312072, 313608, 315142, 316676, 318209, 319741, 321273, 322803, 324333,
   325863, 327391, 328919, 330446, 331972, 333497, 335022, 336546, 338069, 339591, 341112, 342633, 344153, 345672,
   347190, 348707, 350224, 351739, 353254, 354768, 356282, 357794, 359305, 360816, 362326, 363835, 365343, 366850,
   368357, 369862, 371367, 372871, 374374, 375876, 377377, 378877, 380377, 381875, 383373, 384869, 386365, 387860,
   389354, 390847, 392339, 393830, 395321, 396810, 398298, 399786]
/-- Entries 256 to 319 of the reset table of R415. -/
def sinePart4 : List Nat :=
  [401272, 402758, 404242, 405726, 407209, 408691, 410171, 411651, 413130, 414608, 416085, 417561, 419036, 420510,
   421983, 423455, 424926, 426396, 427865, 429333, 430800, 432266, 433731, 435195, 436658, 438120, 439580, 441040,
   442499, 443957, 445413, 446869, 448324, 449777, 451230, 452681, 454131, 455581, 457029, 458476, 459922, 461367,
   462811, 464254, 465695, 467136, 468575, 470014, 471451, 472887, 474322, 475756, 477189, 478621, 480052, 481481,
   482909, 484337, 485763, 487188, 488611, 490034, 491455, 492876]
/-- Entries 320 to 383 of the reset table of R415. -/
def sinePart5 : List Nat :=
  [494295, 495713, 497130, 498545, 499960, 501373, 502785, 504196, 505606, 507014, 508422, 509828, 511233, 512637,
   514039, 515441, 516841, 518240, 519637, 521034, 522429, 523823, 525216, 526607, 527998, 529387, 530775, 532161,
   533547, 534931, 536313, 537695, 539075, 540454, 541832, 543209, 544584, 545958, 547330, 548702, 550072, 551440,
   552808, 554174, 555539, 556902, 558265, 559626, 560985, 562343, 563700, 565056, 566410, 567763, 569115, 570465,
   571814, 573162, 574508, 575853, 577196, 578539, 579879, 581219]
/-- Entries 384 to 447 of the reset table of R415. -/
def sinePart6 : List Nat :=
  [582557, 583894, 585229, 586563, 587896, 589227, 590557, 591885, 593212, 594538, 595862, 597185, 598506, 599826,
   601145, 602462, 603778, 605092, 606405, 607717, 609027, 610336, 611643, 612949, 614253, 615556, 616857, 618157,
   619456, 620753, 622049, 623343, 624635, 625927, 627216, 628505, 629791, 631077, 632361, 633643, 634924, 636203,
   637481, 638757, 640032, 641305, 642577, 643848, 645116, 646384, 647650, 648914, 650176, 651438, 652697, 653955,
   655212, 656467, 657721, 658973, 660223, 661472, 662719, 663965]
/-- Entries 448 to 511 of the reset table of R415. -/
def sinePart7 : List Nat :=
  [665209, 666452, 667693, 668932, 670170, 671406, 672641, 673874, 675106, 676336, 677564, 678791, 680016, 681240,
   682462, 683682, 684901, 686118, 687333, 688547, 689760, 690970, 692179, 693387, 694593, 695797, 696999, 698200,
   699399, 700597, 701793, 702987, 704180, 705371, 706560, 707748, 708934, 710118, 711301, 712482, 713661, 714839,
   716015, 717189, 718362, 719532, 720702, 721869, 723035, 724199, 725361, 726522, 727681, 728838, 729994, 731148,
   732300, 733450, 734599, 735746, 736891, 738035, 739176, 740316]
/-- Entries 512 to 575 of the reset table of R415. -/
def sinePart8 : List Nat :=
  [741454, 742591, 743726, 744859, 745990, 747120, 748247, 749373, 750497, 751620, 752741, 753859, 754977, 756092,
   757206, 758317, 759427, 760536, 761642, 762747, 763850, 764951, 766050, 767147, 768243, 769337, 770429, 771519,
   772607, 773694, 774779, 775862, 776943, 778022, 779100, 780175, 781249, 782321, 783391, 784459, 785526, 786590,
   787653, 788714, 789773, 790830, 791885, 792939, 793990, 795040, 796088, 797134, 798178, 799220, 800260, 801299,
   802335, 803370, 804403, 805434, 806463, 807490, 808515, 809538]
/-- Entries 576 to 639 of the reset table of R415. -/
def sinePart9 : List Nat :=
  [810559, 811579, 812596, 813612, 814626, 815638, 816648, 817655, 818662, 819666, 820668, 821668, 822666, 823663,
   824657, 825650, 826640, 827629, 828616, 829600, 830583, 831564, 832543, 833520, 834495, 835468, 836439, 837408,
   838375, 839340, 840303, 841264, 842223, 843181, 844136, 845089, 846040, 846989, 847937, 848882, 849825, 850766,
   851706, 852643, 853578, 854511, 855443, 856372, 857299, 858224, 859147, 860068, 860988, 861905, 862820, 863733,
   864644, 865553, 866460, 867364, 868267, 869168, 870067, 870964]
/-- Entries 640 to 703 of the reset table of R415. -/
def sinePart10 : List Nat :=
  [871858, 872751, 873641, 874530, 875416, 876301, 877183, 878063, 878941, 879818, 880692, 881564, 882434, 883301,
   884167, 885031, 885892, 886752, 887609, 888465, 889318, 890169, 891018, 891865, 892710, 893553, 894393, 895232,
   896068, 896902, 897735, 898565, 899393, 900219, 901042, 901864, 902684, 903501, 904316, 905129, 905940, 906749,
   907556, 908361, 909163, 909963, 910762, 911558, 912351, 913143, 913933, 914720, 915506, 916289, 917070, 917849,
   918625, 919400, 920172, 920942, 921710, 922476, 923240, 924001]
/-- Entries 704 to 767 of the reset table of R415. -/
def sinePart11 : List Nat :=
  [924761, 925518, 926273, 927026, 927776, 928525, 929271, 930015, 930757, 931496, 932234, 932969, 933702, 934433,
   935162, 935888, 936613, 937335, 938055, 938772, 939488, 940201, 940912, 941621, 942328, 943032, 943734, 944434,
   945132, 945827, 946521, 947212, 947901, 948587, 949272, 949954, 950634, 951311, 951987, 952660, 953331, 954000,
   954666, 955330, 955992, 956652, 957309, 957965, 958617, 959268, 959917, 960563, 961207, 961848, 962488, 963125,
   963760, 964392, 965023, 965651, 966277, 966900, 967521, 968140]
/-- Entries 768 to 831 of the reset table of R415. -/
def sinePart12 : List Nat :=
  [968757, 969371, 969984, 970593, 971201, 971806, 972409, 973010, 973608, 974204, 974798, 975390, 975979, 976566,
   977151, 977733, 978313, 978891, 979466, 980039, 980610, 981179, 981745, 982309, 982870, 983430, 983986, 984541,
   985093, 985643, 986191, 986737, 987280, 987820, 988359, 988895, 989429, 989960, 990489, 991016, 991540, 992062,
   992582, 993099, 993615, 994127, 994638, 995146, 995652, 996155, 996656, 997155, 997651, 998145, 998637, 999126,
   999613, 1000097, 1000580, 1001060, 1001537, 1002012, 1002485, 1002956]
/-- Entries 832 to 895 of the reset table of R415. -/
def sinePart13 : List Nat :=
  [1003424, 1003889, 1004353, 1004814, 1005272, 1005729, 1006183, 1006634, 1007083, 1007530, 1007975, 1008417,
   1008856, 1009294, 1009729, 1010161, 1010591, 1011019, 1011445, 1011868, 1012288, 1012707, 1013123, 1013536,
   1013947, 1014356, 1014762, 1015166, 1015568, 1015967, 1016364, 1016758, 1017151, 1017540, 1017927, 1018312,
   1018695, 1019075, 1019452, 1019828, 1020201, 1020571, 1020939, 1021305, 1021668, 1022029, 1022387, 1022743,
   1023097, 1023448, 1023797, 1024143, 1024487, 1024829, 1025168, 1025505, 1025839, 1026171, 1026501, 1026828,
   1027152, 1027475, 1027794, 1028112]
/-- Entries 896 to 959 of the reset table of R415. -/
def sinePart14 : List Nat :=
  [1028427, 1028740, 1029050, 1029357, 1029663, 1029966, 1030266, 1030564, 1030860, 1031153, 1031444, 1031732,
   1032018, 1032302, 1032583, 1032861, 1033138, 1033411, 1033683, 1033952, 1034218, 1034482, 1034744, 1035003,
   1035260, 1035514, 1035766, 1036015, 1036262, 1036507, 1036749, 1036989, 1037226, 1037461, 1037693, 1037923,
   1038150, 1038375, 1038598, 1038818, 1039036, 1039251, 1039464, 1039674, 1039882, 1040088, 1040291, 1040491,
   1040689, 1040885, 1041078, 1041269, 1041457, 1041643, 1041827, 1042007, 1042186, 1042362, 1042536, 1042707,
   1042876, 1043042, 1043206, 1043367]
/-- Entries 960 to 1023 of the reset table of R415. -/
def sinePart15 : List Nat :=
  [1043526, 1043682, 1043836, 1043988, 1044137, 1044283, 1044428, 1044569, 1044708, 1044845, 1044980, 1045111,
   1045241, 1045368, 1045492, 1045614, 1045734, 1045851, 1045966, 1046078, 1046187, 1046295, 1046400, 1046502,
   1046602, 1046699, 1046794, 1046887, 1046977, 1047064, 1047149, 1047232, 1047312, 1047390, 1047465, 1047538,
   1047608, 1047676, 1047741, 1047804, 1047864, 1047922, 1047978, 1048031, 1048082, 1048130, 1048175, 1048218,
   1048259, 1048297, 1048333, 1048367, 1048397, 1048426, 1048452, 1048475, 1048496, 1048515, 1048531, 1048544,
   1048555, 1048564, 1048570, 1048574]

/-- R415: the reset excitation table, entry i = round(1 048 575 × sin(2π i / 4096)), i = 0 to 1023. -/
def sineEntry (i : Nat) : Nat :=
  let part := match i / 64 with
    | 0 => sinePart0
    | 1 => sinePart1
    | 2 => sinePart2
    | 3 => sinePart3
    | 4 => sinePart4
    | 5 => sinePart5
    | 6 => sinePart6
    | 7 => sinePart7
    | 8 => sinePart8
    | 9 => sinePart9
    | 10 => sinePart10
    | 11 => sinePart11
    | 12 => sinePart12
    | 13 => sinePart13
    | 14 => sinePart14
    | 15 => sinePart15
    | _ => []
  part.getD (i % 64) 0

/-- Table 16.4: the reset font, P14 in bits [15:0] and P7 in [23:16], by character code (R436). A lower-case letter
holds the pattern of its capital; every other code holds 0. -/
def fontEntry (code : Nat) : Nat :=
  let c := if 97 ≤ code ∧ code ≤ 122 then code - 32 else code
  match c with
  | 45 => 0x4000C0
  | 48 => 0x3F003F
  | 49 => 0x60006
  | 50 => 0x5B00DB
  | 51 => 0x4F008F
  | 52 => 0x6600E6
  | 53 => 0x6D00ED
  | 54 => 0x7D00FD
  | 55 => 0x70007
  | 56 => 0x7F00FF
  | 57 => 0x6F00EF
  | 65 => 0x7700F7
  | 66 => 0x7C128F
  | 69 => 0x790079
  | 70 => 0x710071
  | 73 => 0x301209
  | 76 => 0x380038
  | 78 => 0x542136
  | 79 => 0x3F003F
  | 82 => 0x5020F3
  | 84 => 0x781201
  | _ => 0

/-- The Reset column of Tables 25.2 to 25.5 (R638, R639), as a function of the indices. The TC counter words hold no
register contents of their own (R34): they are views of the counter. -/
def regResetNat (r : Reg) (i j : Nat) : Nat :=
  match r with
  | .SYS_CFG => 0x7
  | .SYS_ISA => 0x201
  | .SYS_CASN => 0x7
  | .SYS_CSTAT => 0x70 + 0x100 * i
  | .SYS_SPG => 0x77777777
  | .PWR_STAT => 0x1
  | .PWR_HOLDC => 0xA00000
  | .PWR_DOM => 0x1FF
  | .PWR_WDT => 0x6400
  | .PWR_IDLE => 0x2580
  | .LAT_VPOL => 0x461E02
  | .LAT_VCORE => 0x146
  | .LAT_SLACKLOW => 0x3E8
  | .JRN_CFG => 0x4B
  | .RING_CFG => if i % 2 = 0 then 0x2 else 0x12
  | .EVT_COAL => 0x640A00
  | .EVT_PINEN => 0x1F3
  | .EVT_IMASK => 0x1
  | .MOT_SCFG => 0x3200
  | .MOT_HOLDT => 0x1F4
  | .MOT_RTOL => 0x1F4
  | .MOT_APPF => 0x4C4B40
  | .MOT_CDV => 0xF4240
  | .MOT_OVR => 0x646464
  | .MOT_SLO => 0x80000000
  | .MOT_SHI => 0x7FFFFFFF
  | .MOT_AXCTL => 0xC
  | .MOT_PGM => 0x320A7F48
  | .MOT_XSLOT => 0x140400 + 0x200 * i
  | .SRV_FB => 0x800
  | .SRV_FBNUM => 0x1
  | .SRV_FBDEN => 0x1
  | .SRV_OUTLIM => 0x64
  | .SRV_KVP => 0x3E8
  | .SRV_COMP => 0x20100
  | .SRV_CSTEP => 0x1
  | .ENC_CFG => 0x200
  | .ENC_HWCFG => 0x2A7
  | .REB_RGN => 0x104
  | .REB_XPT => 0x68
  | .ADC_PCFG => 0x7
  | .ADC_FCFG => 0x7
  | .ADC_REF => 0x8
  | .ADC_CALCFG => 0xA
  | .FCH_CFG => 0x800D10
  | .FCH_SF => 0x1
  | .FCH_TAPS => 0x10001
  | .FCH_RES => if i % 2 = 0 then 3 else 0
  | .FCH_COEFA => if j = 0 then 0x400000 else 0
  | .FCH_COEFB => if j = 0 then 0x400000 else 0
  | .DAC_CFG => 0x2407
  | .DAC_HOLD => 0x80000000
  | .DAC_OUT => 0x80000000
  | .DAC_MAJOR => 0x10000
  | .EXC_CFG => 0x7
  | .EXC_INC => 0x355555
  | .EXC_RATE => 0x1000A
  | .EXC_TAB => sineEntry j
  | .FIO_CFG => 0xF043207
  | .FIO_GSTAT => 0x10000
  | .FIO_ACFG => 0xA02
  | .PNL_SCAN => 0x3081000
  | .PNL_RPT => 0x280A32
  | .PNL_OWN => 0x11
  | .PNL_COMBO => 0x3C0000
  | .PNL_DCFG => 0x3286420
  | .PNL_DBRT => 0x1F
  | .PNL_CHCFG => 0x2280C00
  | .PNL_FONT => fontEntry (0x20 + i)
  | .PNL_CALC => 0x1E1008
  | .PNL_CSCAN => 0x10
  | .OLK_CFG => 0x7D00003
  | .OLK_CFG2 => 0x18601F4
  | .OLK_STAT => 0x100
  | .OLK_PCTL => 0x2
  | .OLK_FRZ => 0x1
  | .SER_MODE => 0x2000
  | .SER_BAUD => 0x2580
  | .SER_CTRL => 0x3
  | .SER_ASYNC => 0x1FF
  | .CFG_STAT => 0x1000
  | .CFG_POLICY => 0xA02
  | .NOC_PCFG => 0x10107FFF
  | .NOC_PAHI => 0xFFFFFFFF
  | .OBS_FRZ => 0xC
  | .OBS_TRCFG => 0x1F0408
  | .OBS_TRKIND => 0x17
  | .OBS_TRENG_LO => 0xFFFFFFFF
  | .OBS_TRENG_HI => 0x1
  | .OBS_WPCFG => 0x7C
  | .OBS_ENOW => 0x2
  | _ => 0

def regReset (r : Reg) (i j : Nat) : Word := BitVec.ofNat 32 (regResetNat r i j)

end Sys2Proof.Machine

namespace Sys2Proof

def Fld.SYS_CFG_SPARE : Fld := ⟨.SYS_CFG, 0, 3, .rw, false, []⟩
def Fld.SYS_ISA_MINOR : Fld := ⟨.SYS_ISA, 0, 8, .ro, false, []⟩
def Fld.SYS_ISA_MAJOR : Fld := ⟨.SYS_ISA, 8, 8, .ro, false, []⟩
def Fld.SYS_CASN_STN : Fld := ⟨.SYS_CASN, 0, 3, .rw, false, [(0, 4), (7, 7)]⟩
def Fld.SYS_CCTL_RUN : Fld := ⟨.SYS_CCTL, 0, 1, .rw, false, []⟩
def Fld.SYS_CCTL_TICK : Fld := ⟨.SYS_CCTL, 1, 1, .rw, false, []⟩
def Fld.SYS_CCTL_IOSTN : Fld := ⟨.SYS_CCTL, 4, 2, .rw, false, []⟩
def Fld.SYS_CCTL_SUPT : Fld := ⟨.SYS_CCTL, 8, 8, .rw, false, []⟩
def Fld.SYS_CSTAT_STATE : Fld := ⟨.SYS_CSTAT, 0, 3, .ro, false, []⟩
def Fld.SYS_CSTAT_ILV : Fld := ⟨.SYS_CSTAT, 4, 3, .ro, false, []⟩
def Fld.SYS_CSTAT_TASK : Fld := ⟨.SYS_CSTAT, 8, 3, .ro, false, []⟩
def Fld.SYS_CSTAT_ORIGIN : Fld := ⟨.SYS_CSTAT, 12, 2, .ro, false, []⟩
def Fld.SYS_CENTRY_ENTRY : Fld := ⟨.SYS_CENTRY, 0, 16, .rw, false, []⟩
def Fld.SYS_CENTRY_VBASE : Fld := ⟨.SYS_CENTRY, 16, 16, .rw, false, []⟩
def Fld.SYS_CBANK_P0 : Fld := ⟨.SYS_CBANK, 0, 8, .rw, false, []⟩
def Fld.SYS_CBANK_P1 : Fld := ⟨.SYS_CBANK, 8, 8, .rw, false, []⟩
def Fld.SYS_CBANK_P2 : Fld := ⟨.SYS_CBANK, 16, 8, .rw, false, []⟩
def Fld.SYS_CBANK_P3 : Fld := ⟨.SYS_CBANK, 24, 8, .rw, false, []⟩
def Fld.SYS_CBSEL_FLASH : Fld := ⟨.SYS_CBSEL, 0, 4, .rw, false, []⟩
def Fld.SYS_CWSN_WC : Fld := ⟨.SYS_CWSN, 0, 32, .ro, false, []⟩
def Fld.SYS_CPC_PC : Fld := ⟨.SYS_CPC, 0, 16, .ro, false, []⟩
def Fld.SYS_CPC_SP : Fld := ⟨.SYS_CPC, 16, 16, .ro, false, []⟩
def Fld.SYS_CCHK_CHKN : Fld := ⟨.SYS_CCHK, 0, 32, .ro, false, []⟩
def Fld.SYS_SPG_OWN0 : Fld := ⟨.SYS_SPG, 0, 3, .rw, false, [(0, 4), (6, 7)]⟩
def Fld.SYS_SPG_OWN1 : Fld := ⟨.SYS_SPG, 4, 3, .rw, false, [(0, 4), (6, 7)]⟩
def Fld.SYS_SPG_OWN2 : Fld := ⟨.SYS_SPG, 8, 3, .rw, false, [(0, 4), (6, 7)]⟩
def Fld.SYS_SPG_OWN3 : Fld := ⟨.SYS_SPG, 12, 3, .rw, false, [(0, 4), (6, 7)]⟩
def Fld.SYS_SPG_OWN4 : Fld := ⟨.SYS_SPG, 16, 3, .rw, false, [(0, 4), (6, 7)]⟩
def Fld.SYS_SPG_OWN5 : Fld := ⟨.SYS_SPG, 20, 3, .rw, false, [(0, 4), (6, 7)]⟩
def Fld.SYS_SPG_OWN6 : Fld := ⟨.SYS_SPG, 24, 3, .rw, false, [(0, 4), (6, 7)]⟩
def Fld.SYS_SPG_OWN7 : Fld := ⟨.SYS_SPG, 28, 3, .rw, false, [(0, 4), (6, 7)]⟩
def Fld.SYS_SRAM_FAIL0 : Fld := ⟨.SYS_SRAM, 0, 1, .ro, false, []⟩
def Fld.SYS_SRAM_FAIL1 : Fld := ⟨.SYS_SRAM, 1, 1, .ro, false, []⟩
def Fld.SYS_SRAM_RELOC : Fld := ⟨.SYS_SRAM, 8, 8, .ro, false, []⟩
def Fld.SYS_SRAM_LOST : Fld := ⟨.SYS_SRAM, 16, 8, .ro, false, []⟩
def Fld.SYS_SECC_CORR : Fld := ⟨.SYS_SECC, 0, 16, .ro, false, []⟩
def Fld.SYS_SECC_UNCORR : Fld := ⟨.SYS_SECC, 16, 16, .ro, false, []⟩
def Fld.SYS_SADDR_ADDR : Fld := ⟨.SYS_SADDR, 0, 32, .ro, false, []⟩
def Fld.SYS_SCLR_CLR : Fld := ⟨.SYS_SCLR, 0, 1, .wo, false, []⟩
def Fld.PWR_STAT_VINOK : Fld := ⟨.PWR_STAT, 0, 1, .ro, false, []⟩
def Fld.PWR_STAT_VBATOK : Fld := ⟨.PWR_STAT, 1, 1, .ro, false, []⟩
def Fld.PWR_STAT_VBATLOW : Fld := ⟨.PWR_STAT, 2, 1, .ro, false, []⟩
def Fld.PWR_STAT_HOLDOK : Fld := ⟨.PWR_STAT, 3, 1, .ro, false, []⟩
def Fld.PWR_STAT_LAST : Fld := ⟨.PWR_STAT, 4, 3, .ro, false, []⟩
def Fld.PWR_STAT_CAUSE : Fld := ⟨.PWR_STAT, 16, 16, .ro, false, []⟩
def Fld.PWR_VIN_V : Fld := ⟨.PWR_VIN, 0, 16, .ro, true, []⟩
def Fld.PWR_VBAT_V : Fld := ⟨.PWR_VBAT, 0, 12, .ro, false, []⟩
def Fld.PWR_VHOLD_V : Fld := ⟨.PWR_VHOLD, 0, 16, .ro, false, []⟩
def Fld.PWR_HOLDC_C : Fld := ⟨.PWR_HOLDC, 0, 12, .ro, false, []⟩
def Fld.PWR_HOLDC_HOLDMIN : Fld := ⟨.PWR_HOLDC, 16, 12, .rw, false, [(0, 1000)]⟩
def Fld.PWR_DOM_ON : Fld := ⟨.PWR_DOM, 0, 8, .ro, false, []⟩
def Fld.PWR_DOM_OBSEN : Fld := ⟨.PWR_DOM, 8, 1, .rw, false, []⟩
def Fld.PWR_WDT_EN : Fld := ⟨.PWR_WDT, 0, 1, .rw, false, []⟩
def Fld.PWR_WDT_PER : Fld := ⟨.PWR_WDT, 8, 8, .rw, false, [(1, 255)]⟩
def Fld.PWR_WDT_KICK : Fld := ⟨.PWR_WDT, 16, 8, .wo, false, []⟩
def Fld.PWR_WDTLEFT_MS : Fld := ⟨.PWR_WDTLEFT, 0, 16, .ro, false, []⟩
def Fld.PWR_IDLE_LEVEL : Fld := ⟨.PWR_IDLE, 0, 2, .rw, false, [(0, 2)]⟩
def Fld.PWR_IDLE_DLY : Fld := ⟨.PWR_IDLE, 4, 12, .rw, false, []⟩
def Fld.PWR_IDLE_NOW : Fld := ⟨.PWR_IDLE, 16, 3, .ro, false, []⟩
def Fld.PWR_RCNT_BROWNOUT : Fld := ⟨.PWR_RCNT, 0, 16, .ro, false, []⟩
def Fld.PWR_RCNT_WARM : Fld := ⟨.PWR_RCNT, 16, 16, .ro, false, []⟩
def Fld.LAT_CTRL_RATE : Fld := ⟨.LAT_CTRL, 0, 2, .rw, false, []⟩
def Fld.LAT_CTRL_NEXT : Fld := ⟨.LAT_CTRL, 4, 2, .ro, false, []⟩
def Fld.LAT_CTRL_PEND : Fld := ⟨.LAT_CTRL, 8, 1, .ro, false, []⟩
def Fld.LAT_VPOL_POL : Fld := ⟨.LAT_VPOL, 0, 2, .rw, false, [(0, 2)]⟩
def Fld.LAT_VPOL_SLACK_TGT : Fld := ⟨.LAT_VPOL, 8, 6, .rw, false, [(10, 60)]⟩
def Fld.LAT_VPOL_VFIX : Fld := ⟨.LAT_VPOL, 16, 7, .rw, false, [(0, 70)]⟩
def Fld.LAT_VCORE_VCODE : Fld := ⟨.LAT_VCORE, 0, 7, .ro, false, []⟩
def Fld.LAT_VCORE_ATMAX : Fld := ⟨.LAT_VCORE, 8, 1, .ro, false, []⟩
def Fld.LAT_VCORE_ATMIN : Fld := ⟨.LAT_VCORE, 9, 1, .ro, false, []⟩
def Fld.LAT_SLACK_LAST : Fld := ⟨.LAT_SLACK, 0, 10, .ro, false, []⟩
def Fld.LAT_SLACK_WMIN : Fld := ⟨.LAT_SLACK, 16, 10, .ro, false, []⟩
def Fld.LAT_SLACKLOW_LOW : Fld := ⟨.LAT_SLACKLOW, 0, 10, .ro, false, []⟩
def Fld.LAT_STAGE_PS : Fld := ⟨.LAT_STAGE, 0, 12, .ro, false, []⟩
def Fld.LAT_CLR_CLR_LOW : Fld := ⟨.LAT_CLR, 0, 1, .wo, false, []⟩
def Fld.LAT_CLR_CLR_OVR : Fld := ⟨.LAT_CLR, 4, 4, .wo, false, []⟩
def Fld.LAT_OVR_COUNT : Fld := ⟨.LAT_OVR, 0, 24, .ro, false, []⟩
def Fld.LAT_OVR_CONSEC : Fld := ⟨.LAT_OVR, 24, 4, .ro, false, []⟩
def Fld.JRN_STAT_AFAIL : Fld := ⟨.JRN_STAT, 0, 1, .ro, false, []⟩
def Fld.JRN_STAT_BFAIL : Fld := ⟨.JRN_STAT, 1, 1, .ro, false, []⟩
def Fld.JRN_STAT_LOST : Fld := ⟨.JRN_STAT, 2, 1, .ro, false, []⟩
def Fld.JRN_STAT_FILL : Fld := ⟨.JRN_STAT, 8, 7, .ro, false, []⟩
def Fld.JRN_LSN_LSN : Fld := ⟨.JRN_LSN, 0, 32, .ro, false, []⟩
def Fld.JRN_QUEUE_Q : Fld := ⟨.JRN_QUEUE, 0, 13, .ro, false, []⟩
def Fld.JRN_LIVE_BYTES : Fld := ⟨.JRN_LIVE, 0, 17, .ro, false, []⟩
def Fld.JRN_WEAR_WEAR : Fld := ⟨.JRN_WEAR, 0, 16, .ro, false, []⟩
def Fld.JRN_CTIME_NS : Fld := ⟨.JRN_CTIME, 0, 12, .ro, false, []⟩
def Fld.JRN_CFG_FILLWARN : Fld := ⟨.JRN_CFG, 0, 7, .rw, false, [(50, 95)]⟩
def Fld.JRN_CLR_CLR : Fld := ⟨.JRN_CLR, 0, 1, .wo, false, []⟩
def Fld.JRN_REPAIR_N : Fld := ⟨.JRN_REPAIR, 0, 16, .ro, false, []⟩
def Fld.FLS_STAT_OP : Fld := ⟨.FLS_STAT, 0, 2, .ro, false, []⟩
def Fld.FLS_STAT_SUSP : Fld := ⟨.FLS_STAT, 2, 1, .ro, false, []⟩
def Fld.FLS_STAT_XSUSP : Fld := ⟨.FLS_STAT, 3, 1, .ro, false, []⟩
def Fld.FLS_STAT_SECT : Fld := ⟨.FLS_STAT, 4, 6, .ro, false, []⟩
def Fld.FLS_STAT_FAIL0 : Fld := ⟨.FLS_STAT, 16, 1, .ro, false, []⟩
def Fld.FLS_STAT_FAIL1 : Fld := ⟨.FLS_STAT, 17, 1, .ro, false, []⟩
def Fld.FLS_STAT_QUAR : Fld := ⟨.FLS_STAT, 24, 6, .ro, false, []⟩
def Fld.FLS_CTL_SUSPEND : Fld := ⟨.FLS_CTL, 0, 1, .wo, false, []⟩
def Fld.FLS_CTL_RESUME : Fld := ⟨.FLS_CTL, 1, 1, .wo, false, []⟩
def Fld.FLS_ARCH_LIVE : Fld := ⟨.FLS_ARCH, 0, 16, .ro, false, []⟩
def Fld.FLS_POISON_ADDR : Fld := ⟨.FLS_POISON, 0, 32, .ro, false, []⟩
def Fld.FLS_SECT_STATE0 : Fld := ⟨.FLS_SECT, 0, 2, .ro, false, []⟩
def Fld.FLS_SECT_STATE1 : Fld := ⟨.FLS_SECT, 2, 2, .ro, false, []⟩
def Fld.FLS_SECT_STATE2 : Fld := ⟨.FLS_SECT, 4, 2, .ro, false, []⟩
def Fld.FLS_SECT_STATE3 : Fld := ⟨.FLS_SECT, 6, 2, .ro, false, []⟩
def Fld.FLS_SECT_STATE4 : Fld := ⟨.FLS_SECT, 8, 2, .ro, false, []⟩
def Fld.FLS_SECT_STATE5 : Fld := ⟨.FLS_SECT, 10, 2, .ro, false, []⟩
def Fld.FLS_SECT_STATE6 : Fld := ⟨.FLS_SECT, 12, 2, .ro, false, []⟩
def Fld.FLS_SECT_STATE7 : Fld := ⟨.FLS_SECT, 14, 2, .ro, false, []⟩
def Fld.FLS_SECT_STATE8 : Fld := ⟨.FLS_SECT, 16, 2, .ro, false, []⟩
def Fld.FLS_SECT_STATE9 : Fld := ⟨.FLS_SECT, 18, 2, .ro, false, []⟩
def Fld.FLS_SECT_STATE10 : Fld := ⟨.FLS_SECT, 20, 2, .ro, false, []⟩
def Fld.FLS_SECT_STATE11 : Fld := ⟨.FLS_SECT, 22, 2, .ro, false, []⟩
def Fld.FLS_SECT_STATE12 : Fld := ⟨.FLS_SECT, 24, 2, .ro, false, []⟩
def Fld.FLS_SECT_STATE13 : Fld := ⟨.FLS_SECT, 26, 2, .ro, false, []⟩
def Fld.FLS_SECT_STATE14 : Fld := ⟨.FLS_SECT, 28, 2, .ro, false, []⟩
def Fld.FLS_SECT_STATE15 : Fld := ⟨.FLS_SECT, 30, 2, .ro, false, []⟩
def Fld.FLS_ECNT_ERASES : Fld := ⟨.FLS_ECNT, 0, 24, .ro, false, []⟩
def Fld.RING_CFG_DEPTH : Fld := ⟨.RING_CFG, 0, 4, .rw, false, [(0, 8)]⟩
def Fld.RING_CFG_BANK : Fld := ⟨.RING_CFG, 4, 1, .rw, false, []⟩
def Fld.RING_PTR_PUT : Fld := ⟨.RING_PTR, 0, 13, .ro, false, []⟩
def Fld.RING_PTR_GET : Fld := ⟨.RING_PTR, 16, 13, .ro, false, []⟩
def Fld.RING_STAT_HWM : Fld := ⟨.RING_STAT, 0, 13, .ro, false, []⟩
def Fld.RING_STAT_FULL : Fld := ⟨.RING_STAT, 16, 16, .ro, false, []⟩
def Fld.RING_CLR_CLR : Fld := ⟨.RING_CLR, 0, 1, .wo, false, []⟩
def Fld.EVT_COAL_W0 : Fld := ⟨.EVT_COAL, 0, 8, .rw, false, []⟩
def Fld.EVT_COAL_W1 : Fld := ⟨.EVT_COAL, 8, 8, .rw, false, []⟩
def Fld.EVT_COAL_W2 : Fld := ⟨.EVT_COAL, 16, 8, .rw, false, []⟩
def Fld.EVT_COAL_W3 : Fld := ⟨.EVT_COAL, 24, 8, .rw, false, []⟩
def Fld.EVT_PINEN_CLS : Fld := ⟨.EVT_PINEN, 0, 4, .rw, false, []⟩
def Fld.EVT_PINEN_STN : Fld := ⟨.EVT_PINEN, 4, 4, .rw, false, []⟩
def Fld.EVT_PINEN_BRD : Fld := ⟨.EVT_PINEN, 8, 1, .rw, false, []⟩
def Fld.EVT_SEQ_SEQ : Fld := ⟨.EVT_SEQ, 0, 32, .ro, false, []⟩
def Fld.EVT_ACK_SEQ : Fld := ⟨.EVT_ACK, 0, 32, .wo, false, []⟩
def Fld.EVT_LOST_LOST : Fld := ⟨.EVT_LOST, 0, 32, .ro, false, []⟩
def Fld.EVT_IMASK_MASK : Fld := ⟨.EVT_IMASK, 0, 4, .rw, false, []⟩
def Fld.EVT_SEEN_SEEN : Fld := ⟨.EVT_SEEN, 0, 32, .rw, false, []⟩
def Fld.TC_NOW_LO_NOW : Fld := ⟨.TC_NOW_LO, 0, 32, .ro, false, []⟩
def Fld.TC_NOW_HI_NOW : Fld := ⟨.TC_NOW_HI, 0, 32, .ro, false, []⟩
def Fld.TC_TICK_LO_TICK : Fld := ⟨.TC_TICK_LO, 0, 32, .ro, false, []⟩
def Fld.TC_TICK_HI_TICK : Fld := ⟨.TC_TICK_HI, 0, 32, .ro, false, []⟩
def Fld.TC_STATUS_REFOK : Fld := ⟨.TC_STATUS, 0, 1, .ro, false, []⟩
def Fld.TC_STATUS_REFSRC : Fld := ⟨.TC_STATUS, 1, 1, .ro, false, []⟩
def Fld.TC_STATUS_COARSE : Fld := ⟨.TC_STATUS, 2, 1, .ro, false, []⟩
def Fld.TC_STATUS_SYNCED : Fld := ⟨.TC_STATUS, 3, 1, .ro, false, []⟩
def Fld.TC_STATUS_REFALT : Fld := ⟨.TC_STATUS, 4, 1, .ro, false, []⟩
def Fld.TC_STATUS_REFLOST : Fld := ⟨.TC_STATUS, 8, 1, .w1c, false, []⟩
def Fld.TC_REFSEL_SEL : Fld := ⟨.TC_REFSEL, 0, 2, .rw, false, [(0, 2)]⟩
def Fld.DEC_STAT_WIN : Fld := ⟨.DEC_STAT, 0, 7, .ro, false, []⟩
def Fld.DEC_MBX_VALUE : Fld := ⟨.DEC_MBX, 0, 32, .ro, false, []⟩
def Fld.DEC_MBX_TAG : Fld := ⟨.DEC_MBX, 0, 16, .ro, false, []⟩
def Fld.DEC_MBX_FLAGS : Fld := ⟨.DEC_MBX, 16, 7, .ro, false, []⟩
def Fld.DEC_MBX_VALID : Fld := ⟨.DEC_MBX, 31, 1, .ro, false, []⟩
def Fld.DEC_MBX_POP : Fld := ⟨.DEC_MBX, 0, 1, .wo, false, []⟩
def Fld.DEC_STAT_HWM : Fld := ⟨.DEC_STAT, 8, 7, .ro, false, []⟩
def Fld.DEC_ISSUED_N : Fld := ⟨.DEC_ISSUED, 0, 32, .ro, false, []⟩
def Fld.DEC_CHKS_RETRY : Fld := ⟨.DEC_CHKS, 0, 16, .ro, false, []⟩
def Fld.DEC_CHKS_CHKFAIL : Fld := ⟨.DEC_CHKS, 16, 16, .ro, false, []⟩
def Fld.DEC_CLR_CLR : Fld := ⟨.DEC_CLR, 0, 1, .wo, false, []⟩
def Fld.DEC_SFLAGS_FLAGS : Fld := ⟨.DEC_SFLAGS, 0, 7, .w1c, false, []⟩
def Fld.DEC_OUT_OUT : Fld := ⟨.DEC_OUT, 0, 3, .ro, false, []⟩
def Fld.MOT_STATE_STATE : Fld := ⟨.MOT_STATE, 0, 3, .ro, false, []⟩
def Fld.MOT_STATE_DRVON : Fld := ⟨.MOT_STATE, 3, 1, .ro, false, []⟩
def Fld.MOT_STATE_NHELD : Fld := ⟨.MOT_STATE, 8, 8, .ro, false, []⟩
def Fld.MOT_STATE_WHY : Fld := ⟨.MOT_STATE, 16, 3, .ro, false, []⟩
def Fld.MOT_SCFG_BLEND : Fld := ⟨.MOT_SCFG, 0, 1, .rw, false, []⟩
def Fld.MOT_SCFG_ENDLY : Fld := ⟨.MOT_SCFG, 8, 8, .rw, false, []⟩
def Fld.MOT_HOLDT_HOLDT : Fld := ⟨.MOT_HOLDT, 0, 14, .rw, false, [(0, 10000)]⟩
def Fld.MOT_RTOL_RTOL : Fld := ⟨.MOT_RTOL, 0, 20, .rw, false, [(0, 1000000)]⟩
def Fld.MOT_APPF_APPF : Fld := ⟨.MOT_APPF, 0, 32, .rw, false, [(1, 4000000000)]⟩
def Fld.MOT_CDV_CDV : Fld := ⟨.MOT_CDV, 0, 32, .rw, false, []⟩
def Fld.MOT_OVR_FEED : Fld := ⟨.MOT_OVR, 0, 8, .rw, false, [(0, 200)]⟩
def Fld.MOT_OVR_RAPID : Fld := ⟨.MOT_OVR, 8, 8, .rw, false, [(0, 100)]⟩
def Fld.MOT_OVR_SPIN : Fld := ⟨.MOT_OVR, 16, 8, .rw, false, [(50, 150)]⟩
def Fld.MOT_OVR_SRC : Fld := ⟨.MOT_OVR, 24, 1, .rw, false, []⟩
def Fld.MOT_LOOK_WIN : Fld := ⟨.MOT_LOOK, 0, 7, .ro, false, []⟩
def Fld.MOT_LOOK_DRY : Fld := ⟨.MOT_LOOK, 16, 16, .ro, false, []⟩
def Fld.MOT_VMAX_VMAX : Fld := ⟨.MOT_VMAX, 0, 32, .rw, false, []⟩
def Fld.MOT_VRAP_VRAPID : Fld := ⟨.MOT_VRAP, 0, 32, .rw, false, []⟩
def Fld.MOT_AMAX_AMAX : Fld := ⟨.MOT_AMAX, 0, 32, .rw, false, []⟩
def Fld.MOT_JMAX_JMAX : Fld := ⟨.MOT_JMAX, 0, 32, .rw, false, []⟩
def Fld.MOT_JOGF_JOGF : Fld := ⟨.MOT_JOGF, 0, 32, .rw, false, []⟩
def Fld.MOT_SLO_LO : Fld := ⟨.MOT_SLO, 0, 32, .rw, true, []⟩
def Fld.MOT_SHI_HI : Fld := ⟨.MOT_SHI, 0, 32, .rw, true, []⟩
def Fld.MOT_AXCTL_SLEN : Fld := ⟨.MOT_AXCTL, 0, 1, .rw, false, []⟩
def Fld.MOT_AXCTL_REFD : Fld := ⟨.MOT_AXCTL, 1, 1, .ro, false, []⟩
def Fld.MOT_AXCTL_HW : Fld := ⟨.MOT_AXCTL, 2, 2, .ro, false, []⟩
def Fld.MOT_AXCTL_MULT : Fld := ⟨.MOT_AXCTL, 4, 2, .ro, false, []⟩
def Fld.MOT_PGM_BASE : Fld := ⟨.MOT_PGM, 0, 1, .rw, false, []⟩
def Fld.MOT_PGM_QLIN : Fld := ⟨.MOT_PGM, 1, 3, .rw, false, [(3, 6)]⟩
def Fld.MOT_PGM_QROT : Fld := ⟨.MOT_PGM, 4, 3, .rw, false, [(3, 6)]⟩
def Fld.MOT_PGM_NODP : Fld := ⟨.MOT_PGM, 7, 1, .rw, false, []⟩
def Fld.MOT_PGM_SPAX : Fld := ⟨.MOT_PGM, 8, 4, .rw, false, [(0, 11), (15, 15)]⟩
def Fld.MOT_PGM_XCORE : Fld := ⟨.MOT_PGM, 12, 3, .rw, false, [(0, 5), (7, 7)]⟩
def Fld.MOT_PGM_ARCTOL : Fld := ⟨.MOT_PGM, 16, 8, .rw, false, [(1, 255)]⟩
def Fld.MOT_PGM_XTMO : Fld := ⟨.MOT_PGM, 24, 8, .rw, false, []⟩
def Fld.MOT_AXL_LETTER : Fld := ⟨.MOT_AXL, 0, 4, .rw, false, [(0, 9)]⟩
def Fld.MOT_AXL_ROT : Fld := ⟨.MOT_AXL, 4, 1, .rw, false, []⟩
def Fld.MOT_AXL_ROLL : Fld := ⟨.MOT_AXL, 5, 1, .rw, false, []⟩
def Fld.MOT_MFT_MFT : Fld := ⟨.MOT_MFT, 0, 8, .rw, false, []⟩
def Fld.MOT_HS_MSTB : Fld := ⟨.MOT_HS, 0, 1, .ro, false, []⟩
def Fld.MOT_HS_TSTB : Fld := ⟨.MOT_HS, 1, 1, .ro, false, []⟩
def Fld.MOT_HS_XPEND : Fld := ⟨.MOT_HS, 2, 1, .ro, false, []⟩
def Fld.MOT_HS_XERR : Fld := ⟨.MOT_HS, 4, 12, .ro, false, []⟩
def Fld.MOT_HS_CODE : Fld := ⟨.MOT_HS, 16, 10, .ro, false, []⟩
def Fld.MOT_XSLOT_ADDR : Fld := ⟨.MOT_XSLOT, 0, 32, .ro, false, []⟩
def Fld.MOT_XWSN_WSN : Fld := ⟨.MOT_XWSN, 0, 32, .rw, false, []⟩
def Fld.MOT_XCTL_OP : Fld := ⟨.MOT_XCTL, 0, 2, .wo, false, []⟩
def Fld.MOT_XCTL_ERR : Fld := ⟨.MOT_XCTL, 4, 10, .wo, false, []⟩
def Fld.MOT_CODE_CODE : Fld := ⟨.MOT_CODE, 0, 10, .rw, false, []⟩
def Fld.MOT_CODE_GM : Fld := ⟨.MOT_CODE, 10, 1, .rw, false, []⟩
def Fld.MOT_CODE_ACT : Fld := ⟨.MOT_CODE, 12, 2, .rw, false, []⟩
def Fld.MOT_CODE_NOWAIT : Fld := ⟨.MOT_CODE, 14, 1, .rw, false, []⟩
def Fld.SRV_MODE_MODE : Fld := ⟨.SRV_MODE, 0, 3, .rw, false, [(0, 3)]⟩
def Fld.SRV_MODE_FBPOL : Fld := ⟨.SRV_MODE, 3, 1, .rw, false, []⟩
def Fld.SRV_MODE_OPOL : Fld := ⟨.SRV_MODE, 4, 1, .rw, false, []⟩
def Fld.SRV_MODE_DAC : Fld := ⟨.SRV_MODE, 8, 4, .rw, false, []⟩
def Fld.SRV_FB_KIND : Fld := ⟨.SRV_FB, 0, 2, .rw, false, [(0, 2)]⟩
def Fld.SRV_FB_SRC : Fld := ⟨.SRV_FB, 2, 4, .rw, false, []⟩
def Fld.SRV_FB_EXC : Fld := ⟨.SRV_FB, 6, 2, .rw, false, []⟩
def Fld.SRV_FB_KEEPREF : Fld := ⟨.SRV_FB, 8, 1, .rw, false, []⟩
def Fld.SRV_FB_RESPOL : Fld := ⟨.SRV_FB, 10, 2, .rw, false, [(0, 2)]⟩
def Fld.SRV_FB_KIND2 : Fld := ⟨.SRV_FB, 12, 2, .rw, false, [(0, 2)]⟩
def Fld.SRV_FB_SRC2 : Fld := ⟨.SRV_FB, 14, 4, .rw, false, []⟩
def Fld.SRV_FB_EXC2 : Fld := ⟨.SRV_FB, 18, 2, .rw, false, []⟩
def Fld.SRV_FBNUM_NUM : Fld := ⟨.SRV_FBNUM, 0, 31, .rw, false, [(1, 2147483647)]⟩
def Fld.SRV_FBDEN_DEN : Fld := ⟨.SRV_FBDEN, 0, 31, .rw, false, [(1, 2147483647)]⟩
def Fld.SRV_KP_KP : Fld := ⟨.SRV_KP, 0, 32, .rw, false, []⟩
def Fld.SRV_KI_KI : Fld := ⟨.SRV_KI, 0, 32, .rw, false, []⟩
def Fld.SRV_KVF_KVF : Fld := ⟨.SRV_KVF, 0, 15, .rw, false, [(0, 20000)]⟩
def Fld.SRV_KAF_KAF : Fld := ⟨.SRV_KAF, 0, 16, .rw, false, []⟩
def Fld.SRV_VFS_VFS : Fld := ⟨.SRV_VFS, 0, 32, .rw, false, []⟩
def Fld.SRV_OUTLIM_OUTLIM : Fld := ⟨.SRV_OUTLIM, 0, 7, .rw, false, [(1, 100)]⟩
def Fld.SRV_OUTOFS_OUTOFS : Fld := ⟨.SRV_OUTOFS, 0, 32, .rw, true, [(-50000, 50000)]⟩
def Fld.SRV_KVP_KVP : Fld := ⟨.SRV_KVP, 0, 24, .rw, false, []⟩
def Fld.SRV_KVI_KVI : Fld := ⟨.SRV_KVI, 0, 24, .rw, false, []⟩
def Fld.SRV_TACH_CH : Fld := ⟨.SRV_TACH, 0, 4, .rw, false, []⟩
def Fld.SRV_TACH_FAST : Fld := ⟨.SRV_TACH, 4, 1, .rw, false, []⟩
def Fld.SRV_TACH_EN : Fld := ⟨.SRV_TACH, 5, 1, .rw, false, []⟩
def Fld.SRV_TACHFS_TACHFS : Fld := ⟨.SRV_TACHFS, 0, 32, .rw, false, []⟩
def Fld.SRV_TACHTOL_TOL : Fld := ⟨.SRV_TACHTOL, 0, 7, .rw, false, []⟩
def Fld.SRV_FEWARN_FEWARN : Fld := ⟨.SRV_FEWARN, 0, 32, .rw, false, []⟩
def Fld.SRV_FETRIP_FETRIP : Fld := ⟨.SRV_FETRIP, 0, 32, .rw, false, []⟩
def Fld.SRV_APPLY_APPLY : Fld := ⟨.SRV_APPLY, 0, 1, .wo, false, []⟩
def Fld.SRV_STAT_PEND : Fld := ⟨.SRV_STAT, 0, 1, .ro, false, []⟩
def Fld.SRV_STAT_SAT : Fld := ⟨.SRV_STAT, 1, 1, .ro, false, []⟩
def Fld.SRV_STAT_FB2ACT : Fld := ⟨.SRV_STAT, 2, 1, .ro, false, []⟩
def Fld.SRV_STAT_REFRST : Fld := ⟨.SRV_STAT, 3, 1, .ro, false, []⟩
def Fld.SRV_STAT_LOSS : Fld := ⟨.SRV_STAT, 4, 1, .ro, false, []⟩
def Fld.SRV_FE_FE : Fld := ⟨.SRV_FE, 0, 32, .ro, true, []⟩
def Fld.SRV_RESNOM_NOM : Fld := ⟨.SRV_RESNOM, 0, 16, .ro, false, []⟩
def Fld.SRV_COMP_SCEN : Fld := ⟨.SRV_COMP, 0, 1, .rw, false, []⟩
def Fld.SRV_COMP_BKEN : Fld := ⟨.SRV_COMP, 1, 1, .rw, false, []⟩
def Fld.SRV_COMP_BKLT : Fld := ⟨.SRV_COMP, 8, 8, .rw, false, [(1, 255)]⟩
def Fld.SRV_COMP_N : Fld := ⟨.SRV_COMP, 16, 8, .rw, false, [(2, 128)]⟩
def Fld.SRV_BKL_BKL : Fld := ⟨.SRV_BKL, 0, 20, .rw, false, [(0, 1000000)]⟩
def Fld.SRV_CSTART_START : Fld := ⟨.SRV_CSTART, 0, 32, .rw, true, []⟩
def Fld.SRV_CSTEP_STEP : Fld := ⟨.SRV_CSTEP, 0, 32, .rw, false, [(1, 4294967295)]⟩
def Fld.SRV_CPT_V : Fld := ⟨.SRV_CPT, 0, 32, .rw, true, [(-1000000, 1000000)]⟩
def Fld.ENC_CFG_DECODE : Fld := ⟨.ENC_CFG, 0, 2, .rw, false, [(0, 2)]⟩
def Fld.ENC_CFG_DIR : Fld := ⟨.ENC_CFG, 2, 1, .rw, false, []⟩
def Fld.ENC_CFG_FILT : Fld := ⟨.ENC_CFG, 3, 3, .rw, false, []⟩
def Fld.ENC_CFG_ZEN : Fld := ⟨.ENC_CFG, 6, 1, .rw, false, []⟩
def Fld.ENC_CFG_ZARM : Fld := ⟨.ENC_CFG, 7, 1, .rw, false, []⟩
def Fld.ENC_CFG_POL : Fld := ⟨.ENC_CFG, 8, 2, .rw, false, [(0, 2)]⟩
def Fld.ENC_CNT_CNT : Fld := ⟨.ENC_CNT, 0, 32, .ro, false, []⟩
def Fld.ENC_ZCAP_ZCAP : Fld := ⟨.ENC_ZCAP, 0, 32, .ro, false, []⟩
def Fld.ENC_STAT_LB : Fld := ⟨.ENC_STAT, 0, 3, .ro, false, []⟩
def Fld.ENC_STAT_AMPL : Fld := ⟨.ENC_STAT, 3, 1, .ro, false, []⟩
def Fld.ENC_STAT_ZSEEN : Fld := ⟨.ENC_STAT, 8, 1, .w1c, false, []⟩
def Fld.ENC_STAT_LBSEEN : Fld := ⟨.ENC_STAT, 9, 1, .w1c, false, []⟩
def Fld.ENC_STAT_CNTERR : Fld := ⟨.ENC_STAT, 10, 1, .w1c, false, []⟩
def Fld.ENC_ERRS_ERRS : Fld := ⟨.ENC_ERRS, 0, 16, .ro, false, []⟩
def Fld.ENC_HWCFG_STN : Fld := ⟨.ENC_HWCFG, 0, 3, .rw, false, [(0, 4), (7, 7)]⟩
def Fld.ENC_HWCFG_CPD : Fld := ⟨.ENC_HWCFG, 4, 2, .rw, false, [(0, 2)]⟩
def Fld.ENC_HWCFG_DIR : Fld := ⟨.ENC_HWCFG, 6, 1, .rw, false, []⟩
def Fld.ENC_HWCFG_LVL : Fld := ⟨.ENC_HWCFG, 7, 1, .rw, false, []⟩
def Fld.ENC_HWCFG_FILT : Fld := ⟨.ENC_HWCFG, 8, 3, .rw, false, []⟩
def Fld.ENC_HWCNT_DET : Fld := ⟨.ENC_HWCNT, 0, 16, .ro, false, []⟩
def Fld.ENC_HWSTAT_ERRS : Fld := ⟨.ENC_HWSTAT, 0, 16, .ro, false, []⟩
def Fld.ENC_HWSTAT_ERRSEEN : Fld := ⟨.ENC_HWSTAT, 16, 1, .w1c, false, []⟩
def Fld.REB_CMODE_MODE : Fld := ⟨.REB_CMODE, 0, 3, .ro, false, []⟩
def Fld.REB_CMODE_SUB : Fld := ⟨.REB_CMODE, 4, 3, .ro, false, []⟩
def Fld.REB_CMODE_TRIP : Fld := ⟨.REB_CMODE, 8, 1, .ro, false, []⟩
def Fld.REB_CMODE_TMASK : Fld := ⟨.REB_CMODE, 12, 4, .ro, false, []⟩
def Fld.REB_CPAR_PAR : Fld := ⟨.REB_CPAR, 0, 32, .ro, false, []⟩
def Fld.REB_CHOFF_HMODE : Fld := ⟨.REB_CHOFF, 0, 1, .rw, false, []⟩
def Fld.REB_CHOFF_HCONST : Fld := ⟨.REB_CHOFF, 16, 16, .rw, true, []⟩
def Fld.REB_CSTAT_LOUT : Fld := ⟨.REB_CSTAT, 0, 1, .ro, false, []⟩
def Fld.REB_CSTAT_SAT : Fld := ⟨.REB_CSTAT, 1, 1, .ro, false, []⟩
def Fld.REB_CSTAT_FROZEN : Fld := ⟨.REB_CSTAT, 2, 1, .ro, false, []⟩
def Fld.REB_RC_LEVEL : Fld := ⟨.REB_RC, 0, 16, .rw, true, []⟩
def Fld.REB_RGN_STN : Fld := ⟨.REB_RGN, 0, 3, .rw, false, [(0, 4)]⟩
def Fld.REB_RGN_SETTLE : Fld := ⟨.REB_RGN, 8, 8, .ro, false, []⟩
def Fld.REB_RGN_STATE : Fld := ⟨.REB_RGN, 16, 3, .ro, false, []⟩
def Fld.REB_RSER_IMG : Fld := ⟨.REB_RSER, 0, 32, .ro, false, []⟩
def Fld.REB_RLOAD_LOADS : Fld := ⟨.REB_RLOAD, 0, 16, .ro, false, []⟩
def Fld.REB_RLOAD_VFAIL : Fld := ⟨.REB_RLOAD, 16, 16, .ro, false, []⟩
def Fld.REB_EPOCH_LO_E : Fld := ⟨.REB_EPOCH_LO, 0, 32, .ro, false, []⟩
def Fld.REB_EPOCH_HI_E : Fld := ⟨.REB_EPOCH_HI, 0, 32, .ro, false, []⟩
def Fld.REB_XPT_SRC : Fld := ⟨.REB_XPT, 0, 7, .rw, false, [(0, 104)]⟩
def Fld.REB_XPT_LIVE : Fld := ⟨.REB_XPT, 8, 1, .ro, false, []⟩
def Fld.REB_XPT_LOCK : Fld := ⟨.REB_XPT, 9, 1, .ro, false, []⟩
def Fld.LGF_CLK_SRC : Fld := ⟨.LGF_CLK, 0, 1, .ro, false, []⟩
def Fld.LGF_CLK_DIV : Fld := ⟨.LGF_CLK, 4, 4, .ro, false, []⟩
def Fld.LGF_HMODE_FAB : Fld := ⟨.LGF_HMODE, 0, 32, .rw, false, []⟩
def Fld.LGF_HVAL_FAB : Fld := ⟨.LGF_HVAL, 0, 32, .rw, false, []⟩
def Fld.LGF_HMODE2_LINK : Fld := ⟨.LGF_HMODE2, 0, 16, .rw, false, []⟩
def Fld.LGF_HMODE2_CTL : Fld := ⟨.LGF_HMODE2, 16, 8, .rw, false, []⟩
def Fld.LGF_HVAL2_VAL : Fld := ⟨.LGF_HVAL2, 0, 24, .rw, false, []⟩
def Fld.LGF_OUT_FAB : Fld := ⟨.LGF_OUT, 0, 32, .ro, false, []⟩
def Fld.LGF_OUT2_LINK : Fld := ⟨.LGF_OUT2, 0, 16, .ro, false, []⟩
def Fld.LGF_OUT2_CTL : Fld := ⟨.LGF_OUT2, 16, 8, .ro, false, []⟩
def Fld.LGF_CRC_CRC : Fld := ⟨.LGF_CRC, 0, 32, .ro, false, []⟩
def Fld.ADC_PCFG_STN : Fld := ⟨.ADC_PCFG, 0, 3, .rw, false, [(0, 4), (7, 7)]⟩
def Fld.ADC_PDATA_VALUE : Fld := ⟨.ADC_PDATA, 0, 32, .ro, true, []⟩
def Fld.ADC_PSTAT_VALID : Fld := ⟨.ADC_PSTAT, 0, 1, .ro, false, []⟩
def Fld.ADC_PSTAT_CALIP : Fld := ⟨.ADC_PSTAT, 1, 1, .ro, false, []⟩
def Fld.ADC_PSTAT_FAILED : Fld := ⟨.ADC_PSTAT, 2, 1, .ro, false, []⟩
def Fld.ADC_PSTAT_CLIP : Fld := ⟨.ADC_PSTAT, 3, 1, .ro, false, []⟩
def Fld.ADC_PSTAT_STALE : Fld := ⟨.ADC_PSTAT, 4, 1, .ro, false, []⟩
def Fld.ADC_PSTAT_OVR : Fld := ⟨.ADC_PSTAT, 8, 1, .w1c, false, []⟩
def Fld.ADC_PCALT_T : Fld := ⟨.ADC_PCALT, 0, 16, .ro, true, []⟩
def Fld.ADC_FCFG_STN : Fld := ⟨.ADC_FCFG, 0, 3, .rw, false, [(0, 4), (7, 7)]⟩
def Fld.ADC_FDATA_VALUE : Fld := ⟨.ADC_FDATA, 0, 32, .ro, true, []⟩
def Fld.ADC_FSTAT_VALID : Fld := ⟨.ADC_FSTAT, 0, 1, .ro, false, []⟩
def Fld.ADC_FSTAT_CALIP : Fld := ⟨.ADC_FSTAT, 1, 1, .ro, false, []⟩
def Fld.ADC_FSTAT_FAILED : Fld := ⟨.ADC_FSTAT, 2, 1, .ro, false, []⟩
def Fld.ADC_FSTAT_CLIP : Fld := ⟨.ADC_FSTAT, 3, 1, .ro, false, []⟩
def Fld.ADC_FSTAT_STALE : Fld := ⟨.ADC_FSTAT, 4, 1, .ro, false, []⟩
def Fld.ADC_FSTAT_OVR : Fld := ⟨.ADC_FSTAT, 8, 1, .w1c, false, []⟩
def Fld.ADC_FCALT_T : Fld := ⟨.ADC_FCALT, 0, 16, .ro, true, []⟩
def Fld.ADC_REF_ACT : Fld := ⟨.ADC_REF, 0, 1, .ro, false, []⟩
def Fld.ADC_REF_POL : Fld := ⟨.ADC_REF, 2, 2, .rw, false, [(0, 2)]⟩
def Fld.ADC_REF_FAILA : Fld := ⟨.ADC_REF, 4, 1, .ro, false, []⟩
def Fld.ADC_REF_FAILB : Fld := ⟨.ADC_REF, 5, 1, .ro, false, []⟩
def Fld.ADC_REF_UNDEC : Fld := ⟨.ADC_REF, 8, 1, .w1c, false, []⟩
def Fld.ADC_REFDIFF_DIFF : Fld := ⟨.ADC_REFDIFF, 0, 16, .ro, true, []⟩
def Fld.ADC_REFCHK_A : Fld := ⟨.ADC_REFCHK, 0, 16, .ro, true, []⟩
def Fld.ADC_REFCHK_B : Fld := ⟨.ADC_REFCHK, 16, 16, .ro, true, []⟩
def Fld.ADC_TEMP_T : Fld := ⟨.ADC_TEMP, 0, 16, .ro, true, []⟩
def Fld.ADC_CALCFG_CALDT : Fld := ⟨.ADC_CALCFG, 0, 8, .rw, false, []⟩
def Fld.FCH_CFG_MODE : Fld := ⟨.FCH_CFG, 0, 3, .rw, false, [(0, 4)]⟩
def Fld.FCH_CFG_PRESET : Fld := ⟨.FCH_CFG, 4, 2, .rw, false, []⟩
def Fld.FCH_CFG_ORD : Fld := ⟨.FCH_CFG, 8, 3, .rw, false, [(3, 5)]⟩
def Fld.FCH_CFG_FIRDEC : Fld := ⟨.FCH_CFG, 11, 5, .rw, false, [(1, 16)]⟩
def Fld.FCH_CFG_CICDEC : Fld := ⟨.FCH_CFG, 16, 10, .rw, false, [(4, 512)]⟩
def Fld.FCH_PHD_PHINT : Fld := ⟨.FCH_PHD, 0, 8, .rw, false, []⟩
def Fld.FCH_PHD_PHFRAC : Fld := ⟨.FCH_PHD, 8, 6, .rw, false, []⟩
def Fld.FCH_SF_N : Fld := ⟨.FCH_SF, 0, 8, .rw, false, [(1, 255)]⟩
def Fld.FCH_TAPS_TAPSA : Fld := ⟨.FCH_TAPS, 0, 9, .rw, false, [(1, 384)]⟩
def Fld.FCH_TAPS_TAPSB : Fld := ⟨.FCH_TAPS, 16, 9, .rw, false, [(1, 384)]⟩
def Fld.FCH_TAPS_PEND : Fld := ⟨.FCH_TAPS, 30, 1, .ro, false, []⟩
def Fld.FCH_TAPS_ACTB : Fld := ⟨.FCH_TAPS, 31, 1, .ro, false, []⟩
def Fld.FCH_SWAP_SWAP : Fld := ⟨.FCH_SWAP, 0, 1, .wo, false, []⟩
def Fld.FCH_DLY_DLY : Fld := ⟨.FCH_DLY, 0, 24, .ro, false, []⟩
def Fld.FCH_RATE_RATE : Fld := ⟨.FCH_RATE, 0, 18, .ro, false, []⟩
def Fld.FCH_RES_TRK : Fld := ⟨.FCH_RES, 0, 3, .rw, false, [(0, 4)]⟩
def Fld.FCH_RES_EXC : Fld := ⟨.FCH_RES, 4, 2, .rw, false, []⟩
def Fld.FCH_RES_PHADJ : Fld := ⟨.FCH_RES, 16, 12, .rw, true, [(-1024, 1024)]⟩
def Fld.FCH_ANG_ANGLE : Fld := ⟨.FCH_ANG, 0, 24, .ro, false, []⟩
def Fld.FCH_RAMP_A : Fld := ⟨.FCH_RAMP, 0, 16, .ro, false, []⟩
def Fld.FCH_PLOAD_LOAD : Fld := ⟨.FCH_PLOAD, 0, 16, .ro, false, []⟩
def Fld.FCH_COEFA_C : Fld := ⟨.FCH_COEFA, 0, 24, .rw, true, []⟩
def Fld.FCH_COEFB_C : Fld := ⟨.FCH_COEFB, 0, 24, .rw, true, []⟩
def Fld.DAC_CFG_STN : Fld := ⟨.DAC_CFG, 0, 3, .rw, false, [(0, 4), (7, 7)]⟩
def Fld.DAC_CFG_SPAN : Fld := ⟨.DAC_CFG, 4, 3, .rw, false, [(0, 4)]⟩
def Fld.DAC_CFG_LDG : Fld := ⟨.DAC_CFG, 8, 2, .rw, false, []⟩
def Fld.DAC_CFG_DGEN : Fld := ⟨.DAC_CFG, 10, 1, .rw, false, []⟩
def Fld.DAC_CFG_POL : Fld := ⟨.DAC_CFG, 12, 2, .rw, false, [(0, 2)]⟩
def Fld.DAC_HOLD_CODE : Fld := ⟨.DAC_HOLD, 0, 20, .rw, false, []⟩
def Fld.DAC_HOLD_SAFE : Fld := ⟨.DAC_HOLD, 31, 1, .rw, false, []⟩
def Fld.DAC_OUT_CODE : Fld := ⟨.DAC_OUT, 0, 20, .ro, false, []⟩
def Fld.DAC_OUT_SAFE : Fld := ⟨.DAC_OUT, 31, 1, .ro, false, []⟩
def Fld.DAC_MAJOR_MAJOR : Fld := ⟨.DAC_MAJOR, 0, 20, .rw, false, [(1, 1048575)]⟩
def Fld.DAC_RTGT_CODE : Fld := ⟨.DAC_RTGT, 0, 20, .ro, false, []⟩
def Fld.DAC_RTGT_ACTIVE : Fld := ⟨.DAC_RTGT, 31, 1, .ro, false, []⟩
def Fld.DAC_RTCK_TICKS : Fld := ⟨.DAC_RTCK, 0, 25, .ro, false, []⟩
def Fld.DAC_STAT_SHORT : Fld := ⟨.DAC_STAT, 0, 1, .ro, false, []⟩
def Fld.DAC_STAT_COMPL : Fld := ⟨.DAC_STAT, 1, 1, .ro, false, []⟩
def Fld.DAC_STAT_OPEN : Fld := ⟨.DAC_STAT, 2, 1, .ro, false, []⟩
def Fld.DAC_STAT_CLAMP : Fld := ⟨.DAC_STAT, 3, 1, .ro, false, []⟩
def Fld.DAC_STAT_DGH : Fld := ⟨.DAC_STAT, 4, 1, .ro, false, []⟩
def Fld.DAC_STAT_SPANCH : Fld := ⟨.DAC_STAT, 5, 1, .ro, false, []⟩
def Fld.DAC_STAT_LATCHOFF : Fld := ⟨.DAC_STAT, 6, 1, .ro, false, []⟩
def Fld.DAC_STAT_RETRY : Fld := ⟨.DAC_STAT, 8, 4, .ro, false, []⟩
def Fld.DAC_STAT_SHORTSEEN : Fld := ⟨.DAC_STAT, 16, 1, .w1c, false, []⟩
def Fld.DAC_STAT_COMPLSEEN : Fld := ⟨.DAC_STAT, 17, 1, .w1c, false, []⟩
def Fld.DAC_STAT_OPENSEEN : Fld := ⟨.DAC_STAT, 18, 1, .w1c, false, []⟩
def Fld.DAC_LDG_TRIG : Fld := ⟨.DAC_LDG, 0, 2, .rw, false, []⟩
def Fld.DAC_LDG_LOADS : Fld := ⟨.DAC_LDG, 16, 16, .ro, false, []⟩
def Fld.DAC_LOAD_G : Fld := ⟨.DAC_LOAD, 0, 4, .wo, false, []⟩
def Fld.EXC_CFG_STN : Fld := ⟨.EXC_CFG, 0, 3, .rw, false, [(0, 4), (7, 7)]⟩
def Fld.EXC_INC_INC : Fld := ⟨.EXC_INC, 0, 32, .rw, false, [(1398102, 13981013)]⟩
def Fld.EXC_AMP_AMP : Fld := ⟨.EXC_AMP, 0, 13, .rw, false, [(0, 7500)]⟩
def Fld.EXC_PHASE_PHASE : Fld := ⟨.EXC_PHASE, 0, 16, .rw, false, []⟩
def Fld.EXC_RATE_AR : Fld := ⟨.EXC_RATE, 0, 13, .rw, false, [(1, 7500)]⟩
def Fld.EXC_RATE_FR : Fld := ⟨.EXC_RATE, 16, 16, .rw, false, [(1, 18000)]⟩
def Fld.EXC_NOW_AMP : Fld := ⟨.EXC_NOW, 0, 13, .ro, false, []⟩
def Fld.EXC_NINC_INC : Fld := ⟨.EXC_NINC, 0, 32, .ro, false, []⟩
def Fld.EXC_STAT_RAMPING : Fld := ⟨.EXC_STAT, 0, 1, .ro, false, []⟩
def Fld.EXC_STAT_SHORT : Fld := ⟨.EXC_STAT, 1, 1, .ro, false, []⟩
def Fld.EXC_STAT_OFF : Fld := ⟨.EXC_STAT, 2, 1, .ro, false, []⟩
def Fld.EXC_STAT_TPEND : Fld := ⟨.EXC_STAT, 3, 1, .ro, false, []⟩
def Fld.EXC_STAT_BANK : Fld := ⟨.EXC_STAT, 4, 1, .ro, false, []⟩
def Fld.EXC_STAT_SHORTSEEN : Fld := ⟨.EXC_STAT, 8, 1, .w1c, false, []⟩
def Fld.EXC_TSWAP_SWAP : Fld := ⟨.EXC_TSWAP, 0, 1, .wo, false, []⟩
def Fld.EXC_TSWAP_SINE : Fld := ⟨.EXC_TSWAP, 1, 1, .wo, false, []⟩
def Fld.EXC_TAB_V : Fld := ⟨.EXC_TAB, 0, 20, .rw, false, []⟩
def Fld.FIO_CFG_STN : Fld := ⟨.FIO_CFG, 0, 3, .rw, false, [(0, 4), (7, 7)]⟩
def Fld.FIO_CFG_FN : Fld := ⟨.FIO_CFG, 4, 3, .rw, false, [(0, 5)]⟩
def Fld.FIO_CFG_POL : Fld := ⟨.FIO_CFG, 8, 2, .rw, false, [(0, 2)]⟩
def Fld.FIO_CFG_FILT : Fld := ⟨.FIO_CFG, 12, 3, .rw, false, []⟩
def Fld.FIO_CFG_FAILV : Fld := ⟨.FIO_CFG, 16, 2, .rw, false, [(0, 2)]⟩
def Fld.FIO_CFG_TRIPOFF : Fld := ⟨.FIO_CFG, 18, 1, .rw, false, []⟩
def Fld.FIO_CFG_WB : Fld := ⟨.FIO_CFG, 19, 1, .rw, false, []⟩
def Fld.FIO_CFG_LIM : Fld := ⟨.FIO_CFG, 20, 1, .rw, false, []⟩
def Fld.FIO_CFG_ENAX : Fld := ⟨.FIO_CFG, 24, 4, .rw, false, [(0, 11), (15, 15)]⟩
def Fld.FIO_STAT_COND : Fld := ⟨.FIO_STAT, 0, 7, .ro, false, []⟩
def Fld.FIO_STAT_FAILED : Fld := ⟨.FIO_STAT, 7, 1, .ro, false, []⟩
def Fld.FIO_STAT_LATCHOFF : Fld := ⟨.FIO_STAT, 8, 1, .ro, false, []⟩
def Fld.FIO_STAT_RETRY : Fld := ⟨.FIO_STAT, 9, 4, .ro, false, []⟩
def Fld.FIO_STAT_FORCED : Fld := ⟨.FIO_STAT, 13, 1, .ro, false, []⟩
def Fld.FIO_STAT_SEEN : Fld := ⟨.FIO_STAT, 16, 7, .w1c, false, []⟩
def Fld.FIO_CUR_IOUT : Fld := ⟨.FIO_CUR, 0, 12, .ro, false, []⟩
def Fld.FIO_CUR_IIN : Fld := ⟨.FIO_CUR, 16, 12, .ro, false, []⟩
def Fld.FIO_CLR_CLEAR : Fld := ⟨.FIO_CLR, 0, 1, .wo, false, []⟩
def Fld.FIO_GSTAT_V : Fld := ⟨.FIO_GSTAT, 0, 16, .ro, true, []⟩
def Fld.FIO_GSTAT_STATE : Fld := ⟨.FIO_GSTAT, 16, 3, .ro, false, []⟩
def Fld.FIO_GSTAT_LOSSEEN : Fld := ⟨.FIO_GSTAT, 24, 1, .w1c, false, []⟩
def Fld.FIO_GCUR_I : Fld := ⟨.FIO_GCUR, 0, 13, .ro, false, []⟩
def Fld.FIO_ACFG_POL : Fld := ⟨.FIO_ACFG, 0, 2, .rw, false, [(0, 2)]⟩
def Fld.FIO_ACFG_OWEN : Fld := ⟨.FIO_ACFG, 2, 1, .rw, false, []⟩
def Fld.FIO_ACFG_UNI : Fld := ⟨.FIO_ACFG, 3, 1, .rw, false, []⟩
def Fld.FIO_ACFG_TPER : Fld := ⟨.FIO_ACFG, 8, 8, .rw, false, [(1, 255)]⟩
def Fld.FIO_ASTAT_COND : Fld := ⟨.FIO_ASTAT, 0, 3, .ro, false, []⟩
def Fld.FIO_ASTAT_SEEN : Fld := ⟨.FIO_ASTAT, 8, 3, .w1c, false, []⟩
def Fld.FIO_IN_LO_IN : Fld := ⟨.FIO_IN_LO, 0, 32, .ro, false, []⟩
def Fld.FIO_IN_HI_IN : Fld := ⟨.FIO_IN_HI, 0, 32, .ro, false, []⟩
def Fld.FIO_DRV_LO_DRV : Fld := ⟨.FIO_DRV_LO, 0, 32, .ro, false, []⟩
def Fld.FIO_DRV_HI_DRV : Fld := ⟨.FIO_DRV_HI, 0, 32, .ro, false, []⟩
def Fld.PNL_SCAN_NCOL : Fld := ⟨.PNL_SCAN, 0, 5, .rw, false, [(0, 16)]⟩
def Fld.PNL_SCAN_NROW : Fld := ⟨.PNL_SCAN, 8, 5, .rw, false, [(1, 16)]⟩
def Fld.PNL_SCAN_COLT : Fld := ⟨.PNL_SCAN, 16, 7, .rw, false, [(8, 125)]⟩
def Fld.PNL_SCAN_DEB : Fld := ⟨.PNL_SCAN, 24, 4, .rw, false, [(2, 15)]⟩
def Fld.PNL_SCAN_NKEY : Fld := ⟨.PNL_SCAN, 28, 1, .rw, false, []⟩
def Fld.PNL_RPT_RPTD : Fld := ⟨.PNL_RPT, 0, 8, .rw, false, [(10, 255)]⟩
def Fld.PNL_RPT_RATE : Fld := ⟨.PNL_RPT, 8, 6, .rw, false, [(1, 50)]⟩
def Fld.PNL_RPT_LONGT : Fld := ⟨.PNL_RPT, 16, 8, .rw, false, [(10, 255)]⟩
def Fld.PNL_OWN_KSTN : Fld := ⟨.PNL_OWN, 0, 4, .rw, false, []⟩
def Fld.PNL_OWN_DSTN : Fld := ⟨.PNL_OWN, 4, 4, .rw, false, []⟩
def Fld.PNL_COMBO_KA : Fld := ⟨.PNL_COMBO, 0, 8, .rw, false, []⟩
def Fld.PNL_COMBO_KB : Fld := ⟨.PNL_COMBO, 8, 8, .rw, false, []⟩
def Fld.PNL_COMBO_T : Fld := ⟨.PNL_COMBO, 16, 8, .rw, false, [(20, 255)]⟩
def Fld.PNL_COMBO_EN : Fld := ⟨.PNL_COMBO, 31, 1, .rw, false, []⟩
def Fld.PNL_KACT_KEY : Fld := ⟨.PNL_KACT, 0, 8, .rw, false, []⟩
def Fld.PNL_KACT_EDGE : Fld := ⟨.PNL_KACT, 8, 1, .rw, false, []⟩
def Fld.PNL_KACT_ACT : Fld := ⟨.PNL_KACT, 9, 3, .rw, false, [(0, 4)]⟩
def Fld.PNL_KACT_STN : Fld := ⟨.PNL_KACT, 12, 2, .rw, false, []⟩
def Fld.PNL_KRPT_RPT : Fld := ⟨.PNL_KRPT, 0, 32, .rw, false, []⟩
def Fld.PNL_KQ_KEY : Fld := ⟨.PNL_KQ, 0, 8, .ro, false, []⟩
def Fld.PNL_KQ_KIND : Fld := ⟨.PNL_KQ, 8, 3, .ro, false, []⟩
def Fld.PNL_KQ_VALID : Fld := ⟨.PNL_KQ, 31, 1, .ro, false, []⟩
def Fld.PNL_KSTAT_QCOUNT : Fld := ⟨.PNL_KSTAT, 0, 6, .ro, false, []⟩
def Fld.PNL_KSTAT_QOVR : Fld := ⟨.PNL_KSTAT, 8, 1, .w1c, false, []⟩
def Fld.PNL_KSTAT_C0ACT : Fld := ⟨.PNL_KSTAT, 16, 1, .ro, false, []⟩
def Fld.PNL_KSTAT_C1ACT : Fld := ⟨.PNL_KSTAT, 17, 1, .ro, false, []⟩
def Fld.PNL_DCFG_NGRID : Fld := ⟨.PNL_DCFG, 0, 5, .rw, false, [(0, 24)]⟩
def Fld.PNL_DCFG_FONT : Fld := ⟨.PNL_DCFG, 5, 1, .rw, false, []⟩
def Fld.PNL_DCFG_REFR : Fld := ⟨.PNL_DCFG, 8, 10, .rw, false, [(60, 500)]⟩
def Fld.PNL_DCFG_GAP : Fld := ⟨.PNL_DCFG, 18, 6, .rw, false, [(2, 63)]⟩
def Fld.PNL_DCFG_SEGPOL : Fld := ⟨.PNL_DCFG, 24, 1, .rw, false, []⟩
def Fld.PNL_DCFG_GRDPOL : Fld := ⟨.PNL_DCFG, 25, 1, .rw, false, []⟩
def Fld.PNL_DBRT_BRT : Fld := ⟨.PNL_DBRT, 0, 6, .rw, false, []⟩
def Fld.PNL_DSTAT_FAULTSH : Fld := ⟨.PNL_DSTAT, 0, 1, .ro, false, []⟩
def Fld.PNL_DRAW_SEG : Fld := ⟨.PNL_DRAW, 0, 32, .rw, false, []⟩
def Fld.PNL_DFLT_SEG : Fld := ⟨.PNL_DFLT, 0, 32, .rw, false, []⟩
def Fld.PNL_CHCFG_CHMODE : Fld := ⟨.PNL_CHCFG, 0, 2, .rw, false, [(0, 2)]⟩
def Fld.PNL_CHCFG_EW : Fld := ⟨.PNL_CHCFG, 8, 8, .rw, false, [(6, 255)]⟩
def Fld.PNL_CHCFG_DLY : Fld := ⟨.PNL_CHCFG, 16, 8, .rw, false, [(1, 255)]⟩
def Fld.PNL_CHCFG_LONGD : Fld := ⟨.PNL_CHCFG, 24, 4, .rw, false, [(1, 15)]⟩
def Fld.PNL_CHQ_BYTE : Fld := ⟨.PNL_CHQ, 0, 8, .wo, false, []⟩
def Fld.PNL_CHQ_RS : Fld := ⟨.PNL_CHQ, 8, 1, .wo, false, []⟩
def Fld.PNL_CHSTAT_FILL : Fld := ⟨.PNL_CHSTAT, 0, 7, .ro, false, []⟩
def Fld.PNL_CHSTAT_CHOVF : Fld := ⟨.PNL_CHSTAT, 8, 1, .w1c, false, []⟩
def Fld.PNL_CHSTAT_TMO : Fld := ⟨.PNL_CHSTAT, 9, 1, .w1c, false, []⟩
def Fld.PNL_FONT_P14 : Fld := ⟨.PNL_FONT, 0, 16, .rw, false, []⟩
def Fld.PNL_FONT_P7 : Fld := ⟨.PNL_FONT, 16, 8, .rw, false, []⟩
def Fld.PNL_CALC_OFFEN : Fld := ⟨.PNL_CALC, 0, 1, .rw, false, []⟩
def Fld.PNL_CALC_ON : Fld := ⟨.PNL_CALC, 1, 1, .rw, false, []⟩
def Fld.PNL_CALC_STYLE : Fld := ⟨.PNL_CALC, 2, 1, .rw, false, []⟩
def Fld.PNL_CALC_ANG : Fld := ⟨.PNL_CALC, 3, 1, .rw, false, []⟩
def Fld.PNL_CALC_RM : Fld := ⟨.PNL_CALC, 4, 3, .rw, false, [(0, 4)]⟩
def Fld.PNL_CALC_DMODE : Fld := ⟨.PNL_CALC, 8, 2, .rw, false, []⟩
def Fld.PNL_CALC_DIGITS : Fld := ⟨.PNL_CALC, 10, 6, .rw, false, [(0, 33)]⟩
def Fld.PNL_CALC_AUTOOFF : Fld := ⟨.PNL_CALC, 16, 8, .rw, false, []⟩
def Fld.PNL_CALC_ACTIVE : Fld := ⟨.PNL_CALC, 24, 1, .ro, false, []⟩
def Fld.PNL_CSCAN_RATE : Fld := ⟨.PNL_CSCAN, 0, 7, .rw, false, [(4, 64)]⟩
def Fld.PNL_CKEY_KEY : Fld := ⟨.PNL_CKEY, 0, 8, .rw, false, []⟩
def Fld.PNL_CKEY_FUNC : Fld := ⟨.PNL_CKEY, 8, 6, .rw, false, [(0, 45)]⟩
def Fld.PNL_CKEY_VALID : Fld := ⟨.PNL_CKEY, 15, 1, .rw, false, []⟩
def Fld.OLK_CFG_RETRY : Fld := ⟨.OLK_CFG, 0, 3, .rw, false, []⟩
def Fld.OLK_CFG_TXEN : Fld := ⟨.OLK_CFG, 4, 1, .rw, false, []⟩
def Fld.OLK_CFG_TMO : Fld := ⟨.OLK_CFG, 16, 16, .rw, false, [(1, 65535)]⟩
def Fld.OLK_CFG2_LEAD : Fld := ⟨.OLK_CFG2, 0, 16, .rw, false, []⟩
def Fld.OLK_CFG2_PQ : Fld := ⟨.OLK_CFG2, 16, 16, .rw, false, []⟩
def Fld.OLK_STAT_ADDR : Fld := ⟨.OLK_STAT, 0, 3, .ro, false, []⟩
def Fld.OLK_STAT_MASTER : Fld := ⟨.OLK_STAT, 4, 3, .ro, false, []⟩
def Fld.OLK_STAT_N : Fld := ⟨.OLK_STAT, 8, 4, .ro, false, []⟩
def Fld.OLK_STAT_BROKEN : Fld := ⟨.OLK_STAT, 12, 1, .ro, false, []⟩
def Fld.OLK_STAT_ADDRDUP : Fld := ⟨.OLK_STAT, 13, 1, .ro, false, []⟩
def Fld.OLK_STAT_PRESENT : Fld := ⟨.OLK_STAT, 16, 8, .ro, false, []⟩
def Fld.OLK_SYNC_OFS : Fld := ⟨.OLK_SYNC, 0, 16, .ro, true, []⟩
def Fld.OLK_PCTL_POL : Fld := ⟨.OLK_PCTL, 0, 2, .rw, false, [(0, 2)]⟩
def Fld.OLK_PSTAT_STATE : Fld := ⟨.OLK_PSTAT, 0, 2, .ro, false, []⟩
def Fld.OLK_PSTAT_LOW : Fld := ⟨.OLK_PSTAT, 2, 1, .ro, false, []⟩
def Fld.OLK_PSTAT_PAUSED : Fld := ⟨.OLK_PSTAT, 3, 1, .ro, false, []⟩
def Fld.OLK_PCNT_RETRIES : Fld := ⟨.OLK_PCNT, 0, 16, .ro, false, []⟩
def Fld.OLK_PCNT_ERRS : Fld := ⟨.OLK_PCNT, 16, 16, .ro, false, []⟩
def Fld.OLK_PDLY_DLY : Fld := ⟨.OLK_PDLY, 0, 16, .ro, false, []⟩
def Fld.OLK_PAUTH_STN : Fld := ⟨.OLK_PAUTH, 0, 4, .rw, false, []⟩
def Fld.OLK_PAUTH_BRD : Fld := ⟨.OLK_PAUTH, 4, 1, .rw, false, []⟩
def Fld.OLK_OWSN_WSN : Fld := ⟨.OLK_OWSN, 0, 32, .ro, false, []⟩
def Fld.OLK_MIRROR_OUT : Fld := ⟨.OLK_MIRROR, 0, 8, .rw, false, []⟩
def Fld.OLK_MIRROR_IN : Fld := ⟨.OLK_MIRROR, 8, 3, .rw, false, []⟩
def Fld.OLK_MIRROR_INEN : Fld := ⟨.OLK_MIRROR, 11, 1, .rw, false, []⟩
def Fld.OLK_FRZ_OUT : Fld := ⟨.OLK_FRZ, 0, 1, .rw, false, []⟩
def Fld.OLK_INFO_SYNC : Fld := ⟨.OLK_INFO, 0, 8, .ro, false, []⟩
def Fld.OLK_INFO_FRZ : Fld := ⟨.OLK_INFO, 8, 8, .ro, false, []⟩
def Fld.OLK_INFO_MIR : Fld := ⟨.OLK_INFO, 16, 8, .ro, false, []⟩
def Fld.SER_MODE_PHY : Fld := ⟨.SER_MODE, 0, 2, .rw, false, [(0, 2)]⟩
def Fld.SER_MODE_FLOW : Fld := ⟨.SER_MODE, 2, 2, .rw, false, [(0, 2)]⟩
def Fld.SER_MODE_D7 : Fld := ⟨.SER_MODE, 4, 1, .rw, false, []⟩
def Fld.SER_MODE_PAR : Fld := ⟨.SER_MODE, 5, 2, .rw, false, [(0, 2)]⟩
def Fld.SER_MODE_STOP2 : Fld := ⟨.SER_MODE, 7, 1, .rw, false, []⟩
def Fld.SER_MODE_TERM : Fld := ⟨.SER_MODE, 8, 1, .rw, false, []⟩
def Fld.SER_MODE_TURN : Fld := ⟨.SER_MODE, 12, 4, .rw, false, [(1, 15)]⟩
def Fld.SER_BAUD_BAUD : Fld := ⟨.SER_BAUD, 0, 22, .rw, false, [(300, 3000000)]⟩
def Fld.SER_CTRL_ECHO : Fld := ⟨.SER_CTRL, 0, 1, .rw, false, []⟩
def Fld.SER_CTRL_ABBR : Fld := ⟨.SER_CTRL, 1, 1, .rw, false, []⟩
def Fld.SER_CTRL_RSPCRC : Fld := ⟨.SER_CTRL, 2, 1, .rw, false, []⟩
def Fld.SER_CTRL_ENABLE : Fld := ⟨.SER_CTRL, 3, 1, .rw, false, []⟩
def Fld.SER_ASYNC_CLS : Fld := ⟨.SER_ASYNC, 0, 4, .rw, false, []⟩
def Fld.SER_ASYNC_STN : Fld := ⟨.SER_ASYNC, 4, 4, .rw, false, []⟩
def Fld.SER_ASYNC_BRD : Fld := ⟨.SER_ASYNC, 8, 1, .rw, false, []⟩
def Fld.SER_STAT_TXSTOP : Fld := ⟨.SER_STAT, 0, 1, .ro, false, []⟩
def Fld.SER_STAT_RXSTOP : Fld := ⟨.SER_STAT, 1, 1, .ro, false, []⟩
def Fld.SER_STAT_RESCUE : Fld := ⟨.SER_STAT, 2, 1, .ro, false, []⟩
def Fld.SER_STAT_BRK : Fld := ⟨.SER_STAT, 8, 1, .w1c, false, []⟩
def Fld.SER_STAT_OVR : Fld := ⟨.SER_STAT, 9, 1, .w1c, false, []⟩
def Fld.SER_STAT_CHERR : Fld := ⟨.SER_STAT, 10, 1, .w1c, false, []⟩
def Fld.SER_CNT_REJ : Fld := ⟨.SER_CNT, 0, 16, .ro, false, []⟩
def Fld.SER_CNT_ALOST : Fld := ⟨.SER_CNT, 16, 16, .ro, false, []⟩
def Fld.SER_CLR_CLR_REJ : Fld := ⟨.SER_CLR, 0, 1, .wo, false, []⟩
def Fld.SER_CLR_CLR_ALOST : Fld := ⟨.SER_CLR, 1, 1, .wo, false, []⟩
def Fld.SER_TAPE_ENABLE : Fld := ⟨.SER_TAPE, 0, 1, .rw, false, []⟩
def Fld.SER_TAPE_CODE : Fld := ⟨.SER_TAPE, 1, 2, .rw, false, [(0, 2)]⟩
def Fld.SER_TAPE_EDGE : Fld := ⟨.SER_TAPE, 3, 1, .rw, false, []⟩
def Fld.SER_TAPE_PORT : Fld := ⟨.SER_TAPE, 4, 1, .rw, false, []⟩
def Fld.SER_TAPE_DET : Fld := ⟨.SER_TAPE, 5, 2, .ro, false, []⟩
def Fld.SER_TAPESTAT_CHARS : Fld := ⟨.SER_TAPESTAT, 0, 24, .ro, false, []⟩
def Fld.SER_TAPESTAT_RUN : Fld := ⟨.SER_TAPESTAT, 24, 1, .ro, false, []⟩
def Fld.SER_TAPESTAT_PERR : Fld := ⟨.SER_TAPESTAT, 25, 1, .w1c, false, []⟩
def Fld.SER_TAPESTAT_TOVR : Fld := ⟨.SER_TAPESTAT, 26, 1, .w1c, false, []⟩
def Fld.SER_TAPESTAT_CODEERR : Fld := ⟨.SER_TAPESTAT, 27, 1, .w1c, false, []⟩
def Fld.CFG_STAT_STATE : Fld := ⟨.CFG_STAT, 0, 2, .ro, false, []⟩
def Fld.CFG_STAT_SRC : Fld := ⟨.CFG_STAT, 2, 2, .ro, false, []⟩
def Fld.CFG_STAT_DEV : Fld := ⟨.CFG_STAT, 4, 1, .ro, false, []⟩
def Fld.CFG_STAT_FALLBACK : Fld := ⟨.CFG_STAT, 5, 1, .ro, false, []⟩
def Fld.CFG_STAT_SREASON : Fld := ⟨.CFG_STAT, 8, 4, .ro, false, []⟩
def Fld.CFG_STAT_DEVALLOW : Fld := ⟨.CFG_STAT, 12, 1, .ro, false, []⟩
def Fld.CFG_STAT_CFGSRC : Fld := ⟨.CFG_STAT, 16, 2, .ro, false, []⟩
def Fld.CFG_SERIAL_SERIAL : Fld := ⟨.CFG_SERIAL, 0, 32, .ro, false, []⟩
def Fld.CFG_POLICY_BOOT : Fld := ⟨.CFG_POLICY, 0, 1, .rw, false, []⟩
def Fld.CFG_POLICY_FALLBACK : Fld := ⟨.CFG_POLICY, 1, 1, .rw, false, []⟩
def Fld.CFG_POLICY_WAIT : Fld := ⟨.CFG_POLICY, 8, 8, .rw, false, [(1, 255)]⟩
def Fld.CFG_TRY_TRIED : Fld := ⟨.CFG_TRY, 0, 1, .ro, false, []⟩
def Fld.CFG_TRY_SRC : Fld := ⟨.CFG_TRY, 2, 2, .ro, false, []⟩
def Fld.CFG_TRY_REASON : Fld := ⟨.CFG_TRY, 4, 4, .ro, false, []⟩
def Fld.CFG_KEY_STATE : Fld := ⟨.CFG_KEY, 0, 2, .ro, false, []⟩
def Fld.CFG_KFP_FP : Fld := ⟨.CFG_KFP, 0, 32, .ro, false, []⟩
def Fld.CFG_STG_USED : Fld := ⟨.CFG_STG, 0, 17, .ro, false, []⟩
def Fld.CFG_STG_COUNT : Fld := ⟨.CFG_STG, 20, 4, .ro, false, []⟩
def Fld.CFG_STGSER_SERIAL : Fld := ⟨.CFG_STGSER, 0, 32, .ro, false, []⟩
def Fld.CFG_STGINF_RGNMASK : Fld := ⟨.CFG_STGINF, 0, 8, .ro, false, []⟩
def Fld.CFG_STGINF_LEN : Fld := ⟨.CFG_STGINF, 8, 13, .ro, false, []⟩
def Fld.CFG_STGINF_VALID : Fld := ⟨.CFG_STGINF, 31, 1, .ro, false, []⟩
def Fld.NOC_PCFG_KIND : Fld := ⟨.NOC_PCFG, 0, 8, .rw, false, []⟩
def Fld.NOC_PCFG_VC : Fld := ⟨.NOC_PCFG, 8, 2, .rw, false, []⟩
def Fld.NOC_PCFG_STN : Fld := ⟨.NOC_PCFG, 10, 4, .rw, false, []⟩
def Fld.NOC_PCFG_BRD : Fld := ⟨.NOC_PCFG, 14, 1, .rw, false, []⟩
def Fld.NOC_PCFG_TRACE : Fld := ⟨.NOC_PCFG, 15, 1, .rw, false, []⟩
def Fld.NOC_PCFG_SRC : Fld := ⟨.NOC_PCFG, 16, 4, .rw, false, []⟩
def Fld.NOC_PCFG_SRCANY : Fld := ⟨.NOC_PCFG, 20, 1, .rw, false, []⟩
def Fld.NOC_PCFG_DST : Fld := ⟨.NOC_PCFG, 24, 4, .rw, false, []⟩
def Fld.NOC_PCFG_DSTANY : Fld := ⟨.NOC_PCFG, 28, 1, .rw, false, []⟩
def Fld.NOC_PALO_LO : Fld := ⟨.NOC_PALO, 0, 32, .rw, false, []⟩
def Fld.NOC_PAHI_HI : Fld := ⟨.NOC_PAHI, 0, 32, .rw, false, []⟩
def Fld.NOC_PPKT_N : Fld := ⟨.NOC_PPKT, 0, 32, .ro, false, []⟩
def Fld.NOC_PFLIT_N : Fld := ⟨.NOC_PFLIT, 0, 32, .ro, false, []⟩
def Fld.NOC_PBLK_N : Fld := ⟨.NOC_PBLK, 0, 32, .ro, false, []⟩
def Fld.NOC_PCLR_CLR : Fld := ⟨.NOC_PCLR, 0, 1, .wo, false, []⟩
def Fld.OBS_STAT_FROZEN : Fld := ⟨.OBS_STAT, 0, 1, .ro, false, []⟩
def Fld.OBS_STAT_FCAUSE : Fld := ⟨.OBS_STAT, 1, 3, .ro, false, []⟩
def Fld.OBS_STAT_FWP : Fld := ⟨.OBS_STAT, 4, 3, .ro, false, []⟩
def Fld.OBS_FRZ_FREEZE : Fld := ⟨.OBS_FRZ, 0, 1, .wo, false, []⟩
def Fld.OBS_FRZ_RELEASE : Fld := ⟨.OBS_FRZ, 1, 1, .wo, false, []⟩
def Fld.OBS_FRZ_PINEN : Fld := ⟨.OBS_FRZ, 2, 1, .rw, false, []⟩
def Fld.OBS_FRZ_SNAP : Fld := ⟨.OBS_FRZ, 3, 1, .rw, false, []⟩
def Fld.OBS_FRZT_LO_F : Fld := ⟨.OBS_FRZT_LO, 0, 32, .ro, false, []⟩
def Fld.OBS_FRZT_HI_F : Fld := ⟨.OBS_FRZT_HI, 0, 32, .ro, false, []⟩
def Fld.OBS_CTAG_OPTAG : Fld := ⟨.OBS_CTAG, 0, 16, .rw, false, []⟩
def Fld.OBS_CTAG_EN : Fld := ⟨.OBS_CTAG, 16, 1, .rw, false, []⟩
def Fld.OBS_TRCFG_DIV : Fld := ⟨.OBS_TRCFG, 0, 2, .rw, false, []⟩
def Fld.OBS_TRCFG_PORTEN : Fld := ⟨.OBS_TRCFG, 2, 1, .rw, false, []⟩
def Fld.OBS_TRCFG_BUFEN : Fld := ⟨.OBS_TRCFG, 3, 1, .rw, false, []⟩
def Fld.OBS_TRCFG_POST : Fld := ⟨.OBS_TRCFG, 4, 9, .rw, false, []⟩
def Fld.OBS_TRCFG_STN : Fld := ⟨.OBS_TRCFG, 16, 4, .rw, false, []⟩
def Fld.OBS_TRCFG_BRD : Fld := ⟨.OBS_TRCFG, 20, 1, .rw, false, []⟩
def Fld.OBS_TRKIND_KINDS : Fld := ⟨.OBS_TRKIND, 0, 12, .rw, false, []⟩
def Fld.OBS_TRENG_LO_ENG : Fld := ⟨.OBS_TRENG_LO, 0, 32, .rw, false, []⟩
def Fld.OBS_TRENG_HI_ENG : Fld := ⟨.OBS_TRENG_HI, 0, 1, .rw, false, []⟩
def Fld.OBS_TRSTAT_FILL : Fld := ⟨.OBS_TRSTAT, 0, 10, .ro, false, []⟩
def Fld.OBS_TRSTAT_LOST : Fld := ⟨.OBS_TRSTAT, 16, 16, .ro, false, []⟩
def Fld.OBS_TRSET_AXES : Fld := ⟨.OBS_TRSET, 0, 12, .rw, false, []⟩
def Fld.OBS_TRMARK_V : Fld := ⟨.OBS_TRMARK, 0, 32, .wo, false, []⟩
def Fld.OBS_RSVOP_N : Fld := ⟨.OBS_RSVOP, 0, 32, .ro, false, []⟩
def Fld.OBS_WPLO_ADDR : Fld := ⟨.OBS_WPLO, 0, 32, .rw, false, []⟩
def Fld.OBS_WPHI_ADDR : Fld := ⟨.OBS_WPHI, 0, 32, .rw, false, []⟩
def Fld.OBS_WPCFG_RD : Fld := ⟨.OBS_WPCFG, 0, 1, .rw, false, []⟩
def Fld.OBS_WPCFG_WR : Fld := ⟨.OBS_WPCFG, 1, 1, .rw, false, []⟩
def Fld.OBS_WPCFG_STN : Fld := ⟨.OBS_WPCFG, 2, 4, .rw, false, []⟩
def Fld.OBS_WPCFG_BRD : Fld := ⟨.OBS_WPCFG, 6, 1, .rw, false, []⟩
def Fld.OBS_WPCFG_TRACE : Fld := ⟨.OBS_WPCFG, 9, 1, .rw, false, []⟩
def Fld.OBS_WPCFG_FREEZE : Fld := ⟨.OBS_WPCFG, 10, 1, .rw, false, []⟩
def Fld.OBS_WPCNT_COUNT : Fld := ⟨.OBS_WPCNT, 0, 32, .ro, false, []⟩
def Fld.OBS_WPT_LO_LASTT : Fld := ⟨.OBS_WPT_LO, 0, 32, .ro, false, []⟩
def Fld.OBS_WPT_HI_LASTT : Fld := ⟨.OBS_WPT_HI, 0, 32, .ro, false, []⟩
def Fld.OBS_SKCFG_KIND : Fld := ⟨.OBS_SKCFG, 0, 4, .rw, false, []⟩
def Fld.OBS_SKCFG_INST : Fld := ⟨.OBS_SKCFG, 8, 4, .rw, false, []⟩
def Fld.OBS_SKCFG_RUN : Fld := ⟨.OBS_SKCFG, 16, 1, .ro, false, []⟩
def Fld.OBS_SKN_N : Fld := ⟨.OBS_SKN, 0, 32, .ro, false, []⟩
def Fld.OBS_SKMIN_V : Fld := ⟨.OBS_SKMIN, 0, 32, .ro, true, []⟩
def Fld.OBS_SKMAX_V : Fld := ⟨.OBS_SKMAX, 0, 32, .ro, true, []⟩
def Fld.OBS_SKSUM_LO_SUM : Fld := ⟨.OBS_SKSUM_LO, 0, 32, .ro, false, []⟩
def Fld.OBS_SKSUM_HI_SUM : Fld := ⟨.OBS_SKSUM_HI, 0, 32, .ro, false, []⟩
def Fld.OBS_SKCRC_CRC : Fld := ⟨.OBS_SKCRC, 0, 32, .ro, false, []⟩
def Fld.OBS_SKINV_INV : Fld := ⟨.OBS_SKINV, 0, 32, .ro, false, []⟩
def Fld.OBS_SNAPT_LO_T : Fld := ⟨.OBS_SNAPT_LO, 0, 32, .ro, false, []⟩
def Fld.OBS_SNAPT_HI_T : Fld := ⟨.OBS_SNAPT_HI, 0, 32, .ro, false, []⟩
def Fld.OBS_EBUSY_LO_BUSY : Fld := ⟨.OBS_EBUSY_LO, 0, 32, .ro, false, []⟩
def Fld.OBS_EBUSY_HI_BUSY : Fld := ⟨.OBS_EBUSY_HI, 0, 32, .ro, false, []⟩
def Fld.OBS_EIDLE_LO_IDLE : Fld := ⟨.OBS_EIDLE_LO, 0, 32, .ro, false, []⟩
def Fld.OBS_EIDLE_HI_IDLE : Fld := ⟨.OBS_EIDLE_HI, 0, 32, .ro, false, []⟩
def Fld.OBS_ESTALL_LO_STALL : Fld := ⟨.OBS_ESTALL_LO, 0, 32, .ro, false, []⟩
def Fld.OBS_ESTALL_HI_STALL : Fld := ⟨.OBS_ESTALL_HI, 0, 32, .ro, false, []⟩
def Fld.OBS_ENOW_STATE : Fld := ⟨.OBS_ENOW, 0, 2, .ro, false, []⟩
def Fld.OBS_ENOW_REASON : Fld := ⟨.OBS_ENOW, 4, 3, .ro, false, []⟩
def Fld.OBS_ENOW_ON : Fld := ⟨.OBS_ENOW, 16, 16, .ro, false, []⟩

end Sys2Proof

namespace Sys2Proof.Machine
open Sys2Proof

/-- The fields of a register, each with its name in the field table of the owning chapter. -/
def regFields : Reg → List (String × Fld)
  | .SYS_CFG => [("SPARE", .SYS_CFG_SPARE)]
  | .SYS_ISA => [("MINOR", .SYS_ISA_MINOR), ("MAJOR", .SYS_ISA_MAJOR)]
  | .SYS_CASN => [("STN", .SYS_CASN_STN)]
  | .SYS_CCTL =>
      [("RUN", .SYS_CCTL_RUN), ("TICK", .SYS_CCTL_TICK), ("IOSTN", .SYS_CCTL_IOSTN), ("SUPT", .SYS_CCTL_SUPT)]
  | .SYS_CSTAT =>
      [("STATE", .SYS_CSTAT_STATE), ("ILV", .SYS_CSTAT_ILV), ("TASK", .SYS_CSTAT_TASK),
      ("ORIGIN", .SYS_CSTAT_ORIGIN)]
  | .SYS_CENTRY => [("ENTRY", .SYS_CENTRY_ENTRY), ("VBASE", .SYS_CENTRY_VBASE)]
  | .SYS_CBANK =>
      [("P0", .SYS_CBANK_P0), ("P1", .SYS_CBANK_P1), ("P2", .SYS_CBANK_P2), ("P3", .SYS_CBANK_P3)]
  | .SYS_CBSEL => [("FLASH", .SYS_CBSEL_FLASH)]
  | .SYS_CWSN => [("WC", .SYS_CWSN_WC)]
  | .SYS_CPC => [("PC", .SYS_CPC_PC), ("SP", .SYS_CPC_SP)]
  | .SYS_CCHK => [("CHKN", .SYS_CCHK_CHKN)]
  | .SYS_SPG =>
      [("OWN0", .SYS_SPG_OWN0), ("OWN1", .SYS_SPG_OWN1), ("OWN2", .SYS_SPG_OWN2), ("OWN3", .SYS_SPG_OWN3),
      ("OWN4", .SYS_SPG_OWN4), ("OWN5", .SYS_SPG_OWN5), ("OWN6", .SYS_SPG_OWN6), ("OWN7", .SYS_SPG_OWN7)]
  | .SYS_SRAM =>
      [("FAIL0", .SYS_SRAM_FAIL0), ("FAIL1", .SYS_SRAM_FAIL1), ("RELOC", .SYS_SRAM_RELOC), ("LOST", .SYS_SRAM_LOST)]
  | .SYS_SECC => [("CORR", .SYS_SECC_CORR), ("UNCORR", .SYS_SECC_UNCORR)]
  | .SYS_SADDR => [("ADDR", .SYS_SADDR_ADDR)]
  | .SYS_SCLR => [("CLR", .SYS_SCLR_CLR)]
  | .PWR_STAT =>
      [("VINOK", .PWR_STAT_VINOK), ("VBATOK", .PWR_STAT_VBATOK), ("VBATLOW", .PWR_STAT_VBATLOW),
      ("HOLDOK", .PWR_STAT_HOLDOK), ("LAST", .PWR_STAT_LAST), ("CAUSE", .PWR_STAT_CAUSE)]
  | .PWR_VIN => [("V", .PWR_VIN_V)]
  | .PWR_VBAT => [("V", .PWR_VBAT_V)]
  | .PWR_VHOLD => [("V", .PWR_VHOLD_V)]
  | .PWR_HOLDC => [("C", .PWR_HOLDC_C), ("HOLDMIN", .PWR_HOLDC_HOLDMIN)]
  | .PWR_DOM => [("ON", .PWR_DOM_ON), ("OBSEN", .PWR_DOM_OBSEN)]
  | .PWR_WDT => [("EN", .PWR_WDT_EN), ("PER", .PWR_WDT_PER), ("KICK", .PWR_WDT_KICK)]
  | .PWR_WDTLEFT => [("MS", .PWR_WDTLEFT_MS)]
  | .PWR_IDLE => [("LEVEL", .PWR_IDLE_LEVEL), ("DLY", .PWR_IDLE_DLY), ("NOW", .PWR_IDLE_NOW)]
  | .PWR_RCNT => [("BROWNOUT", .PWR_RCNT_BROWNOUT), ("WARM", .PWR_RCNT_WARM)]
  | .LAT_CTRL => [("RATE", .LAT_CTRL_RATE), ("NEXT", .LAT_CTRL_NEXT), ("PEND", .LAT_CTRL_PEND)]
  | .LAT_VPOL => [("POL", .LAT_VPOL_POL), ("SLACK_TGT", .LAT_VPOL_SLACK_TGT), ("VFIX", .LAT_VPOL_VFIX)]
  | .LAT_VCORE => [("VCODE", .LAT_VCORE_VCODE), ("ATMAX", .LAT_VCORE_ATMAX), ("ATMIN", .LAT_VCORE_ATMIN)]
  | .LAT_SLACK => [("LAST", .LAT_SLACK_LAST), ("WMIN", .LAT_SLACK_WMIN)]
  | .LAT_SLACKLOW => [("LOW", .LAT_SLACKLOW_LOW)]
  | .LAT_STAGE => [("PS", .LAT_STAGE_PS)]
  | .LAT_CLR => [("CLR_LOW", .LAT_CLR_CLR_LOW), ("CLR_OVR", .LAT_CLR_CLR_OVR)]
  | .LAT_OVR => [("COUNT", .LAT_OVR_COUNT), ("CONSEC", .LAT_OVR_CONSEC)]
  | .JRN_STAT =>
      [("AFAIL", .JRN_STAT_AFAIL), ("BFAIL", .JRN_STAT_BFAIL), ("LOST", .JRN_STAT_LOST), ("FILL", .JRN_STAT_FILL)]
  | .JRN_LSN => [("LSN", .JRN_LSN_LSN)]
  | .JRN_QUEUE => [("Q", .JRN_QUEUE_Q)]
  | .JRN_LIVE => [("BYTES", .JRN_LIVE_BYTES)]
  | .JRN_WEAR => [("WEAR", .JRN_WEAR_WEAR)]
  | .JRN_CTIME => [("NS", .JRN_CTIME_NS)]
  | .JRN_CFG => [("FILLWARN", .JRN_CFG_FILLWARN)]
  | .JRN_CLR => [("CLR", .JRN_CLR_CLR)]
  | .JRN_REPAIR => [("N", .JRN_REPAIR_N)]
  | .FLS_STAT =>
      [("OP", .FLS_STAT_OP), ("SUSP", .FLS_STAT_SUSP), ("XSUSP", .FLS_STAT_XSUSP), ("SECT", .FLS_STAT_SECT),
      ("FAIL0", .FLS_STAT_FAIL0), ("FAIL1", .FLS_STAT_FAIL1), ("QUAR", .FLS_STAT_QUAR)]
  | .FLS_CTL => [("SUSPEND", .FLS_CTL_SUSPEND), ("RESUME", .FLS_CTL_RESUME)]
  | .FLS_ARCH => [("LIVE", .FLS_ARCH_LIVE)]
  | .FLS_POISON => [("ADDR", .FLS_POISON_ADDR)]
  | .FLS_SECT =>
      [("STATE0", .FLS_SECT_STATE0), ("STATE1", .FLS_SECT_STATE1), ("STATE2", .FLS_SECT_STATE2),
      ("STATE3", .FLS_SECT_STATE3), ("STATE4", .FLS_SECT_STATE4), ("STATE5", .FLS_SECT_STATE5),
      ("STATE6", .FLS_SECT_STATE6), ("STATE7", .FLS_SECT_STATE7), ("STATE8", .FLS_SECT_STATE8),
      ("STATE9", .FLS_SECT_STATE9), ("STATE10", .FLS_SECT_STATE10), ("STATE11", .FLS_SECT_STATE11),
      ("STATE12", .FLS_SECT_STATE12), ("STATE13", .FLS_SECT_STATE13), ("STATE14", .FLS_SECT_STATE14),
      ("STATE15", .FLS_SECT_STATE15)]
  | .FLS_ECNT => [("ERASES", .FLS_ECNT_ERASES)]
  | .RING_CFG => [("DEPTH", .RING_CFG_DEPTH), ("BANK", .RING_CFG_BANK)]
  | .RING_PTR => [("PUT", .RING_PTR_PUT), ("GET", .RING_PTR_GET)]
  | .RING_STAT => [("HWM", .RING_STAT_HWM), ("FULL", .RING_STAT_FULL)]
  | .RING_CLR => [("CLR", .RING_CLR_CLR)]
  | .EVT_COAL => [("W0", .EVT_COAL_W0), ("W1", .EVT_COAL_W1), ("W2", .EVT_COAL_W2), ("W3", .EVT_COAL_W3)]
  | .EVT_PINEN => [("CLS", .EVT_PINEN_CLS), ("STN", .EVT_PINEN_STN), ("BRD", .EVT_PINEN_BRD)]
  | .EVT_SEQ => [("SEQ", .EVT_SEQ_SEQ)]
  | .EVT_ACK => [("SEQ", .EVT_ACK_SEQ)]
  | .EVT_LOST => [("LOST", .EVT_LOST_LOST)]
  | .EVT_IMASK => [("MASK", .EVT_IMASK_MASK)]
  | .EVT_SEEN => [("SEEN", .EVT_SEEN_SEEN)]
  | .TC_NOW_LO => [("NOW", .TC_NOW_LO_NOW)]
  | .TC_NOW_HI => [("NOW", .TC_NOW_HI_NOW)]
  | .TC_TICK_LO => [("TICK", .TC_TICK_LO_TICK)]
  | .TC_TICK_HI => [("TICK", .TC_TICK_HI_TICK)]
  | .TC_STATUS =>
      [("REFOK", .TC_STATUS_REFOK), ("REFSRC", .TC_STATUS_REFSRC), ("COARSE", .TC_STATUS_COARSE),
      ("SYNCED", .TC_STATUS_SYNCED), ("REFALT", .TC_STATUS_REFALT), ("REFLOST", .TC_STATUS_REFLOST)]
  | .TC_REFSEL => [("SEL", .TC_REFSEL_SEL)]
  | .DEC_STAT => [("WIN", .DEC_STAT_WIN), ("HWM", .DEC_STAT_HWM)]
  | .DEC_ISSUED => [("N", .DEC_ISSUED_N)]
  | .DEC_CHKS => [("RETRY", .DEC_CHKS_RETRY), ("CHKFAIL", .DEC_CHKS_CHKFAIL)]
  | .DEC_CLR => [("CLR", .DEC_CLR_CLR)]
  | .DEC_SFLAGS => [("FLAGS", .DEC_SFLAGS_FLAGS)]
  | .DEC_OUT => [("OUT", .DEC_OUT_OUT)]
  | .MOT_STATE =>
      [("STATE", .MOT_STATE_STATE), ("DRVON", .MOT_STATE_DRVON), ("NHELD", .MOT_STATE_NHELD),
      ("WHY", .MOT_STATE_WHY)]
  | .MOT_SCFG => [("BLEND", .MOT_SCFG_BLEND), ("ENDLY", .MOT_SCFG_ENDLY)]
  | .MOT_HOLDT => [("HOLDT", .MOT_HOLDT_HOLDT)]
  | .MOT_RTOL => [("RTOL", .MOT_RTOL_RTOL)]
  | .MOT_APPF => [("APPF", .MOT_APPF_APPF)]
  | .MOT_CDV => [("CDV", .MOT_CDV_CDV)]
  | .MOT_OVR =>
      [("FEED", .MOT_OVR_FEED), ("RAPID", .MOT_OVR_RAPID), ("SPIN", .MOT_OVR_SPIN), ("SRC", .MOT_OVR_SRC)]
  | .MOT_LOOK => [("WIN", .MOT_LOOK_WIN), ("DRY", .MOT_LOOK_DRY)]
  | .MOT_VMAX => [("VMAX", .MOT_VMAX_VMAX)]
  | .MOT_VRAP => [("VRAPID", .MOT_VRAP_VRAPID)]
  | .MOT_AMAX => [("AMAX", .MOT_AMAX_AMAX)]
  | .MOT_JMAX => [("JMAX", .MOT_JMAX_JMAX)]
  | .MOT_JOGF => [("JOGF", .MOT_JOGF_JOGF)]
  | .MOT_SLO => [("LO", .MOT_SLO_LO)]
  | .MOT_SHI => [("HI", .MOT_SHI_HI)]
  | .MOT_AXCTL =>
      [("SLEN", .MOT_AXCTL_SLEN), ("REFD", .MOT_AXCTL_REFD), ("HW", .MOT_AXCTL_HW), ("MULT", .MOT_AXCTL_MULT)]
  | .MOT_PGM =>
      [("BASE", .MOT_PGM_BASE), ("QLIN", .MOT_PGM_QLIN), ("QROT", .MOT_PGM_QROT), ("NODP", .MOT_PGM_NODP),
      ("SPAX", .MOT_PGM_SPAX), ("XCORE", .MOT_PGM_XCORE), ("ARCTOL", .MOT_PGM_ARCTOL), ("XTMO", .MOT_PGM_XTMO)]
  | .MOT_AXL => [("LETTER", .MOT_AXL_LETTER), ("ROT", .MOT_AXL_ROT), ("ROLL", .MOT_AXL_ROLL)]
  | .MOT_MFT => [("MFT", .MOT_MFT_MFT)]
  | .MOT_HS =>
      [("MSTB", .MOT_HS_MSTB), ("TSTB", .MOT_HS_TSTB), ("XPEND", .MOT_HS_XPEND), ("XERR", .MOT_HS_XERR),
      ("CODE", .MOT_HS_CODE)]
  | .MOT_XSLOT => [("ADDR", .MOT_XSLOT_ADDR)]
  | .MOT_XWSN => [("WSN", .MOT_XWSN_WSN)]
  | .MOT_XCTL => [("OP", .MOT_XCTL_OP), ("ERR", .MOT_XCTL_ERR)]
  | .MOT_CODE =>
      [("CODE", .MOT_CODE_CODE), ("GM", .MOT_CODE_GM), ("ACT", .MOT_CODE_ACT), ("NOWAIT", .MOT_CODE_NOWAIT)]
  | .SRV_MODE =>
      [("MODE", .SRV_MODE_MODE), ("FBPOL", .SRV_MODE_FBPOL), ("OPOL", .SRV_MODE_OPOL), ("DAC", .SRV_MODE_DAC)]
  | .SRV_FB =>
      [("KIND", .SRV_FB_KIND), ("SRC", .SRV_FB_SRC), ("EXC", .SRV_FB_EXC), ("KEEPREF", .SRV_FB_KEEPREF),
      ("RESPOL", .SRV_FB_RESPOL), ("KIND2", .SRV_FB_KIND2), ("SRC2", .SRV_FB_SRC2), ("EXC2", .SRV_FB_EXC2)]
  | .SRV_FBNUM => [("NUM", .SRV_FBNUM_NUM)]
  | .SRV_FBDEN => [("DEN", .SRV_FBDEN_DEN)]
  | .SRV_KP => [("KP", .SRV_KP_KP)]
  | .SRV_KI => [("KI", .SRV_KI_KI)]
  | .SRV_KVF => [("KVF", .SRV_KVF_KVF)]
  | .SRV_KAF => [("KAF", .SRV_KAF_KAF)]
  | .SRV_VFS => [("VFS", .SRV_VFS_VFS)]
  | .SRV_OUTLIM => [("OUTLIM", .SRV_OUTLIM_OUTLIM)]
  | .SRV_OUTOFS => [("OUTOFS", .SRV_OUTOFS_OUTOFS)]
  | .SRV_KVP => [("KVP", .SRV_KVP_KVP)]
  | .SRV_KVI => [("KVI", .SRV_KVI_KVI)]
  | .SRV_TACH => [("CH", .SRV_TACH_CH), ("FAST", .SRV_TACH_FAST), ("EN", .SRV_TACH_EN)]
  | .SRV_TACHFS => [("TACHFS", .SRV_TACHFS_TACHFS)]
  | .SRV_TACHTOL => [("TOL", .SRV_TACHTOL_TOL)]
  | .SRV_FEWARN => [("FEWARN", .SRV_FEWARN_FEWARN)]
  | .SRV_FETRIP => [("FETRIP", .SRV_FETRIP_FETRIP)]
  | .SRV_APPLY => [("APPLY", .SRV_APPLY_APPLY)]
  | .SRV_STAT =>
      [("PEND", .SRV_STAT_PEND), ("SAT", .SRV_STAT_SAT), ("FB2ACT", .SRV_STAT_FB2ACT),
      ("REFRST", .SRV_STAT_REFRST), ("LOSS", .SRV_STAT_LOSS)]
  | .SRV_FE => [("FE", .SRV_FE_FE)]
  | .SRV_RESNOM => [("NOM", .SRV_RESNOM_NOM)]
  | .SRV_COMP =>
      [("SCEN", .SRV_COMP_SCEN), ("BKEN", .SRV_COMP_BKEN), ("BKLT", .SRV_COMP_BKLT), ("N", .SRV_COMP_N)]
  | .SRV_BKL => [("BKL", .SRV_BKL_BKL)]
  | .SRV_CSTART => [("START", .SRV_CSTART_START)]
  | .SRV_CSTEP => [("STEP", .SRV_CSTEP_STEP)]
  | .SRV_CPT => [("V", .SRV_CPT_V)]
  | .ENC_CFG =>
      [("DECODE", .ENC_CFG_DECODE), ("DIR", .ENC_CFG_DIR), ("FILT", .ENC_CFG_FILT), ("ZEN", .ENC_CFG_ZEN),
      ("ZARM", .ENC_CFG_ZARM), ("POL", .ENC_CFG_POL)]
  | .ENC_CNT => [("CNT", .ENC_CNT_CNT)]
  | .ENC_ZCAP => [("ZCAP", .ENC_ZCAP_ZCAP)]
  | .ENC_STAT =>
      [("LB", .ENC_STAT_LB), ("AMPL", .ENC_STAT_AMPL), ("ZSEEN", .ENC_STAT_ZSEEN), ("LBSEEN", .ENC_STAT_LBSEEN),
      ("CNTERR", .ENC_STAT_CNTERR)]
  | .ENC_ERRS => [("ERRS", .ENC_ERRS_ERRS)]
  | .ENC_HWCFG =>
      [("STN", .ENC_HWCFG_STN), ("CPD", .ENC_HWCFG_CPD), ("DIR", .ENC_HWCFG_DIR), ("LVL", .ENC_HWCFG_LVL),
      ("FILT", .ENC_HWCFG_FILT)]
  | .ENC_HWCNT => [("DET", .ENC_HWCNT_DET)]
  | .ENC_HWSTAT => [("ERRS", .ENC_HWSTAT_ERRS), ("ERRSEEN", .ENC_HWSTAT_ERRSEEN)]
  | .REB_CMODE =>
      [("MODE", .REB_CMODE_MODE), ("SUB", .REB_CMODE_SUB), ("TRIP", .REB_CMODE_TRIP), ("TMASK", .REB_CMODE_TMASK)]
  | .REB_CPAR => [("PAR", .REB_CPAR_PAR)]
  | .REB_CHOFF => [("HMODE", .REB_CHOFF_HMODE), ("HCONST", .REB_CHOFF_HCONST)]
  | .REB_CSTAT => [("LOUT", .REB_CSTAT_LOUT), ("SAT", .REB_CSTAT_SAT), ("FROZEN", .REB_CSTAT_FROZEN)]
  | .REB_RC => [("LEVEL", .REB_RC_LEVEL)]
  | .REB_RGN => [("STN", .REB_RGN_STN), ("SETTLE", .REB_RGN_SETTLE), ("STATE", .REB_RGN_STATE)]
  | .REB_RSER => [("IMG", .REB_RSER_IMG)]
  | .REB_RLOAD => [("LOADS", .REB_RLOAD_LOADS), ("VFAIL", .REB_RLOAD_VFAIL)]
  | .REB_EPOCH_LO => [("E", .REB_EPOCH_LO_E)]
  | .REB_EPOCH_HI => [("E", .REB_EPOCH_HI_E)]
  | .REB_XPT => [("SRC", .REB_XPT_SRC), ("LIVE", .REB_XPT_LIVE), ("LOCK", .REB_XPT_LOCK)]
  | .LGF_CLK => [("SRC", .LGF_CLK_SRC), ("DIV", .LGF_CLK_DIV)]
  | .LGF_HMODE => [("FAB", .LGF_HMODE_FAB)]
  | .LGF_HVAL => [("FAB", .LGF_HVAL_FAB)]
  | .LGF_HMODE2 => [("LINK", .LGF_HMODE2_LINK), ("CTL", .LGF_HMODE2_CTL)]
  | .LGF_HVAL2 => [("VAL", .LGF_HVAL2_VAL)]
  | .LGF_OUT => [("FAB", .LGF_OUT_FAB)]
  | .LGF_OUT2 => [("LINK", .LGF_OUT2_LINK), ("CTL", .LGF_OUT2_CTL)]
  | .LGF_CRC => [("CRC", .LGF_CRC_CRC)]
  | .ADC_PCFG => [("STN", .ADC_PCFG_STN)]
  | .ADC_PDATA => [("VALUE", .ADC_PDATA_VALUE)]
  | .ADC_PSTAT =>
      [("VALID", .ADC_PSTAT_VALID), ("CALIP", .ADC_PSTAT_CALIP), ("FAILED", .ADC_PSTAT_FAILED),
      ("CLIP", .ADC_PSTAT_CLIP), ("STALE", .ADC_PSTAT_STALE), ("OVR", .ADC_PSTAT_OVR)]
  | .ADC_PCALT => [("T", .ADC_PCALT_T)]
  | .ADC_FCFG => [("STN", .ADC_FCFG_STN)]
  | .ADC_FDATA => [("VALUE", .ADC_FDATA_VALUE)]
  | .ADC_FSTAT =>
      [("VALID", .ADC_FSTAT_VALID), ("CALIP", .ADC_FSTAT_CALIP), ("FAILED", .ADC_FSTAT_FAILED),
      ("CLIP", .ADC_FSTAT_CLIP), ("STALE", .ADC_FSTAT_STALE), ("OVR", .ADC_FSTAT_OVR)]
  | .ADC_FCALT => [("T", .ADC_FCALT_T)]
  | .ADC_REF =>
      [("ACT", .ADC_REF_ACT), ("POL", .ADC_REF_POL), ("FAILA", .ADC_REF_FAILA), ("FAILB", .ADC_REF_FAILB),
      ("UNDEC", .ADC_REF_UNDEC)]
  | .ADC_REFDIFF => [("DIFF", .ADC_REFDIFF_DIFF)]
  | .ADC_REFCHK => [("A", .ADC_REFCHK_A), ("B", .ADC_REFCHK_B)]
  | .ADC_TEMP => [("T", .ADC_TEMP_T)]
  | .ADC_CALCFG => [("CALDT", .ADC_CALCFG_CALDT)]
  | .FCH_CFG =>
      [("MODE", .FCH_CFG_MODE), ("PRESET", .FCH_CFG_PRESET), ("ORD", .FCH_CFG_ORD), ("FIRDEC", .FCH_CFG_FIRDEC),
      ("CICDEC", .FCH_CFG_CICDEC)]
  | .FCH_PHD => [("PHINT", .FCH_PHD_PHINT), ("PHFRAC", .FCH_PHD_PHFRAC)]
  | .FCH_SF => [("N", .FCH_SF_N)]
  | .FCH_TAPS =>
      [("TAPSA", .FCH_TAPS_TAPSA), ("TAPSB", .FCH_TAPS_TAPSB), ("PEND", .FCH_TAPS_PEND), ("ACTB", .FCH_TAPS_ACTB)]
  | .FCH_SWAP => [("SWAP", .FCH_SWAP_SWAP)]
  | .FCH_DLY => [("DLY", .FCH_DLY_DLY)]
  | .FCH_RATE => [("RATE", .FCH_RATE_RATE)]
  | .FCH_RES => [("TRK", .FCH_RES_TRK), ("EXC", .FCH_RES_EXC), ("PHADJ", .FCH_RES_PHADJ)]
  | .FCH_ANG => [("ANGLE", .FCH_ANG_ANGLE)]
  | .FCH_RAMP => [("A", .FCH_RAMP_A)]
  | .FCH_PLOAD => [("LOAD", .FCH_PLOAD_LOAD)]
  | .FCH_COEFA => [("C", .FCH_COEFA_C)]
  | .FCH_COEFB => [("C", .FCH_COEFB_C)]
  | .DAC_CFG =>
      [("STN", .DAC_CFG_STN), ("SPAN", .DAC_CFG_SPAN), ("LDG", .DAC_CFG_LDG), ("DGEN", .DAC_CFG_DGEN),
      ("POL", .DAC_CFG_POL)]
  | .DAC_HOLD => [("CODE", .DAC_HOLD_CODE), ("SAFE", .DAC_HOLD_SAFE)]
  | .DAC_OUT => [("CODE", .DAC_OUT_CODE), ("SAFE", .DAC_OUT_SAFE)]
  | .DAC_MAJOR => [("MAJOR", .DAC_MAJOR_MAJOR)]
  | .DAC_RTGT => [("CODE", .DAC_RTGT_CODE), ("ACTIVE", .DAC_RTGT_ACTIVE)]
  | .DAC_RTCK => [("TICKS", .DAC_RTCK_TICKS)]
  | .DAC_STAT =>
      [("SHORT", .DAC_STAT_SHORT), ("COMPL", .DAC_STAT_COMPL), ("OPEN", .DAC_STAT_OPEN),
      ("CLAMP", .DAC_STAT_CLAMP), ("DGH", .DAC_STAT_DGH), ("SPANCH", .DAC_STAT_SPANCH),
      ("LATCHOFF", .DAC_STAT_LATCHOFF), ("RETRY", .DAC_STAT_RETRY), ("SHORTSEEN", .DAC_STAT_SHORTSEEN),
      ("COMPLSEEN", .DAC_STAT_COMPLSEEN), ("OPENSEEN", .DAC_STAT_OPENSEEN)]
  | .DAC_LDG => [("TRIG", .DAC_LDG_TRIG), ("LOADS", .DAC_LDG_LOADS)]
  | .DAC_LOAD => [("G", .DAC_LOAD_G)]
  | .EXC_CFG => [("STN", .EXC_CFG_STN)]
  | .EXC_INC => [("INC", .EXC_INC_INC)]
  | .EXC_AMP => [("AMP", .EXC_AMP_AMP)]
  | .EXC_PHASE => [("PHASE", .EXC_PHASE_PHASE)]
  | .EXC_RATE => [("AR", .EXC_RATE_AR), ("FR", .EXC_RATE_FR)]
  | .EXC_NOW => [("AMP", .EXC_NOW_AMP)]
  | .EXC_NINC => [("INC", .EXC_NINC_INC)]
  | .EXC_STAT =>
      [("RAMPING", .EXC_STAT_RAMPING), ("SHORT", .EXC_STAT_SHORT), ("OFF", .EXC_STAT_OFF),
      ("TPEND", .EXC_STAT_TPEND), ("BANK", .EXC_STAT_BANK), ("SHORTSEEN", .EXC_STAT_SHORTSEEN)]
  | .EXC_TSWAP => [("SWAP", .EXC_TSWAP_SWAP), ("SINE", .EXC_TSWAP_SINE)]
  | .EXC_TAB => [("V", .EXC_TAB_V)]
  | .FIO_CFG =>
      [("STN", .FIO_CFG_STN), ("FN", .FIO_CFG_FN), ("POL", .FIO_CFG_POL), ("FILT", .FIO_CFG_FILT),
      ("FAILV", .FIO_CFG_FAILV), ("TRIPOFF", .FIO_CFG_TRIPOFF), ("WB", .FIO_CFG_WB), ("LIM", .FIO_CFG_LIM),
      ("ENAX", .FIO_CFG_ENAX)]
  | .FIO_STAT =>
      [("COND", .FIO_STAT_COND), ("FAILED", .FIO_STAT_FAILED), ("LATCHOFF", .FIO_STAT_LATCHOFF),
      ("RETRY", .FIO_STAT_RETRY), ("FORCED", .FIO_STAT_FORCED), ("SEEN", .FIO_STAT_SEEN)]
  | .FIO_CUR => [("IOUT", .FIO_CUR_IOUT), ("IIN", .FIO_CUR_IIN)]
  | .FIO_CLR => [("CLEAR", .FIO_CLR_CLEAR)]
  | .FIO_GSTAT => [("V", .FIO_GSTAT_V), ("STATE", .FIO_GSTAT_STATE), ("LOSSEEN", .FIO_GSTAT_LOSSEEN)]
  | .FIO_GCUR => [("I", .FIO_GCUR_I)]
  | .FIO_ACFG =>
      [("POL", .FIO_ACFG_POL), ("OWEN", .FIO_ACFG_OWEN), ("UNI", .FIO_ACFG_UNI), ("TPER", .FIO_ACFG_TPER)]
  | .FIO_ASTAT => [("COND", .FIO_ASTAT_COND), ("SEEN", .FIO_ASTAT_SEEN)]
  | .FIO_IN_LO => [("IN", .FIO_IN_LO_IN)]
  | .FIO_IN_HI => [("IN", .FIO_IN_HI_IN)]
  | .FIO_DRV_LO => [("DRV", .FIO_DRV_LO_DRV)]
  | .FIO_DRV_HI => [("DRV", .FIO_DRV_HI_DRV)]
  | .PNL_SCAN =>
      [("NCOL", .PNL_SCAN_NCOL), ("NROW", .PNL_SCAN_NROW), ("COLT", .PNL_SCAN_COLT), ("DEB", .PNL_SCAN_DEB),
      ("NKEY", .PNL_SCAN_NKEY)]
  | .PNL_RPT => [("RPTD", .PNL_RPT_RPTD), ("RATE", .PNL_RPT_RATE), ("LONGT", .PNL_RPT_LONGT)]
  | .PNL_OWN => [("KSTN", .PNL_OWN_KSTN), ("DSTN", .PNL_OWN_DSTN)]
  | .PNL_COMBO => [("KA", .PNL_COMBO_KA), ("KB", .PNL_COMBO_KB), ("T", .PNL_COMBO_T), ("EN", .PNL_COMBO_EN)]
  | .PNL_KACT =>
      [("KEY", .PNL_KACT_KEY), ("EDGE", .PNL_KACT_EDGE), ("ACT", .PNL_KACT_ACT), ("STN", .PNL_KACT_STN)]
  | .PNL_KRPT => [("RPT", .PNL_KRPT_RPT)]
  | .PNL_KQ => [("KEY", .PNL_KQ_KEY), ("KIND", .PNL_KQ_KIND), ("VALID", .PNL_KQ_VALID)]
  | .PNL_KSTAT =>
      [("QCOUNT", .PNL_KSTAT_QCOUNT), ("QOVR", .PNL_KSTAT_QOVR), ("C0ACT", .PNL_KSTAT_C0ACT),
      ("C1ACT", .PNL_KSTAT_C1ACT)]
  | .PNL_DCFG =>
      [("NGRID", .PNL_DCFG_NGRID), ("FONT", .PNL_DCFG_FONT), ("REFR", .PNL_DCFG_REFR), ("GAP", .PNL_DCFG_GAP),
      ("SEGPOL", .PNL_DCFG_SEGPOL), ("GRDPOL", .PNL_DCFG_GRDPOL)]
  | .PNL_DBRT => [("BRT", .PNL_DBRT_BRT)]
  | .PNL_DSTAT => [("FAULTSH", .PNL_DSTAT_FAULTSH)]
  | .PNL_DRAW => [("SEG", .PNL_DRAW_SEG)]
  | .PNL_DFLT => [("SEG", .PNL_DFLT_SEG)]
  | .PNL_CHCFG =>
      [("CHMODE", .PNL_CHCFG_CHMODE), ("EW", .PNL_CHCFG_EW), ("DLY", .PNL_CHCFG_DLY), ("LONGD", .PNL_CHCFG_LONGD)]
  | .PNL_CHQ => [("BYTE", .PNL_CHQ_BYTE), ("RS", .PNL_CHQ_RS)]
  | .PNL_CHSTAT => [("FILL", .PNL_CHSTAT_FILL), ("CHOVF", .PNL_CHSTAT_CHOVF), ("TMO", .PNL_CHSTAT_TMO)]
  | .PNL_FONT => [("P14", .PNL_FONT_P14), ("P7", .PNL_FONT_P7)]
  | .PNL_CALC =>
      [("OFFEN", .PNL_CALC_OFFEN), ("ON", .PNL_CALC_ON), ("STYLE", .PNL_CALC_STYLE), ("ANG", .PNL_CALC_ANG),
      ("RM", .PNL_CALC_RM), ("DMODE", .PNL_CALC_DMODE), ("DIGITS", .PNL_CALC_DIGITS),
      ("AUTOOFF", .PNL_CALC_AUTOOFF), ("ACTIVE", .PNL_CALC_ACTIVE)]
  | .PNL_CSCAN => [("RATE", .PNL_CSCAN_RATE)]
  | .PNL_CKEY => [("KEY", .PNL_CKEY_KEY), ("FUNC", .PNL_CKEY_FUNC), ("VALID", .PNL_CKEY_VALID)]
  | .OLK_CFG => [("RETRY", .OLK_CFG_RETRY), ("TXEN", .OLK_CFG_TXEN), ("TMO", .OLK_CFG_TMO)]
  | .OLK_CFG2 => [("LEAD", .OLK_CFG2_LEAD), ("PQ", .OLK_CFG2_PQ)]
  | .OLK_STAT =>
      [("ADDR", .OLK_STAT_ADDR), ("MASTER", .OLK_STAT_MASTER), ("N", .OLK_STAT_N), ("BROKEN", .OLK_STAT_BROKEN),
      ("ADDRDUP", .OLK_STAT_ADDRDUP), ("PRESENT", .OLK_STAT_PRESENT)]
  | .OLK_SYNC => [("OFS", .OLK_SYNC_OFS)]
  | .OLK_PCTL => [("POL", .OLK_PCTL_POL)]
  | .OLK_PSTAT => [("STATE", .OLK_PSTAT_STATE), ("LOW", .OLK_PSTAT_LOW), ("PAUSED", .OLK_PSTAT_PAUSED)]
  | .OLK_PCNT => [("RETRIES", .OLK_PCNT_RETRIES), ("ERRS", .OLK_PCNT_ERRS)]
  | .OLK_PDLY => [("DLY", .OLK_PDLY_DLY)]
  | .OLK_PAUTH => [("STN", .OLK_PAUTH_STN), ("BRD", .OLK_PAUTH_BRD)]
  | .OLK_OWSN => [("WSN", .OLK_OWSN_WSN)]
  | .OLK_MIRROR => [("OUT", .OLK_MIRROR_OUT), ("IN", .OLK_MIRROR_IN), ("INEN", .OLK_MIRROR_INEN)]
  | .OLK_FRZ => [("OUT", .OLK_FRZ_OUT)]
  | .OLK_INFO => [("SYNC", .OLK_INFO_SYNC), ("FRZ", .OLK_INFO_FRZ), ("MIR", .OLK_INFO_MIR)]
  | .SER_MODE =>
      [("PHY", .SER_MODE_PHY), ("FLOW", .SER_MODE_FLOW), ("D7", .SER_MODE_D7), ("PAR", .SER_MODE_PAR),
      ("STOP2", .SER_MODE_STOP2), ("TERM", .SER_MODE_TERM), ("TURN", .SER_MODE_TURN)]
  | .SER_BAUD => [("BAUD", .SER_BAUD_BAUD)]
  | .SER_CTRL =>
      [("ECHO", .SER_CTRL_ECHO), ("ABBR", .SER_CTRL_ABBR), ("RSPCRC", .SER_CTRL_RSPCRC),
      ("ENABLE", .SER_CTRL_ENABLE)]
  | .SER_ASYNC => [("CLS", .SER_ASYNC_CLS), ("STN", .SER_ASYNC_STN), ("BRD", .SER_ASYNC_BRD)]
  | .SER_STAT =>
      [("TXSTOP", .SER_STAT_TXSTOP), ("RXSTOP", .SER_STAT_RXSTOP), ("RESCUE", .SER_STAT_RESCUE),
      ("BRK", .SER_STAT_BRK), ("OVR", .SER_STAT_OVR), ("CHERR", .SER_STAT_CHERR)]
  | .SER_CNT => [("REJ", .SER_CNT_REJ), ("ALOST", .SER_CNT_ALOST)]
  | .SER_CLR => [("CLR_REJ", .SER_CLR_CLR_REJ), ("CLR_ALOST", .SER_CLR_CLR_ALOST)]
  | .SER_TAPE =>
      [("ENABLE", .SER_TAPE_ENABLE), ("CODE", .SER_TAPE_CODE), ("EDGE", .SER_TAPE_EDGE), ("PORT", .SER_TAPE_PORT),
      ("DET", .SER_TAPE_DET)]
  | .SER_TAPESTAT =>
      [("CHARS", .SER_TAPESTAT_CHARS), ("RUN", .SER_TAPESTAT_RUN), ("PERR", .SER_TAPESTAT_PERR),
      ("TOVR", .SER_TAPESTAT_TOVR), ("CODEERR", .SER_TAPESTAT_CODEERR)]
  | .CFG_STAT =>
      [("STATE", .CFG_STAT_STATE), ("SRC", .CFG_STAT_SRC), ("DEV", .CFG_STAT_DEV),
      ("FALLBACK", .CFG_STAT_FALLBACK), ("SREASON", .CFG_STAT_SREASON), ("DEVALLOW", .CFG_STAT_DEVALLOW),
      ("CFGSRC", .CFG_STAT_CFGSRC)]
  | .CFG_SERIAL => [("SERIAL", .CFG_SERIAL_SERIAL)]
  | .CFG_POLICY =>
      [("BOOT", .CFG_POLICY_BOOT), ("FALLBACK", .CFG_POLICY_FALLBACK), ("WAIT", .CFG_POLICY_WAIT)]
  | .CFG_TRY => [("TRIED", .CFG_TRY_TRIED), ("SRC", .CFG_TRY_SRC), ("REASON", .CFG_TRY_REASON)]
  | .CFG_KEY => [("STATE", .CFG_KEY_STATE)]
  | .CFG_KFP => [("FP", .CFG_KFP_FP)]
  | .CFG_STG => [("USED", .CFG_STG_USED), ("COUNT", .CFG_STG_COUNT)]
  | .CFG_STGSER => [("SERIAL", .CFG_STGSER_SERIAL)]
  | .CFG_STGINF =>
      [("RGNMASK", .CFG_STGINF_RGNMASK), ("LEN", .CFG_STGINF_LEN), ("VALID", .CFG_STGINF_VALID)]
  | .NOC_PCFG =>
      [("KIND", .NOC_PCFG_KIND), ("VC", .NOC_PCFG_VC), ("STN", .NOC_PCFG_STN), ("BRD", .NOC_PCFG_BRD),
      ("TRACE", .NOC_PCFG_TRACE), ("SRC", .NOC_PCFG_SRC), ("SRCANY", .NOC_PCFG_SRCANY), ("DST", .NOC_PCFG_DST),
      ("DSTANY", .NOC_PCFG_DSTANY)]
  | .NOC_PALO => [("LO", .NOC_PALO_LO)]
  | .NOC_PAHI => [("HI", .NOC_PAHI_HI)]
  | .NOC_PPKT => [("N", .NOC_PPKT_N)]
  | .NOC_PFLIT => [("N", .NOC_PFLIT_N)]
  | .NOC_PBLK => [("N", .NOC_PBLK_N)]
  | .NOC_PCLR => [("CLR", .NOC_PCLR_CLR)]
  | .OBS_STAT => [("FROZEN", .OBS_STAT_FROZEN), ("FCAUSE", .OBS_STAT_FCAUSE), ("FWP", .OBS_STAT_FWP)]
  | .OBS_FRZ =>
      [("FREEZE", .OBS_FRZ_FREEZE), ("RELEASE", .OBS_FRZ_RELEASE), ("PINEN", .OBS_FRZ_PINEN),
      ("SNAP", .OBS_FRZ_SNAP)]
  | .OBS_FRZT_LO => [("F", .OBS_FRZT_LO_F)]
  | .OBS_FRZT_HI => [("F", .OBS_FRZT_HI_F)]
  | .OBS_CTAG => [("OPTAG", .OBS_CTAG_OPTAG), ("EN", .OBS_CTAG_EN)]
  | .OBS_TRCFG =>
      [("DIV", .OBS_TRCFG_DIV), ("PORTEN", .OBS_TRCFG_PORTEN), ("BUFEN", .OBS_TRCFG_BUFEN),
      ("POST", .OBS_TRCFG_POST), ("STN", .OBS_TRCFG_STN), ("BRD", .OBS_TRCFG_BRD)]
  | .OBS_TRKIND => [("KINDS", .OBS_TRKIND_KINDS)]
  | .OBS_TRENG_LO => [("ENG", .OBS_TRENG_LO_ENG)]
  | .OBS_TRENG_HI => [("ENG", .OBS_TRENG_HI_ENG)]
  | .OBS_TRSTAT => [("FILL", .OBS_TRSTAT_FILL), ("LOST", .OBS_TRSTAT_LOST)]
  | .OBS_TRSET => [("AXES", .OBS_TRSET_AXES)]
  | .OBS_TRMARK => [("V", .OBS_TRMARK_V)]
  | .OBS_RSVOP => [("N", .OBS_RSVOP_N)]
  | .OBS_WPLO => [("ADDR", .OBS_WPLO_ADDR)]
  | .OBS_WPHI => [("ADDR", .OBS_WPHI_ADDR)]
  | .OBS_WPCFG =>
      [("RD", .OBS_WPCFG_RD), ("WR", .OBS_WPCFG_WR), ("STN", .OBS_WPCFG_STN), ("BRD", .OBS_WPCFG_BRD),
      ("TRACE", .OBS_WPCFG_TRACE), ("FREEZE", .OBS_WPCFG_FREEZE)]
  | .OBS_WPCNT => [("COUNT", .OBS_WPCNT_COUNT)]
  | .OBS_WPT_LO => [("LASTT", .OBS_WPT_LO_LASTT)]
  | .OBS_WPT_HI => [("LASTT", .OBS_WPT_HI_LASTT)]
  | .OBS_SKCFG => [("KIND", .OBS_SKCFG_KIND), ("INST", .OBS_SKCFG_INST), ("RUN", .OBS_SKCFG_RUN)]
  | .OBS_SKN => [("N", .OBS_SKN_N)]
  | .OBS_SKMIN => [("V", .OBS_SKMIN_V)]
  | .OBS_SKMAX => [("V", .OBS_SKMAX_V)]
  | .OBS_SKSUM_LO => [("SUM", .OBS_SKSUM_LO_SUM)]
  | .OBS_SKSUM_HI => [("SUM", .OBS_SKSUM_HI_SUM)]
  | .OBS_SKCRC => [("CRC", .OBS_SKCRC_CRC)]
  | .OBS_SKINV => [("INV", .OBS_SKINV_INV)]
  | .OBS_SNAPT_LO => [("T", .OBS_SNAPT_LO_T)]
  | .OBS_SNAPT_HI => [("T", .OBS_SNAPT_HI_T)]
  | .OBS_EBUSY_LO => [("BUSY", .OBS_EBUSY_LO_BUSY)]
  | .OBS_EBUSY_HI => [("BUSY", .OBS_EBUSY_HI_BUSY)]
  | .OBS_EIDLE_LO => [("IDLE", .OBS_EIDLE_LO_IDLE)]
  | .OBS_EIDLE_HI => [("IDLE", .OBS_EIDLE_HI_IDLE)]
  | .OBS_ESTALL_LO => [("STALL", .OBS_ESTALL_LO_STALL)]
  | .OBS_ESTALL_HI => [("STALL", .OBS_ESTALL_HI_STALL)]
  | .OBS_ENOW => [("STATE", .OBS_ENOW_STATE), ("REASON", .OBS_ENOW_REASON), ("ON", .OBS_ENOW_ON)]
  | .DEC_MBX => []

/-- The name of a register as the spec writes it. -/
def regName : Reg → String
  | .SYS_CFG => "SYS_CFG"
  | .SYS_ISA => "SYS_ISA"
  | .SYS_CASN => "SYS_CASN"
  | .SYS_CCTL => "SYS_CCTL"
  | .SYS_CSTAT => "SYS_CSTAT"
  | .SYS_CENTRY => "SYS_CENTRY"
  | .SYS_CBANK => "SYS_CBANK"
  | .SYS_CBSEL => "SYS_CBSEL"
  | .SYS_CWSN => "SYS_CWSN"
  | .SYS_CPC => "SYS_CPC"
  | .SYS_CCHK => "SYS_CCHK"
  | .SYS_SPG => "SYS_SPG"
  | .SYS_SRAM => "SYS_SRAM"
  | .SYS_SECC => "SYS_SECC"
  | .SYS_SADDR => "SYS_SADDR"
  | .SYS_SCLR => "SYS_SCLR"
  | .PWR_STAT => "PWR_STAT"
  | .PWR_VIN => "PWR_VIN"
  | .PWR_VBAT => "PWR_VBAT"
  | .PWR_VHOLD => "PWR_VHOLD"
  | .PWR_HOLDC => "PWR_HOLDC"
  | .PWR_DOM => "PWR_DOM"
  | .PWR_WDT => "PWR_WDT"
  | .PWR_WDTLEFT => "PWR_WDTLEFT"
  | .PWR_IDLE => "PWR_IDLE"
  | .PWR_RCNT => "PWR_RCNT"
  | .LAT_CTRL => "LAT_CTRL"
  | .LAT_VPOL => "LAT_VPOL"
  | .LAT_VCORE => "LAT_VCORE"
  | .LAT_SLACK => "LAT_SLACK"
  | .LAT_SLACKLOW => "LAT_SLACKLOW"
  | .LAT_STAGE => "LAT_STAGE"
  | .LAT_CLR => "LAT_CLR"
  | .LAT_OVR => "LAT_OVR"
  | .JRN_STAT => "JRN_STAT"
  | .JRN_LSN => "JRN_LSN"
  | .JRN_QUEUE => "JRN_QUEUE"
  | .JRN_LIVE => "JRN_LIVE"
  | .JRN_WEAR => "JRN_WEAR"
  | .JRN_CTIME => "JRN_CTIME"
  | .JRN_CFG => "JRN_CFG"
  | .JRN_CLR => "JRN_CLR"
  | .JRN_REPAIR => "JRN_REPAIR"
  | .FLS_STAT => "FLS_STAT"
  | .FLS_CTL => "FLS_CTL"
  | .FLS_ARCH => "FLS_ARCH"
  | .FLS_POISON => "FLS_POISON"
  | .FLS_SECT => "FLS_SECT"
  | .FLS_ECNT => "FLS_ECNT"
  | .RING_CFG => "RING_CFG"
  | .RING_PTR => "RING_PTR"
  | .RING_STAT => "RING_STAT"
  | .RING_CLR => "RING_CLR"
  | .EVT_COAL => "EVT_COAL"
  | .EVT_PINEN => "EVT_PINEN"
  | .EVT_SEQ => "EVT_SEQ"
  | .EVT_ACK => "EVT_ACK"
  | .EVT_LOST => "EVT_LOST"
  | .EVT_IMASK => "EVT_IMASK"
  | .EVT_SEEN => "EVT_SEEN"
  | .TC_NOW_LO => "TC_NOW_LO"
  | .TC_NOW_HI => "TC_NOW_HI"
  | .TC_TICK_LO => "TC_TICK_LO"
  | .TC_TICK_HI => "TC_TICK_HI"
  | .TC_STATUS => "TC_STATUS"
  | .TC_REFSEL => "TC_REFSEL"
  | .DEC_STAT => "DEC_STAT"
  | .DEC_ISSUED => "DEC_ISSUED"
  | .DEC_CHKS => "DEC_CHKS"
  | .DEC_CLR => "DEC_CLR"
  | .DEC_SFLAGS => "DEC_SFLAGS"
  | .DEC_OUT => "DEC_OUT"
  | .DEC_MBX => "DEC_MBX"
  | .MOT_STATE => "MOT_STATE"
  | .MOT_SCFG => "MOT_SCFG"
  | .MOT_HOLDT => "MOT_HOLDT"
  | .MOT_RTOL => "MOT_RTOL"
  | .MOT_APPF => "MOT_APPF"
  | .MOT_CDV => "MOT_CDV"
  | .MOT_OVR => "MOT_OVR"
  | .MOT_LOOK => "MOT_LOOK"
  | .MOT_VMAX => "MOT_VMAX"
  | .MOT_VRAP => "MOT_VRAP"
  | .MOT_AMAX => "MOT_AMAX"
  | .MOT_JMAX => "MOT_JMAX"
  | .MOT_JOGF => "MOT_JOGF"
  | .MOT_SLO => "MOT_SLO"
  | .MOT_SHI => "MOT_SHI"
  | .MOT_AXCTL => "MOT_AXCTL"
  | .MOT_PGM => "MOT_PGM"
  | .MOT_AXL => "MOT_AXL"
  | .MOT_MFT => "MOT_MFT"
  | .MOT_HS => "MOT_HS"
  | .MOT_XSLOT => "MOT_XSLOT"
  | .MOT_XWSN => "MOT_XWSN"
  | .MOT_XCTL => "MOT_XCTL"
  | .MOT_CODE => "MOT_CODE"
  | .SRV_MODE => "SRV_MODE"
  | .SRV_FB => "SRV_FB"
  | .SRV_FBNUM => "SRV_FBNUM"
  | .SRV_FBDEN => "SRV_FBDEN"
  | .SRV_KP => "SRV_KP"
  | .SRV_KI => "SRV_KI"
  | .SRV_KVF => "SRV_KVF"
  | .SRV_KAF => "SRV_KAF"
  | .SRV_VFS => "SRV_VFS"
  | .SRV_OUTLIM => "SRV_OUTLIM"
  | .SRV_OUTOFS => "SRV_OUTOFS"
  | .SRV_KVP => "SRV_KVP"
  | .SRV_KVI => "SRV_KVI"
  | .SRV_TACH => "SRV_TACH"
  | .SRV_TACHFS => "SRV_TACHFS"
  | .SRV_TACHTOL => "SRV_TACHTOL"
  | .SRV_FEWARN => "SRV_FEWARN"
  | .SRV_FETRIP => "SRV_FETRIP"
  | .SRV_APPLY => "SRV_APPLY"
  | .SRV_STAT => "SRV_STAT"
  | .SRV_FE => "SRV_FE"
  | .SRV_RESNOM => "SRV_RESNOM"
  | .SRV_COMP => "SRV_COMP"
  | .SRV_BKL => "SRV_BKL"
  | .SRV_CSTART => "SRV_CSTART"
  | .SRV_CSTEP => "SRV_CSTEP"
  | .SRV_CPT => "SRV_CPT"
  | .ENC_CFG => "ENC_CFG"
  | .ENC_CNT => "ENC_CNT"
  | .ENC_ZCAP => "ENC_ZCAP"
  | .ENC_STAT => "ENC_STAT"
  | .ENC_ERRS => "ENC_ERRS"
  | .ENC_HWCFG => "ENC_HWCFG"
  | .ENC_HWCNT => "ENC_HWCNT"
  | .ENC_HWSTAT => "ENC_HWSTAT"
  | .REB_CMODE => "REB_CMODE"
  | .REB_CPAR => "REB_CPAR"
  | .REB_CHOFF => "REB_CHOFF"
  | .REB_CSTAT => "REB_CSTAT"
  | .REB_RC => "REB_RC"
  | .REB_RGN => "REB_RGN"
  | .REB_RSER => "REB_RSER"
  | .REB_RLOAD => "REB_RLOAD"
  | .REB_EPOCH_LO => "REB_EPOCH_LO"
  | .REB_EPOCH_HI => "REB_EPOCH_HI"
  | .REB_XPT => "REB_XPT"
  | .LGF_CLK => "LGF_CLK"
  | .LGF_HMODE => "LGF_HMODE"
  | .LGF_HVAL => "LGF_HVAL"
  | .LGF_HMODE2 => "LGF_HMODE2"
  | .LGF_HVAL2 => "LGF_HVAL2"
  | .LGF_OUT => "LGF_OUT"
  | .LGF_OUT2 => "LGF_OUT2"
  | .LGF_CRC => "LGF_CRC"
  | .ADC_PCFG => "ADC_PCFG"
  | .ADC_PDATA => "ADC_PDATA"
  | .ADC_PSTAT => "ADC_PSTAT"
  | .ADC_PCALT => "ADC_PCALT"
  | .ADC_FCFG => "ADC_FCFG"
  | .ADC_FDATA => "ADC_FDATA"
  | .ADC_FSTAT => "ADC_FSTAT"
  | .ADC_FCALT => "ADC_FCALT"
  | .ADC_REF => "ADC_REF"
  | .ADC_REFDIFF => "ADC_REFDIFF"
  | .ADC_REFCHK => "ADC_REFCHK"
  | .ADC_TEMP => "ADC_TEMP"
  | .ADC_CALCFG => "ADC_CALCFG"
  | .FCH_CFG => "FCH_CFG"
  | .FCH_PHD => "FCH_PHD"
  | .FCH_SF => "FCH_SF"
  | .FCH_TAPS => "FCH_TAPS"
  | .FCH_SWAP => "FCH_SWAP"
  | .FCH_DLY => "FCH_DLY"
  | .FCH_RATE => "FCH_RATE"
  | .FCH_RES => "FCH_RES"
  | .FCH_ANG => "FCH_ANG"
  | .FCH_RAMP => "FCH_RAMP"
  | .FCH_PLOAD => "FCH_PLOAD"
  | .FCH_COEFA => "FCH_COEFA"
  | .FCH_COEFB => "FCH_COEFB"
  | .DAC_CFG => "DAC_CFG"
  | .DAC_HOLD => "DAC_HOLD"
  | .DAC_OUT => "DAC_OUT"
  | .DAC_MAJOR => "DAC_MAJOR"
  | .DAC_RTGT => "DAC_RTGT"
  | .DAC_RTCK => "DAC_RTCK"
  | .DAC_STAT => "DAC_STAT"
  | .DAC_LDG => "DAC_LDG"
  | .DAC_LOAD => "DAC_LOAD"
  | .EXC_CFG => "EXC_CFG"
  | .EXC_INC => "EXC_INC"
  | .EXC_AMP => "EXC_AMP"
  | .EXC_PHASE => "EXC_PHASE"
  | .EXC_RATE => "EXC_RATE"
  | .EXC_NOW => "EXC_NOW"
  | .EXC_NINC => "EXC_NINC"
  | .EXC_STAT => "EXC_STAT"
  | .EXC_TSWAP => "EXC_TSWAP"
  | .EXC_TAB => "EXC_TAB"
  | .FIO_CFG => "FIO_CFG"
  | .FIO_STAT => "FIO_STAT"
  | .FIO_CUR => "FIO_CUR"
  | .FIO_CLR => "FIO_CLR"
  | .FIO_GSTAT => "FIO_GSTAT"
  | .FIO_GCUR => "FIO_GCUR"
  | .FIO_ACFG => "FIO_ACFG"
  | .FIO_ASTAT => "FIO_ASTAT"
  | .FIO_IN_LO => "FIO_IN_LO"
  | .FIO_IN_HI => "FIO_IN_HI"
  | .FIO_DRV_LO => "FIO_DRV_LO"
  | .FIO_DRV_HI => "FIO_DRV_HI"
  | .PNL_SCAN => "PNL_SCAN"
  | .PNL_RPT => "PNL_RPT"
  | .PNL_OWN => "PNL_OWN"
  | .PNL_COMBO => "PNL_COMBO"
  | .PNL_KACT => "PNL_KACT"
  | .PNL_KRPT => "PNL_KRPT"
  | .PNL_KQ => "PNL_KQ"
  | .PNL_KSTAT => "PNL_KSTAT"
  | .PNL_DCFG => "PNL_DCFG"
  | .PNL_DBRT => "PNL_DBRT"
  | .PNL_DSTAT => "PNL_DSTAT"
  | .PNL_DRAW => "PNL_DRAW"
  | .PNL_DFLT => "PNL_DFLT"
  | .PNL_CHCFG => "PNL_CHCFG"
  | .PNL_CHQ => "PNL_CHQ"
  | .PNL_CHSTAT => "PNL_CHSTAT"
  | .PNL_FONT => "PNL_FONT"
  | .PNL_CALC => "PNL_CALC"
  | .PNL_CSCAN => "PNL_CSCAN"
  | .PNL_CKEY => "PNL_CKEY"
  | .OLK_CFG => "OLK_CFG"
  | .OLK_CFG2 => "OLK_CFG2"
  | .OLK_STAT => "OLK_STAT"
  | .OLK_SYNC => "OLK_SYNC"
  | .OLK_PCTL => "OLK_PCTL"
  | .OLK_PSTAT => "OLK_PSTAT"
  | .OLK_PCNT => "OLK_PCNT"
  | .OLK_PDLY => "OLK_PDLY"
  | .OLK_PAUTH => "OLK_PAUTH"
  | .OLK_OWSN => "OLK_OWSN"
  | .OLK_MIRROR => "OLK_MIRROR"
  | .OLK_FRZ => "OLK_FRZ"
  | .OLK_INFO => "OLK_INFO"
  | .SER_MODE => "SER_MODE"
  | .SER_BAUD => "SER_BAUD"
  | .SER_CTRL => "SER_CTRL"
  | .SER_ASYNC => "SER_ASYNC"
  | .SER_STAT => "SER_STAT"
  | .SER_CNT => "SER_CNT"
  | .SER_CLR => "SER_CLR"
  | .SER_TAPE => "SER_TAPE"
  | .SER_TAPESTAT => "SER_TAPESTAT"
  | .CFG_STAT => "CFG_STAT"
  | .CFG_SERIAL => "CFG_SERIAL"
  | .CFG_POLICY => "CFG_POLICY"
  | .CFG_TRY => "CFG_TRY"
  | .CFG_KEY => "CFG_KEY"
  | .CFG_KFP => "CFG_KFP"
  | .CFG_STG => "CFG_STG"
  | .CFG_STGSER => "CFG_STGSER"
  | .CFG_STGINF => "CFG_STGINF"
  | .NOC_PCFG => "NOC_PCFG"
  | .NOC_PALO => "NOC_PALO"
  | .NOC_PAHI => "NOC_PAHI"
  | .NOC_PPKT => "NOC_PPKT"
  | .NOC_PFLIT => "NOC_PFLIT"
  | .NOC_PBLK => "NOC_PBLK"
  | .NOC_PCLR => "NOC_PCLR"
  | .OBS_STAT => "OBS_STAT"
  | .OBS_FRZ => "OBS_FRZ"
  | .OBS_FRZT_LO => "OBS_FRZT_LO"
  | .OBS_FRZT_HI => "OBS_FRZT_HI"
  | .OBS_CTAG => "OBS_CTAG"
  | .OBS_TRCFG => "OBS_TRCFG"
  | .OBS_TRKIND => "OBS_TRKIND"
  | .OBS_TRENG_LO => "OBS_TRENG_LO"
  | .OBS_TRENG_HI => "OBS_TRENG_HI"
  | .OBS_TRSTAT => "OBS_TRSTAT"
  | .OBS_TRSET => "OBS_TRSET"
  | .OBS_TRMARK => "OBS_TRMARK"
  | .OBS_RSVOP => "OBS_RSVOP"
  | .OBS_WPLO => "OBS_WPLO"
  | .OBS_WPHI => "OBS_WPHI"
  | .OBS_WPCFG => "OBS_WPCFG"
  | .OBS_WPCNT => "OBS_WPCNT"
  | .OBS_WPT_LO => "OBS_WPT_LO"
  | .OBS_WPT_HI => "OBS_WPT_HI"
  | .OBS_SKCFG => "OBS_SKCFG"
  | .OBS_SKN => "OBS_SKN"
  | .OBS_SKMIN => "OBS_SKMIN"
  | .OBS_SKMAX => "OBS_SKMAX"
  | .OBS_SKSUM_LO => "OBS_SKSUM_LO"
  | .OBS_SKSUM_HI => "OBS_SKSUM_HI"
  | .OBS_SKCRC => "OBS_SKCRC"
  | .OBS_SKINV => "OBS_SKINV"
  | .OBS_SNAPT_LO => "OBS_SNAPT_LO"
  | .OBS_SNAPT_HI => "OBS_SNAPT_HI"
  | .OBS_EBUSY_LO => "OBS_EBUSY_LO"
  | .OBS_EBUSY_HI => "OBS_EBUSY_HI"
  | .OBS_EIDLE_LO => "OBS_EIDLE_LO"
  | .OBS_EIDLE_HI => "OBS_EIDLE_HI"
  | .OBS_ESTALL_LO => "OBS_ESTALL_LO"
  | .OBS_ESTALL_HI => "OBS_ESTALL_HI"
  | .OBS_ENOW => "OBS_ENOW"

end Sys2Proof.Machine
end

