-- ==== Sys2Proof/Machine/Sparse.lean ====
section
/-! DEFINITION. A sparse table: a list of (key, value) pairs with the keys strictly rising. A key that is not listed
reads as its default, which the caller supplies; no entry of a well-formed table equals its default. -/
namespace Sys2Proof.Machine

/-- The value listed at `k`, if any. -/
def sparseFind {α : Type} : List (Nat × α) → Nat → Option α
  | [], _ => none
  | (a, v) :: l, k => if a = k then some v else sparseFind l k

/-- The table with `k` listed as `o`, or not listed for `none`. -/
def sparsePut {α : Type} : List (Nat × α) → Nat → Option α → List (Nat × α)
  | [], k, o => match o with
    | none => []
    | some v => [(k, v)]
  | (a, w) :: l, k, o =>
    if a < k then (a, w) :: sparsePut l k o
    else
      let rest := if a = k then l else (a, w) :: l
      match o with
      | none => rest
      | some v => (k, v) :: rest

/-- The canonical form: keys strictly rising, and no entry equal to its default. -/
def sparseWf {α : Type} [DecidableEq α] (dflt : Nat → α) : List (Nat × α) → Bool
  | [] => true
  | (a, v) :: l => decide (v ≠ dflt a) && (l.all fun e => decide (a < e.1)) && sparseWf dflt l

end Sys2Proof.Machine
end

