-- ==== Sys2Proof/Machine/State.lean ====
section
/-! DEFINITION. The state of the block, its faults and refusals, and its reset state. Every piece of state the spec
gives the part is a field here; the fields of registers live in `regs`, by address. -/
namespace Sys2Proof.Machine
open Sys2Proof

/-- A stop with a fault. No rule of the spec stops the part: what the spec calls a fault is an event record. -/
inductive Fault where
  /-- Raised by no meaning: the block has no fault that ends a run. Safe. -/
  | none
deriving DecidableEq, Repr

/-- A refusal of the model. -/
inductive Refusal where
  /-- Raised by an arm of exec whose command has no meaning yet. Safe. -/
  | notModelled (mnemonic : String)
deriving DecidableEq, Repr

/-! ## The part as a whole -/

/-- Where the part stands between power-on and operation (Tables 3.7 to 3.9, 20.5, 20.7). -/
inductive Phase where
  /-- No supply at all. -/
  | off
  /-- KEEP alone is supplied (R569). -/
  | keepOnly
  /-- A cold reset is in force (R566, R613). -/
  | inReset
  /-- Reset is released and no reference source has been taken (R32). -/
  | waitRef
  /-- The candidates are being read and checked (R540). -/
  | loading
  /-- CFG_DONE is released and not yet high (R542). -/
  | waiting
  /-- The commit is writing and settling its regions (R543). -/
  | committing
  /-- The commit is complete and the journal is being replayed (R527). -/
  | replaying
  /-- Acceptance is open. -/
  | running
  /-- A close-down is in progress: acceptance has stopped (R81). -/
  | closing
  /-- No candidate is left; the loader console runs on SP0 (R545). -/
  | console
deriving DecidableEq, Repr

/-- The kinds of reset (Table 3.6, R154). -/
inductive ResetKind where
  | cold | warm | keepLoss
deriving DecidableEq, Repr

/-- The reference and the fabric time counter (R31 to R37) beside the fields of the TC block. -/
structure Clock where
  /-- The fabric time counter (R34). -/
  now : Nat
  /-- The count of the last lattice tick (R37). -/
  tick : Nat
  /-- TC_NOW_HI, TC_TICK_HI and REB_EPOCH_HI as latched (R37, Table 13.5). -/
  nowHi : Nat
  tickHi : Nat
  epochHi : Nat
  /-- The count of the last epoch tick (R358). -/
  epoch : Nat
  /-- The source R31 chose at the last release of a non-warm reset. -/
  chosen : RefSrc
  /-- A source has been taken in this start (R32). -/
  taken : Bool
  /-- 100 ms have passed since reset release without the chosen source being taken (R32). -/
  startTimeout : Bool
  /-- The counts that time synchronisation added or omitted before the present tick (R36). -/
  adj : List Nat
deriving DecidableEq, Repr

/-- The lattice generator and the VCORE policy (R38 to R52, R644) beside the fields of the LAT block. -/
structure Lattice where
  /-- Ticks of the current 64-tick window whose slack is known (R644). -/
  winTicks : Nat
  /-- The least slack of the window so far, exact, in 0.1 %, and whether a tick of it fell below target at 1.05 V (R644). -/
  winMin : Rat
  winLowAtMax : Bool
  /-- Ticks left of the hold at 1.05 V (R48). -/
  holdLeft : Nat
  /-- VCORE is held at 1.05 V from a reset until commit, or until acceptance resumes after a warm reset (R49). -/
  resetHold : Bool
  /-- The first tick after that has come, so OFF and REPORT hold VCORE at VFIX (R47, R49). -/
  vfree : Bool
  /-- Stations whose tick sections are suspended (R52). -/
  suspended : Vector Bool 4
  /-- The tick before belongs to the present run of windows, so that the next tick gives a slack (R644). -/
  begun : Bool
  /-- The slack of the present tick is known already: its work was complete (R644). -/
  known : Bool
  /-- The first tick after acceptance opened has come, so overruns are charged (R52). -/
  counting : Bool
  /-- The first count at which a waiting rate can take effect (R40). -/
  rateAt : Nat
deriving DecidableEq, Repr

/-! ## Work items, outcomes and the journal -/

/-- The outcome states (Table 3.3, R66). -/
inductive OutState where
  | pending | running | done | failed | held | inDoubt
deriving DecidableEq, Repr

/-- The identity of an item: source number, series and WSN (R55, R56, R60). -/
structure Key where
  src : Nat
  ser : Nat
  wsn : Nat
deriving DecidableEq, Repr

/-- An accepted item and its outcome record (R67). `cmd` is the item itself (R62). -/
structure Item where
  key : Key
  st : OutState
  err : Nat
  /-- The error of the state check at acceptance, or 0 (R64). -/
  chk : Nat
  /-- Station 0 to 3, or 4 for a board item. -/
  stn : Nat
  acc : Nat
  chg : Nat
  /-- Program number, block number and SUB of a motion block (R190). -/
  blk : Option (Nat × Nat × Nat)
  /-- The journal's sequence number of its acceptance: the order of R68. -/
  lsn : Nat
  cmd : Option Instr
  /-- What the distance of an incremental jog is added to, fixed at acceptance (R218). -/
  base : Option Int
  /-- The length of the item as received, in characters (R522). -/
  len : Nat
deriving DecidableEq, Repr

/-- A record in the journal's commit queue: an item with the result of its state check (R62). -/
structure CommitRec where
  key : Key
  org : Origin
  cmd : Instr
  /-- The error of the state check, or 0. -/
  err : Nat
  stn : Nat
  /-- The length of the item as received, in characters (R522). -/
  len : Nat
deriving DecidableEq, Repr

/-- An entry of the commit queue: a record with the ring entries it takes, or a copy of a record still in the queue, which is
answered once that one is committed (R61). -/
inductive QEnt where
  | item (r : CommitRec) (entries : Nat)
  | copy (o : Origin)
deriving DecidableEq, Repr

/-- A source: its present series and its last accepted WSN (R57, R60). -/
structure Source where
  ser : Nat
  last : Nat
deriving DecidableEq, Repr

/-- Authority: a set of stations and the board flag (R118). -/
structure Auth where
  stn : Vector Bool 4
  brd : Bool
deriving DecidableEq, Repr

/-- The session of a serial port (R118, R120, R121). -/
structure Session where
  /-- Owners whose key has been presented. -/
  own : Auth
  /-- The selected station (R121). -/
  sel : Fin 4
  /-- Consecutive failed AUTH lines, and the count at which a lockout of AUTH ends (R120). -/
  fails : Nat
  lock : Option Nat
deriving DecidableEq, Repr

/-- What CHKPT saves of a task (R296, R314): its registers and bank mapping, its source counter with the series (R643), its
private bits and decimal registers, its interrupt masks, and the serial of the running image. -/
structure Checkpoint where
  w : Vector Byte 16
  sp : Half
  pc : Half
  fl : Byte
  am : Byte
  cnt : Half
  src : Half
  dst : Half
  modb : Half
  modl : Half
  bank : Vector Nat 4
  ser : Nat
  wc : Nat
  bits : List (Nat × Bool)
  dec : List (Nat × Nat)
  imask : Nat
  seen : Vector Nat 4
  image : Nat
deriving DecidableEq, Repr

/-- What the journal store holds beside the per-source records (R119, R522). -/
structure Journal where
  /-- The newest checkpoint of each task (R314). -/
  chk : Vector (Option Checkpoint) 6
  /-- The newest SETTING record of each register field that is a journalled setting (R642), by field place. -/
  set : List (Nat × Nat)
  /-- Records on their way to the journal, oldest first (ring JRN_COMMIT). -/
  queue : List QEnt
  /-- Items whose records have been committed and that have not begun, in the order of their commits (R68). -/
  ready : List Key
  /-- The items whose outcomes are retained (R67), in the order of their acceptance. -/
  items : List Item
  src : Vector Source 24
  /-- Owner keys, where the journal holds a record for the owner (R119). -/
  boardKey : Option Nat
  stnKey : Vector (Option Nat) 4
  /-- Keys the running image supplies (R119). -/
  imgBoardKey : Nat
  imgStnKey : Vector Nat 4
deriving DecidableEq, Repr

/-! ## Events and rings -/

/-- An event record (Table 6.4), with the coalescing window in force when it was written (R160). -/
structure EvRec where
  t : Nat
  seq : Nat
  stn : Nat
  cause : Nat
  inst : Nat
  src : Nat
  ack : Bool
  ovf : Bool
  wsn : Nat
  det : Nat
  rep : Nat
  w : Nat
  /-- REP as the last occurrence left it that joined inside the window (R161). -/
  wrep : Nat
deriving DecidableEq, Repr

/-- The event unit: the records of rings 0 to 3, oldest first, and the drop of R163 (by class: stations, 4 the board). -/
structure Events where
  q : Vector (List EvRec) 4
  /-- Stations (4 the board) of occurrences dropped while the overflow record stays unacknowledged (R163). -/
  dropped : Vector (List Nat) 4
  /-- The TRIP input is asserted (R163). -/
  tripIn : Bool
deriving DecidableEq, Repr

/-- A depth or bank change of a ring that takes effect on the next tick (R153). -/
structure RingChange where
  ring : Nat
  depth : Nat
  bank : Nat
  /-- The place its entries take. -/
  base : Nat
deriving DecidableEq, Repr

/-! ## Serial ports and tape -/

/-- One field of a data line (R105). Fields are separated by one space. -/
inductive Fd where
  | s (t : String)
  | n (v : Int)
  /-- `NAME=`-less eight-digit WSN of a framed source. -/
  | w8 (v : Nat)
  | h32 (v : Nat)
  | h64 (v : Nat)
  /-- A decimal number in the form of its chapter: digits and exponent. -/
  | d (v : Decimal)
deriving DecidableEq, Repr

/-- The tag of a status line: eight digits of a framed line, the WSN of the typed stream, or none (Table 4.4). -/
inductive Tag where
  | none
  | framed (w : Nat)
  | typed (n : Nat)
deriving DecidableEq, Repr

/-- A line in RSP_SPp (R105, R108). -/
inductive RLine where
  | ok (t : Tag) (dup : Bool)
  | er (t : Tag) (err : Nat) (dup : Bool)
  | busy (t : Tag)
  | data (f : List Fd)
  | async (cls : EvClass) (r : EvRec) (lost : Nat)
deriving DecidableEq, Repr

/-- The state of escape decoding in a typed line (Table 4.3). -/
inductive Esc where
  | none | esc | csi
deriving DecidableEq, Repr

/-- The record of an event line that a port has sent (R161). -/
structure SentRec where
  cls : EvClass
  seq : Nat
  rep : Nat
  at_ : Nat
deriving DecidableEq, Repr

/-- A complete line in CMD_SPp: its characters, the first of the errors of R99, step 1, or 104 for a framed line that was
edited, and the ring entries that it takes. -/
structure WaitLine where
  text : List Byte
  err : Nat
  entries : Nat
deriving DecidableEq, Repr

/-- A line in RSP_SPp as it entered it (R107, R109): with the CRC of RSPCRC, and after a CR LF of its own. -/
structure OutLine where
  line : RLine
  crc : Bool
  pre : Bool
deriving DecidableEq, Repr

/-- A serial port (R85 to R110), beside the fields of its SER registers. -/
structure Port where
  /-- Characters of the line in progress, oldest first, as received; at most 255 of them. -/
  line : List Byte
  /-- Characters beyond the 255th (R93). -/
  excess : Nat
  /-- A character of the line had a wrong parity or stop bit (R85). -/
  damaged : Bool
  /-- A byte of 0x80 or more stands in the line (R94). -/
  bad : Bool
  /-- Characters were lost to a full CMD ring (R88). -/
  overrun : Bool
  /-- An editing control stands in a framed line (R100). -/
  edited : Bool
  esc : Esc
  /-- The last terminator was CR, so an LF that follows at once belongs to it (R93). -/
  afterCr : Bool
  /-- Lines complete in CMD_SPp that wait for room in RSP_SPp (R104). -/
  waiting : List WaitLine
  /-- History, newest first, at most 20 (R102), and the number of entries recalled back from the newest. -/
  hist : List (List Byte)
  recalled : Nat
  /-- RSP_SPp: lines placed and not yet sent, oldest first. -/
  rsp : List OutLine
  /-- Status and data lines that wait for room in RSP_SPp, in order (R110). -/
  rspWait : List RLine
  /-- Echo held back until the lines in RSP_SPp have been sent (R101), and what the port has sent. -/
  echo : List Byte
  wire : List Byte
  /-- Asynchronous lines not sent since the last LOST report (R110). -/
  lost : Nat
  /-- SER_MODE and SER_BAUD in effect; a written value differs until R91 lets it take effect. -/
  mode : Word
  baud : Word
  /-- The item of this port whose change of its settings waits for its status line, and whether a change from elsewhere waits for
  a line boundary (R91, R92). -/
  ownChange : Option Key
  farChange : Bool
  /-- The port is enabled in effect; SER_CTRL.ENABLE may already be cleared (R92). -/
  on : Bool
  /-- Event lines sent on this port (R161, R165), and, by class, the last SEQ taken up for sending. -/
  sent : List SentRec
  taken : Vector Nat 4
  /-- The RS-485 driver is enabled (R89). -/
  driving : Bool
  /-- Records, by class and SEQ, that this port did not select when they were written: it never sends them (R126). -/
  skip : List (Fin 4 × Nat)
deriving DecidableEq, Repr

/-- The tape port (R112 to R115), beside SER_TAPE and SER_TAPESTAT. -/
structure Tape where
  /-- Buffered characters, translated, oldest first, at most 512. LF ends a block. -/
  buf : List Byte
  /-- Reading is requested by a TAPE item. -/
  want : Bool
  /-- A complete block waits to be accepted (R115); the rest of a damaged block is dropped as it arrives (R114). -/
  blocked : Bool
  drop : Bool
  /-- The item that reads (its key), and whether it feeds a station or a new stored program. -/
  item : Option Key
  toStn : Option (Fin 4)
  toProg : Option Nat
  /-- The first `%` block has been read (R185). -/
  started : Bool
  /-- Blocks are discarded until the copy of the last accepted one (R198). -/
  seek : Bool
  /-- The number of the last accepted block, and its text. -/
  count : Nat
  last : String
deriving DecidableEq, Repr
/-! ## Programs, blocks and motion -/

/-- A stored program (R180, Table 7.5). -/
structure Prog where
  no : Nat
  title : String
  blocks : List String
  closed : Bool
  /-- The flash bank whose program store holds it (R511). -/
  bank : Fin 2
  /-- The CRC-32 over its text, recorded by PROG END. -/
  crc : Nat
  /-- The appends whose blocks are not yet programmed into flash, with the place of each block (R181). -/
  adds : List (Key × Nat)
deriving DecidableEq, Repr

/-- An M handshake of a block (Table 7.6): its code, whether it comes before the motion, and whether motion waits. -/
structure MHand where
  code : Nat
  before : Bool
  nowait : Bool
deriving DecidableEq, Repr

/-- A motion block: the fields of its header and data entries (Tables 7.6, R188). Targets are in quanta, and the centre
and the program values in units of 10⁻⁷/254 of the base unit, in which every value of R174 is exact. -/
structure MBlock where
  key : Key
  /-- The block is a work item of its own: MDI, tape or replacement (R179). -/
  own : Bool
  prog : Nat
  blk : Nat
  sub : Nat
  nword : Nat
  exact : Bool
  perRev : Bool
  fin : Bool
  m00 : Bool
  m01 : Bool
  motion : Nat
  plane : Nat
  spdir : Nat
  /-- Targets by slot, rising. -/
  tgt : List (Nat × Int)
  centre : Option (Int × Int)
  feed : Option Decimal
  speed : Option Decimal
  dwell : Option Decimal
  tcode : Option Nat
  ms : List MHand
  optag : Nat
deriving DecidableEq, Repr

/-- The modal state of a reader (R172, R176 to R178). `tgt` holds the exact program target of each slot. -/
structure Modal where
  motion : Nat
  plane : Nat
  inch : Bool
  inc : Bool
  perRev : Bool
  /-- F as written, and whether it was given in inch (R176). -/
  feed : Option (Decimal × Bool)
  speed : Option Decimal
  wofs : Nat
  /-- Tool length: 0 cancelled, 1 plus, 2 minus (G43, G44, G49). -/
  tool : Nat
  hno : Nat
  optag : Nat
  /-- Program targets, exact, in 10⁻⁷/254 of the base unit, and whether a part of one came from the other unit. -/
  tgt : Vector Int 6
  other : Vector Bool 6
  /-- The machine target of the last converted block, in quanta, by slot. -/
  last : Vector Int 6
deriving DecidableEq, Repr

/-- A pending extension block (R195, R196). -/
structure Ext where
  blk : Nat
  text : String
  /-- Replacements accepted so far. -/
  subs : Nat
  /-- XREQ is set; it is clear from a timeout or a reset until RESUME. -/
  asked : Bool
  since : Nat
  /-- The item of a tape block that is an extension (R185). -/
  own : Option Key
deriving DecidableEq, Repr

/-- What a reader converts (R179): a stored program, the tape, or one MDI block that is an extension. -/
inductive ReadKind where
  | run | tape | mdi
deriving DecidableEq, Repr

/-- What feeds the ring of a station. -/
structure Reader where
  key : Key
  kind : ReadKind
  prog : Nat
  /-- The next block to convert, from 1. -/
  next : Nat
  modal : Modal
  /-- The last block has been converted. -/
  ended : Bool
  /-- The error that ends the item when the blocks before it are done, and the block it belongs to; 0 for none. -/
  err : Nat
  errBlk : Nat
  ext : Option Ext
  /-- A block has been converted, so the item runs (R183). -/
  begun : Bool
deriving DecidableEq, Repr

/-- The steps of Table 7.8. -/
inductive HandStep where
  /-- The handshake waits for MFIN to read 0. -/
  | due
  /-- The code is written; the strobe follows on the next tick. -/
  | coded
  /-- The strobe is set. -/
  | strobed
  /-- The finish has been sampled and the strobe cleared; MFIN must return to 0. -/
  | clearing
deriving DecidableEq, Repr

/-- One M or T handshake in its cycle. -/
structure Hand where
  isT : Bool
  code : Nat
  wait : Bool
  step : HandStep
  /-- The count at which the strobe was set, and whether MFIN_LATE has been raised for it. -/
  at_ : Nat
  late : Bool
  /-- The strobe repeats one issued before a reset (MREP). -/
  rep : Bool
deriving DecidableEq, Repr

/-- Where the first block of the window stands. -/
inductive BlockStage where
  /-- Its handshakes before motion are not all done. -/
  | before
  /-- It moves, dwells, or waits for the spindle. -/
  | moving
  /-- It is at its end, and its handshakes after motion are not all done. -/
  | after
deriving DecidableEq, Repr

/-- Braking (R221 to R225). -/
structure Brake where
  /-- STOP rather than HOLD. -/
  stop : Bool
  /-- The HOLD and STOP items that the end of braking makes done. -/
  keys : List Key
  /-- The deceleration a_H of a HOLD, in fx per tick and tick; none for the station maximum (R221). -/
  dec : Option Nat
  /-- Items are held: the stop has a device cause, or belongs to a reset (R203). -/
  held : Bool
  /-- MOT_STATE.WHY when it ends. -/
  why : Nat
  /-- Deceleration has begun (R222). -/
  begun : Bool
deriving DecidableEq, Repr

/-- The stages of RESUME on a HELD station (R229). -/
inductive ResumeStage where
  /-- Accepted while the station was braking, and waiting for HELD (R225). -/
  | queued
  /-- Waiting for the spindle. -/
  | spindle
  /-- The drives have turned on and ENDLY runs (R204). -/
  | drives
  | approach
deriving DecidableEq, Repr

structure Resume where
  key : Key
  stage : ResumeStage
deriving DecidableEq, Repr

/-- The way to the re-entry point (R73, R229): its ends by slot in ssu, how far the station has come on it, and the block of the
window with the path parameter that it leads to. -/
structure Approach where
  from_ : Vector Int 6
  goal : Vector Int 6
  dist : Nat
  blk : Nat
  lam : Nat
deriving DecidableEq, Repr

/-- What a motion item asks of its station on the next tick (R202, R222, R225). -/
inductive StnReq where
  /-- HOLD or STOP, with the ramp time in ms of a HOLD. -/
  | halt (stop : Bool) (key : Key) (ramp : Nat)
  | resume (key : Key)
deriving DecidableEq, Repr

/-- The last interpolator record of a station (R72): the block in motion, the path parameter, the path velocity per ms and the
acceleration per ms and tick in fx, the override in force, and the count at which it was written. -/
structure InterpRec where
  key : Option Key
  lam : Nat
  vel : Nat
  acc : Int
  feedOvr : Nat
  at_ : Nat
deriving DecidableEq, Repr

/-- The active limits and settings of a station (R206, R207). -/
structure StnLim where
  holdt : Nat
  rtol : Nat
  appf : Nat
  cdv : Nat
  endly : Nat
  blend : Bool
deriving DecidableEq, Repr

/-- The motion side of a station, beside its MOT registers. -/
structure StnMot where
  /-- The block ring, oldest first (ring 4 + s). -/
  ring : List MBlock
  /-- The look-ahead window; its first block is in motion or next to move (R209). -/
  win : List MBlock
  stage : BlockStage
  /-- The path parameter of the first block, in units of 2⁻⁶⁴ of its path. -/
  lam : Nat
  /-- Path velocity in fx per tick, and path acceleration in fx per tick and tick. -/
  vel : Nat
  acc : Int
  /-- The approach under way (R229). -/
  app : Option Approach
  /-- What items ask of the station on the next tick. -/
  reqs : List StnReq
  /-- The count at which the drives turned on (R204). -/
  onAt : Nat
  /-- A trip's interpolator record is still to be written (R228). -/
  recDue : Bool
  /-- The start point of the first block, in ssu, by slot. -/
  start : Vector Int 6
  reader : Option Reader
  /-- The modal state and the block count of the MDI stream (R184). -/
  mdiModal : Modal
  mdiCount : Nat
  /-- Work offsets G54 to G59 by slot, and tool lengths 0 to 99 (R178), exact; the flag marks one given in the other
  unit. -/
  ofs : Vector (Vector (Int × Bool) 6) 6
  tools : Vector (Int × Bool) 100
  hand : Option Hand
  /-- Handshakes of the first block still to be strobed. -/
  hands : List Hand
  brake : Option Brake
  /-- Jogs accepted while braking start at its end (R225). -/
  resume : Option Resume
  /-- Whole ticks of a dwell left (R215). -/
  dwell : Nat
  /-- A spindle change of the first block still waits for its speed (R215). -/
  spinWait : Bool
  /-- Spindle: direction 0 stop, 1 clockwise, 2 counter-clockwise, and commanded speed in 0.001 min⁻¹. -/
  spdir : Nat
  speed : Nat
  /-- The spindle velocity that the planner commands now (R215), 0.001 min⁻¹, signed; in its exact form, 2⁻⁴⁰ of that unit, and its
  acceleration per tick. -/
  spinNow : Int
  spinFine : Int
  spinAcc : Int
  /-- ENDLY runs for motion that starts with the drives (R204). -/
  delay : Bool
  /-- STARVED was raised for the present rest (R209). -/
  starved : Bool
  /-- HOLDREQ and STOPREQ as last sampled. -/
  holdReq : Bool
  stopReq : Bool
  /-- The overtravel bits as last sampled: positive directions in bits 5:0, negative ones in bits 11:6. -/
  ot : Nat
  /-- Device trip conditions that act on the station, by their cause (R228). -/
  trips : List Nat
  lastRec : InterpRec
  lim : StnLim
  /-- A handshake whose finish was not journalled is to be strobed again (R197). -/
  repeat_ : Bool
  /-- The block before the first one was cancelled at rest: the first one starts from the measured position on RESUME (R230). -/
  cut : Bool
deriving DecidableEq, Repr

/-- The active limits of an axis (Table 8.3). -/
structure AxisLim where
  vmax : Nat
  vrap : Nat
  amax : Nat
  jmax : Nat
  jogf : Nat
  lo : Int
  hi : Int
  slen : Bool
deriving DecidableEq, Repr

/-- A jog of an axis (R218). Distances are in ssu, the velocity in quanta/min. -/
structure Jog where
  plus : Bool
  vel : Nat
  /-- The absolute target of an incremental jog. -/
  target : Option Int
  key : Option Key
  /-- The jog is braking to rest, and the deceleration of a HOLD with a ramp time (R221). -/
  braking : Bool
  dec : Option Nat
deriving DecidableEq, Repr

/-- The active gains of an axis (R245). -/
structure Gains where
  kp : Nat
  ki : Nat
  kvf : Nat
  kaf : Nat
  kvp : Nat
  kvi : Nat
  outlim : Nat
  outofs : Int
  tachtol : Nat
  fewarn : Nat
  fetrip : Nat
deriving DecidableEq, Repr

/-- The motion and servo side of an axis, beside its MOT, SRV and ENC registers. Positions are in ssu. -/
structure AxisSt where
  /-- The setpoint of this tick and of the two before it. -/
  sp : Int
  sp1 : Int
  sp2 : Int
  /-- The accumulated feedback count, and that of FB2 (R239, R250). -/
  count : Int
  count2 : Int
  /-- The compensated measured position, and that of the tick before. -/
  pos : Int
  pos1 : Int
  /-- What AXIS REF, a switch to FB2 and a restored reference add to the converted position, ssu. -/
  ofs : Int
  lim : AxisLim
  gain : Gains
  /-- APPLY was written: the shadow gains become active on the next tick (R245). -/
  apply : Bool
  /-- The two integrators of R241, each already multiplied by its gain, in quanta/min and in fractions of full scale. -/
  integ : Rat
  integV : Rat
  /-- Ticks on which f has stood at its limit (R243). -/
  satTicks : Nat
  jog : Option Jog
  /-- Jogs that wait, oldest first: in the opposite direction, or for the end of braking (R218, R225). -/
  jogNext : List Jog
  /-- The jog that a stop, a trip or a reset interrupted, and those that waited behind it, until RESUME (R203, R229). -/
  jogHeld : List Jog
  /-- Velocity and acceleration of a jog or of handwheel motion, in fx per tick, and what of the exact setpoint lies beside `sp`. -/
  jv : Int
  ja : Int
  jf : Int
  /-- Handwheel detents not yet moved, in ssu (R219). -/
  hwPend : Int
  /-- Backlash: the last non-zero setpoint change was positive, and the present term in ssu/BKLT (R258). -/
  bkPlus : Bool
  bkNow : Int
  /-- Consecutive ticks with the following error above the warning limit (R226). -/
  feTicks : Nat
  /-- Consecutive ticks of A outside ±10 % (R252), and of a tach mismatch (R254). -/
  amplTicks : Nat
  tachTicks : Nat
  /-- E_cal of R252: the excitation amplitude when RESNOM was captured. -/
  ecal : Nat
  /-- Ticks of extrapolation left after a feedback loss (R255), and the cause of the loss. -/
  lossLeft : Nat
  lossCause : Nat
  /-- The measured count in the journal (R260). -/
  jcount : Int
  /-- The planner's setpoint of this tick while an extrapolated one stands in its place (R51). -/
  own : Option Int
deriving DecidableEq, Repr
/-! ## Stores -/

/-- The I/O image of a station (R308, R309): the copy that logic reads and writes, and the copy last transferred to the
device and the pins. Bits not listed are 0. -/
structure Img where
  bits : List (Nat × Bool)
  dev : List (Nat × Bool)
deriving DecidableEq, Repr
/-! ## Outputs and excitation -/

/-- A DAC beside its registers (R400 to R407). -/
structure DacSt where
  /-- The item of the ramp in progress, and that of the span change. -/
  valueKey : Option Key
  spanKey : Option Key
  /-- Steps of Table 15.2 done: 0 no change in progress, 1 executed, 2 safe in the old span, 3 reconfigured. -/
  spanStep : Nat
  /-- The span of the output stage. -/
  spanNow : Nat
  /-- The count at which the deglitcher began to hold (R405). -/
  dgAt : Nat
  /-- SAFE of the output before a short forced it (R407). -/
  wasSafe : Bool
  /-- SAFE is to be set on the next tick (R418). -/
  safeNext : Bool
  /-- Replaced `VALUE` items, done on the next tick (R404). -/
  replaced : List Key
  /-- The counts at which the output register took SAFE for a span change (Table 15.2, step 2), and at which a short forced the
  output safe or was last retried (R407). -/
  spanAt : Nat
  shortAt : Nat
deriving DecidableEq, Repr

/-- An excitation generator beside its registers (R412 to R416). Present values are finer than the registers show:
amplitude in mV/24576, increment in units of 1/(24576·6144000), phase in 2⁻³⁴ of 1/65536 cycle. -/
structure ExcSt where
  amp : Nat
  inc : Nat
  phase : Nat
  /-- Items whose targets are not all reached. -/
  key : Option Key
  /-- The table in use: the entries that differ from the sine. The shadow stands in EXC_TAB. -/
  tab : List (Nat × Nat)
  /-- The count at which limiting began. -/
  shortAt : Nat
  /-- The 32-bit phase accumulator at the last tick (R412). -/
  acc : Nat
deriving DecidableEq, Repr
/-! ## The decimal engine and the calculator -/

/-- A result in a mailbox (R279). -/
structure DecRes where
  value : Nat
  tag : Nat
  flags : Nat
deriving DecidableEq, Repr

/-- The decimal engine beside its registers (R274 to R279). -/
structure DecSt where
  /-- Requests in ring DEC_REQ, oldest first; each takes two entries. -/
  ring : List DecReq
  /-- The issue window, in the order of enqueue. -/
  win : List DecReq
  /-- The request in operation, and its result once computed. -/
  busy : Option DecReq
  out : Option DecRes
  /-- Decimal registers D0 to D95 that do not hold +0 with exponent 0. -/
  regs : List (Nat × Nat)
  /-- Results in the mailboxes of the cores, head first. -/
  mbx : Vector (List DecRes) 6
deriving DecidableEq, Repr

/-- A number being keyed in (R289): digits as one number with their count, the digits after the point, and the exponent. -/
structure CalcEntry where
  neg : Bool
  digits : Nat
  count : Nat
  point : Bool
  frac : Nat
  inExp : Bool
  expNeg : Bool
  exp : Nat
  expCount : Nat
deriving DecidableEq, Repr

/-- A pending operator with its left operand, or an open parenthesis (R288). -/
inductive CalcPend where
  | op (code : Nat) (lhs : Nat)
  | paren
deriving DecidableEq, Repr

/-- What the calculator does when its computation is done and every due operator has been applied. -/
inductive CalcGoal where
  /-- A function of X: its result is X. -/
  | func
  /-- A binary operator waits to be pushed, a parenthesis to be closed, or `=` was keyed. -/
  | push (code : Nat)
  | close
  | equals
  /-- The result goes to a memory (STO+). -/
  | memory (n : Nat)
  /-- An RPN binary operation: the stack drops. -/
  | drop
deriving DecidableEq, Repr

/-- A computation in progress: operation code, operands, and what follows it. -/
structure CalcJob where
  op : Nat
  a : Nat
  b : Nat
  goal : CalcGoal
deriving DecidableEq, Repr

/-- The calculator unit (R284 to R291), beside PNL_CALC. Values are 16 bytes. -/
structure CalcSt where
  x : Nat
  y : Nat
  z : Nat
  t : Nat
  ans : Nat
  mem : Vector Nat 10
  entry : Option CalcEntry
  /-- X holds a value that the next digit replaces, and in RPN lifts. -/
  lift : Bool
  pend : List CalcPend
  job : Option CalcJob
  /-- STO, RCL or STO+ waits for its digit: its function code. -/
  await : Option Nat
  scroll : Nat
  /-- The display shows ERROR, or is blank in KEEP-only operation. -/
  error : Bool
  blank : Bool
  /-- The count of the last key press (R287). -/
  keyAt : Nat
deriving DecidableEq, Repr

/-! ## The operator panel -/

/-- A panel action that waits to be accepted (R428, R429): its entry, its key and the count of its key event. -/
structure PanelAct where
  entry : Nat
  key : Nat
  at_ : Nat
deriving DecidableEq, Repr

/-- A byte in the queue of the character port: data rather than a command, and the item that it belongs to and ends. -/
structure ChrByte where
  byte : Nat
  rs : Bool
  key : Option Key
  last : Bool
deriving DecidableEq, Repr

/-- A key accepted down (R427): the counts of its press and of its next repeat, and whether its long press has come. -/
structure KeyHold where
  key : Nat
  at_ : Nat
  next : Nat
  long : Bool
deriving DecidableEq, Repr

/-- The panel beside its registers (R424 to R439). -/
structure PanelSt where
  /-- Keys accepted down. -/
  down : List Nat
  /-- The key queue, oldest first: key and kind. -/
  kq : List (Nat × Nat)
  acts : List PanelAct
  chq : List ChrByte
  /-- Bytes of items that wait for queue space, in order. -/
  chWait : List ChrByte
  holds : List KeyHold
  /-- The count at which the cycle of the byte at the head of the queue began (Table 16.5). -/
  chrAt : Nat
deriving DecidableEq, Repr

/-! ## Trelfieno cores -/

/-- What a core waits for in the middle of an instruction. -/
inductive CoreWait where
  | none
  /-- The next lattice tick, at WAITL. -/
  | tick
  /-- The commit of a checkpoint (R314). -/
  | chkpt (r : Checkpoint)
  /-- A decimal result, to be written at the address (R339). -/
  | dpop (a : Half)
  /-- The answer to a line request (R340). -/
  | req
deriving DecidableEq, Repr

/-- A core beside its SYS registers (Table 11.1). ILV and WC are SYS_CSTAT.ILV and SYS_CWSN.WC; `ser` is the series of WC
(R643). -/
structure CoreSt where
  w : Vector Byte 16
  sp : Half
  pc : Half
  fl : Byte
  am : Byte
  cnt : Half
  src : Half
  dst : Half
  modb : Half
  modl : Half
  /-- BANK0 to BANK3, 9 bits each (R298). -/
  bank : Vector Nat 4
  ser : Nat
  /-- The four vectors as read at the start (R331). -/
  vec : Vector Half 4
  /-- Private bits of the hosted task at 1 (R307). -/
  bits : List (Nat × Bool)
  /-- The bytes of a load that its destination does not hold yet (R301), and the registers that the present instruction has
  written. -/
  load : List (Fin 16 × Byte)
  wrote : List (Fin 16)
  wait : CoreWait
  /-- The WAITLs in progress or interrupted, newest first: the interrupt level, the address and the count of issue (R330). -/
  wl : List (Nat × Half × Nat)
  /-- The tick of the last WAITL or CHKPT, of the start, or of the last CORE_LATE (R318). -/
  sup : Nat
  /-- The core is in its tick section (R313), and the section is late, so the image bits that it writes are discarded (R51). -/
  sect : Bool
  late : Bool
  /-- The image bits that the section has written since the last tick, with their values before. -/
  undo : List (Nat × Bool)
deriving DecidableEq, Repr

/-- A takeover in progress (R317): the failed core, the spare, and the count of the detection. -/
structure Takeover where
  failed : Fin 6
  spare : Fin 6
  at_ : Nat
  /-- TAKEOVER_LATE has been raised. -/
  late : Bool
deriving DecidableEq, Repr

/-! ## Field pins -/

/-- A field pin beside its registers (R457): the count of its last turn-off, whether a retry is in progress and the count
it began at, the condition that latched it, the counts of its thermal shutdowns, and whether its input waits to be read
again after its group's return (R447). -/
structure PinSt where
  offAt : Nat
  retrying : Bool
  retryAt : Nat
  cond : Nat
  shuts : List Nat
  stale : Bool
deriving DecidableEq, Repr

/-- The field pins beside their registers. The lists of bits are by pin number, and a bit not listed is 0: FIN and FFLT as
latched (R309), FOUT as logic writes it and as last transferred, and the FIN kept for FAILV 2 (R456). -/
structure FioSt where
  fin : List (Nat × Bool)
  flt : List (Nat × Bool)
  fout : List (Nat × Bool)
  foutDev : List (Nat × Bool)
  kept : List (Nat × Bool)
  /-- Pins whose FIN does not show the taken level at present. -/
  bad : List Nat
  pin : Vector PinSt 64
  /-- The group has not left the UV state that it came up in (R446). -/
  firstUv : Vector Bool 8
  /-- The count of the last commit, until the initial UV has been judged (R446). -/
  commitAt : Option Nat
  /-- The count of the last test burst of an AIN pin, or of the setting of OWEN. -/
  burst : Vector Nat 32
  /-- The count at which the group entered its present state (R446). -/
  leftAt : Vector Nat 8
deriving DecidableEq, Repr

/-! ## The Reedbed and the converters -/

/-- A region of the Reedbed beside its registers: the configuration it runs, and its logic registers at 1. -/
structure RegionSt where
  cfg : RegionCfg
  ones : List (Nat × Bool)
deriving DecidableEq, Repr

/-- Where a region load stands (Table 13.4, R358, R359). -/
inductive LoadStage where
  /-- Executed; tick k freezes the outputs. -/
  | accepted
  /-- Writing the region given, for the first time or again. -/
  | writing (r : Nat) (again : Bool)
  /-- Every region is written; the next tick is S. -/
  | written
  /-- Settling, with the ticks left before the earliest epoch tick. -/
  | settling (left : Nat)
  /-- Tick E has come; the conditions are checked again. -/
  | due
  /-- Rolling back: writing the region given, for the first time or again. -/
  | undoing (r : Nat) (again : Bool)
  /-- Rolled back; the next tick releases. -/
  | undone
deriving DecidableEq, Repr

/-- A region image as staged (R549): its serial, mask, place in the staging area in bytes, and its regions. -/
structure Staged where
  serial : Nat
  mask : Nat
  off : Nat
  len : Nat
  cfg : List (Nat × RegionCfg)
deriving DecidableEq, Repr

/-- A load in progress. `old` and `routes` are what a rollback restores; `err` is the error that ends the item. -/
structure RegionLoad where
  key : Key
  img : Nat
  cfg : List (Nat × RegionCfg)
  at_ : Option Nat
  stage : LoadStage
  old : List (Nat × RegionSt)
  /-- The sources, before the load, of the sinks it changes, and the sources after it. -/
  routes : List (Nat × Nat)
  newRoutes : List (Nat × Nat)
  failed : List Nat
  err : Nat
deriving DecidableEq, Repr

/-- A converter channel beside its registers. -/
structure ChanSt where
  /-- Its last calibration failed or the self-check failed it; CAL_DUE has been raised since its calibration. -/
  due : Bool
  /-- SETTLE-FIRST: ticks since the last conversion started, and whether it is untouched. -/
  sfAge : Nat
  sfGood : Bool
  /-- The value and the difference of the tick before (R51). -/
  last : Int
  /-- The counts at which the chain memory began to fill anew (R379), the present calibration began (R370), and the present
  SETTLE-FIRST conversion began (R384). -/
  memAt : Nat
  calAt : Nat
  sfAt : Nat
deriving DecidableEq, Repr

/-- The converters beside their registers. -/
structure ConvSt where
  chan : Vector ChanSt 24
  /-- CAL items with the channels that have not finished. -/
  cals : List (Key × List Nat)
  /-- Consecutive comparisons with a divergence (R375), and whether one has been found in the present run of them. -/
  diverge : Nat
  /-- The count of the last comparison (R375). -/
  refAt : Nat
deriving DecidableEq, Repr

/-! ## The Ohmid link -/

/-- A data frame (Table 18.1): the header without its check, and the payload. -/
structure LinkFrame where
  dmask : Nat
  src : Nat
  typ : Nat
  hops : Nat
  mc : Bool
  q : Bool
  wsn : Nat
  txn : Nat
  payload : List Byte
deriving DecidableEq, Repr

/-- A frame that a port has numbered and not seen acknowledged (R479): its attempts so far, whether it is on the wire or
awaits its answer, whether it was refused with FULL, and whether it is a forwarded one. -/
structure LinkSent where
  f : LinkFrame
  lseq : Nat
  tries : Nat
  out : Bool
  full : Bool
  fwd : Bool
deriving DecidableEq, Repr

/-- A symbol on the wire (R470, R476): the two characters that frame a data frame, and a byte. -/
inductive LinkSym where
  | k27
  | k29
  | byte (b : Byte)
deriving DecidableEq, Repr

/-- A control frame as a port has sent it (R478). -/
inductive LinkCtl where
  | ack (lseq : Nat)
  | nak (lseq : Nat) (full : Bool)
  | pause (quanta : Nat)
  | sync (count : Nat)
  | freeze
deriving DecidableEq, Repr

/-- A port beside its OLK registers (R471 to R482). -/
structure LinkPort where
  nbr : Option (Fin 8)
  /-- Frames routed to the port that it has not numbered yet, and those it forwards (at most 8). -/
  queue : List LinkFrame
  fwd : List LinkFrame
  win : List LinkSent
  /-- The next LSEQ to give, and the last one taken from the neighbour. -/
  next : Nat
  seen : Option Nat
  /-- The quanta of the neighbour's pause in force, 0 for none; and whether this port holds its neighbour paused. -/
  pauseQ : Nat
  pausing : Bool
  /-- The counts at which data frames exhausted their attempts, of the last 100 ms; and the frames discarded (R476, R479). -/
  exhaust : List Nat
  discards : Nat
  /-- The failed mark, which LINK CLEAR alone takes back (R472); it is journalled. -/
  bad : Bool
  /-- Control frames and data frames sent since the last lattice tick, oldest first. -/
  ctl : List LinkCtl
  wire : List (List LinkSym)
  /-- The count at which the port went down (R471), none before it first trains; and of the symbol errors of the last second
  (R472). -/
  downAt : Option Nat
  errAt : List Nat
deriving DecidableEq, Repr

/-- A frame delivered to the transaction layer (ring LNK_RX). A local leg (R485, R488) carries its session's authority. -/
structure LinkRx where
  f : LinkFrame
  auth : Option Auth
deriving DecidableEq, Repr

/-- Where a transaction stands on its sender (R79, R483, Table 3.5). -/
inductive TxnSt where
  /-- Sent, with no answer yet. -/
  | sent
  /-- Answered BUSY (R483). -/
  | busy
  /-- Accepted; the RESULT is awaited. -/
  | accepted
  /-- In doubt, with the queries sent so far. -/
  | inDoubt (queries : Nat)
  /-- A query still awaits its ANSWER. -/
  | query
  /-- Ended. -/
  | done
  | failed (err : Nat)
deriving DecidableEq, Repr

/-- A transaction of a `PEER` item or a `PEER?` query (R483, R484): its item, its destination, its identity, what it sends,
and the count of its sending. -/
structure Txn where
  key : Option Key
  org : Origin
  d : Fin 8
  wsn : Nat
  txn : Nat
  text : String
  auth : Auth
  st : TxnSt
  at_ : Nat
deriving DecidableEq, Repr

/-- A device's leg of a multicast (R489, R490): its WSN, its vote (none yet, or the code and error), whether it has
acknowledged the decision, and its result. -/
structure McLeg where
  d : Fin 8
  wsn : Nat
  vote : Option (Nat × Nat)
  acked : Bool
  res : Option Nat
  late : Bool
deriving DecidableEq, Repr

/-- The decision of a multicast: none yet, COMMIT with its apply count, or ABORT with the error of the item. -/
inductive McDecision where
  | open_
  | commit (count : Nat)
  | abort (err : Nat)
deriving DecidableEq, Repr

/-- A multicast on its originator (Table 18.3). -/
structure Multicast where
  key : Key
  txn : Nat
  mask : Nat
  text : String
  auth : Auth
  legs : List McLeg
  dec : McDecision
  at_ : Nat
  ended : Bool
  err : Nat
deriving DecidableEq, Repr

/-- A staged item at a receiver (R489, R491): the item, the originator, its transaction, the apply count once known, whether
the COMMIT came after its tick, and whether it is still staged: neither executed nor aborted. -/
structure StagedLeg where
  key : Key
  src : Fin 8
  txn : Nat
  count : Option Nat
  late : Bool
  live : Bool
deriving DecidableEq, Repr

/-- A line of a peer in hand or accepted (R483): its key, the peer, its transaction, and whether its item was a late one of a
multicast. A query stands under series 0, which no source has. -/
structure PeerOpen where
  key : Key
  src : Fin 8
  txn : Nat
  late : Bool
deriving DecidableEq, Repr

/-- What a device last said of itself in a TOPO frame (R473). -/
structure TopoEnt where
  addr : Fin 8
  info : TopoInfo
deriving DecidableEq, Repr

/-- The Ohmid link beside its registers. -/
structure LinkSt where
  port : Vector LinkPort 2
  /-- Frames that wait for room in ring LNK_TX; and ring LNK_RX with the local legs among its frames. -/
  txWait : List LinkFrame
  rx : List LinkRx
  /-- The authority of the local leg in hand (R485, R488). -/
  auth : Option Auth
  /-- PNL_DRAW as last mirrored (R493). -/
  lastDraw : List Word
  topo : List TopoEnt
  /-- The delay of the path from the master, 1/16 count. -/
  pathDly : Nat
  /-- Consecutive SYNCs within ±2 counts, and the count of the last SYNC. -/
  good : Nat
  lastSync : Option Nat
  /-- Counts still to be added, or omitted where negative (R495). -/
  corr : Int
  /-- The next transaction number, and the series of this device as a source at each peer. -/
  nextTxn : Nat
  oser : Vector Nat 8
  /-- A series mismatch has been found for the peer (R487). -/
  mism : Vector Bool 8
  txns : List Txn
  mcs : List Multicast
  staged : List StagedLeg
  open_ : List PeerOpen
deriving DecidableEq, Repr

/-! ## Observation -/

/-- A trace record (Table 22.5). `data` is DATA as one little-endian number. -/
structure TraceRec where
  t : Nat
  kind : Nat
  stn : Nat
  unsync : Bool
  prog : Nat
  blk : Nat
  sub : Nat
  eng : Nat
  optag : Nat
  data : Nat
deriving DecidableEq, Repr

/-- A line of a snapshot with the station code of its owner: 0 to 3, 4 the board, 5 visible to all (Table 22.3). -/
structure SnapLine where
  own : Nat
  line : List Fd
deriving DecidableEq, Repr

/-- The counters of one engine (R585). -/
structure EngCount where
  busy : Nat
  idle : Nat
  stall : Vector Nat 8
deriving DecidableEq, Repr

/-- The observation block beside its registers. -/
structure ObsSt where
  eng : Vector EngCount 33
  snap : Option (List SnapLine)
  /-- Samples a skim slot is to take, its owner when it was set, and the slots that start on the next tick (R594). -/
  skNt : Vector (Option Nat) 16
  skOwn : Vector Nat 16
  skStart : List Nat
  /-- The capture queue and the trace buffer, oldest first; the records dropped and not yet reported (R599, R600). -/
  tq : List TraceRec
  tb : List TraceRec
  dropped : Nat
  /-- Records still to capture after a freeze. -/
  postLeft : Option Nat
  /-- The half counts of port time not yet used. -/
  portTime : Nat
  /-- T[63:24] of the last tick (TIME records). -/
  epoch : Nat
  /-- The bytes of the records that the trace port sent before the last tick (R601). -/
  port : List Byte
deriving DecidableEq, Repr

/-! ## Flash, images, supplies and the test port -/

/-- A flash operation (R513): the erase of a sector, the program of granules of one sector, or a repair by the steward,
which erases the sector and writes back the granules it keeps (R518). -/
inductive FlashKind where
  | erase
  | program
  | repair
deriving DecidableEq, Repr

structure FlashOp where
  kind : FlashKind
  sect : Nat
  /-- Granules by address, with the 16 bytes of each. -/
  gran : List (Nat × List Byte)
  key : Option Key
  /-- The last operation of its item. -/
  last : Bool
deriving DecidableEq, Repr

/-- The flash beside the FLS registers and its contents. -/
structure FlashSt where
  /-- Operations in the order of their commits; the first is in progress, with its INTENT committed (R515). -/
  ops : List FlashOp
  /-- Granules with their complete marker (R509), by number, rising. -/
  marks : List Nat
  /-- Operations abandoned by a reset since the last replay (R516), items whose operation was abandoned, and their
  operations that wait for the steward to have repaired the sector (R74). -/
  lost : List FlashOp
  cut : List Key
  wait : List FlashOp
  /-- A sector has reached 80 000 erases (R520). -/
  worn : Bool
  /-- Archived outcomes in the order of their writing, with the record of the archive that holds each: 0 to 24 575 in part 0, and
  from there on in part 1 (R512). -/
  arch : List (Key × Nat)
  /-- The count at which the last operation ended (R518). -/
  restAt : Nat
deriving DecidableEq, Repr

/-- The SRAM beside the SYS registers and its contents (R507, R508): general pages relocated and lost, and by bank the word
and count of the last uncorrectable error. -/
structure SramSt where
  reloc : List (Nat × Nat)
  lost : List Nat
  unc : Vector (Option (Nat × Nat)) 2
deriving DecidableEq, Repr

/-- An image as read from a stream (R533 to R536). -/
structure Image where
  mono : Bool
  kind : Nat
  serial : Nat
  isaMaj : Nat
  isaMin : Nat
  slot : Nat
  rgn : Nat
  stn : Nat
  /-- REG entries in stream order, contents of general pages, regions, and owner keys. -/
  regs : List (Nat × Nat)
  pages : List (Nat × List Byte)
  regions : List (Nat × RegionCfg)
  owners : Option (List Nat)
  /-- The station of each axis and of each encoder receiver. -/
  axes : List Nat
  encs : List Nat
deriving DecidableEq, Repr

/-- A candidate of Table 20.1: its position, its source (0 A, 1 B, 2 SPIA, 3 SPIB), and whether it is skipped unread. -/
structure Candidate where
  pos : Nat
  src : Nat
  skip : Bool
deriving DecidableEq, Repr

/-- Start-up and images beside the CFG registers. -/
structure BootSt where
  /-- Candidates still to try; the candidate that has passed; and the image that runs. -/
  cands : List Candidate
  cand : Option (Candidate × Image)
  run : Option Image
  /-- The self-test of R507 and the calibration of R542 have finished. -/
  tested : Bool
  calibrated : Bool
  /-- This device drives CFG_DONE low; it drives CFG_ERR high (R542, R545). -/
  doneLow : Bool
  errHigh : Bool
  /-- FAULT CFG_TIMEOUT has been raised in this start (R546). -/
  late : Bool
  /-- The ticks of settling left once the commit has written its regions (Table 20.5). -/
  settle : Option Nat
  /-- Key slots (R537). -/
  keys : Vector Nat 4
  /-- The buffer of the loader console: bytes that are not 0 (R547). -/
  buf : List (Nat × Byte)
  /-- The count at which CFG_DONE was released (R546). -/
  waitAt : Nat
deriving DecidableEq, Repr

/-- Supplies and resets beside the PWR registers. -/
structure PowerSt where
  /-- The KEEP integrity word (R572). -/
  keep : Bool
  /-- The close-down in progress: the kind of its reset and its cause (Tables 3.7, 3.8). -/
  closing : Option (ResetKind × Nat)
  /-- The cause of the last close-down or reset, which the next RESTART record carries; 0 for none. Whether there was a
  close-down. -/
  cause : Nat
  closed : Bool
  /-- DIE_HOT has been raised and the die has not fallen below 120 °C (R577). -/
  hot : Bool
  /-- The count since which a station has met the conditions of R573, and the items that wake it (R576). -/
  rest : Vector (Option Nat) 4
  wake : Vector (List Key) 4
  /-- The count at which the watchdog period ends (R567). -/
  wdt : Option Nat
  /-- A failed SRAM bank asks for the reduced layout at the warm reset in progress (R508). -/
  reduce : Bool
  /-- The count at which the close-down in progress was triggered (Table 3.8). -/
  closeAt : Nat
  /-- The count since which the die has stood at 145 °C (R577). -/
  overAt : Option Nat
deriving DecidableEq, Repr

/-- The instruction of the test access port (Table 23.6). -/
inductive TapIr where
  | extest | idcode | sample | bypass
deriving DecidableEq, Repr

/-- The IDCODE of R3: version, part number, manufacturer identity and the fixed 1, from bit 31 down. -/
def idcodeReg : BitVec 32 := 0x0#4 ++ 0x6240#16 ++ 0x50E#11 ++ 1#1

/-- The test access port (R614): its instruction, its boundary register, and the data register selected as captured, bit 0
first. -/
structure TapSt where
  ir : TapIr
  bnd : BitVec 256
  dr : List Bool
deriving DecidableEq, Repr

/-! ## The whole state -/

/-- What the running image fixes that no register holds (R22, R536): its serial, the configured stations, and the
station of each axis (none for an axis of no station). -/
structure Config where
  serial : Nat
  stations : Vector Bool 4
  axisStn : Vector (Option (Fin 4)) 12
  /-- The station of each encoder receiver: 0 to 3, 4 the board, 7 none (R23). -/
  encStn : Vector Nat 12
deriving DecidableEq, Repr

/-- A field write that takes effect on the next lattice tick. -/
structure TickWrite where
  fld : Fld
  i : Nat
  j : Nat
  v : Nat
deriving DecidableEq, Repr

structure State where
  phase : Phase
  /-- Acceptance is stopped by an accepted RESET or by a close-down before the phase changes (R81, R141). -/
  stopped : Bool
  /-- Registers whose word differs from its reset value, by address, rising (R7). -/
  regs : List (Nat × Word)
  clk : Clock
  lat : Lattice
  conf : Config
  jrn : Journal
  ev : Events
  /-- Event records that wait for a depth change of their ring (R153), by class. -/
  evWait : Vector (List EvRec) 4
  ringChg : List RingChange
  /-- The first entry of each ring in the ring area of its bank (R149, R504). -/
  ringBase : Vector Nat 16
  /-- Rings whose descriptor copies have been found to differ with neither in error; every other ring has two equal copies (R149). -/
  ringMeta : List (Fin 16)
  tickSet : List TickWrite
  sess : Vector Session 2
  port : Vector Port 2
  tape : Tape
  /-- Answers on their way to a core or a link peer (R311, R483). -/
  answers : List (Origin × RLine)
  /-- The real-time clock's setting and the count it was set at; none reads UNSET (R128, R129). -/
  rtc : Option (DateTime × Nat)
  /-- The item of an accepted RESET that has not begun, with its kind (R141). -/
  resetReq : Option (Key × ResetKind)
  /-- The next free value (a field of the model's own). -/
  freeCtr : Nat
  /-- SRAM and flash by address, in canonical form (Tables 1.5, 19.1, 19.2). -/
  mem : List Host.Cell
  img : Vector Img 4
  /-- The shared flags at 1, by bit address 0x1800 to 0x1FFF (R307). -/
  flags : List (Nat × Bool)
  progs : List Prog
  mot : Vector StnMot 4
  axis : Vector AxisSt 12
  /-- The live detent counts of the handwheels, 16 bits (R432). -/
  hwDet : Vector Nat 2
  dac : Vector DacSt 16
  exc : Vector ExcSt 4
  /-- The counts of the last rising and falling edge of LDAC_IN that no tick has taken up (R401). -/
  ldacRise : Option Nat
  ldacFall : Option Nat
  /-- Groups that a command is to strobe on the next tick, a bit each (R401). -/
  loadReq : Nat
  rgn : Vector RegionSt 8
  loads : List RegionLoad
  staged : List Staged
  conv : ConvSt
  dec : DecSt
  calcu : CalcSt
  panel : PanelSt
  fio : FioSt
  lnk : LinkSt
  obs : ObsSt
  core : Vector CoreSt 6
  take : Option Takeover
  flash : FlashSt
  sram : SramSt
  boot : BootSt
  pwr : PowerSt
  tap : TapSt
  pending : List Instr
deriving DecidableEq, Repr

/-! ## The state after reset -/

/-- The reset value of a register's field. -/
def fldReset (f : Fld) (i : Nat) : Nat := (regReset f.reg i 0).toNat / 2 ^ f.lo % 2 ^ f.wd
def fldResetInt (f : Fld) (i : Nat) : Int :=
  let v := fldReset f i
  if v < 2 ^ (f.wd - 1) then v else (v : Int) - 2 ^ f.wd

def portReset (p : Fin 2) : Port :=
  ⟨[], 0, false, false, false, false, .none, false, [], [], 0, [], [], [], [], 0, regReset .SER_MODE p 0, regReset .SER_BAUD p 0,
    none, false, false, [], Vector.replicate 4 0, false, []⟩

def modalReset : Modal :=
  ⟨0, 0, false, false, false, none, none, 0, 0, 0, 0, Vector.replicate 6 0, Vector.replicate 6 false, Vector.replicate 6 0⟩

def stnMotReset (k : Fin 4) : StnMot where
  ring := []
  win := []
  stage := .before
  lam := 0
  start := Vector.replicate 6 0
  reader := none
  mdiModal := modalReset
  mdiCount := 0
  ofs := Vector.replicate 6 (Vector.replicate 6 (0, false))
  tools := Vector.replicate 100 (0, false)
  hand := none
  hands := []
  brake := none
  resume := none
  dwell := 0
  spinWait := false
  spdir := 0
  speed := 0
  spinNow := 0
  spinFine := 0
  spinAcc := 0
  vel := 0
  acc := 0
  app := none
  reqs := []
  onAt := 0
  recDue := false
  delay := false
  starved := false
  holdReq := false
  stopReq := false
  ot := 0
  trips := []
  lastRec := ⟨none, 0, 0, 0, fldReset .MOT_OVR_FEED k, 0⟩
  lim := ⟨fldReset .MOT_HOLDT_HOLDT k, fldReset .MOT_RTOL_RTOL k, fldReset .MOT_APPF_APPF k, fldReset .MOT_CDV_CDV k,
    fldReset .MOT_SCFG_ENDLY k, fldReset .MOT_SCFG_BLEND k != 0⟩
  repeat_ := false
  cut := false

def gainsReset (a : Nat) : Gains :=
  ⟨fldReset .SRV_KP_KP a, fldReset .SRV_KI_KI a, fldReset .SRV_KVF_KVF a, fldReset .SRV_KAF_KAF a, fldReset .SRV_KVP_KVP a,
    fldReset .SRV_KVI_KVI a, fldReset .SRV_OUTLIM_OUTLIM a, fldResetInt .SRV_OUTOFS_OUTOFS a, fldReset .SRV_TACHTOL_TOL a,
    fldReset .SRV_FEWARN_FEWARN a, fldReset .SRV_FETRIP_FETRIP a⟩

def axisReset (a : Fin 12) : AxisSt where
  sp := 0
  sp1 := 0
  sp2 := 0
  count := 0
  count2 := 0
  pos := 0
  pos1 := 0
  ofs := 0
  lim := ⟨fldReset .MOT_VMAX_VMAX a, fldReset .MOT_VRAP_VRAPID a, fldReset .MOT_AMAX_AMAX a, fldReset .MOT_JMAX_JMAX a,
    fldReset .MOT_JOGF_JOGF a, fldResetInt .MOT_SLO_LO a, fldResetInt .MOT_SHI_HI a, fldReset .MOT_AXCTL_SLEN a != 0⟩
  gain := gainsReset a
  apply := false
  integ := 0
  integV := 0
  satTicks := 0
  jog := none
  jogNext := []
  jogHeld := []
  jv := 0
  ja := 0
  jf := 0
  hwPend := 0
  bkPlus := false
  bkNow := 0
  feTicks := 0
  amplTicks := 0
  tachTicks := 0
  ecal := 0
  lossLeft := 0
  lossCause := 0
  jcount := 0
  own := none

/-- A region that no image configures: OFF (R544). -/
def offCfg : RegionCfg := ⟨[], [], [], 0, 0, [], 0, 0, 0, 0, 0, 0⟩

def coreReset : CoreSt :=
  ⟨Vector.replicate 16 0, 0, 0, 0, 0, 0, 0, 0, 0, 0, Vector.replicate 4 0, 1, Vector.replicate 4 0, [], [], [], .none, [], 0, false, false, []⟩

def linkPortReset : LinkPort := ⟨none, [], [], [], 0, none, 0, false, [], 0, false, [], [], none, []⟩

/-- The calculator at KEEP-loss (R290); its values of +0 with exponent 0 are the given pattern. -/
def calcReset (zero : Nat) : CalcSt :=
  ⟨zero, zero, zero, zero, zero, Vector.replicate 10 zero, none, false, [], none, none, 0, false, false, 0⟩

/-- The decimal +0 with exponent 0: nothing but the biased exponent 6176, whose two high bits stand in the combination field. -/
def decZero : Nat := 8 * 2 ^ 122 + 2080 * 2 ^ 110

/-- The fabric, the lattice and the sessions as a reset leaves them. -/
def latReset : Lattice := ⟨0, 1000, false, 0, true, false, Vector.replicate 4 false, false, false, false, 0⟩
def sessReset : Session := ⟨⟨Vector.replicate 4 false, false⟩, 0, 0, none⟩
def fioReset : FioSt :=
  ⟨[], [], [], [], [], [], Vector.replicate 64 ⟨0, false, 0, 0, [], false⟩, Vector.replicate 8 true, none, Vector.replicate 32 0,
    Vector.replicate 8 0⟩
def decReset : DecSt := ⟨[], [], none, none, [], Vector.replicate 6 []⟩
def obsReset : ObsSt :=
  ⟨Vector.replicate 33 ⟨0, 0, Vector.replicate 8 0⟩, none, Vector.replicate 16 none, Vector.replicate 16 4, [], [], [], 0, none, 0, 0, []⟩
def journalReset : Journal :=
  ⟨Vector.replicate 6 none, [], [], [], [], Vector.replicate 24 ⟨1, 0⟩, none, Vector.replicate 4 none, 0, Vector.replicate 4 0⟩

/-- The machine right after reset: a part whose journal and flash have never been written and whose KEEP domain is new,
held in its cold reset, so that RESET_RELEASE is the row that comes next. Every register holds its reset value, and memory
lists nothing. Fields of which no rule gives a reset value stand as log entry 35 says. -/
def State.reset : State where
  phase := .inReset
  stopped := false
  regs := []
  clk := ⟨0, 0, 0, 0, 0, 0, .xtal, false, false, []⟩
  lat := latReset
  conf := ⟨0, #v[true, false, false, false], Vector.replicate 12 none, Vector.replicate 12 7⟩
  jrn := journalReset
  ev := ⟨Vector.replicate 4 [], Vector.replicate 4 [], false⟩
  evWait := Vector.replicate 4 []
  ringChg := []
  ringMeta := []
  ringBase := Vector.ofFn fun r => 64 * (r.val / 2)
  tickSet := []
  sess := Vector.replicate 2 sessReset
  port := Vector.ofFn portReset
  tape := ⟨[], false, false, false, none, none, none, false, false, 0, ""⟩
  answers := []
  rtc := none
  resetReq := none
  freeCtr := 0
  mem := []
  img := Vector.replicate 4 ⟨[], []⟩
  flags := []
  progs := []
  mot := Vector.ofFn stnMotReset
  axis := Vector.ofFn axisReset
  hwDet := Vector.replicate 2 0
  dac := Vector.replicate 16 ⟨none, none, 0, 0, 0, false, false, [], 0, 0⟩
  exc := Vector.replicate 4 ⟨0, 0, 0, none, [], 0, 0⟩
  ldacRise := none
  ldacFall := none
  loadReq := 0
  rgn := Vector.replicate 8 ⟨offCfg, []⟩
  loads := []
  staged := []
  conv := ⟨Vector.replicate 24 ⟨false, 0, false, 0, 0, 0, 0⟩, [], 0, 0⟩
  dec := decReset
  calcu := calcReset decZero
  panel := ⟨[], [], [], [], [], [], 0⟩
  fio := fioReset
  lnk :=
    { port := Vector.replicate 2 linkPortReset, txWait := [], rx := [], auth := none, lastDraw := [], topo := [],
      pathDly := 0, good := 0, lastSync := none, corr := 0, nextTxn := 0, oser := Vector.replicate 8 1,
      mism := Vector.replicate 8 false, txns := [], mcs := [], staged := [], open_ := [] }
  obs := obsReset
  core := Vector.replicate 6 coreReset
  take := none
  flash := ⟨[], [], [], [], [], false, [], 0⟩
  sram := ⟨[], [], Vector.replicate 2 none⟩
  boot := ⟨[], none, none, false, false, true, false, false, none, Vector.replicate 4 0, [], 0⟩
  pwr := ⟨false, none, 0, false, false, Vector.replicate 4 none, Vector.replicate 4 [], none, false, 0, none⟩
  tap := ⟨.idcode, 0, (List.range 32).map idcodeReg.getLsbD⟩
  pending := []

end Sys2Proof.Machine
end

