-- ==== Sys2Proof/Machine/Codes.lean ====
section
/-! DEFINITION. The cause codes of event records (R158, Table 6.5 and the cause tables of the later chapters) and the
texts of the error numbers (R106, Tables 4.5 and 5.4 and the error tables of the later chapters). -/
namespace Sys2Proof.Machine

def Cause.SRAM_BANK : Nat := 0x0001
def Cause.CORE_FAILED : Nat := 0x0002
def Cause.NO_SPARE : Nat := 0x0003
def Cause.CORE_LATE : Nat := 0x0004
def Cause.TAKEOVER_LATE : Nat := 0x0005
def Cause.SRAM_CORR : Nat := 0x0006
def Cause.SRAM_UNCORR : Nat := 0x0007
def Cause.PAGE_LOST : Nat := 0x0008
def Cause.BROWNOUT : Nat := 0x0101
def Cause.WARM_RESET : Nat := 0x0102
def Cause.WARM_STOP : Nat := 0x0103
def Cause.RESTART : Nat := 0x0104
def Cause.WATCHDOG : Nat := 0x0105
def Cause.NRESET : Nat := 0x0106
def Cause.CMD_RESET : Nat := 0x0107
def Cause.VBAT_LOW : Nat := 0x0108
def Cause.HOLDUP_LOW : Nat := 0x0109
def Cause.DIE_HOT : Nat := 0x010A
def Cause.DIE_OVERTEMP : Nat := 0x010B
def Cause.LATTICE_OVERRUN : Nat := 0x0201
def Cause.TICK_OVERRUN : Nat := 0x0202
def Cause.SLACK_LOW : Nat := 0x0203
def Cause.RATE_REFUSED : Nat := 0x0204
def Cause.JRN_HALF : Nat := 0x0301
def Cause.JRN_FILL : Nat := 0x0302
def Cause.JRN_LOST : Nat := 0x0303
def Cause.FLASH_BANK : Nat := 0x0401
def Cause.FLASH_POISON : Nat := 0x0402
def Cause.FLASH_WEAR : Nat := 0x0403
def Cause.FLASH_SECTOR : Nat := 0x0404
def Cause.FLASH_QUARANTINE : Nat := 0x0405
def Cause.FLASH_DATA : Nat := 0x0406
def Cause.RING_META : Nat := 0x0501
def Cause.TRIP_IN : Nat := 0x0601
def Cause.WORK_DONE : Nat := 0x0602
def Cause.WORK_FAILED : Nat := 0x0603
def Cause.EVQ_OVERFLOW : Nat := 0x0604
def Cause.REF_LOST : Nat := 0x0701
def Cause.REF_MISSING : Nat := 0x0702
def Cause.DEC_RANGE : Nat := 0x0801
def Cause.DEC_CHECK : Nat := 0x0802
def Cause.FOLLOWING_ERROR : Nat := 0x0901
def Cause.FOLLOWING_TRIP : Nat := 0x0902
def Cause.SOFT_LIMIT : Nat := 0x0903
def Cause.OVERTRAVEL : Nat := 0x0904
def Cause.STARVED : Nat := 0x0905
def Cause.HANDWHEEL_CLIP : Nat := 0x0906
def Cause.MFIN_LATE : Nat := 0x0981
def Cause.EXT_TIMEOUT : Nat := 0x0982
def Cause.PROGRAM_STOP : Nat := 0x0983
def Cause.TACH_MISMATCH : Nat := 0x0A01
def Cause.OUTPUT_SAT : Nat := 0x0A02
def Cause.REF_CLEARED : Nat := 0x0A03
def Cause.FB_SWITCH : Nat := 0x0A04
def Cause.FEEDBACK_LOSS : Nat := 0x0A05
def Cause.RES_AMPL : Nat := 0x0A06
def Cause.FB_JUMP : Nat := 0x0A07
def Cause.ENC_LINE : Nat := 0x0B01
def Cause.ENC_AMPL : Nat := 0x0B02
def Cause.ENC_COUNT : Nat := 0x0B03
def Cause.TRIP_CMP : Nat := 0x0C01
def Cause.REGION_VERIFY : Nat := 0x0C02
def Cause.CELL_SAT : Nat := 0x0C03
def Cause.REF_FAILED : Nat := 0x0E01
def Cause.ADC_CHANNEL : Nat := 0x0E02
def Cause.CAL_DUE : Nat := 0x0E03
def Cause.DA_SHORT : Nat := 0x1001
def Cause.DA_COMPLIANCE : Nat := 0x1002
def Cause.DA_OPEN : Nat := 0x1003
def Cause.EXC_SHORT : Nat := 0x1101
def Cause.EXC_OFF : Nat := 0x1102
def Cause.FIO_PIN : Nat := 0x1201
def Cause.FIO_SHORT : Nat := 0x1202
def Cause.FIO_OPEN : Nat := 0x1203
def Cause.FIO_OVERTEMP : Nat := 0x1204
def Cause.FIO_STUCK : Nat := 0x1205
def Cause.FIO_BREAK : Nat := 0x1206
def Cause.FIO_NSHORT : Nat := 0x1207
def Cause.FIO_REVERSED : Nat := 0x1208
def Cause.VFG_LOSS : Nat := 0x1209
def Cause.VFG_REVERSED : Nat := 0x120A
def Cause.VFG_OVER : Nat := 0x120B
def Cause.AIN_OPEN : Nat := 0x120C
def Cause.AIN_OVER : Nat := 0x120D
def Cause.AIN_REVERSED : Nat := 0x120E
def Cause.PANEL_BUSY : Nat := 0x1301
def Cause.KEYQ_OVERFLOW : Nat := 0x1302
def Cause.CHR_TIMEOUT : Nat := 0x1303
def Cause.COMBO_RESCUE : Nat := 0x1304
def Cause.COMBO_RESET : Nat := 0x1305
def Cause.LINK_PORT : Nat := 0x1401
def Cause.LINK_INDOUBT : Nat := 0x1402
def Cause.LINK_RATE : Nat := 0x1403
def Cause.LINK_HEALED : Nat := 0x1404
def Cause.LINK_ADDR : Nat := 0x1405
def Cause.LINK_SERIES : Nat := 0x1406
def Cause.SYNC_LOST : Nat := 0x1407
def Cause.MC_LATE : Nat := 0x1408
def Cause.SER_REFUSED : Nat := 0x1501
def Cause.TAPE_OVERRUN : Nat := 0x1502
def Cause.TAPE_PARITY : Nat := 0x1503
def Cause.TAPE_CODE : Nat := 0x1504
def Cause.AUTH_FAIL : Nat := 0x1505
def Cause.CFG_FAIL : Nat := 0x1601
def Cause.CFG_TIMEOUT : Nat := 0x1602
def Cause.CFG_FALLBACK : Nat := 0x1603
def Cause.CFG_DEV : Nat := 0x1604
def Cause.STN_DENIED : Nat := 0x1701
def Cause.WRITE_DENIED : Nat := 0x1702
def Cause.ADDR_UNMAPPED : Nat := 0x1703

/-- The name of a cause code, as asynchronous lines give it (R165). -/
def causeName (c : Nat) : String :=
  match c with
  | 0x0001 => "SRAM_BANK"
  | 0x0002 => "CORE_FAILED"
  | 0x0003 => "NO_SPARE"
  | 0x0004 => "CORE_LATE"
  | 0x0005 => "TAKEOVER_LATE"
  | 0x0006 => "SRAM_CORR"
  | 0x0007 => "SRAM_UNCORR"
  | 0x0008 => "PAGE_LOST"
  | 0x0101 => "BROWNOUT"
  | 0x0102 => "WARM_RESET"
  | 0x0103 => "WARM_STOP"
  | 0x0104 => "RESTART"
  | 0x0105 => "WATCHDOG"
  | 0x0106 => "NRESET"
  | 0x0107 => "CMD_RESET"
  | 0x0108 => "VBAT_LOW"
  | 0x0109 => "HOLDUP_LOW"
  | 0x010A => "DIE_HOT"
  | 0x010B => "DIE_OVERTEMP"
  | 0x0201 => "LATTICE_OVERRUN"
  | 0x0202 => "TICK_OVERRUN"
  | 0x0203 => "SLACK_LOW"
  | 0x0204 => "RATE_REFUSED"
  | 0x0301 => "JRN_HALF"
  | 0x0302 => "JRN_FILL"
  | 0x0303 => "JRN_LOST"
  | 0x0401 => "FLASH_BANK"
  | 0x0402 => "FLASH_POISON"
  | 0x0403 => "FLASH_WEAR"
  | 0x0404 => "FLASH_SECTOR"
  | 0x0405 => "FLASH_QUARANTINE"
  | 0x0406 => "FLASH_DATA"
  | 0x0501 => "RING_META"
  | 0x0601 => "TRIP_IN"
  | 0x0602 => "WORK_DONE"
  | 0x0603 => "WORK_FAILED"
  | 0x0604 => "EVQ_OVERFLOW"
  | 0x0701 => "REF_LOST"
  | 0x0702 => "REF_MISSING"
  | 0x0801 => "DEC_RANGE"
  | 0x0802 => "DEC_CHECK"
  | 0x0901 => "FOLLOWING_ERROR"
  | 0x0902 => "FOLLOWING_TRIP"
  | 0x0903 => "SOFT_LIMIT"
  | 0x0904 => "OVERTRAVEL"
  | 0x0905 => "STARVED"
  | 0x0906 => "HANDWHEEL_CLIP"
  | 0x0981 => "MFIN_LATE"
  | 0x0982 => "EXT_TIMEOUT"
  | 0x0983 => "PROGRAM_STOP"
  | 0x0A01 => "TACH_MISMATCH"
  | 0x0A02 => "OUTPUT_SAT"
  | 0x0A03 => "REF_CLEARED"
  | 0x0A04 => "FB_SWITCH"
  | 0x0A05 => "FEEDBACK_LOSS"
  | 0x0A06 => "RES_AMPL"
  | 0x0A07 => "FB_JUMP"
  | 0x0B01 => "ENC_LINE"
  | 0x0B02 => "ENC_AMPL"
  | 0x0B03 => "ENC_COUNT"
  | 0x0C01 => "TRIP_CMP"
  | 0x0C02 => "REGION_VERIFY"
  | 0x0C03 => "CELL_SAT"
  | 0x0E01 => "REF_FAILED"
  | 0x0E02 => "ADC_CHANNEL"
  | 0x0E03 => "CAL_DUE"
  | 0x1001 => "DA_SHORT"
  | 0x1002 => "DA_COMPLIANCE"
  | 0x1003 => "DA_OPEN"
  | 0x1101 => "EXC_SHORT"
  | 0x1102 => "EXC_OFF"
  | 0x1201 => "FIO_PIN"
  | 0x1202 => "FIO_SHORT"
  | 0x1203 => "FIO_OPEN"
  | 0x1204 => "FIO_OVERTEMP"
  | 0x1205 => "FIO_STUCK"
  | 0x1206 => "FIO_BREAK"
  | 0x1207 => "FIO_NSHORT"
  | 0x1208 => "FIO_REVERSED"
  | 0x1209 => "VFG_LOSS"
  | 0x120A => "VFG_REVERSED"
  | 0x120B => "VFG_OVER"
  | 0x120C => "AIN_OPEN"
  | 0x120D => "AIN_OVER"
  | 0x120E => "AIN_REVERSED"
  | 0x1301 => "PANEL_BUSY"
  | 0x1302 => "KEYQ_OVERFLOW"
  | 0x1303 => "CHR_TIMEOUT"
  | 0x1304 => "COMBO_RESCUE"
  | 0x1305 => "COMBO_RESET"
  | 0x1401 => "LINK_PORT"
  | 0x1402 => "LINK_INDOUBT"
  | 0x1403 => "LINK_RATE"
  | 0x1404 => "LINK_HEALED"
  | 0x1405 => "LINK_ADDR"
  | 0x1406 => "LINK_SERIES"
  | 0x1407 => "SYNC_LOST"
  | 0x1408 => "MC_LATE"
  | 0x1501 => "SER_REFUSED"
  | 0x1502 => "TAPE_OVERRUN"
  | 0x1503 => "TAPE_PARITY"
  | 0x1504 => "TAPE_CODE"
  | 0x1505 => "AUTH_FAIL"
  | 0x1601 => "CFG_FAIL"
  | 0x1602 => "CFG_TIMEOUT"
  | 0x1603 => "CFG_FALLBACK"
  | 0x1604 => "CFG_DEV"
  | 0x1701 => "STN_DENIED"
  | 0x1702 => "WRITE_DENIED"
  | 0x1703 => "ADDR_UNMAPPED"
  | _ => ""

/-- The fixed text of an error number (R106). -/
def errText (n : Nat) : String :=
  match n with
  | 101 => "UNKNOWN COMMAND"
  | 102 => "LINE TOO LONG"
  | 103 => "BAD CHARACTER"
  | 104 => "FRAME FORMAT"
  | 105 => "CRC"
  | 106 => "OVERRUN"
  | 107 => "CHAR ERROR"
  | 108 => "TAPE PARITY"
  | 109 => "ARGUMENT"
  | 110 => "AMBIGUOUS"
  | 111 => "NUMBER FORMAT"
  | 112 => "STRING"
  | 113 => "NO QUERY FORM"
  | 114 => "TAPE CODE"
  | 115 => "RESCUE"
  | 120 => "BLOCK WORD"
  | 121 => "BLOCK GROUP"
  | 122 => "BLOCK LENGTH"
  | 123 => "BLOCK VALUE"
  | 130 => "EXPRESSION"
  | 131 => "EXPRESSION SIZE"
  | 221 => "ASSIGNMENT LOCKED"
  | 222 => "RATE LOCKED"
  | 223 => "STATION NOT IDLE"
  | 224 => "RING ACTIVE"
  | 225 => "PROGRAM IN USE"
  | 226 => "STATION BUSY"
  | 227 => "PROGRAM OPEN"
  | 228 => "PROGRAM CLOSED"
  | 229 => "PROGRAM EXISTS"
  | 230 => "NOT PERMITTED"
  | 231 => "BAD KEY"
  | 232 => "KEY LOCKED"
  | 241 => "OFF PATH"
  | 242 => "NOT CANCELLABLE"
  | 243 => "NOT HELD"
  | 244 => "USE RESUME"
  | 245 => "TAPE BUSY"
  | 246 => "NO HANDSHAKE"
  | 247 => "TAPE POSITION"
  | 249 => "NOT ERASED"
  | 250 => "NO SUCH AXIS"
  | 251 => "UNSUPPORTED CODE"
  | 252 => "ARC"
  | 253 => "EXTENSION"
  | 254 => "NO FEED"
  | 255 => "OFFSET INDEX"
  | 256 => "QUANTUM"
  | 257 => "NUMERIC"
  | 260 => "NOTHING TO RESUME"
  | 261 => "TRIP ACTIVE"
  | 263 => "SOFT LIMIT"
  | 264 => "OVERTRAVEL"
  | 265 => "LIMITS LOCKED"
  | 266 => "OVERRIDE EXTERNAL"
  | 267 => "LIMITS UNSET"
  | 270 => "SERVO LOCKED"
  | 271 => "FEEDBACK STATE"
  | 274 => "CHANNEL IN USE"
  | 275 => "NO CARRIER"
  | 276 => "CHANNEL NOT READY"
  | 277 => "REFERENCE DISAGREES"
  | 278 => "OUTPUT IN USE"
  | 279 => "TABLE PENDING"
  | 280 => "CORE ACTIVE"
  | 281 => "CORE FAILED"
  | 282 => "CORE QUERY"
  | 283 => "HANDWHEEL STATION"
  | 284 => "PIN LOCKED"
  | 285 => "NOT AN OUTPUT"
  | 286 => "PIN SELF-TEST"
  | 287 => "STATION ASLEEP"
  | 288 => "OBSERVATION OFF"
  | 289 => "SKIM RUNNING"
  | 301 => "NO SUCH TARGET"
  | 302 => "NO SUCH STATION"
  | 303 => "NO SUCH SOURCE"
  | 304 => "NO SUCH RECORD"
  | 305 => "NO SUCH PROGRAM"
  | 306 => "NO SUCH BLOCK"
  | 311 => "RING SPACE"
  | 312 => "PROGRAM STORE FULL"
  | 313 => "TOO MANY PROGRAMS"
  | 314 => "NO SUCH SECTOR"
  | 315 => "STAGING FULL"
  | 432 => "FLASH DATA"
  | 433 => "REGION VERIFY"
  | 434 => "CHAR MODULE"
  | 435 => "FLASH VERIFY"
  | 511 => "VALUE RANGE"
  | 512 => "RING DEPTH"
  | 513 => "COMBINATION"
  | 531 => "LIVE PATH"
  | 532 => "ROUTE STATION"
  | 533 => "FANOUT"
  | 535 => "EPOCH TIME"
  | 536 => "REGION IMAGE"
  | 537 => "REGION BUSY"
  | 538 => "TRIP MASK"
  | 540 => "CHAIN LOAD"
  | 541 => "BANK ACTIVE"
  | 551 => "SLOT ACTIVE"
  | 552 => "IMAGE NOT FOUND"
  | 553 => "KEY SLOT"
  | 554 => "IMAGE REJECTED"
  | 555 => "FUSE"
  | 611 => "WSN ZERO"
  | 612 => "WSN GAP"
  | 613 => "EXPIRED"
  | 614 => "SERIES OPEN"
  | 615 => "CANCELLED"
  | 701 => "NO SUCH PEER"
  | 704 => "LINK TIMING"
  | 705 => "PEER TIMEOUT"
  | 706 => "SERIES MISMATCH"
  | 707 => "ABORTED"
  | 708 => "NOT SYNCED"
  | 709 => "PEER BUSY"
  | 710 => "LINE FORM"
  | _ => ""

end Sys2Proof.Machine
end

