-- ==== Sys2Proof/Machine/Dec128.lean ====
section
/-! DEFINITION. The decimal128 format and the correctly rounded operations of Table 10.1 (R265 to R268, R271, R272). -/
namespace Sys2Proof.Machine
open Sys2Proof

/-- A value of the format. A finite value is (-1)^neg × c × 10^e. -/
inductive DVal where
  | fin (neg : Bool) (c : Nat) (e : Int)
  | inf (neg : Bool)
  | nan (neg sig : Bool) (payload : Nat)
deriving DecidableEq, Repr

def p34 : Nat := 10 ^ 34

/-! ## DPD (R265) -/

/-- Three digits of a ten-bit declet. -/
def decletDigits (n : Nat) : Nat × Nat × Nat :=
  let b (i : Nat) : Nat := n / 2 ^ i % 2
  let x := n / 128 % 8
  let y := n / 16 % 8
  let z := n % 8
  if b 3 = 0 then (x, y, z)
  else match n / 2 % 4 with
    | 0 => (x, y, 8 + b 0)
    | 1 => (x, 8 + b 4, 4 * b 6 + 2 * b 5 + b 0)
    | 2 => (8 + b 7, y, 4 * b 9 + 2 * b 8 + b 0)
    | _ => match n / 32 % 4 with
      | 0 => (8 + b 7, 8 + b 4, 4 * b 9 + 2 * b 8 + b 0)
      | 1 => (8 + b 7, 4 * b 9 + 2 * b 8 + b 4, 8 + b 0)
      | 2 => (x, 8 + b 4, 8 + b 0)
      | _ => (8 + b 7, 8 + b 4, 8 + b 0)

def decletVal (n : Nat) : Nat :=
  let (x, y, z) := decletDigits n
  100 * x + 10 * y + z

/-- The declet of 0 to 999. -/
def declet (v : Nat) : Nat :=
  let x := v / 100 % 10
  let y := v / 10 % 10
  let z := v % 10
  match decide (8 ≤ x), decide (8 ≤ y), decide (8 ≤ z) with
  | false, false, false => x * 128 + y * 16 + z
  | false, false, true => x * 128 + y * 16 + 8 + z % 2
  | false, true, false => x * 128 + z / 2 * 32 + y % 2 * 16 + 10 + z % 2
  | true, false, false => z / 2 * 256 + x % 2 * 128 + y * 16 + 12 + z % 2
  | true, true, false => z / 2 * 256 + x % 2 * 128 + y % 2 * 16 + 14 + z % 2
  | true, false, true => y / 2 * 256 + x % 2 * 128 + 32 + y % 2 * 16 + 14 + z % 2
  | false, true, true => x * 128 + 64 + y % 2 * 16 + 14 + z % 2
  | true, true, true => x % 2 * 128 + 96 + y % 2 * 16 + 14 + z % 2

/-- The digits that `k` declets hold. -/
def decletsVal : Nat → Nat → Nat
  | 0, _ => 0
  | k + 1, n => decletsVal k (n / 1024) * 1000 + decletVal (n % 1024)

def declets : Nat → Nat → Nat
  | 0, _ => 0
  | k + 1, v => declets k (v / 1000) * 1024 + declet (v % 1000)

/-- The value that 128 bits hold. -/
def decodeDec (n : Nat) : DVal :=
  let neg := n / 2 ^ 127 % 2 == 1
  let g := n / 2 ^ 122 % 32
  let x := n / 2 ^ 110 % 4096
  let low := decletsVal 11 (n % 2 ^ 110)
  if g = 31 then .nan neg (x ≥ 2048) low
  else if g = 30 then .inf neg
  else
    let (hi, msd) := if g / 8 = 3 then (g / 2 % 4, 8 + g % 2) else (g / 8, g % 8)
    .fin neg (msd * 10 ^ 33 + low) ((hi * 4096 + x : Nat) - 6176)

/-- The 128 bits of a value. -/
def encodeDec (v : DVal) : Nat :=
  let sg (b : Bool) : Nat := if b then 2 ^ 127 else 0
  match v with
  | .nan neg sig p => sg neg + 31 * 2 ^ 122 + (if sig then 2 ^ 121 else 0) + declets 11 (p % 10 ^ 33)
  | .inf neg => sg neg + 30 * 2 ^ 122
  | .fin neg c e =>
    let c := c % p34
    let b := (e + 6176).toNat % 12288
    let m := c / 10 ^ 33
    let g := if m < 8 then b / 4096 * 8 + m else 24 + b / 4096 * 2 + m % 2
    sg neg + g * 2 ^ 122 + b % 4096 * 2 ^ 110 + declets 11 (c % 10 ^ 33)

/-! ## Rounding (R266, R271) -/

/-- The flags of Table 10.2. -/
def fINV : Nat := 1
def fDZ : Nat := 2
def fOVF : Nat := 4
def fUNF : Nat := 8
def fINX : Nat := 16
def fCHK : Nat := 32
def fDENY : Nat := 64

/-- Whether a positive quotient with remainder r of d is rounded away from zero: `q` is the truncated quotient. -/
def roundUp (rm : Nat) (neg : Bool) (q r d : Nat) : Bool :=
  if r = 0 then false
  else match rm with
    | 0 => decide (d < 2 * r) || (decide (2 * r = d) && q % 2 == 1)
    | 1 => decide (d ≤ 2 * r)
    | 2 => !neg
    | 3 => neg
    | _ => false

/-- n / d rounded, and whether it was exact. -/
def divRound (rm : Nat) (neg : Bool) (n d : Nat) : Nat × Bool :=
  (n / d + (if roundUp rm neg (n / d) (n % d) d then 1 else 0), n % d = 0)

/-- Trailing zeros are dropped while the exponent lies below `pe`. -/
def stripTo (pe : Int) : Nat → Nat → Int → Nat × Int
  | 0, c, e => (c, e)
  | f + 1, c, e => if e < pe ∧ c % 10 = 0 then stripTo pe f (c / 10) (e + 1) else (c, e)

/-- Zeros are appended while the exponent lies above `hi` and 34 digits allow. -/
def padTo (hi : Int) : Nat → Nat → Int → Nat × Int
  | 0, c, e => (c, e)
  | f + 1, c, e => if hi < e ∧ c * 10 < p34 then padTo hi f (c * 10) (e - 1) else (c, e)

def clampExp (e : Int) : Int := max (-6176) (min 6111 e)

/-- The exact value (-1)^neg × num/den × 10^e delivered under `rm` with preferred exponent `pe`, and its flags. -/
def deliver (rm : Nat) (neg : Bool) (num den : Nat) (e pe : Int) : DVal × Nat :=
  if num = 0 then (.fin neg 0 (clampExp pe), 0)
  else
    let scale (q : Int) : Nat × Nat := if q ≤ e then (num * 10 ^ (e - q).toNat, den) else (num, den * 10 ^ (q - e).toNat)
    /- The exponent at which the quotient has 34 digits, within one. -/
    let q : Int := e + numDigits num - numDigits den - 34
    let q := if (scale q).1 / (scale q).2 < 10 ^ 33 then q - 1 else if (scale q).1 / (scale q).2 ≥ p34 then q + 1 else q
    let tiny := q < -6176
    let q := max q (-6176)
    let (n, d) := scale q
    let (c, exact) := divRound rm neg n d
    if exact then
      let (c, q) := stripTo pe 40 c q
      let (c, q) := padTo (max pe (-6176)) 40 c q
      let (c, q) := padTo 6111 40 c q
      if q > 6111 then
        (if rm = 4 ∨ (rm = 2 ∧ neg) ∨ (rm = 3 ∧ !neg) then .fin neg (p34 - 1) 6111 else .inf neg, fOVF + fINX)
      else (.fin neg c q, 0)
    else
      let (c, q) := if c ≥ p34 then (c / 10, q + 1) else (c, q)
      if q > 6111 then
        (if rm = 4 ∨ (rm = 2 ∧ neg) ∨ (rm = 3 ∧ !neg) then .fin neg (p34 - 1) 6111 else .inf neg, fOVF + fINX)
      else (.fin neg c q, fINX + (if tiny then fUNF else 0))

/-! ## Operations -/

/-- The quiet NaN of an invalid operation: its sign and payload are free, a function of the request. -/
def invalidNan (op rm a b c : Nat) : DVal :=
  let v := Config.decNan op rm a b c
  .nan (v % 2 == 1) false (v / 2 % 10 ^ 33)

def isNan : DVal → Bool
  | .nan .. => true
  | _ => false

def isSnan : DVal → Bool
  | .nan _ s _ => s
  | _ => false

def quiet : DVal → DVal
  | .nan n _ p => .nan n false p
  | v => v

/-- The result of an operation with a NaN operand: the first signalling one, else the first, made quiet. -/
def nanResult (l : List DVal) : Option (DVal × Nat) :=
  match l.find? isSnan with
  | some v => some (quiet v, fINV)
  | none => (l.find? isNan).map fun v => (v, 0)

def negOf : DVal → Bool
  | .fin n _ _ => n
  | .inf n => n
  | .nan n _ _ => n

def flipSign : DVal → DVal
  | .fin n c e => .fin (!n) c e
  | .inf n => .inf (!n)
  | v => v

/-- Signed coefficient at exponent `e`. -/
def signedAt (neg : Bool) (c : Nat) (x e : Int) : Int :=
  let m : Int := c * 10 ^ (x - e).toNat
  if neg then -m else m

/-- The sum of two finite values given as sign, coefficient and exponent. -/
def addFin (rm : Nat) (n1 : Bool) (c1 : Nat) (e1 : Int) (n2 : Bool) (c2 : Nat) (e2 : Int) : DVal × Nat :=
  let e := min e1 e2
  let t := signedAt n1 c1 e1 e + signedAt n2 c2 e2 e
  if t = 0 then
    let neg := if n1 = n2 then n1 else rm == 3
    (.fin neg 0 (clampExp e), 0)
  else deliver rm (t < 0) t.natAbs 1 e e

def decAdd (inv : DVal) (rm : Nat) (a b : DVal) : DVal × Nat :=
  (nanResult [a, b]).getD
    (match a, b with
     | .inf x, .inf y => if x = y then (.inf x, 0) else (inv, fINV)
     | .inf x, _ => (.inf x, 0)
     | _, .inf y => (.inf y, 0)
     | .fin n1 c1 e1, .fin n2 c2 e2 => addFin rm n1 c1 e1 n2 c2 e2
     | _, _ => (inv, fINV))

def decMul (inv : DVal) (rm : Nat) (a b : DVal) : DVal × Nat :=
  (nanResult [a, b]).getD
    (let s := negOf a != negOf b
     match a, b with
     | .fin _ c1 e1, .fin _ c2 e2 => deliver rm s (c1 * c2) 1 (e1 + e2) (e1 + e2)
     | .fin _ 0 _, .inf _ | .inf _, .fin _ 0 _ => (inv, fINV)
     | _, _ => (.inf s, 0))

def decDiv (inv : DVal) (rm : Nat) (a b : DVal) : DVal × Nat :=
  (nanResult [a, b]).getD
    (let s := negOf a != negOf b
     match a, b with
     | .inf _, .inf _ => (inv, fINV)
     | .inf _, _ => (.inf s, 0)
     | _, .inf _ => (.fin s 0 (-6176), 0)
     | .fin _ c1 e1, .fin _ c2 e2 =>
       if c2 = 0 then if c1 = 0 then (inv, fINV) else (.inf s, fDZ)
       else deliver rm s c1 c2 (e1 - e2) (e1 - e2)
     | _, _ => (inv, fINV))

def decSqrt (inv : DVal) (rm : Nat) (a : DVal) : DVal × Nat :=
  (nanResult [a]).getD
    (match a with
     | .inf n => if n then (inv, fINV) else (.inf false, 0)
     | .fin n c e =>
       if c = 0 then (.fin n 0 (clampExp (e.fdiv 2)), 0)
       else if n then (inv, fINV)
       else
         let (c, x) := if e % 2 = 0 then (c, e) else (c * 10, e - 1)
         let m := c * 10 ^ 80
         let r := isqrt m
         /- A further digit stands for what lies below the root. -/
         deliver rm false (r * 10 + (if r * r = m then 0 else 1)) 1 (x / 2 - 41) (e.fdiv 2)
     | _ => (inv, fINV))

def decFma (inv : DVal) (rm : Nat) (a b c : DVal) : DVal × Nat :=
  (nanResult [a, b, c]).getD
    (let s := negOf a != negOf b
     match a, b, c with
     | .fin _ 0 _, .inf _, _ | .inf _, .fin _ 0 _, _ => (inv, fINV)
     | .fin _ c1 e1, .fin _ c2 e2, .fin n3 c3 e3 => addFin rm s (c1 * c2) (e1 + e2) n3 c3 e3
     | .fin .., .fin .., z => (z, 0)
     | _, _, .inf z => if z = s then (.inf s, 0) else (inv, fINV)
     | _, _, _ => (.inf s, 0))

def decQuant (inv : DVal) (rm : Nat) (a b : DVal) : DVal × Nat :=
  (nanResult [a, b]).getD
    (match a, b with
     | .inf x, .inf _ => (.inf x, 0)
     | .fin n c e, .fin _ _ q =>
       let (k, exact) := if q ≤ e then (c * 10 ^ (e - q).toNat, true) else divRound rm n c (10 ^ (q - e).toNat)
       if c ≠ 0 ∧ k ≥ p34 then (inv, fINV) else (.fin n k q, if exact then 0 else fINX)
     | _, _ => (inv, fINV))

/-- A finite value rounded to an integer. -/
def roundInt (rm : Nat) (n : Bool) (c : Nat) (e : Int) : Nat :=
  if e ≥ 0 then c * 10 ^ e.toNat else (divRound rm n c (10 ^ (-e).toNat)).1

def decRint (inv : DVal) (rm : Nat) (a : DVal) : DVal × Nat :=
  (nanResult [a]).getD
    (match a with
     | .fin n c e => if e ≥ 0 then (a, 0) else (.fin n (roundInt rm n c e) 0, 0)
     | .inf _ => (a, 0)
     | _ => (inv, fINV))

/-- The order of two values that are not NaN. -/
def decOrd (a b : DVal) : Int :=
  match a, b with
  | .inf x, .inf y => if x = y then 0 else if x then -1 else 1
  | .inf x, _ => if x then -1 else 1
  | _, .inf y => if y then 1 else -1
  | .fin n1 c1 e1, .fin n2 c2 e2 =>
    let e := min e1 e2
    let t := signedAt n1 c1 e1 e - signedAt n2 c2 e2 e
    if t < 0 then -1 else if 0 < t then 1 else 0
  | _, _ => 0

def decCmp (a b : DVal) : DVal × Nat :=
  match nanResult [a, b] with
  | some r => r
  | none => let o := decOrd a b; (.fin (o < 0) o.natAbs 0, 0)

/-- The 64-bit integer of TOINT, as bits. -/
def decToInt (rm : Nat) (a : DVal) : Option Nat :=
  match a with
  | .fin n c e =>
    let k := roundInt rm n c e
    if n then if k ≤ 2 ^ 63 then some ((2 ^ 64 - k) % 2 ^ 64) else none
    else if k < 2 ^ 63 then some k else none
  | _ => none

def decFromInt (n : Nat) : DVal :=
  let v := n % 2 ^ 64
  if v < 2 ^ 63 then .fin false v 0 else .fin true (2 ^ 64 - v) 0

/-! ## Text (R267) -/

/-- to-scientific-string of a finite value. -/
def sciText (neg : Bool) (c : Nat) (e : Int) : String :=
  let ds := Nat.toDigits 10 c
  let n : Int := ds.length
  let adj := e + (n - 1)
  let body : List Char :=
    if e ≤ 0 ∧ -6 ≤ adj then
      if e = 0 then ds
      else
        let k := n + e
        if 0 < k then ds.take k.toNat ++ '.' :: ds.drop k.toNat
        else '0' :: '.' :: (List.replicate (-k).toNat '0' ++ ds)
    else
      let m := match ds with
        | [d] => [d]
        | d :: l => d :: '.' :: l
        | [] => []
      m ++ 'E' :: (if adj < 0 then '-' else '+') :: Nat.toDigits 10 adj.natAbs
  String.ofList (if neg then '-' :: body else body)

def decText : DVal → String
  | .fin n c e => sciText n c e
  | .inf n => if n then "-INF" else "INF"
  | .nan .. => "NAN"

end Sys2Proof.Machine
end

