-- ==== Sys2Proof/Machine/Text.lean ====
section
/-! DEFINITION. The text of the lines the part sends (R105 to R107, R134, R165), and the CRC-8 of R98. -/
namespace Sys2Proof.Machine
open Sys2Proof

def hexDigit (n : Nat) : Char :=
  ("0123456789ABCDEF".toList.getD n '0')

/-- `w` hexadecimal digits of `v`, most significant first. -/
def hexDigits : Nat → Nat → List Char
  | 0, _ => []
  | w + 1, v => hexDigit (v / 16 ^ w % 16) :: hexDigits w v

/-- R5: `0x`, with an underscore between groups of four digits. -/
def hexText (w v : Nat) : String :=
  let ds := hexDigits w v
  let rec go (k : Nat) : List Char → List Char
    | [] => []
    | c :: l => if k % 4 = 0 ∧ k ≠ w then '_' :: c :: go (k - 1) l else c :: go (k - 1) l
  String.ofList ('0' :: 'x' :: go w ds)

/-- `w` decimal digits of `v`, with leading zeros. -/
def decDigits : Nat → Nat → List Char
  | 0, _ => []
  | w + 1, v => hexDigit (v / 10 ^ w % 10) :: decDigits w v

def natText (n : Nat) : String := String.ofList (Nat.toDigits 10 n)

def intText (v : Int) : String := if v < 0 then "-" ++ natText v.natAbs else natText v.toNat

/-- R267: a decimal number in the to-scientific-string form. -/
def decimalText (d : Decimal) : String := sciText d.neg d.coef d.exp

def fdText : Fd → String
  | .s t => t
  | .n v => intText v
  | .w8 v => String.ofList (decDigits 8 v)
  | .h32 v => hexText 8 v
  | .h64 v => hexText 16 v
  | .d v => decimalText v

def joinSp : List String → String
  | [] => ""
  | [a] => a
  | a :: l => a ++ " " ++ joinSp l

def className : EvClass → String
  | .trip => "TRIP"
  | .fault => "FAULT"
  | .attn => "ATTN"
  | .fin => "FIN"

/-- A WSN as lines give it: eight digits for sources 0 and 1, decimal otherwise (R135, R165). -/
def wsnText (src w : Nat) : String :=
  if src < 2 then String.ofList (decDigits 8 w) else natText w

def tagText : Tag → String
  | .none => ""
  | .framed w => " #" ++ String.ofList (decDigits 8 w)
  | .typed n => " #T" ++ natText n

/-- The fields of an event record after `!CLASS` (R165). -/
def evText (r : EvRec) : String :=
  joinSp (["" ++ natText r.seq, "T", hexText 16 r.t, "STN", natText r.stn, "CAUSE", causeName r.cause]
    ++ (if r.inst = 0xFFFF then [] else ["INST", natText r.inst])
    ++ (if r.src = 0xFF then [] else ["SRC", natText r.src, "WSN", wsnText r.src r.wsn])
    ++ (if r.det = 0 then [] else ["DET", natText r.det])
    ++ ["REP", natText r.rep])

/-- A line without its CRC and terminator (Table 4.4, R105, R165). -/
def rlineText : RLine → String
  | .ok t dup => "OK" ++ tagText t ++ (if dup then " DUP" else "")
  | .er t e dup => "ER" ++ tagText t ++ " " ++ natText e ++ (if dup then " DUP " else " ") ++ errText e
  | .busy t => "BUSY" ++ tagText t
  | .data f => joinSp ("=" :: f.map fdText)
  | .async c r lost =>
    "!" ++ className c ++ " " ++ evText r ++ (if lost = 0 then "" else " LOST=" ++ natText lost)

/-- One bit-serial step of the CRC-8 of R98: polynomial 0x07. -/
def crc8Shift : Nat → Nat → Nat
  | 0, c => c
  | k + 1, c => crc8Shift k (if c ≥ 128 then (c * 2 % 256) ^^^ 0x07 else c * 2)

/-- R98: CRC-8, polynomial 0x07, initial value 0, no reflection and no final XOR. -/
def crc8 (bs : List Nat) : Nat := bs.foldl (fun c b => crc8Shift 8 (c ^^^ (b % 256))) 0

def charCodes (s : String) : List Nat := s.toList.map Char.toNat

/-- A line as it is sent, with the CRC of R107 where SER_CTRL.RSPCRC asks for it. -/
def sentText (crc : Bool) (l : RLine) : String :=
  let t := rlineText l
  if crc then
    let t := t ++ " "
    t ++ "*" ++ String.ofList (hexDigits 2 (crc8 (charCodes t)))
  else t

end Sys2Proof.Machine
end

