-- ==== Sys2Proof/Machine/Ops.lean ====
section
/-! DEFINITION. The named operations over the state: registers and their fields, event records, rings, sources and work
items, answers and authority. Every meaning goes through these. -/
namespace Sys2Proof.Machine
open Sys2Proof

/-! ## Registers -/

/-- R637: the address of a register. -/
def regAddr (r : Reg) (i j : Nat) : Nat :=
  let p := regPlace r
  0x40000000 + p.blk * 0x10000 + p.off + p.s * i + p.t * j

/-- The indices name a register of the part. FCH_RES, FCH_ANG and FCH_RAMP stand at even channels alone (Table 14.5). -/
def regExists (r : Reg) (i j : Nat) : Bool :=
  let p := regPlace r
  i < p.n && j < p.m &&
    (match r with
     | .FCH_RES | .FCH_ANG | .FCH_RAMP => i % 2 == 0
     | _ => true)

/-- The indices of register `r` at address offset `d` of its block, if one lies there. -/
def regIndex (r : Reg) (d : Nat) : Option (Nat × Nat) :=
  let p := regPlace r
  if d < p.off then none
  else
    let e := d - p.off
    let i := if p.s = 0 then 0 else e / p.s
    let e := if p.s = 0 then e else e % p.s
    let j := if p.t = 0 then 0 else e / p.t
    let e := if p.t = 0 then e else e % p.t
    if e = 0 ∧ regExists r i j then some (i, j) else none

def findReg (d : Nat) : List Reg → Option (Reg × Nat × Nat)
  | [] => none
  | r :: l =>
    match regIndex r d with
    | some (i, j) => some (r, i, j)
    | none => findReg d l

/-- The register at a word address, if one is defined there (R28, R637). -/
def regAt (a : Nat) : Option (Reg × Nat × Nat) :=
  if a < 0x40000000 ∨ 0x40190000 ≤ a then none
  else findReg (a % 0x10000) (regsOfBlock ((a - 0x40000000) / 0x10000))

/-- The word a register holds. -/
def State.reg (s : State) (r : Reg) (i j : Nat) : Word :=
  (sparseFind s.regs (regAddr r i j)).getD (regReset r i j)

/-- The state with a register holding `w`; a word equal to the reset value is not listed. -/
def State.setReg (s : State) (r : Reg) (i j : Nat) (w : Word) : State :=
  { s with regs := sparsePut s.regs (regAddr r i j) (if w = regReset r i j then none else some w) }

/-- The bits of a field, in place. -/
def fldMask (f : Fld) : Word := (BitVec.ofNat 32 (2 ^ f.wd - 1)) <<< f.lo

/-- The value of a field of a word, unsigned. -/
def fldOf (w : Word) (f : Fld) : Nat := (w >>> f.lo).toNat % 2 ^ f.wd

/-- A word with a field set. -/
def fldPut (w : Word) (f : Fld) (v : Nat) : Word :=
  (w &&& ~~~ fldMask f) ||| ((BitVec.ofNat 32 v <<< f.lo) &&& fldMask f)

/-- The value of a field of a register, unsigned. -/
def State.fld (s : State) (f : Fld) (i : Nat := 0) (j : Nat := 0) : Nat := fldOf (s.reg f.reg i j) f

/-- A signed reading of `w` bits. -/
def toSigned (w v : Nat) : Int := if v < 2 ^ (w - 1) then v else (v : Int) - 2 ^ w

/-- `w` bits of an integer, two's complement. -/
def ofSigned (w : Nat) (v : Int) : Nat := (v % (2 ^ w : Nat)).toNat

/-- The value of a signed field of a register (R131). -/
def State.fldInt (s : State) (f : Fld) (i : Nat := 0) (j : Nat := 0) : Int := toSigned f.wd (s.fld f i j)

def State.setFld (s : State) (f : Fld) (i j : Nat) (v : Nat) : State :=
  s.setReg f.reg i j (fldPut (s.reg f.reg i j) f v)

def State.setFldInt (s : State) (f : Fld) (i j : Nat) (v : Int) : State := s.setFld f i j (ofSigned f.wd v)

/-- A counter field that saturates at its largest value. -/
def State.bump (s : State) (f : Fld) (i j : Nat) (n : Nat) : State :=
  s.setFld f i j (min (s.fld f i j + n) (2 ^ f.wd - 1))

/-- A counter field that wraps. -/
def State.bumpWrap (s : State) (f : Fld) (i j : Nat) (n : Nat) : State :=
  s.setFld f i j ((s.fld f i j + n) % 2 ^ f.wd)

/-- The place of a register field: its address and lowest bit. -/
def fldPlace (f : Fld) (i j : Nat) : Nat := regAddr f.reg i j * 32 + f.lo

/-- The journal commits one more record (JRN_LSN). -/
def State.commitRec (s : State) : State := s.bumpWrap .JRN_LSN_LSN 0 0 1

/-- R522, R642: a SETTING record of the field's present value is committed; the newest one of a field wins. -/
def State.note (s : State) (f : Fld) (i j : Nat) : State :=
  { s.commitRec with jrn := { s.jrn with set := sparsePut s.jrn.set (fldPlace f i j) (some (s.fld f i j)) } }

def b2n (b : Bool) : Nat := if b then 1 else 0

def State.flag (s : State) (f : Fld) (i : Nat := 0) (j : Nat := 0) : Bool := s.fld f i j != 0

def State.setFlag (s : State) (f : Fld) (i j : Nat) (b : Bool) : State := s.setFld f i j (b2n b)

/-- A field value lies in the range the owning chapter gives (R131). -/
def inRanges (l : List (Int × Int)) (v : Int) : Bool := l.isEmpty || l.any fun r => r.1 ≤ v && v ≤ r.2

def fldOk (f : Fld) (v : Nat) : Bool :=
  v < 2 ^ f.wd && inRanges f.ok (if f.sgn then toSigned f.wd v else (v : Int))

/-! ## Free values -/

/-- The next free value: an unconstrained bit string, and the state with the counter advanced. -/
def State.fresh (s : State) (w : Nat) : Nat × State :=
  (Config.freeValue s.freeCtr % 2 ^ w, { s with freeCtr := s.freeCtr + 1 })

/-! ## Time -/

/-- Counts of the fabric time counter in a millisecond (24.576 MHz). -/
def msCounts : Nat := 24576

/-- The divisor that a rate code selects (Table 2.1). -/
def rateDivisor (code : Nat) : Nat := 6144 / 2 ^ code

/-- The divisor in force (R38). -/
def State.divisor (s : State) : Nat := rateDivisor (s.fld .LAT_CTRL_RATE)

/-- The first multiple of `d` at or after `n`. -/
def firstMultiple (n d : Nat) : Nat := (n + d - 1) / d * d

/-- The count of the next lattice tick after now (R38). -/
def State.nextTick (s : State) : Nat := (s.clk.now / s.divisor + 1) * s.divisor

/-- The ticks in `ms` milliseconds at the rate in force, rounded up. -/
def State.msTicks (s : State) (ms : Nat) : Nat := (ms * msCounts + s.divisor - 1) / s.divisor

/-- VCORE takes a code: 0.70 V + code × 5 mV, from 0 to 70 (Table 2.6, LAT_VCORE). -/
def State.vcoreTo (s : State) (code : Nat) : State :=
  ((s.setFld .LAT_VCORE_VCODE 0 0 (min code 70)).setFlag .LAT_VCORE_ATMAX 0 0 (decide (70 ≤ code))).setFlag
    .LAT_VCORE_ATMIN 0 0 (code == 0)

/-- R47, R49: under OFF and REPORT VCORE stands at VFIX, from the first tick after commit or after a warm reset. -/
def State.vcoreFix (s : State) : State :=
  if s.lat.vfree && !s.lat.resetHold && s.fld .LAT_VPOL_POL != 2 then s.vcoreTo (s.fld .LAT_VPOL_VFIX) else s

/-! ## Rings -/

def State.ringDepth (s : State) (r : Nat) : Nat := 2 ^ (s.fld .RING_CFG_DEPTH r + 4)

/-- Entries in use: PUT − GET modulo twice the depth (Table 6.6). -/
def State.ringFill (s : State) (r : Nat) : Nat :=
  (s.fld .RING_PTR_PUT r + 2 * s.ringDepth r - s.fld .RING_PTR_GET r) % (2 * s.ringDepth r)

def State.ringFree (s : State) (r : Nat) : Nat := s.ringDepth r - s.ringFill r

/-- R150, R168: an item of `n` entries enters ring `r`; HWM follows. -/
def State.ringPut (s : State) (r n : Nat) : State :=
  let d := 2 * s.ringDepth r
  let s := s.setFld .RING_PTR_PUT r 0 ((s.fld .RING_PTR_PUT r + n) % d)
  s.setFld .RING_STAT_HWM r 0 (max (s.fld .RING_STAT_HWM r) (s.ringFill r))

/-- `n` entries leave ring `r`. -/
def State.ringGet (s : State) (r n : Nat) : State :=
  s.setFld .RING_PTR_GET r 0 ((s.fld .RING_PTR_GET r + n) % (2 * s.ringDepth r))

/-- A full refusal of ring `r` is counted (Table 6.6). -/
def State.ringFull (s : State) (r : Nat) : State := s.bump .RING_STAT_FULL r 0 1

/-- A depth change of ring `r` waits for its tick, and its enqueues are held (R153). -/
def State.ringHeld (s : State) (r : Nat) : Bool := s.ringChg.any fun c => c.ring == r

/-! ## Trace records (R597 to R600) -/

/-- OBS is up (R563). -/
def State.obsOn (s : State) : Bool := s.fld .PWR_DOM_ON / 128 % 2 == 1

/-- A record goes to the capture queue while the port runs, and else straight to the buffer. -/
def State.pushTrace (s : State) (r : TraceRec) : State :=
  if s.flag .OBS_TRCFG_PORTEN then
    if s.obs.tq.length ≥ 256 then
      ({ s with obs := { s.obs with dropped := s.obs.dropped + 1 } } : State).bump .OBS_TRSTAT_LOST 0 0 1
    else { s with obs := { s.obs with tq := s.obs.tq ++ [r] } }
  else if s.flag .OBS_TRCFG_BUFEN then
    let l := s.obs.tb ++ [r]
    let l := l.drop (l.length - 512)
    ({ s with obs := { s.obs with tb := l } } : State).setFld .OBS_TRSTAT_FILL 0 0 l.length
  else s

def State.unsynced (s : State) : Bool := !s.flag .TC_STATUS_SYNCED

/-- A record without tags of a block. -/
def State.boardRec (s : State) (kind data : Nat) : TraceRec :=
  ⟨s.clk.now % 2 ^ 32, kind, 4, s.unsynced, 0, 0, 0, 0xFF, 0, data⟩

/-- Records dropped are reported once the queue has room: LOST, then TIME. -/
def State.reportDrops (s : State) : State :=
  if s.obs.dropped = 0 ∨ s.obs.tq.length ≥ 254 then s
  else
    let n := s.obs.dropped
    let s : State := { s with obs := { s.obs with dropped := 0 } }
    (s.pushTrace (s.boardRec 11 n)).pushTrace (s.boardRec 0 s.clk.now)

/-- R599: the record is selected. -/
def State.selected (s : State) (r : TraceRec) : Bool :=
  r.kind == 0 || r.kind == 9 || r.kind == 11 ||
    (s.fld .OBS_TRKIND_KINDS / 2 ^ r.kind % 2 == 1
      && (if r.stn < 4 then s.fld .OBS_TRCFG_STN / 2 ^ r.stn % 2 == 1 else s.flag .OBS_TRCFG_BRD)
      && (if r.eng < 32 then s.fld .OBS_TRENG_LO_ENG / 2 ^ r.eng % 2 == 1
        else if r.eng = 32 then s.flag .OBS_TRENG_HI_ENG else true))

/-- R598 to R600: a record is captured, unless OBS is off or a freeze has stopped capture. -/
def State.capture (s : State) (r : TraceRec) : State :=
  if !s.obsOn || s.obs.postLeft == some 0 || !s.selected r then s
  else
    let s := s.reportDrops.pushTrace r
    { s with obs := { s.obs with postLeft := s.obs.postLeft.map (· - 1) } }

/-- R597: a record of an engine of station `stn` carries the tags of the block in motion; one of the board, zeros, and one of the
journal controller or another engine past the decimal engine, program and block 0. A core's OPTAG may be replaced. -/
def State.traceRec (s : State) (kind stn eng data : Nat) : State :=
  let b : Option MBlock := if h : stn < 4 ∧ !(27 ≤ eng ∧ eng < 33) then (s.mot[stn]).win.head? else none
  let r : TraceRec := match b with
    | some b => ⟨s.clk.now % 2 ^ 32, kind, stn, s.unsynced, b.prog, b.blk, b.sub, eng, b.optag, data⟩
    | none => ⟨s.clk.now % 2 ^ 32, kind, stn, s.unsynced, 0, 0, 0, eng, 0, data⟩
  s.capture (if eng < 6 ∧ s.flag .OBS_CTAG_EN eng then { r with optag := s.fld .OBS_CTAG_OPTAG eng } else r)

/-! ## Authority -/

def noAuth : Auth := ⟨Vector.replicate 4 false, false⟩
def fullAuth : Auth := ⟨Vector.replicate 4 true, true⟩

def stnAuth (k : Fin 4) : Auth := ⟨(Vector.replicate 4 false).set k true, false⟩

/-- The key in force of an owner: the journal's record, else the image's (R119). -/
def State.boardKey (s : State) : Nat := s.jrn.boardKey.getD s.jrn.imgBoardKey
def State.stnKey (s : State) (k : Fin 4) : Nat := (s.jrn.stnKey[k]).getD (s.jrn.imgStnKey[k])

/-- R118: the owners presented, every open owner, and, with the board flag, every station. -/
def State.sessAuth (s : State) (p : Fin 2) : Auth :=
  let own := (s.sess[p]).own
  let brd := own.brd || s.boardKey == 0
  ⟨Vector.ofFn fun k => brd || own.stn[k] || s.stnKey k == 0, brd⟩

/-- An authority of a station code as the assignment fields give it: 0 to 3 a station, 4 the board (R24). -/
def codeAuth (n : Nat) : Auth :=
  if h : n < 4 then stnAuth ⟨n, h⟩ else if n = 4 then fullAuth else noAuth

/-- The authority of a core's packets (R24): its station, or the board. -/
def State.coreAuth (s : State) (c : Fin 6) : Auth := codeAuth (s.fld .SYS_CASN_STN c)

/-- The authority of a link peer: its grants (R483, OLK_PAUTH). -/
def State.peerAuth (s : State) (d : Fin 8) : Auth :=
  let m := s.fld .OLK_PAUTH_STN d
  let brd := s.flag .OLK_PAUTH_BRD d
  ⟨Vector.ofFn fun k => brd || m / 2 ^ k.val % 2 == 1, brd⟩

/-- The authority of the panel: the stations of PNL_OWN.KSTN (R422). -/
def State.panelAuth (s : State) : Auth :=
  let m := s.fld .PNL_OWN_KSTN
  ⟨Vector.ofFn fun k => m / 2 ^ k.val % 2 == 1, false⟩

def State.originAuth (s : State) : Origin → Auth
  | .framed p _ | .typed p => s.sessAuth p
  | .panel => s.panelAuth
  | .core c => s.coreAuth c
  | .peer d _ => s.lnk.auth.getD (s.peerAuth d)

def State.reqAuth (s : State) : Requester → Auth
  | .core c => s.coreAuth c
  | .line o => s.originAuth o

def Auth.any (a : Auth) : Bool := a.brd || a.stn[0] || a.stn[1] || a.stn[2] || a.stn[3]

/-- Authority over a resource by its station code: 0 to 3 a station; the board flag for every other (R24, Table 5.2). -/
def Auth.over (a : Auth) (code : Nat) : Bool := if h : code < 4 then a.stn[code] || a.brd else a.brd

/-- R159: a record is visible to a reader with authority over its station, or the board flag for a board record. -/
def visible (a : Auth) (r : EvRec) : Bool := a.over r.stn

/-- A station that the image configures (R22). -/
def State.configured (s : State) (k : Nat) : Bool := if h : k < 4 then s.conf.stations[k] else false

/-! ## Event records -/

def classNo : EvClass → Fin 4
  | .trip => 0
  | .fault => 1
  | .attn => 2
  | .fin => 3

/-- The coalescing window of class `k`, ms (EVT_COAL). -/
def State.coalW (s : State) (k : Nat) : Nat :=
  match k with
  | 0 => s.fld .EVT_COAL_W0
  | 1 => s.fld .EVT_COAL_W1
  | 2 => s.fld .EVT_COAL_W2
  | _ => s.fld .EVT_COAL_W3

/-- SEQ after `n` (R157): from 0xFFFF_FFFF on to 1; 0 is never used. -/
def nextSeq (n : Nat) : Nat := if n + 1 ≥ 2 ^ 32 then 1 else n + 1

/-- R157: a at or below b. 0 counts as below every SEQ. -/
def seqLe (a b : Nat) : Bool :=
  if a = 0 then true else if b = 0 then false else decide ((b + 2 ^ 32 - a) % 2 ^ 32 < 2 ^ 31)

/-- Panel rescue, or the loader console, holds the port (R116, R547). -/
def State.rescued (s : State) (p : Fin 2) : Bool := s.flag .SER_STAT_RESCUE p || (s.phase == .console && p == 0)

/-- The port selects the class and station of a record (R108) and its session may see it (R126). -/
def State.selects (s : State) (p : Fin 2) (k : Fin 4) (r : EvRec) : Bool :=
  let all := s.rescued p
  (all || s.fld .SER_ASYNC_CLS p / 2 ^ k.val % 2 == 1) &&
  (all || (if r.stn < 4 then s.fld .SER_ASYNC_STN p / 2 ^ r.stn % 2 == 1 else s.flag .SER_ASYNC_BRD p)) &&
  visible (s.sessAuth p) r

/-- R126: a record that the port does not select when it is written is never sent there: no later session gets it. -/
def State.skipRec (s : State) (k : Fin 4) (r : EvRec) : State :=
  { s with port := Vector.ofFn fun (p : Fin 2) =>
      let q := s.port[p]
      let old := q.skip.filter fun e => e.1 != k || (s.ev.q[k]).any fun o => o.seq == e.2
      { q with skip := if s.selects p k r then old else old ++ [(k, r.seq)] } }

/-- R126: what the session of port `p` no longer sees is not held back for a later session. -/
def State.skipUnseen (s : State) (p : Fin 2) : State :=
  let lost := (List.finRange 4).flatMap fun (k : Fin 4) =>
    (((s.ev.q[k]).filter fun r => !visible (s.sessAuth p) r).map fun r => (k, r.seq)).filter fun e => !(s.port[p]).skip.contains e
  { s with port := s.port.set p { s.port[p] with skip := (s.port[p]).skip ++ lost } }

/-- R118, R121: a session begins empty, with the lowest-numbered station in authority selected, or S0. What R120 counts goes on. -/
def State.beginSession (s : State) (p : Fin 2) : State :=
  let s : State := { s with sess := s.sess.set p { s.sess[p] with own := noAuth } }
  let k := ((List.finRange 4).find? fun (k : Fin 4) => s.configured k && (s.sessAuth p).stn[k]).getD 0
  ({ s with sess := s.sess.set p { s.sess[p] with sel := k } } : State).skipUnseen p

/-- Write a record at the end of the ring of class `k`, with the next SEQ. -/
def State.writeRec (s : State) (k : Fin 4) (r : EvRec) : State :=
  let q := nextSeq (s.fld .EVT_SEQ_SEQ k)
  let s := s.setFld .EVT_SEQ_SEQ k 0 q
  let s := s.ringPut k 1
  let s := s.traceRec 1 r.stn 0xFF (r.t + 2 ^ 64 * (q + 2 ^ 32 * (k.val + 256 * (r.stn + 256 * r.cause))))
  let s := s.skipRec k { r with seq := q }
  { s with ev := { s.ev with q := s.ev.q.set k (s.ev.q[k] ++ [{ r with seq := q }]) } }

/-- A further occurrence joins a record (R160): REP increments, saturating, and DET takes the new detail. -/
def joinRec (r : EvRec) (det : Nat) : EvRec := { r with rep := min (r.rep + 1) 65535, det := det }

/-- The same inside the record's window, whose close sends the line again (R161). -/
def joinWindow (r : EvRec) (det : Nat) : EvRec := { joinRec r det with wrep := min (r.rep + 1) 65535 }

/-- The same cause, station, instance, source and WSN, unacknowledged, within the record's window (R160). -/
def coalesces (old new : EvRec) : Bool :=
  old.cause == new.cause && old.stn == new.stn && old.inst == new.inst && old.src == new.src
    && old.wsn == new.wsn && !old.ack && !old.ovf && old.w != 0 && decide (new.t ≤ old.t + old.w * msCounts)

/-- Update the newest record that satisfies `p`. -/
def updNewest (p : EvRec → Bool) (f : EvRec → EvRec) (l : List EvRec) : List EvRec :=
  match l.reverse.findIdx? p with
  | none => l
  | some i => l.modify (l.length - 1 - i) f

/-- R157, R160, R162: an occurrence writes a record, joins one, or is dropped under overflow. -/
def State.post (s : State) (k : Fin 4) (r : EvRec) : State :=
  let q := s.ev.q[k]
  let setQ (s : State) (l : List EvRec) : State := { s with ev := { s.ev with q := s.ev.q.set k l } }
  let newest := q.getLast?
  if k.val ≠ 3 ∧ (newest.map fun o => coalesces o r) = some true then
    setQ s (updNewest (fun o => coalesces o r) (fun o => joinWindow o r.det) q)
  else if s.ringFree k ≥ 2 then s.writeRec k r
  else
    let same (o : EvRec) : Bool := o.cause == r.cause && o.stn == r.stn && !o.ack && !o.ovf
    if k.val ≠ 3 ∧ q.any same then setQ s (updNewest same (fun o => joinRec o r.det) q)
    else
      let s := s.bump .EVT_LOST_LOST k 0 1
      let s := { s with ev := { s.ev with dropped := s.ev.dropped.set k (s.ev.dropped[k] ++ [r.stn]) } }
      if q.any (·.ovf) then
        setQ s (updNewest (·.ovf) (fun o => { o with rep := min (o.rep + 1) 65535 }) q)
      else if s.ringFree k ≥ 1 then
        s.writeRec k { r with cause := Cause.EVQ_OVERFLOW, stn := 4, inst := 0xFFFF, src := 0xFF, wsn := 0, det := 0,
                              ovf := true, rep := 1, wrep := 1 }
      else s

/-- An occurrence of class `c` (R156, R157). While a depth change of its ring waits, the record waits too (R153). -/
def State.raise (s : State) (c : EvClass) (cause stn : Nat) (inst : Nat := 0xFFFF) (det : Nat := 0)
    (src : Nat := 0xFF) (wsn : Nat := 0) : State :=
  let k := classNo c
  let r : EvRec := ⟨s.clk.now, 0, stn, cause, inst, src, false, false, wsn, det, 1, s.coalW k, 1⟩
  if s.ringHeld k then { s with evWait := s.evWait.set k (s.evWait[k] ++ [r]) }
  else s.post k r

/-! ## Lines placed in RSP_SPp -/

/-- Entries a line of `n` characters takes in a character ring (R155): 31 characters an entry, at least one. -/
def lineEntries (n : Nat) : Nat := max 1 ((n + 30) / 31)

/-- RSPCRC in effect: 0 in panel rescue (R116). -/
def State.rspCrc (s : State) (p : Fin 2) : Bool := !s.rescued p && s.flag .SER_CTRL_RSPCRC p

def State.rspLen (s : State) (p : Fin 2) (l : RLine) : Nat := (sentText (s.rspCrc p) l).length

/-- Entries that a placed line takes. -/
def OutLine.entries (l : OutLine) : Nat := lineEntries (sentText l.crc l.line).length

def rspRing (p : Fin 2) : Nat := 10 + p.val
def cmdRing (p : Fin 2) : Nat := 8 + p.val

/-- The last 320 bytes of RSP_SPp, 10 entries, are kept for status lines (R110). -/
def rspReserve : RLine → Nat
  | .data _ | .async .. => 10
  | _ => 0

/-- The line finds room in RSP_SPp now; none does while a depth change of the ring waits (R153). -/
def State.rspFits (s : State) (p : Fin 2) (l : RLine) : Bool :=
  !s.ringHeld (rspRing p) && decide (lineEntries (s.rspLen p l) + rspReserve l ≤ s.ringFree (rspRing p))

def State.setPort (s : State) (p : Fin 2) (f : Port → Port) : State :=
  { s with port := s.port.set p (f s.port[p]) }

/-- A line enters RSP_SPp; `pre` asks for a CR LF before it (R109). -/
def State.rspPut (s : State) (p : Fin 2) (l : RLine) (pre : Bool := false) : State :=
  let o : OutLine := ⟨l, s.rspCrc p, pre⟩
  (s.ringPut (rspRing p) o.entries).setPort p fun q => { q with rsp := q.rsp ++ [o] }

/-- A status or data line of port `p`: it waits its turn behind lines that wait for room, and is never dropped (R110). -/
def State.portLine (s : State) (p : Fin 2) (l : RLine) : State :=
  if (s.port[p]).rspWait.isEmpty && s.rspFits p l then s.rspPut p l
  else s.setPort p fun q => { q with rspWait := q.rspWait ++ [l] }

/-- An answer line goes to where its command came from: a port's RSP ring, a core's request, or a link peer. A panel
action has no answer (R429). -/
def State.answer (s : State) (o : Origin) (l : RLine) : State :=
  match o with
  | .framed p _ | .typed p => s.portLine p l
  | .panel => s
  | .core _ | .peer .. => { s with answers := s.answers ++ [(o, l)] }

/-- A line answered with a 100s error is counted (SER_CNT.REJ). -/
def State.countRej (s : State) (o : Origin) (e : Nat) : State :=
  match o with
  | .framed p _ | .typed p => if 100 ≤ e ∧ e < 200 then s.bump .SER_CNT_REJ p 0 1 else s
  | _ => s

/-- The tag of a status line that carries no assigned WSN (Table 4.4). -/
def originTag : Origin → Tag
  | .framed _ w | .peer _ w => .framed w
  | _ => .none

/-- A non-candidate line or a refused query (R61, Table 4.4). -/
def State.refuse (s : State) (o : Origin) (e : Nat) : State := (s.countRej o e).answer o (.er (originTag o) e false)

/-! ## Sources and work items -/

/-- The source number of an origin (Table 3.1). A core's is that of the task it hosts (R75). -/
def State.srcNo (s : State) : Origin → Fin 24
  | .framed p _ => ⟨p.val, by omega⟩
  | .typed p => ⟨2 + p.val, by omega⟩
  | .panel => 4
  | .core c => ⟨8 + min (s.fld .SYS_CSTAT_TASK c) 5, by omega⟩
  | .peer d _ => ⟨16 + d.val, by omega⟩

/-- A source whose WSNs the device assigns at acceptance (Table 3.1). -/
def originAssigned : Origin → Bool
  | .typed _ | .panel => true
  | _ => false

/-- The series and WSN that follow (R643): after 0xFFFF_FFFF, WSN 1 of the next series; series 0 never occurs (R60). -/
def nextSeries (n : Nat) : Nat := if n ≥ 65535 then 1 else n + 1

def nextKey (src : Nat) (e : Source) : Key :=
  if e.last ≥ 0xFFFFFFFF then ⟨src, nextSeries e.ser, 1⟩ else ⟨src, e.ser, e.last + 1⟩

/-- The keys of the source's records in the commit queue. -/
def State.queuedKeys (s : State) (n : Nat) : List Key :=
  s.jrn.queue.filterMap fun e => match e with
    | .item r _ => if r.key.src = n then some r.key else none
    | .copy _ => none

/-- The series and WSN that a further candidate of the source is judged against: those of its last candidate that is on its
way to the journal, or else its last accepted ones. -/
def State.lastOf (s : State) (n : Fin 24) : Source :=
  match (s.queuedKeys n).getLast? with
  | some k => ⟨k.ser, k.wsn⟩
  | none => s.jrn.src[n]

/-- The identity the candidate carries: its own WSN, or, for a device-assigned source, the next one. -/
def State.candKey (s : State) (o : Origin) : Key :=
  let n := s.srcNo o
  let e := s.lastOf n
  match o with
  | .framed _ w | .peer _ w => ⟨n, e.ser, w⟩
  | .core c => nextKey n ⟨(s.core[c]).ser, s.fld .SYS_CWSN_WC c⟩
  | _ => nextKey n e

/-- How a candidate is judged against its source's last accepted WSN (R56, R61). -/
inductive Judged where
  | zero | dup | next | gap
deriving DecidableEq, Repr

def State.judge (s : State) (o : Origin) : Judged :=
  let n := s.srcNo o
  let e := s.lastOf n
  let k := s.candKey o
  match o with
  | .framed .. | .peer .. =>
    if k.wsn = 0 then .zero else if k.wsn ≤ e.last then .dup else if k.wsn = e.last + 1 then .next else .gap
  | .core _ =>
    if k.ser ≠ e.ser then
      if nextKey n e = k then .next else .dup
    else if k.wsn ≤ e.last then .dup else if k.wsn = e.last + 1 then .next else .gap
  | _ => .next

/-- Pending, running or held. -/
def Item.live (i : Item) : Bool := i.st == .pending || i.st == .running || i.st == .held

/-- Not ended: a sender's item in doubt is not ended either (R66). -/
def Item.isOpen (i : Item) : Bool := i.st == .pending || i.st == .running || i.st == .held || i.st == .inDoubt

def State.findItem (s : State) (k : Key) : Option Item := s.jrn.items.find? fun i => i.key == k

/-- Change the item of a key. -/
def State.modItem (s : State) (k : Key) (f : Item → Item) : State :=
  { s with jrn := { s.jrn with items := s.jrn.items.map fun i => if i.key = k then f i else i } }

/-- R67: each source keeps the outcomes of its 1024 most recently accepted items, and every older open item. -/
def retain (l : List Item) (src : Nat) : List Item :=
  let mine := l.filter fun i => i.key.src == src
  let old := mine.take (mine.length - 1024)
  l.filter fun i => i.isOpen || !(old.any fun o => o.key == i.key)

/-- R218: what the distance of an incremental jog is added to: the target of the incremental jog that moves the axis, or its command
position. -/
def jogBase (x : AxisSt) : Int := (x.jog.bind (·.target)).getD x.sp

def State.itemBase (s : State) (c : Instr) : Option Int :=
  match c with
  | .axisJog _ a _ _ _ => if h : a < 12 then some (jogBase s.axis[a]) else none
  | _ => none

/-- R62, R67: the record is durable, so the item is accepted, L becomes its WSN, and its outcome record begins. -/
def State.accept (s : State) (r : CommitRec) : State :=
  let s := s.commitRec
  let it : Item := ⟨r.key, if r.err = 0 then .pending else .failed, r.err, r.err, r.stn, s.clk.now, s.clk.now, none,
    s.fld .JRN_LSN_LSN, some r.cmd, s.itemBase r.cmd, r.len⟩
  let items := retain (s.jrn.items ++ [it]) r.key.src
  let src := if h : r.key.src < 24 then s.jrn.src.set r.key.src ⟨r.key.ser, r.key.wsn⟩ else s.jrn.src
  let s : State := { s with jrn := { s.jrn with items := items, src := src } }
  -- R429: a panel item has no answer, so its failure is announced.
  if r.org == .panel && r.err != 0 then
    s.raise .fault Cause.WORK_FAILED r.stn (det := r.err) (src := r.key.src) (wsn := r.key.wsn)
  else s

/-- The tag of an accepted item's status line (Table 4.4). -/
def okTag (o : Origin) (k : Key) : Tag :=
  match o with
  | .typed _ | .core _ => .typed k.wsn
  | .framed _ w | .peer _ w => .framed w
  | .panel => .none

/-- The status line of an accepted item (R62). -/
def acceptLine (o : Origin) (k : Key) (err : Nat) : RLine :=
  if err = 0 then .ok (okTag o k) false else .er (okTag o k) err false

/-- R67: an item ends, with a STATE record, and is kept only while it is one of its source's 1024 most recently accepted ones. -/
def State.endItem (s : State) (k : Key) (st : OutState) (e : Nat) : State :=
  let s := s.commitRec.modItem k fun i => { i with st := st, err := e, chg := s.clk.now }
  { s with jrn := { s.jrn with items := retain s.jrn.items k.src } }

/-- R91, R141: the status line of an accepted item has left its port or, for a core or a peer, its answer has been taken. -/
def State.statusSent (s : State) (k : Key) : Bool :=
  let own (l : RLine) : Bool := match l with
    | .ok (.framed w) _ => decide (k.src < 2) && w == k.wsn
    | .ok (.typed n) _ => decide (2 ≤ k.src) && n == k.wsn
    | _ => false
  if h : k.src < 4 then
    let q := s.port[(k.src % 2 : Nat)]'(by omega)
    !(q.rsp.map (·.line) ++ q.rspWait).any own
  else !s.answers.any fun e => (s.srcNo e.1).val == k.src

/-- R66: execution completes; FIN WORK_DONE announces it. An item that has ended stays as it is (Table 3.3). -/
def State.workDone (s : State) (k : Key) : State :=
  match s.findItem k with
  | none => s
  | some i =>
    if i.isOpen then (s.endItem k .done i.err).raise .fin Cause.WORK_DONE i.stn (src := k.src) (wsn := k.wsn) else s

/-- R66: execution, or a cancel, ends the item with an error; FAULT WORK_FAILED announces it with DET the error. -/
def State.workFailed (s : State) (k : Key) (e : Nat) : State :=
  match s.findItem k with
  | none => s
  | some i =>
    if i.isOpen then (s.endItem k .failed e).raise .fault Cause.WORK_FAILED i.stn (det := e) (src := k.src) (wsn := k.wsn)
    else s

/-- An item moves to another open state (Table 3.3), with a STATE record: no event announces it. -/
def State.setItem (s : State) (k : Key) (st : OutState) : State :=
  s.commitRec.modItem k fun i => { i with st := st, chg := s.clk.now }

/-- How the execution of an item's effect ends at once: done, still running, or failed with an error. -/
inductive Res where
  | done (s : State)
  | running (s : State)
  | fail (e : Nat) (s : State)
deriving Repr

/-- A work item as its owning chapter gives it, in the present state: the error that makes its line no candidate, whether
the offerer has the authority, the first failing state check, its station (4 the board), whether its target is full
(R63), whether it begins at once, and its effect. -/
structure Work where
  pre : Option Nat := none
  permit : Bool := true
  chk : Option Nat := none
  stn : Nat := 4
  full : Bool := false
  noRoom : Option Nat := none
  auto : Bool := true
  run : Key → State → Res

/-- R124: authority is checked first. -/
def Work.err (w : Work) : Nat := if w.permit then w.chk.getD 0 else 230

/-- Begin an accepted item (Table 3.3): it runs, and its effect takes place. -/
def State.begin_ (s : State) (k : Key) (run : Key → State → Res) : State :=
  match run k (s.setItem k .running) with
  | .done t => t.workDone k
  | .running t => t
  | .fail e t => t.workFailed k e

/-- Acceptance is open (R63, R81, R92). -/
def State.accepting (s : State) : Bool := s.phase == .running && !s.stopped

/-- The answer to a duplicate (R64). -/
def State.dupLine (s : State) (o : Origin) : RLine :=
  let k := s.candKey o
  match s.findItem k with
  | some i => if i.chk = 0 then .ok (okTag o k) true else .er (okTag o k) i.chk true
  | none => .er (okTag o k) 613 true

/-- Entries of ring 15 that the ACCEPT record of an item of `len` characters takes (R522). -/
def recEntries (len : Nat) : Nat := ((28 + len + 15) / 16 * 16 + 31) / 32

/-- R63, R526: the commit queue or the journal has no room for the record of an item of `len` characters. -/
def State.commitFull (s : State) (len : Nat := 0) : Bool :=
  decide (s.ringFree 15 < recEntries len) || s.ringHeld 15
    || decide (s.fld .JRN_LIVE_BYTES + (28 + len + 15) / 16 * 16 > 118784)

/-- Panel rescue refuses framed lines on SP0 (R116). -/
def State.rescueOf (s : State) (o : Origin) : Bool :=
  match o with
  | .framed p _ => s.flag .SER_STAT_RESCUE p
  | _ => false

/-- A line can be answered at all: the ports, cores and links run from the commit on (R92, R545), and a rescued SP0 before
it too (R431). -/
def State.answering (s : State) : Bool :=
  match s.phase with
  | .committing | .replaying | .running | .closing => true
  | .loading | .waiting => s.flag .SER_STAT_RESCUE 0
  | _ => false

/-- R61: a copy of a candidate that is still being committed is answered once that is done. -/
def State.judgedDup (s : State) (o : Origin) : State :=
  if (s.queuedKeys (s.srcNo o)).contains (s.candKey o) then
    { s with jrn := { s.jrn with queue := s.jrn.queue ++ [.copy o] } }
  else s.answer o (s.dupLine o)

/-- The candidate's record goes to the journal. With nothing on its way there and no accepted item that has still to begin,
the command's own step sees the whole of its course: the commit, the answer, and the beginning. -/
def State.enter (s : State) (o : Origin) (cmd : Instr) (w : Work) (whole : Bool) (len : Nat) : State :=
  let k := s.candKey o
  let r : CommitRec := ⟨k, o, cmd, w.err, w.stn, len⟩
  if whole && s.jrn.queue.isEmpty && !(s.jrn.ready.any fun k => (s.findItem k).map (·.st) == some .pending) then
    let s := (s.accept r).answer o (acceptLine o k w.err)
    if w.err = 0 && w.auto then s.begin_ k w.run else s
  else
    let n := recEntries len
    let s := s.ringPut 15 n
    { s with jrn := { s.jrn with queue := s.jrn.queue ++ [.item r n] } }

/-- R61 to R66, R124: a work item is offered, judged, checked against the present state, and committed. `whole` says that the
command is one with its commit and its beginning (log entry 40); `len` is the item's length in characters. -/
def State.offerAs (s : State) (o : Origin) (cmd : Instr) (w : Work) (whole : Bool) (len : Nat) : State :=
  if !s.answering then s
  else if s.rescueOf o then s.refuse o 115
  else if !s.accepting then s.answer o (.busy (originTag o))
  else match w.pre with
  | some e => s.refuse o e
  | none =>
    match s.judge o with
    | .zero => s.answer o (.er (originTag o) 611 false)
    | .gap => s.answer o (.er (originTag o) 612 false)
    | .dup => s.judgedDup o
    | .next =>
      if s.commitFull len then (s.ringFull 15).answer o (.busy (originTag o))
      else if w.full && w.err == 0 then ((w.noRoom.map s.ringFull).getD s).answer o (.busy (originTag o))
      else s.enter o cmd w whole len

/-- The length of an item that no line spelled: 4 for a panel action (R522), else the model's 0. -/
def offerLen (o : Origin) : Nat := if o = .panel then 4 else 0

def State.offer (s : State) (o : Origin) (cmd : Instr) (w : Work) : State := s.offerAs o cmd w true (offerLen o)

/-! ## The commit queue (R61, R62, R81, R523) -/

def QEnt.isRec : QEnt → Bool
  | .item .. => true
  | .copy _ => false

def QEnt.origin : QEnt → Origin
  | .item r _ => r.org
  | .copy o => o

/-- The entries at the head that are copies of committed records are answered. -/
def State.answerCopies (s : State) : State :=
  let l := s.jrn.queue.takeWhile fun e => !e.isRec
  let s := { s with jrn := { s.jrn with queue := s.jrn.queue.drop l.length } }
  l.foldl (fun s e => s.answer e.origin (s.dupLine e.origin)) s

def isReset : Instr → Bool
  | .resetWarm _ | .resetCold _ => true
  | _ => false

/-- R62: the record at the head of the queue is durable, so its item is accepted and answered. -/
def State.commitHead (s : State) : State :=
  match s.jrn.queue with
  | .item r n :: l =>
    let s := ({ s with jrn := { s.jrn with queue := l } } : State).ringGet 15 n
    let s := (s.accept r).answer r.org (acceptLine r.org r.key r.err)
    let s := if r.err = 0 then { s with jrn := { s.jrn with ready := s.jrn.ready ++ [r.key] } } else s
    -- R141: from the commit of an accepted RESET, acceptance stops.
    let s := if r.err = 0 && isReset r.cmd then { s with stopped := true } else s
    s.answerCopies
  | _ => s

/-- R81: candidates whose commits have not begun are not accepted; at most 4 are in flight. -/
def State.dropQueue (s : State) (keep : Nat) : State :=
  let n := (s.jrn.queue.filter QEnt.isRec).length
  let rec cut (k : Nat) : List QEnt → List QEnt × List QEnt
    | [] => ([], [])
    | .item r m :: l =>
      match k with
      | 0 => ([], .item r m :: l)
      | k + 1 => let p := cut k l; (.item r m :: p.1, p.2)
    | .copy o :: l => let p := cut k l; (.copy o :: p.1, p.2)
  if n ≤ keep then s
  else
    let p := cut keep s.jrn.queue
    let s := { s with jrn := { s.jrn with queue := p.1 } }
    p.2.foldl (fun s e =>
      let s := match e with
        | .item _ m => s.ringGet 15 m
        | .copy _ => s
      s.answer e.origin (.busy (originTag e.origin))) s

/-- R524: no reset interrupts the commits in flight. -/
def State.commitInFlight (s : State) : State := (s.dropQueue 4).commitHead.commitHead.commitHead.commitHead

/-- A query or session command (R58, R122): it is answered, and consumes no WSN. -/
def State.ask (s : State) (o : Origin) (pre : Option Nat) (permit : Bool)
    (f : State → Nat × List (List Fd) × State) : State :=
  if !s.answering then s
  else if s.rescueOf o then s.refuse o 115
  else if !s.accepting then s.answer o (.busy (originTag o))
  else match pre with
  | some e => s.refuse o e
  | none =>
    if !permit then s.answer o (.er (originTag o) 230 false)
    else
      match f s with
      | (0, ls, t) => (ls.foldl (fun t l => t.answer o (.data l)) t).answer o (.ok (originTag o) false)
      | (e, _, t) => (t.countRej o e).answer o (.er (originTag o) e false)

/-- A query that changes nothing. -/
def State.askPure (s : State) (o : Origin) (pre : Option Nat) (permit : Bool)
    (f : State → Nat × List (List Fd)) : State :=
  s.ask o pre permit fun s => ((f s).1, (f s).2, s)

end Sys2Proof.Machine
end

