-- ==== Sys2Proof/Machine/Stores.lean ====
section
/-! DEFINITION. The byte memory (SRAM and flash) and the station I/O images (R307 to R309, R501, R509). -/
namespace Sys2Proof.Machine
open Sys2Proof

/-! ## Memory -/

/-- What a byte that nothing has written reads as: 0 in SRAM, and erased in flash (log entry 6). -/
def memDefault (a : Nat) : Byte := if 0x10000000 ≤ a then 0xFF else 0

/-- A byte of memory. -/
def State.memGet (s : State) (a : Nat) : Byte := (sparseFind s.mem a).getD (memDefault a)

/-- Memory with a byte written; a byte equal to the default is not listed. -/
def State.memSet (s : State) (a : Nat) (b : Byte) : State :=
  { s with mem := sparsePut s.mem a (if b = memDefault a then none else some b) }

/-- Memory in canonical form. -/
def memWf (m : List Host.Cell) : Bool := sparseWf memDefault m

/-- `n` bytes from `a` on. -/
def State.memBytes (s : State) (a : Nat) : Nat → List Byte
  | 0 => []
  | n + 1 => s.memGet a :: s.memBytes (a + 1) n

def State.memPut (s : State) (a : Nat) : List Byte → State
  | [] => s
  | b :: l => (s.memSet a b).memPut (a + 1) l

/-- A little-endian number of `n` bytes (R6). -/
def leNat : List Byte → Nat
  | [] => 0
  | b :: l => b.toNat + 256 * leNat l

def leBytes : Nat → Nat → List Byte
  | 0, _ => []
  | n + 1, v => BitVec.ofNat 8 v :: leBytes n (v / 256)

/-- A little-endian number of bytes of which some are known; the others are free. -/
def State.readKnown (s : State) (l : List (Option Byte)) : Nat × State :=
  if l.all Option.isSome then (leNat (l.map fun b => b.getD 0), s)
  else
    let (v, s) := s.fresh (8 * l.length)
    (leNat (l.zipIdx.map fun (b, i) => b.getD (BitVec.ofNat 8 (v / 256 ^ i))), s)

/-- CRC-32 of IEEE 802.3, reflected, one byte more. -/
def crcBits : Nat → Nat → Nat
  | 0, c => c
  | n + 1, c => crcBits n (if c % 2 = 1 then (c / 2) ^^^ 0xEDB88320 else c / 2)

def crc32Byte (c b : Nat) : Nat := crcBits 8 (c ^^^ (b % 256))

/-- The CRC over a byte string (initial value and final XOR 0xFFFF_FFFF). -/
def crc32 (l : List Byte) : Nat := (l.foldl (fun c b => crc32Byte c b.toNat) 0xFFFFFFFF) ^^^ 0xFFFFFFFF

/-- A CRC already delivered, with four more bytes. -/
def crc32More (crc v : Nat) : Nat :=
  ((leBytes 4 v).foldl (fun c b => crc32Byte c b.toNat) (crc ^^^ 0xFFFFFFFF)) ^^^ 0xFFFFFFFF

/-- Text as bytes, and back. -/
def textBytes (t : String) : List Byte := t.toList.map fun c => BitVec.ofNat 8 c.toNat

def bytesText (l : List Byte) : String := String.ofList (l.map fun b => Char.ofNat b.toNat)

/-! ## Image bits -/

def bitFind (l : List (Nat × Bool)) (a : Nat) : Bool := (sparseFind l a).getD false

def bitPut (l : List (Nat × Bool)) (a : Nat) (b : Bool) : List (Nat × Bool) :=
  sparsePut l a (if b then some true else none)

/-- The bit of station `k`'s image as the device sees it: the value transferred on the last tick (R309). -/
def State.imgDev (s : State) (k : Fin 4) (a : Nat) : Bool := bitFind (s.img[k]).dev a

/-- The bit as logic reads it. -/
def State.imgBit (s : State) (k : Fin 4) (a : Nat) : Bool := bitFind (s.img[k]).bits a

/-- A bit written by logic goes into the pending copy (R309). -/
def State.imgSet (s : State) (k : Fin 4) (a : Nat) (b : Bool) : State :=
  { s with img := s.img.set k { s.img[k] with bits := bitPut (s.img[k]).bits a b } }

/-- A bit written by the device stands in both copies. -/
def State.imgLatch (s : State) (k : Fin 4) (a : Nat) (b : Bool) : State :=
  let m : Img := ⟨bitPut (s.img[k]).bits a b, bitPut (s.img[k]).dev a b⟩
  { s with img := s.img.set k m }

/-- `n` bits of a number, the least significant at `a` (R308). -/
def State.imgLatchNum (s : State) (k : Fin 4) (a v : Nat) : Nat → State
  | 0 => s
  | n + 1 => (s.imgLatch k a (v % 2 == 1)).imgLatchNum k (a + 1) (v / 2) n

def State.imgNum (s : State) (k : Fin 4) (a : Nat) : Nat → Nat
  | 0 => 0
  | n + 1 => b2n (s.imgDev k a) + 2 * s.imgNum k (a + 1) n

/-- R309: the pending copy of station `k` is transferred. -/
def State.imgTransfer (s : State) (k : Fin 4) : State :=
  { s with img := s.img.set k { s.img[k] with dev := (s.img[k]).bits } }

end Sys2Proof.Machine
end

