-- ==== Sys2Proof/Machine/Resources.lean ====
section
/-! DEFINITION. Which station owns what (R22, R23), station states, and the session's default station. -/
namespace Sys2Proof.Machine
open Sys2Proof

/-! ## Axes and slots (R22, Table 7.1) -/

/-- The station code of an axis: 0 to 3, or 7 for an axis of no configured station. -/
def State.axisCode (s : State) (a : Nat) : Nat :=
  if h : a < 12 then
    match s.conf.axisStn[a] with
    | some k => if s.conf.stations[k] then k.val else 7
    | none => 7
  else 7

def State.axisStation (s : State) (a : Nat) : Option (Fin 4) :=
  if h : s.axisCode a < 4 then some ⟨s.axisCode a, h⟩ else none

/-- The axes of a station, ascending: the axis of slot k is the k-th. -/
def State.axesOf (s : State) (k : Fin 4) : List (Fin 12) :=
  ((List.finRange 12).filter fun (a : Fin 12) => s.axisCode a == k.val).take 6

def State.slotAxis (s : State) (k : Fin 4) (slot : Nat) : Option (Fin 12) := (s.axesOf k)[slot]?

def State.axisSlot (s : State) (k : Fin 4) (a : Nat) : Option Nat := (s.axesOf k).findIdx? fun (b : Fin 12) => b.val == a

/-- The station code of an encoder receiver. -/
def State.encStn (s : State) (n : Nat) : Nat := if h : n < 12 then s.conf.encStn[n] else 7

/-! ## Station states (Table 8.1) -/

def stIdle : Nat := 0
def stRun : Nat := 1
def stJog : Nat := 2
def stHolding : Nat := 3
def stStopping : Nat := 4
def stHeld : Nat := 5
def stApproach : Nat := 6
def stTripped : Nat := 7

def stateName (n : Nat) : String :=
  match n with
  | 0 => "IDLE"
  | 1 => "RUN"
  | 2 => "JOG"
  | 3 => "HOLDING"
  | 4 => "STOPPING"
  | 5 => "HELD"
  | 6 => "APPROACH"
  | _ => "TRIPPED"

def State.stnState (s : State) (k : Fin 4) : Nat := s.fld .MOT_STATE_STATE k

/-- A station changes state; the change is traced (Table 22.6). -/
def State.setStn (s : State) (k : Fin 4) (n : Nat) : State :=
  let old := s.stnState k
  let s := s.setFld .MOT_STATE_STATE k 0 n
  if old = n then s else s.traceRec 4 k (6 + k.val) (old + 256 * n)

def State.isBraking (s : State) (k : Fin 4) : Bool := s.stnState k == stHolding || s.stnState k == stStopping

/-- A station by its code is configured and not IDLE: an assignment that it gains or loses from is locked (R25). -/
def State.busyCode (s : State) (code : Nat) : Bool :=
  if h : code < 4 then s.configured code && s.stnState ⟨code, h⟩ != stIdle else false

/-- R25: error 221 unless every station that gains or loses the resource is IDLE. -/
def State.assignErr (s : State) (old new : Nat) : Option Nat :=
  if old != new && (s.busyCode old || s.busyCode new) then some 221
  else if new < 4 && !s.configured new then some 302
  else none

/-! ## Sessions (R118, R121) -/

/-- The port whose session a command uses, for a command of a serial port. -/
def sessionPort : Origin → Option (Fin 2)
  | .framed p _ | .typed p => some p
  | _ => none

/-- The own sources of an origin (R118): both of the port's, or the origin's one. -/
def State.ownSource (s : State) (o : Origin) (n : Nat) : Bool :=
  match sessionPort o with
  | some p => n == p.val || n == 2 + p.val
  | none => n == (s.srcNo o).val

/-- R121: the selected station. -/
def State.selStn (s : State) (p : Fin 2) : Fin 4 := (s.sess[p]).sel

/-- The station of a command whose station argument is omitted (R121). -/
def State.defStn (s : State) (o : Origin) : Fin 4 :=
  match o with
  | .framed p _ | .typed p => s.selStn p
  | .core c => ⟨min (s.fld .SYS_CASN_STN c) 3, by omega⟩
  | _ => ((List.finRange 4).find? fun (k : Fin 4) => (s.originAuth o).stn[k]).getD 0

def State.argStn (s : State) (o : Origin) (k : Option (Fin 4)) : Fin 4 := k.getD (s.defStn o)

/-- The error of a station argument that names no configured station. -/
def State.stnErr (s : State) (k : Fin 4) : Option Nat := if s.configured k then none else some 302

/-- The authority of an origin over a station code. -/
def State.hasAuth (s : State) (o : Origin) (code : Nat) : Bool := (s.originAuth o).over code

/-- Change the motion side of a station, and of an axis. -/
def State.setMot (s : State) (k : Fin 4) (f : StnMot → StnMot) : State := { s with mot := s.mot.set k (f s.mot[k]) }

def State.setAxis (s : State) (a : Fin 12) (f : AxisSt → AxisSt) : State := { s with axis := s.axis.set a (f s.axis[a]) }

def State.setReader (s : State) (k : Fin 4) (f : Reader → Reader) : State :=
  s.setMot k fun m => { m with reader := m.reader.map f }

def bitXREQ : Nat := 0x17D6

/-- XREQ clears. -/
def State.clearXreq (s : State) (k : Fin 4) : State := (s.imgLatch k bitXREQ false).setFlag .MOT_HS_XPEND k 0 false

/-- A station's reader goes, and with it an extension that waits. -/
def State.dropReader (s : State) (k : Fin 4) : State :=
  let s := if ((s.mot[k]).reader.bind (·.ext)).isSome then s.clearXreq k else s
  s.setMot k fun m => { m with reader := none }

/-- Fold a state change over a list. -/
def forAll {α : Type} (l : List α) (s : State) (f : State → α → State) : State := l.foldl f s

end Sys2Proof.Machine
end

