-- ==== Sys2Proof/Machine/Clamp.lean ====
section
/-! DEFINITION. The sluice path: drive enables off and DACs clamped, by station (R15, R44, R204, R408, R409), and the
spans of the DACs (R398, R399). -/
namespace Sys2Proof.Machine
open Sys2Proof

/-! ## Spans (Table 15.1) -/

def spanBipolar (sp : Nat) : Bool := sp ≤ 1

/-- The largest and the smallest code of a span. -/
def spanMax (sp : Nat) : Int := if spanBipolar sp then 524287 else 1048575
def spanMin (sp : Nat) : Int := if spanBipolar sp then -524288 else 0

/-- Codes per volt or milliampere: a pair, and the value at code 0. -/
def spanScale (sp : Nat) : Nat × Nat × Nat :=
  match sp with
  | 0 => (524288, 10, 0)
  | 1 => (524288, 5, 0)
  | 2 => (1048576, 10, 0)
  | 3 => (1048576, 20, 0)
  | _ => (1048576, 16, 4)

def spanClamp (sp : Nat) (c : Int) : Int := max (spanMin sp) (min (spanMax sp) c)

/-- The code of a holding or output register, signed where the span is bipolar. -/
def spanCode (sp v : Nat) : Int := if spanBipolar sp then toSigned 20 v else v

/-- The level of a code, V or mA. -/
def spanLevel (sp : Nat) (c : Int) : Rat :=
  let (n, f, z) := spanScale sp
  (c * f : Rat) / n + z

/-! ## Holding registers -/

def State.setDac (s : State) (n : Fin 16) (f : DacSt → DacSt) : State := { s with dac := s.dac.set n (f s.dac[n]) }

/-- R402: the holding register takes a code, and SAFE clears; a code that is safe is written by `dacHoldSafe`. -/
def State.dacHold (s : State) (n : Fin 16) (c : Int) : State :=
  (s.setFld .DAC_HOLD_CODE n 0 (ofSigned 20 c)).setFlag .DAC_HOLD_SAFE n 0 false

def State.dacHoldSafe (s : State) (n : Fin 16) : State := s.setFlag .DAC_HOLD_SAFE n 0 true

/-- R404: the ramp of a DAC ends where it stands, and its item is done. -/
def State.endRamp (s : State) (n : Fin 16) : State :=
  let key := (s.dac[n]).valueKey
  let s := (s.setFlag .DAC_RTGT_ACTIVE n 0 false).setFld .DAC_RTCK_TICKS n 0 0
  let s := s.setDac n fun d => { d with valueKey := none }
  match key with
  | some q => s.workDone q
  | none => s

/-! ## The clamp (R408, R409) -/

/-- R408: a DAC is clamped to its safe value. -/
def State.clampDac (s : State) (n : Fin 16) : State :=
  let s := s.endRamp n
  let s := (s.setFlag .DAC_HOLD_SAFE n 0 true).setFlag .DAC_OUT_SAFE n 0 true
  (s.setFlag .DAC_STAT_DGH n 0 false).setFlag .DAC_STAT_CLAMP n 0 true

/-- The DACs of a station code. -/
def State.dacsOf (s : State) (code : Nat) : List (Fin 16) :=
  (List.finRange 16).filter fun (n : Fin 16) => s.fld .DAC_CFG_STN n == code

/-- R15, R454: the enables of a station's axes turn off, and its DACs clamp. The enable pins follow DRVON (R453). -/
def State.clampStation (s : State) (k : Fin 4) : State :=
  forAll (s.dacsOf k) (s.setFlag .MOT_STATE_DRVON k 0 false) fun s n => s.clampDac n

/-- R408: the DACs of the board clamp while TRIP is asserted. -/
def State.clampBoard (s : State) : State := forAll (s.dacsOf 4) s fun s n => s.clampDac n

/-- R397: an axis of a configured station names the DAC with MODE 1 to 3. -/
def State.servoDriven (s : State) (n : Nat) : Bool :=
  (List.finRange 12).any fun (a : Fin 12) => (s.axisStation a).isSome && s.fld .SRV_MODE_DAC a == n
    && 1 ≤ s.fld .SRV_MODE_MODE a && s.fld .SRV_MODE_MODE a ≤ 3

/-- The station of the axis that drives the DAC. -/
def State.dacAxisStn (s : State) (n : Nat) : Option (Fin 4) :=
  ((List.finRange 12).find? fun (a : Fin 12) => (s.axisStation a).isSome && s.fld .SRV_MODE_DAC a == n
    && 1 ≤ s.fld .SRV_MODE_MODE a && s.fld .SRV_MODE_MODE a ≤ 3).bind fun a => s.axisStation a

/-! ## The feedback resources of a station (spec/21_power_domains.md, "Idle stations") -/

/-- The station is in SLEEP (R575). -/
def State.asleep (s : State) (k : Fin 4) : Bool := s.fld .PWR_IDLE_NOW k == 2

/-- Channel `c` (PA0 to PA15, then FA0 to FA7) is one that an axis of the station names for feedback or tach. -/
def State.fbChan (s : State) (k : Fin 4) (c : Nat) : Bool :=
  (s.axesOf k).any fun (a : Fin 12) =>
    (s.fld .SRV_FB_KIND a == 2 && (c == s.fld .SRV_FB_SRC a || c == s.fld .SRV_FB_SRC a + 1))
      || (s.fld .SRV_FB_KIND2 a == 2 && (c == s.fld .SRV_FB_SRC2 a || c == s.fld .SRV_FB_SRC2 a + 1))
      || (s.flag .SRV_TACH_EN a && c == s.fld .SRV_TACH_CH a + (if s.flag .SRV_TACH_FAST a then 16 else 0))

def State.fbExc (s : State) (k : Fin 4) (g : Nat) : Bool :=
  (s.axesOf k).any fun (a : Fin 12) =>
    (s.fld .SRV_FB_KIND a == 2 && s.fld .SRV_FB_EXC a == g) || (s.fld .SRV_FB_KIND2 a == 2 && s.fld .SRV_FB_EXC2 a == g)

def State.fbDac (s : State) (k : Fin 4) (n : Nat) : Bool :=
  (s.axesOf k).any fun (a : Fin 12) => s.fld .SRV_MODE_DAC a == n && 1 ≤ s.fld .SRV_MODE_MODE a && s.fld .SRV_MODE_MODE a ≤ 3

def State.chanAsleep (s : State) (c : Nat) : Bool := (List.finRange 4).any fun (k : Fin 4) => s.asleep k && s.fbChan k c
def State.excAsleep (s : State) (g : Nat) : Bool := (List.finRange 4).any fun (k : Fin 4) => s.asleep k && s.fbExc k g
def State.dacAsleep (s : State) (n : Nat) : Bool := (List.finRange 4).any fun (k : Fin 4) => s.asleep k && s.fbDac k n

/-- R409: the clamp is released; SAFE stays until a value is written. The stage of a sleeping station stays off (R575). -/
def State.releaseDac (s : State) (n : Fin 16) : State :=
  if s.dacAsleep n then s else s.setFlag .DAC_STAT_CLAMP n 0 false

/-- R409: the clamp of a station that leaves TRIPPED. -/
def State.releaseStation (s : State) (k : Fin 4) : State := forAll (s.dacsOf k) s fun s n => s.releaseDac n

/-- R575: a command that names a feedback resource of a sleeping station fails with error 287. -/
def sleepErr (b : Bool) : Option Nat := if b then some 287 else none

end Sys2Proof.Machine
end

