-- ==== Sys2Proof/Machine/Block.lean ====
section
/-! DEFINITION. Block text: the words of a block and the syntax checks of R170, R171, R174 and R175
(spec/07_part_programs.md). -/
namespace Sys2Proof.Machine

/-- A word of a block: its letter, and its number as written. `digits` holds the integer and the fractional digits as one
number, `frac` counts the fractional ones, and `point` says that a decimal point stands in it. -/
structure BWord where
  letter : Char
  neg : Bool
  digits : Nat
  whole : Nat
  frac : Nat
  point : Bool
deriving DecidableEq, Repr

/-- A parsed block (R170). -/
structure PBlock where
  del : Bool
  words : List BWord
  optag : Option Nat
deriving DecidableEq, Repr

def upChar (c : Char) : Char := if 'a' ≤ c ∧ c ≤ 'z' then Char.ofNat (c.toNat - 32) else c

def digitOf (c : Char) : Option Nat := if '0' ≤ c ∧ c ≤ '9' then some (c.toNat - 48) else none

/-- A comment `(OP=n)` gives the operation tag (R170). -/
def opComment (c : List Char) : Option Nat :=
  match c.map upChar with
  | 'O' :: 'P' :: '=' :: ds =>
    if ds.isEmpty || ds.length > 5 || !(ds.all fun d => (digitOf d).isSome) then none
    else
      let v := ds.foldl (fun v d => v * 10 + (digitOf d).getD 0) 0
      if v ≤ 65535 then some v else none
  | _ => none

/-- Comments leave the text, blanks go, letters become capitals: the characters of the words, the last operation tag, and whether
the text ends at a breach of the comment rules. `inC` holds the comment in progress, newest first. What answers a comment that
nests, does not end, or ends unopened no rule says: in the model it is a malformed word, error 120, at its place (DESIGN CHOICE,
log entry 56). -/
def stripBlock : List Char → Option (List Char) → Option Nat → List Char × Option Nat × Bool
  | [], none, op => ([], op, false)
  | [], some _, op => ([], op, true)
  | c :: l, some cm, op =>
    if c = ')' then stripBlock l none ((opComment cm.reverse).or op)
    else if c = '(' then ([], op, true)
    else stripBlock l (some (c :: cm)) op
  | c :: l, none, op =>
    if c = '(' then stripBlock l (some []) op
    else if c = ')' then ([], op, true)
    else if c = ' ' ∨ c = '\t' then stripBlock l none op
    else
      let r := stripBlock l none op
      (upChar c :: r.1, r.2)

def isLetter (c : Char) : Bool := 'A' ≤ c && c ≤ 'Z'

/-- Cut the characters into words, each a letter and what follows it. None where no letter begins them. -/
def cutWords : List Char → Option (List (Char × List Char))
  | [] => some []
  | c :: l =>
    match cutWords' l with
    | (tail, ws) => if isLetter c then some ((c, tail) :: ws) else none
where
  /-- The characters up to the next letter, and the words after them. -/
  cutWords' : List Char → List Char × List (Char × List Char)
    | [] => ([], [])
    | c :: l =>
      match cutWords' l with
      | (tail, ws) => if isLetter c then ([], (c, tail) :: ws) else (c :: tail, ws)

def digitsValue (l : List Char) : Nat := l.foldl (fun v d => v * 10 + (digitOf d).getD 0) 0

/-- The number of a word: an optional sign, digits, and an optional point with digits. -/
def readNumber (letter : Char) (l : List Char) : Option BWord :=
  let (neg, l) := match l with
    | '-' :: r => (true, r)
    | '+' :: r => (false, r)
    | r => (false, r)
  let ip := l.takeWhile fun c => (digitOf c).isSome
  let rest := l.drop ip.length
  let (point, fp, tail) := match rest with
    | '.' :: r =>
      let fp := r.takeWhile fun c => (digitOf c).isSome
      (true, fp, r.drop fp.length)
    | r => (false, [], r)
  if !tail.isEmpty || (ip.isEmpty && fp.isEmpty) then none
  else some ⟨letter, neg, digitsValue (ip ++ fp), ip.length, fp.length, point⟩

def intLetters : List (Char × Nat × Nat) :=
  [('N', 0, 99999), ('G', 0, 99), ('T', 0, 9999), ('M', 0, 999), ('H', 0, 99), ('L', 1, 2)]

def coordLetters : List Char := ['X', 'Y', 'Z', 'U', 'V', 'W', 'A', 'B', 'C', 'I', 'J', 'K']

/-- The significant digits of a number. -/
def sigDigits (n : Nat) : Nat := if n = 0 then 0 else (Nat.toDigits 10 n).length

/-- The group of a G code (Table 7.3); every other code stands alone. -/
def gGroup (n : Nat) : Nat :=
  match n with
  | 0 | 1 | 2 | 3 => 100
  | 17 | 18 | 19 => 101
  | 20 | 21 | 70 | 71 => 102
  | 90 | 91 => 103
  | 94 | 95 => 104
  | 54 | 55 | 56 | 57 | 58 | 59 => 105
  | 43 | 44 | 49 => 106
  | n => n

/-- R174: the error of a word's own form: 120 for a malformed one, 123 for a value out of range or too many digits.
`dwell` says that the block holds G04. A point in an integer word is malformed; a value of F, S or P of more than 34 significant
digits, for which no rule gives a limit, and an H above 99, which R178 would fail with 255 at its conversion, are 123 here (DESIGN
CHOICE, log entry 56). -/
def wordErr (first dwell : Bool) (letter : Char) (txt : List Char) : Except Nat BWord :=
  match intLetters.find? fun e => e.1 == letter with
  | some (_, lo, hi) =>
    match readNumber letter txt with
    | none => .error 120
    | some w =>
      if w.point || (letter == 'N' && !first) then .error 120
      else if (w.neg && w.digits != 0) || w.digits < lo || hi < w.digits then .error 123
      else .ok { w with neg := false }
  | none =>
    if coordLetters.contains letter then
      match readNumber letter txt with
      | none => .error 120
      | some w => if w.whole > 9 ∨ w.frac > 6 then .error 123 else .ok w
    else if letter == 'F' || letter == 'S' || letter == 'P' then
      match readNumber letter txt with
      | none => .error 120
      | some w =>
        let bad := sigDigits w.digits > 34
          || (letter == 'F' && (w.neg || w.digits == 0))
          || (letter == 'S' && w.neg && w.digits != 0)
          || (letter == 'P' && dwell && (w.neg || w.digits * 1000 < 10 ^ w.frac || 9999 * 10 ^ w.frac < w.digits))
        if bad then .error 123 else .ok w
    else .error 120

/-- R171: how often a word may stand: M three times, a G code once in its group, every other letter once. -/
def repeats (before : List BWord) (w : BWord) : Bool :=
  if w.letter = 'M' then (before.filter fun b => b.letter == 'M').length ≥ 3
  else if w.letter = 'G' then before.any fun b => b.letter == 'G' && gGroup b.digits == gGroup w.digits
  else before.any fun b => b.letter == w.letter

/-- R175: the words from left to right; the first that breaks a rule decides. -/
def checkWords (dwell : Bool) : List (Char × List Char) → List BWord → Except Nat (List BWord)
  | [], done => .ok done
  | (c, t) :: l, done =>
    match wordErr (done.isEmpty || done.any fun b => b.letter == 'N') dwell c t with
    | .error e => .error e
    | .ok w => if repeats done w then .error 121 else checkWords dwell l (done ++ [w])

/-- The word says G04. -/
def isDwellWord (w : Char × List Char) : Bool :=
  w.1 == 'G' && (readNumber 'G' w.2).any fun n => !n.neg && !n.point && n.digits == 4

/-- R170, R171, R174, R175: the block, or the error of its first breach. -/
def parseBlock (text : String) : Except Nat PBlock :=
  let cs := text.toList
  if cs.length > 240 then .error 122
  else
    let (l, op, bad) := stripBlock cs none none
    let (del, l) := match l with
      | '/' :: r => (true, r)
      | r => (false, r)
    match cutWords l with
    | none => .error 120
    | some ws =>
      let dwell := ws.any isDwellWord
      match checkWords dwell ws [] with
      | .error e => .error e
      | .ok words =>
        if bad then .error 120
        else if dwell && !(words.any fun w => w.letter == 'P') then .error 123
        else .ok ⟨del, words, op⟩

/-- The syntax error of a block text, if it has one (R111, R175). -/
def blockErr (text : String) : Option Nat :=
  match parseBlock text with
  | .error e => some e
  | .ok _ => none

/-! ## Words of a parsed block -/

def PBlock.word (b : PBlock) (c : Char) : Option BWord := b.words.find? fun w => w.letter == c

def PBlock.gs (b : PBlock) : List Nat := (b.words.filter fun w => w.letter == 'G').map (·.digits)

def PBlock.ms (b : PBlock) : List Nat := (b.words.filter fun w => w.letter == 'M').map (·.digits)

def PBlock.hasG (b : PBlock) (n : Nat) : Bool := b.gs.contains n

end Sys2Proof.Machine
end

