-- ==== Sys2Proof/Machine/Convert.lean ====
section
/-! DEFINITION. Conversion of a block to a motion block: modal state, units and the quantum, offsets, arcs and codes
(spec/07_part_programs.md, R172 to R178, R187 to R190). -/
namespace Sys2Proof.Machine
open Sys2Proof

/-! ## Units (R174, R176)

Positions that may carry a part of the other unit are exact in units of 10⁻⁷/254 of the base unit. -/

/-- The quantum 10^-q in those units. -/
def quantumU (q : Nat) : Int := 2540 * (10 ^ (6 - q) : Nat)

/-- Quanta per base unit or degree. -/
def quantaPer (q : Nat) : Nat := 10 ^ q

def State.qlin (s : State) (k : Fin 4) : Nat := s.fld .MOT_PGM_QLIN k
def State.qrot (s : State) (k : Fin 4) : Nat := s.fld .MOT_PGM_QROT k
def State.slotRot (s : State) (k : Fin 4) (slot : Nat) : Bool := s.flag .MOT_AXL_ROT k slot

/-- The quantum exponent of a slot: QROT for a rotary one, QLIN otherwise. -/
def State.slotQ (s : State) (k : Fin 4) (slot : Nat) : Nat := if s.slotRot k slot then s.qrot k else s.qlin k

def State.baseInch (s : State) (k : Fin 4) : Bool := s.flag .MOT_PGM_BASE k

/-- What 10⁻⁶ of the program unit is: one inch is exactly 25.4 mm. -/
def unitScale (baseInch progInch rot : Bool) : Int :=
  if rot || baseInch == progInch then 2540 else if progInch then 64516 else 100

/-- The exact value of a coordinate word (R174). -/
def State.wordU (s : State) (k : Fin 4) (inch rot : Bool) (w : BWord) : Int :=
  let q := if rot then s.qrot k else s.qlin k
  let frac := if w.point then w.frac else if s.flag .MOT_PGM_NODP k then q else 0
  let v : Int := (w.digits * 10 ^ (6 - frac) : Nat)
  (if w.neg then -v else v) * unitScale (s.baseInch k) inch rot

/-- A word as a decimal number, as written. -/
def wordDecimal (w : BWord) : Decimal := ⟨w.neg, w.digits, -(w.frac : Int)⟩

/-- R176: the feed in force in the base unit, by one multiplication or division by 25.4, to 34 significant digits. -/
def feedBase (baseInch : Bool) (f : Decimal × Bool) : Decimal :=
  let (d, inch) := f
  if inch == baseInch then d
  else if inch then roundDigits 34 d.neg (d.coef * 254) 10 d.exp
  else roundDigits 34 d.neg (d.coef * 10) 254 d.exp

/-! ## Axis letters and codes (Tables 7.1, 7.3, 7.4) -/

/-- The code of an axis letter in MOT_AXL: X, Y, Z, U, V, W, A, B, C. -/
def letterCode (c : Char) : Nat := (("XYZUVWABC".toList.findIdx? (· == c)).map (· + 1)).getD 0

/-- The slot that carries a letter. -/
def State.letterSlot (s : State) (k : Fin 4) (c : Char) : Option (Fin 6) :=
  if letterCode c = 0 then none
  else (List.finRange 6).find? fun (i : Fin 6) =>
    s.fld .MOT_AXL_LETTER k i == letterCode c && (s.slotAxis k i).isSome

/-- The axis words of a block. -/
def PBlock.axes (b : PBlock) : List BWord := b.words.filter fun w => letterCode w.letter != 0

def interpretedG : List Nat :=
  [0, 1, 2, 3, 4, 9, 10, 17, 18, 19, 20, 21, 40, 43, 44, 49, 53, 54, 55, 56, 57, 58, 59, 70, 71, 80, 90, 91, 94, 95]

/-- The code table entry of a code, its action and NOWAIT: of two, the lower-numbered one (R199). -/
def State.codeEntry (s : State) (k : Fin 4) (isG : Bool) (code : Nat) : Option (Nat × Bool) :=
  ((List.range 32).find? fun i =>
    s.fld .MOT_CODE_ACT k i != 0 && s.fld .MOT_CODE_CODE k i == code && s.flag .MOT_CODE_GM k i == isG).map
    fun i => (s.fld .MOT_CODE_ACT k i, s.flag .MOT_CODE_NOWAIT k i)

def State.extends_ (s : State) (k : Fin 4) (isG : Bool) (code : Nat) : Bool :=
  ((s.codeEntry k isG code).map fun e => e.1 == 3) == some true

/-- R195: the block holds a code whose entry has action EXTEND. -/
def State.isExtension (s : State) (k : Fin 4) (b : PBlock) : Bool :=
  b.gs.any (s.extends_ k true) || b.ms.any (s.extends_ k false)

def State.hasSpindle (s : State) (k : Fin 4) : Bool := s.fld .MOT_PGM_SPAX k != 15

/-- An M code that acts inside the device (R173): Table 7.4, where the code table gives it no other action. -/
def State.internalM (s : State) (k : Fin 4) (m : Nat) : Bool :=
  (s.codeEntry k false m).isNone &&
  (m ≤ 2 || m == 30 || ((m == 3 || m == 4 || m == 5) && s.hasSpindle k))

/-- The handshake of an M code that is not internal (R192). -/
def State.mHand (s : State) (k : Fin 4) (m : Nat) : MHand :=
  match s.codeEntry k false m with
  | some (1, nw) => ⟨m, true, nw⟩
  | some (_, nw) => ⟨m, false, nw⟩
  | none => ⟨m, false, false⟩

/-! ## Modal state -/

/-- The modal state at the start of a RUN, and of the MDI stream after a reset (R172), with the program targets at the
machine position `at_` in quanta. -/
def startModal (baseInch : Bool) (at_ : Vector Int 6) (tgt : Vector Int 6) : Modal :=
  ⟨0, 0, baseInch, false, false, none, none, 0, 0, 0, 0, tgt, Vector.replicate 6 false, at_⟩

/-- The modal effect of one G code (Table 7.3). -/
def modalG (m : Modal) (g : Nat) : Modal :=
  match g with
  | 0 | 1 | 2 | 3 => { m with motion := g }
  | 17 => { m with plane := 0 }
  | 18 => { m with plane := 1 }
  | 19 => { m with plane := 2 }
  | 20 | 70 => { m with inch := true }
  | 21 | 71 => { m with inch := false }
  | 90 => { m with inc := false }
  | 91 => { m with inc := true }
  | 94 => { m with perRev := false }
  | 95 => { m with perRev := true }
  | 43 => { m with tool := 1 }
  | 44 => { m with tool := 2 }
  | 49 => { m with tool := 0 }
  | 54 | 55 | 56 | 57 | 58 | 59 => { m with wofs := g - 54 }
  | _ => m

/-- The modal words of a block that move nothing: G codes, H, F, S and the operation tag. -/
def modalWords (m : Modal) (b : PBlock) : Modal :=
  let m := b.gs.foldl modalG m
  let m := match b.word 'H' with
    | some w => { m with hno := w.digits }
    | none => m
  let m := match b.word 'F' with
    | some w => { m with feed := some (wordDecimal w, m.inch) }
    | none => m
  let m := match b.word 'S' with
    | some w => { m with speed := some (wordDecimal w) }
    | none => m
  match b.optag with
  | some t => { m with optag := t }
  | none => m

/-- The letters of the first, second and third axis of a plane (R177, R188). -/
def planeLetters (p : Nat) : Char × Char × Char :=
  match p with
  | 0 => ('X', 'Y', 'Z')
  | 1 => ('Z', 'X', 'Y')
  | _ => ('Y', 'Z', 'X')

def centreLetter (c : Char) : Char := if c = 'X' then 'I' else if c = 'Y' then 'J' else 'K'

/-! ## Offsets (R177, R178) -/

/-- The work offset and tool length in force for a slot, and whether a part came from the other unit. -/
def State.slotOffset (s : State) (k : Fin 4) (m : Modal) (slot : Fin 6) : Int × Bool :=
  let mo := s.mot[k]
  let (o, of_) := if h : m.wofs < 6 then (mo.ofs[m.wofs])[slot] else (0, false)
  let third := s.letterSlot k (planeLetters m.plane).2.2
  if m.tool ≠ 0 ∧ third = some slot then
    let (l, lf) := if h : m.hno < 100 then mo.tools[m.hno] else (0, false)
    (if m.tool = 1 then o + l else o - l, of_ || lf)
  else (o, of_)

/-- The machine target of an exact position, in quanta: rounded half to even. -/
def toQuanta (q : Nat) (u : Int) : Int := roundHE u (quantumU q).toNat

/-- R177: a rotary slot with ROLL moves by the shorter way, and by the positive way when both are equal. -/
def rollTarget (q : Nat) (last t : Int) : Int :=
  let turn : Int := (360 * quantaPer q : Nat)
  let d := (t - last) % turn
  if 2 * d ≤ turn then last + d else last + d - turn

/-- R176: the machine target of an exact position in quanta. One that comes wholly from the base unit must be a multiple of the
quantum; it is the machine target, offsets and all, that is held to it (DEDUCED, log entry 56). -/
def quantumTarget (q : Nat) (foreign : Bool) (u : Int) : Except Nat Int :=
  if !foreign && u % quantumU q ≠ 0 then .error 256 else .ok (toQuanta q u)

/-- The target of one axis word: the modal state after it, or the error. -/
def State.axisWord (s : State) (k : Fin 4) (machine : Bool) (m : Modal) (w : BWord) :
    Except Nat (Modal × Nat × Int) :=
  match s.letterSlot k w.letter with
  | none => .error 250
  | some slot =>
    let rot := s.slotRot k slot
    let q := s.slotQ k slot
    let v := s.wordU k m.inch rot w
    let foreign := !rot && m.inch != s.baseInch k
    let (o, of_) := s.slotOffset k m slot
    let roll := rot && s.flag .MOT_AXL_ROLL k slot
    let last := m.last[slot]
    if machine then
      match quantumTarget q foreign v with
      | .error e => .error e
      | .ok t =>
        let t := if roll then rollTarget q last t else t
        .ok ({ m with tgt := m.tgt.set slot (t * quantumU q - o), other := m.other.set slot foreign,
                      last := m.last.set slot t }, slot.val, t)
    else if m.inc then
      let p := m.tgt[slot] + v
      let other := m.other[slot] || foreign
      match quantumTarget q (other || of_) (if roll then v else p + o) with
      | .error e => .error e
      | .ok t =>
        let t := if roll then last + t else t
        .ok ({ m with tgt := m.tgt.set slot p, other := m.other.set slot other, last := m.last.set slot t }, slot.val, t)
    else
      match quantumTarget q (foreign || of_) (v + o) with
      | .error e => .error e
      | .ok t =>
        let t := if roll then rollTarget q last t else t
        .ok ({ m with tgt := m.tgt.set slot v, other := m.other.set slot foreign, last := m.last.set slot t }, slot.val, t)

def State.axisWords (s : State) (k : Fin 4) (machine : Bool) :
    List BWord → Modal → List (Nat × Int) → Except Nat (Modal × List (Nat × Int))
  | [], m, ts => .ok (m, ts)
  | w :: l, m, ts =>
    match s.axisWord k machine m w with
    | .error e => .error e
    | .ok (m, slot, t) => s.axisWords k machine l m (ts ++ [(slot, t)])

/-- Targets in slot order. -/
def sortTargets (ts : List (Nat × Int)) : List (Nat × Int) :=
  (List.range 6).filterMap fun i => ts.find? fun t => t.1 == i

/-- R189: the distances a = rs² and b = re² differ by no more than t as distances. -/
def arcWithin (a b t : Int) : Bool := a + b - t * t ≤ 0 || (a + b - t * t) * (a + b - t * t) ≤ 4 * a * b

/-- The error of an arc from `(x, y)` to `(x', y')` about `(cx, cy)`: radius 0, or ends at unequal distances. -/
def arcErr (tol cx cy x y x' y' : Int) : Option Nat :=
  let a := (x - cx) * (x - cx) + (y - cy) * (y - cy)
  let b := (x' - cx) * (x' - cx) + (y' - cy) * (y' - cy)
  if a = 0 then some 252 else if arcWithin a b tol then none else some 252

/-- What a converted block does beside its motion block: a G10 setting. -/
inductive Setting where
  | none
  /-- A work offset, from the block's axis words. -/
  | work (n : Nat) (vs : List (Nat × Int × Bool))
  | tool (n : Nat) (v : Int) (other : Bool)
deriving DecidableEq, Repr

/-- A converted block: the modal state after it, its motion block where it has one, and its setting. -/
structure Conv where
  modal : Modal
  block : Option MBlock
  set : Setting
deriving DecidableEq, Repr

/-- What identifies the block (R190). -/
structure BlockId where
  key : Key
  own : Bool
  prog : Nat
  blk : Nat
  sub : Nat
deriving DecidableEq, Repr

/-- An integer from a P word, if it is one. -/
def wordInt (w : BWord) : Option Nat :=
  if w.neg then none else if w.digits % 10 ^ w.frac = 0 then some (w.digits / 10 ^ w.frac) else none

/-- R178: a G10 block. One without L or P, or with a P that is no integer, has no offset number in range: 255 (DESIGN CHOICE, log
entry 56). -/
def State.convertG10 (s : State) (k : Fin 4) (m : Modal) (b : PBlock) : Except Nat Setting :=
  let value (w : BWord) : Except Nat (Nat × Int × Bool) :=
    match s.letterSlot k w.letter with
    | none => .error 250
    | some slot =>
      let rot := s.slotRot k slot
      .ok (slot.val, s.wordU k m.inch rot w, !rot && m.inch != s.baseInch k)
  match (b.word 'L').map (·.digits), (b.word 'P').bind wordInt with
  | some 2, some n =>
    if n < 1 ∨ 6 < n then .error 255
    else (b.axes.foldlM (fun vs w => (value w).map fun v => vs ++ [v]) []).map fun vs => .work (n - 1) vs
  | some 1, some n =>
    let third := (planeLetters m.plane).2.2
    if n < 1 ∨ 99 < n then .error 255
    else match b.axes with
    | [w] => if w.letter = third then (value w).map fun v => .tool n v.2.1 v.2.2 else .error 255
    | _ => .error 255
  | _, _ => .error 255

/-- The spindle codes of a block (Table 7.4): 0 unchanged, 1 to 3 for M03 to M05. -/
def State.spinCode (s : State) (k : Fin 4) (b : PBlock) : Nat :=
  match b.ms.find? fun m => (m == 3 || m == 4 || m == 5) && s.internalM k m with
  | some m => m - 2
  | none => 0

/-- The centre of an arc, exact, along the first and second axis of its plane (R171, R188). -/
def State.arcCentre (s : State) (k : Fin 4) (m : Modal) (b : PBlock) (c : Char) (start : Int) : Int :=
  match b.word (centreLetter c) with
  | some w => start + s.wordU k m.inch false w
  | none => start

/-- R172 to R178, R187 to R190: convert a block in modal state `m0`. -/
def State.convert (s : State) (k : Fin 4) (m0 : Modal) (id : BlockId) (b : PBlock) : Except Nat Conv :=
  if b.gs.any fun g => !interpretedG.contains g then .error 251
  else
    let m := modalWords m0 b
    let g10 := b.hasG 10
    let set : Except Nat Setting := if g10 then s.convertG10 k m b else .ok .none
    if b.hasG 4 && !b.axes.isEmpty then .error 251
    else match set with
    | .error e => .error e
    | .ok st =>
      let (l1, l2, _) := planeLetters m.plane
      let isArc := m.motion == 2 || m.motion == 3
      let hasC := (b.word 'I').isSome || (b.word 'J').isSome || (b.word 'K').isSome
      let moves := !b.hasG 4 && !g10 && (!b.axes.isEmpty || (isArc && hasC))
      match s.axisWords k (b.hasG 53) (if g10 then [] else b.axes) m [] with
      | .error e => .error e
      | .ok (m1, ts) =>
        let needFeed := moves && m.motion != 0
        let given := needFeed || b.hasG 1 || b.hasG 2 || b.hasG 3
        if (given && m.feed.isNone) || ((b.hasG 95 || (needFeed && m.perRev)) && !s.hasSpindle k) then .error 254
        else
          let centre : Except Nat (Option (Int × Int)) :=
            if moves && isArc then
              match s.letterSlot k l1, s.letterSlot k l2 with
              | some i, some j =>
                let u := quantumU (s.qlin k)
                let x := m.last[i] * u
                let y := m.last[j] * u
                let cx := s.arcCentre k m b l1 x
                let cy := s.arcCentre k m b l2 y
                match arcErr ((s.fld .MOT_PGM_ARCTOL k : Int) * u) cx cy x y (m1.last[i] * u) (m1.last[j] * u) with
                | some e => .error e
                | none => .ok (some (cx, cy))
              | _, _ => .error 250
            else .ok none
          match centre with
          | .error e => .error e
          | .ok c =>
            let hs := (b.ms.filter fun x => !s.internalM k x).map (s.mHand k)
            let int (n : Nat) : Bool := b.ms.contains n && s.internalM k n
            let sp := s.spinCode k b
            let dwell := if b.hasG 4 then (b.word 'P').map wordDecimal else none
            let mb : MBlock :=
              { key := id.key, own := id.own, prog := id.prog, blk := id.blk, sub := id.sub
                nword := ((b.word 'N').map (·.digits)).getD 0
                exact := b.hasG 9 || hs.any fun h => !h.before && !h.nowait
                perRev := m.perRev, fin := int 2 || int 30, m00 := int 0, m01 := int 1
                motion := if b.hasG 4 then 5 else if moves then m.motion + 1 else 0
                plane := m.plane, spdir := sp, tgt := sortTargets ts, centre := c
                feed := if needFeed then m.feed.map (feedBase (s.baseInch k)) else none
                speed := (b.word 'S').map wordDecimal
                dwell := dwell, tcode := (b.word 'T').map (·.digits), ms := hs, optag := m.optag }
            let empty := mb.motion == 0 && hs.isEmpty && mb.tcode.isNone && !mb.fin && !mb.m00 && !mb.m01 && sp == 0
              && mb.speed.isNone
            .ok ⟨m1, if empty then none else some mb, st⟩

/-! ## Ring entries (R187, R188) -/

/-- The decimal values of a block's data entries. -/
def MBlock.values (b : MBlock) : Nat :=
  b.tgt.length + (if b.centre.isSome then 2 else 0) + b2n b.feed.isSome + b2n b.speed.isSome + b2n b.dwell.isSome

def MBlock.nent (b : MBlock) : Nat := (b.values + 1) / 2

/-- Entries of the block ring that the block takes. -/
def MBlock.entries (b : MBlock) : Nat := 1 + b.nent

def bitsNat : List Bool → Nat
  | [] => 0
  | b :: l => b2n b + 2 * bitsNat l

def MBlock.axmask (b : MBlock) : Nat := bitsNat ((List.range 6).map fun i => b.tgt.any fun t => t.1 == i)

/-- Table 7.6: the bytes of the header entry. -/
def MBlock.header (b : MBlock) : List Byte :=
  let m (i : Nat) : MHand := b.ms.getD i ⟨0, false, false⟩
  leBytes 1 1 ++ leBytes 1 b.nent
    ++ leBytes 1 (bitsNat [b.exact, b.speed.isSome, b.perRev, b.fin, b.m00, b.m01, b.tcode.isSome])
    ++ leBytes 1 b.key.src ++ leBytes 4 b.key.wsn ++ leBytes 2 b.prog ++ leBytes 4 b.blk ++ leBytes 1 b.sub
    ++ leBytes 1 (b.motion + 16 * b.plane + 64 * b.spdir) ++ leBytes 4 b.nword
    ++ leBytes 1 (b.axmask + 64 * b.ms.length)
    ++ leBytes 1 (bitsNat [(m 0).before, (m 1).before, (m 2).before, (m 0).nowait, (m 1).nowait, (m 2).nowait])
    ++ leBytes 2 (m 0).code ++ leBytes 2 (m 1).code ++ leBytes 2 (m 2).code ++ leBytes 2 (b.tcode.getD 0)
    ++ leBytes 2 b.optag

/-- R178: apply a G10 setting. -/
def State.applySetting (s : State) (k : Fin 4) : Setting → State
  | .none => s
  | .work n vs => s.setMot k fun m =>
      if h : n < 6 then
        let row := vs.foldl (fun (v : Vector (Int × Bool) 6) e => if h : e.1 < 6 then v.set e.1 e.2 else v) m.ofs[n]
        { m with ofs := m.ofs.set n row }
      else m
  | .tool n v o => s.setMot k fun m => if h : n < 100 then { m with tools := m.tools.set n (v, o) } else m

end Sys2Proof.Machine
end

