-- ==== Sys2Proof/Machine/DecFun.lean ====
section
/-! DEFINITION. The decimal functions of Table 10.1 that are accurate within 0.6 ulp (R268 to R270), and one operation by
its code. A function's value is found to many more digits than 34; where it lies so that two neighbouring results are
both within 0.6 ulp, which one the engine delivers is free. -/
namespace Sys2Proof.Machine
open Sys2Proof

/-! ## Fixed-point series: an integer v stands for v/s -/

/-- Σ (−1)^(σj) t·x^(2j)/(2j+1), with x² = p/q. -/
def oddSeries (alt : Bool) (p q : Int) : Nat → Int → Int → Int
  | 0, _, _ => 0
  | f + 1, t, k => if t = 0 then 0 else
    let rest := oddSeries alt p q f (t * p / q) (k + 2)
    t / k + (if alt then -rest else rest)

/-- s·atan(1/k) and s·atanh(1/k). -/
def atanInv (s k : Nat) : Int := oddSeries true 1 (k * k) (4 * s.log2 + 8) (s / k) 1
def atanhInv (s k : Nat) : Int := oddSeries false 1 (k * k) (4 * s.log2 + 8) (s / k) 1

def piFx (s : Nat) : Int := 16 * atanInv s 5 - 4 * atanInv s 239
def ln2Fx (s : Nat) : Int := 2 * atanhInv s 3
/-- ln 10 = 3 ln 2 + ln (5/4). -/
def ln10Fx (s : Nat) : Int := 3 * ln2Fx s + 2 * atanhInv s 9

/-- Σ t·x^j/j! from the term t of index k on; `step` factors a term. -/
def factSeries (x s : Int) : Nat → Int → Int → Int
  | 0, _, _ => 0
  | f + 1, t, k => if t = 0 then 0 else t + factSeries x s f (t * x / (s * k)) (k + 1)

def expFx (s : Nat) (x : Int) : Int := factSeries x s (4 * s.log2 + 8) s 1

/-- Σ (−1)^j t…: terms with two factors at a time. -/
def altSeries (x2 s : Int) : Nat → Int → Int → Int
  | 0, _, _ => 0
  | f + 1, t, k => if t = 0 then 0 else t - altSeries x2 s f (t * x2 / (s * k * (k + 1))) (k + 2)

def sinFx (s : Nat) (x : Int) : Int := altSeries (x * x / s) s (4 * s.log2 + 8) x 2
def cosFx (s : Nat) (x : Int) : Int := altSeries (x * x / s) s (4 * s.log2 + 8) s 1

/-- Halve an angle's tangent: x / (1 + √(1 + x²)). -/
def halfTan (s : Nat) (x : Int) : Int := x * s / (s + isqrt (s * s + (x * x).toNat))

/-- s·atan(x/s) for 0 ≤ x ≤ s. -/
def atanFx (s : Nat) (x : Int) : Int :=
  let y := halfTan s (halfTan s (halfTan s x))
  8 * oddSeries true (y * y) (s * s) (4 * s.log2 + 8) y 1

/-- s times the angle of the point (x, y), from −π to π. -/
def atan2Fx (s : Nat) (x y : Int) : Int :=
  let ax : Int := x.natAbs
  let ay : Int := y.natAbs
  let a := if ax = 0 ∧ ay = 0 then 0
    else if ay ≤ ax then atanFx s (ay * s / ax) else piFx s / 2 - atanFx s (ax * s / ay)
  let a := if x < 0 then piFx s - a else a
  if y < 0 then -a else a

/-- s·ln(x/s) for x of about s/10 to 10s: a power of two is taken out first. -/
def lnFx (s : Nat) (x : Int) : Int :=
  let red : Nat → Int → Int → Int × Int := fun fuel x k =>
    (List.range fuel).foldl (fun (x, k) _ => if 4 * s < 3 * x then ((x + 1) / 2, k + 1) else if 3 * x < 2 * s then (x * 2, k - 1) else (x, k))
      (x, k)
  let (y, k) := red 8 x 0
  let z := (y - s) * s / (y + s)
  2 * oddSeries false (z * z) (s * s) (4 * s.log2 + 8) z 1 + k * ln2Fx s

/-! ## Real values as rationals close to them -/

def tinyRat : Rat := 1 / (10 ^ 45 : Nat)

def absR (x : Rat) : Rat := if x < 0 then -x else x

/-- s, and x as fixed point. -/
def toFx (s : Nat) (x : Rat) : Int := (x * s).floor

/-- sin and cos of an exact argument, in degrees or radians; s carries 160 digits and those of the argument. -/
def sinCosR (deg : Bool) (s : Nat) (x : Rat) : Rat × Rat :=
  let pi : Rat := (piFx s : Rat) / s
  let quarter : Rat := if deg then 90 else pi / 2
  let q := (x / quarter + 1 / 2).floor
  let t := x - q * quarter
  let a := if deg then t * pi / 180 else t
  let sn : Rat := if absR a < tinyRat then a else (sinFx s (toFx s a) : Rat) / s
  let cs : Rat := (cosFx s (toFx s a) : Rat) / s
  match q % 4 with
  | 0 => (sn, cs)
  | 1 => (cs, -sn)
  | 2 => (-sn, -cs)
  | _ => (-cs, sn)

/-- atan of a positive value, in radians. -/
def atanR (s : Nat) (x : Rat) : Rat :=
  if x < tinyRat then x
  else if x ≤ 1 then (atanFx s (toFx s x) : Rat) / s
  else
    let y := 1 / x
    (piFx s : Rat) / (2 * s) - (if y < tinyRat then y else (atanFx s (toFx s y) : Rat) / s)

/-- ln of c × 10^e, c positive. -/
def lnR (s : Nat) (c : Nat) (e : Int) : Rat :=
  let d := numDigits c
  ((lnFx s (s * c / 10 ^ (d - 1) : Nat) + (e + d - 1) * ln10Fx s : Int) : Rat) / s

/-- e^x as r × 10^k. -/
def expR (s : Nat) (x : Rat) : Rat × Int :=
  let l : Rat := (ln10Fx s : Rat) / s
  let k := (x / l).floor
  ((expFx s (toFx s (x - k * l)) : Rat) / s, k)

/-! ## Results within 0.6 ulp -/

/-- The result for a real value v × 10^k: the neighbour within 0.6 ulp, or, where both are, the free one. -/
def pick (rm : Nat) (up : Bool) (v : Rat) (k : Int) : DVal × Nat :=
  let neg := v < 0
  let num := v.num.natAbs
  let den := v.den
  let scale (q : Int) : Nat × Nat := if q ≤ k then (num * 10 ^ (k - q).toNat, den) else (num, den * 10 ^ (q - k).toNat)
  let q : Int := k + numDigits num - numDigits den - 34
  let q := if (scale q).1 / (scale q).2 < 10 ^ 33 then q - 1 else if (scale q).1 / (scale q).2 ≥ p34 then q + 1 else q
  let tiny := q < -6176
  let q := max q (-6176)
  let (n, d) := scale q
  let r := n % d * 10
  let c := n / d + (if 6 * d < r ∨ (4 * d ≤ r ∧ up = true) then 1 else 0)
  let (c, q) := if c ≥ p34 then (c / 10, q + 1) else (c, q)
  if q > 6111 then
    (if rm = 4 ∨ (rm = 2 ∧ neg) ∨ (rm = 3 ∧ !neg) then .fin neg (p34 - 1) 6111 else .inf neg, fOVF + fINX)
  else (.fin neg c q, fINX + (if tiny then fUNF else 0))

/-- A fixed-point scale of 160 digits beyond those an argument has before its point. -/
def scaleFor (c : Nat) (e : Int) : Nat := 10 ^ (160 + (max 0 (e + numDigits c)).toNat)

def finRat (n : Bool) (c : Nat) (e : Int) : Rat := decRat ⟨n, c, e⟩

def exactInt (v : Int) : DVal × Nat := (.fin (v < 0) v.natAbs 0, 0)

/-- The exact results of R270 for SIN and COS in degrees, in halves, by the multiple of 30 modulo 12. -/
def sinHalves (k : Int) : Option Int :=
  match k % 12 with
  | 0 | 6 => some 0
  | 1 | 5 => some 1
  | 3 => some 2
  | 7 | 11 => some (-1)
  | 9 => some (-2)
  | _ => none

def halves (neg0 : Bool) (h : Int) : DVal × Nat :=
  if h = 0 then (.fin neg0 0 0, 0) else if h % 2 = 0 then exactInt (h / 2) else (.fin (h < 0) 5 (-1), 0)

def decSinCos (cosine : Bool) (inv : DVal) (rm : Nat) (deg up : Bool) (a : DVal) : DVal × Nat :=
  (nanResult [a]).getD
    (match a with
     | .fin n c e =>
       let x := finRat n c e
       let k := x / 30
       let ex : Option Int := if deg ∧ k.den = 1 then sinHalves (if cosine then k.num + 3 else k.num) else none
       match ex with
       | some h => halves (!cosine && n) h
       | none =>
         if c = 0 then if cosine then exactInt 1 else (.fin n 0 0, 0)
         else
           let x := if deg then x - 360 * (x / 360).floor else x
           let r := sinCosR deg (scaleFor c (if deg then 0 else e)) x
           pick rm up (if cosine then r.2 else r.1) 0
     | _ => (inv, fINV))

/-- No rule states the sign of the infinity at a pole: it is free (log entry 58). -/
def decTan (inv : DVal) (rm : Nat) (deg up : Bool) (a : DVal) : DVal × Nat :=
  (nanResult [a]).getD
    (match a with
     | .fin n c e =>
       let x := finRat n c e
       let k := x / 45
       if deg ∧ k.den = 1 then
         match k.num % 4 with
         | 0 => (.fin n 0 0, 0)
         | 1 => exactInt 1
         | 2 => (.inf up, fDZ)
         | _ => exactInt (-1)
       else if c = 0 then (.fin n 0 0, 0)
       else
         let x := if deg then x - 360 * (x / 360).floor else x
         let r := sinCosR deg (scaleFor c (if deg then 0 else e)) x
         pick rm up (r.1 / r.2) 0
     | _ => (inv, fINV))

def s160 : Nat := 10 ^ 160

/-- An angle of a positive ratio y/x, or a quarter turn for none, added to `half` half turns. -/
def angleOf (rm : Nat) (deg up neg : Bool) (ratio : Option Rat) (flip : Bool) : DVal × Nat :=
  let pi : Rat := (piFx s160 : Rat) / s160
  let exact : Option Rat := match ratio with
    | none => some (1 / 2)
    | some r => if r = 0 then some 0 else if r = 1 then some (1 / 4) else none
  let turn (h : Rat) : Rat := if flip then 1 - h else h
  match exact with
  | some h =>
    let h := turn h
    if h = 0 then (.fin neg 0 0, 0)
    else if deg then exactInt (if neg then -(h * 180).floor else (h * 180).floor)
    else pick rm up (if neg then -(h * pi) else h * pi) 0
  | none =>
    let a := atanR s160 (ratio.getD 0)
    let a := if flip then pi - a else a
    let a := if deg then a * 180 / pi else a
    pick rm up (if neg then -a else a) 0

def decAtan (inv : DVal) (rm : Nat) (deg up : Bool) (a : DVal) : DVal × Nat :=
  (nanResult [a]).getD
    (match a with
     | .inf n => angleOf rm deg up n none false
     | .fin n c e => angleOf rm deg up n (some (finRat false c e)) false
     | _ => (inv, fINV))

/-- ATAN2 with ordinate a and abscissa b. -/
def decAtan2 (inv : DVal) (rm : Nat) (deg up : Bool) (a b : DVal) : DVal × Nat :=
  (nanResult [a, b]).getD
    (let n := negOf a
     let f := negOf b
     match a, b with
     | .inf _, .inf _ => angleOf rm deg up n (some 1) f
     | .inf _, _ => angleOf rm deg up n none false
     | _, .inf _ => angleOf rm deg up n (some 0) f
     | .fin _ ca ea, .fin _ cb eb =>
       if ca = 0 then angleOf rm deg up n (some 0) f
       else if cb = 0 then angleOf rm deg up n none false
       else angleOf rm deg up n (some (finRat false ca ea / finRat false cb eb)) f
     | _, _ => (inv, fINV))

/-- e^x of a real exponent; far beyond the range it overflows or underflows. -/
def expPick (rm : Nat) (up neg : Bool) (x : Rat) : DVal × Nat :=
  let x := if 20000 < x then 20000 else if x < -20000 then -20000 else x
  let (v, k) := expR s160 x
  pick rm up (if neg then -v else v) k

def decExp (inv : DVal) (rm : Nat) (up : Bool) (a : DVal) : DVal × Nat :=
  (nanResult [a]).getD
    (match a with
     | .inf n => if n then (.fin false 0 0, 0) else (a, 0)
     | .fin n c e => if c = 0 then exactInt 1 else expPick rm up false (finRat n c e)
     | _ => (inv, fINV))

/-- The k of an exact 10^k. -/
def powerOfTen (c : Nat) (e : Int) : Option Int :=
  let d := numDigits c
  if c = 10 ^ (d - 1) then some (e + d - 1) else none

def decLog (ten : Bool) (inv : DVal) (rm : Nat) (up : Bool) (a : DVal) : DVal × Nat :=
  (nanResult [a]).getD
    (match a with
     | .inf n => if n then (inv, fINV) else (a, 0)
     | .fin n c e =>
       if c = 0 then (.inf true, fDZ)
       else if n then (inv, fINV)
       else match powerOfTen c e with
         | some 0 => (.fin false 0 0, 0)
         | some k => if ten then exactInt k else pick rm up (lnR s160 c e) 0
         | none =>
           let l := lnR s160 c e
           pick rm up (if ten then l * s160 / (ln10Fx s160 : Rat) else l) 0
     | _ => (inv, fINV))

/-- An integer value: its parity, if it is one. -/
def oddInt (c : Nat) (e : Int) : Option Bool :=
  let x := finRat false c e
  if x.den = 1 then some (x.num % 2 == 1) else none

/-- The exact power of an integer exponent that fits 34 digits (R270). -/
def exactPow (rm : Nat) (neg : Bool) (c : Nat) (e : Int) (k : Int) : Option (DVal × Nat) :=
  let (c, e) := stripTo 7000 40 c e
  if c = 1 then
    let r := deliver rm neg 1 1 (e * k) 0
    some r
  else if 0 < k ∧ k ≤ 120 then
    if c ^ k.toNat < p34 then some (deliver rm neg (c ^ k.toNat) 1 (e * k) 0) else none
  else if -120 ≤ k ∧ k < 0 then
    /- 1/c^n terminates when c divides a power of ten. -/
    let m := c ^ (-k).toNat
    if 10 ^ 400 % m = 0 then
      let r := deliver rm neg (10 ^ 400 / m) 1 (e * k - 400) 0
      if r.2 = 0 then some r else none
    else none
  else none

def decPow (inv : DVal) (rm : Nat) (up : Bool) (a b : DVal) : DVal × Nat :=
  let one : DVal × Nat := exactInt 1
  let isOne (v : DVal) : Bool := match v with
    | .fin n c e => !n && powerOfTen c e == some 0
    | _ => false
  let zeroB := match b with
    | .fin _ 0 _ => true
    | _ => false
  if isSnan a || isSnan b then (nanResult [a, b]).getD (inv, fINV)
  else if zeroB || isOne a then one
  else (nanResult [a, b]).getD
    (match a, b with
     | .fin n c e, .inf nb =>
       if c = 0 then if nb then (.inf false, 0) else (.fin false 0 0, 0)
       else
         let x := finRat false c e
         if x = 1 then one
         else if (1 < x) = (nb = false) then (.inf false, 0) else (.fin false 0 0, 0)
     | .inf n, .inf nb => if nb then (.fin false 0 0, 0) else (.inf false, 0)
     | .inf n, .fin nb cb eb =>
       let s := n && oddInt cb eb == some true
       if nb then (.fin s 0 0, 0) else (.inf s, 0)
     | .fin n c e, .fin nb cb eb =>
       let odd := oddInt cb eb
       let s := n && odd == some true
       if c = 0 then if nb then (.inf s, fDZ) else (.fin s 0 0, 0)
       else if n && odd.isNone then (inv, fINV)
       else
         let y := finRat nb cb eb
         match (if odd.isSome then exactPow rm s c e y.num else none) with
         | some r => r
         | none =>
           let l := lnR s160 c e * y
           expPick rm up s l
     | _, _ => (inv, fINV))

/-! ## One operation by its code (R268) -/

/-- The 16 result bytes and the flags of an operation on operand bytes. -/
def decOp (op rm : Nat) (deg : Bool) (a b c : Nat) : Nat × Nat :=
  let inv := invalidNan op rm a b c
  let up := Config.decNeighbour op rm deg a b
  let x := decodeDec a
  let y := decodeDec b
  let z := decodeDec c
  let out (r : DVal × Nat) : Nat × Nat := (encodeDec r.1, r.2)
  if rm > 4 then (encodeDec inv, fINV)
  else match op with
    | 0x01 => (a, 0)
    | 0x02 => out (decAdd inv rm x y)
    | 0x03 => out (decAdd inv rm x (flipSign y))
    | 0x04 => out (decMul inv rm x y)
    | 0x05 => out (decDiv inv rm x y)
    | 0x06 => out (decSqrt inv rm x)
    | 0x07 => out (decFma inv rm x y z)
    | 0x08 => out (decQuant inv rm x y)
    | 0x09 => out (decRint inv rm x)
    | 0x0A => out (decCmp x y)
    | 0x0B => match decToInt rm x with
      | some n => (n, 0)
      | none => (encodeDec inv, fINV)
    | 0x0C => out (decFromInt a, 0)
    | 0x10 => out (decSinCos false inv rm deg up x)
    | 0x11 => out (decSinCos true inv rm deg up x)
    | 0x12 => out (decTan inv rm deg up x)
    | 0x13 => out (decAtan inv rm deg up x)
    | 0x14 => out (decAtan2 inv rm deg up x y)
    | 0x15 => out (decExp inv rm up x)
    | 0x16 => out (decLog false inv rm up x)
    | 0x17 => out (decLog true inv rm up x)
    | 0x18 => out (decPow inv rm up x y)
    | _ => (encodeDec inv, fINV)

/-- The operation codes that Table 10.1 names. -/
def decOpValid (op : Nat) : Bool := (1 ≤ op && op ≤ 0x0C) || (0x10 ≤ op && op ≤ 0x18)

end Sys2Proof.Machine
end

