-- ==== Sys2Proof/Machine/Profile.lean ====
section
/-! DEFINITION. Jerk-limited motion along a path, in whole ticks (spec/08_motion_and_braking.md, R207, R209, R213, R217, R221,
R222). Lengths are in `fx` to the ssu, velocities per tick, accelerations per tick and tick, jerk likewise. The spec bounds a
profile and does not give it tick by tick: of the accelerations that keep every bound, the model takes the largest (DESIGN CHOICE,
log entry 12). -/
namespace Sys2Proof.Machine

/-- Parts of an ssu that the planner counts in. -/
def fx : Nat := 2 ^ 40

/-- No bound. -/
def unbounded : Nat := 2 ^ 240

/-- A stretch of path under one set of limits. `out` is the largest velocity at its end; 0 says that the path rests there. -/
structure Stretch where
  len : Nat
  v : Nat
  a : Nat
  j : Nat
  out : Nat
deriving DecidableEq, Repr

/-- The most by which a quantity may change in a tick so that, changing by `j` less in each later tick, it ends `w` away. -/
def easeStep (j w : Nat) : Nat :=
  let n := (isqrt (8 * w / j + 1) - 1) / 2
  (w + j * (n * (n + 1) / 2)) / (n + 1)

/-- The acceleration of the next tick that brings velocity down by `w` soonest, within deceleration `a` and jerk `j`. -/
def slowStep (a j w : Nat) (d : Int) : Int := max (d - j) (min (d + j) (-(min (easeStep j w) a : Nat)))

/-- The stretches ahead of a point `x` into the first of them, at velocity `v`; none where an end is passed too fast. -/
def cross : List Stretch → Nat → Nat → Option (List Stretch × Nat)
  | [], x, _ => if x = 0 then some ([], 0) else none
  | g :: l, x, v => if x ≤ g.len then some (g :: l, x) else if v ≤ g.out then cross l (x - g.len) v else none

/-- From velocity `v` and acceleration `d` at `x` the path can come to rest in bounds: the hardest braking keeps them. `lim` says
that the velocity limits of the stretches count too. -/
def canRest (lim : Bool) : Nat → List Stretch → Nat → Nat → Int → Bool
  | 0, _, _, _, _ => false
  | f + 1, segs, x, v, d =>
    match segs with
    | [] => v = 0
    | g :: _ =>
      if v = 0 then true
      else
        let d' := slowStep g.a g.j v d
        let v' := (v + d').toNat
        if lim && decide (0 < d') && decide (g.v < v') then false
        else match cross segs (x + v') v' with
        | none => false
        | some (l, x') => canRest lim f l x' v' d'

/-- The largest integer found from `lo` to `hi` that is `ok`, where all below one that is `ok` are. -/
def climb (ok : Int → Bool) : Nat → Int → Int → Int
  | 0, lo, _ => lo
  | n + 1, lo, hi =>
    if hi ≤ lo then lo
    else
      let m := (lo + hi + 1) / 2
      if ok m then climb ok n m hi else climb ok n lo (m - 1)

/-- What the velocity is to become: as large as it may, rest under a deceleration of its own, or rest as soon as it can. -/
inductive Aim where
  | go
  | slow (dec : Nat)
  | stop
deriving DecidableEq, Repr

/-- The braking of longest duration that is followed. -/
def brakeFuel : Nat := 1000000

/-- The acceleration of the next tick at `x` into the first stretch. -/
def nextAcc (segs : List Stretch) (x v : Nat) (d : Int) (aim : Aim) : Int :=
  match segs with
  | [] => 0
  | g :: _ =>
    let hard := slowStep g.a g.j v d
    let ok (lim : Bool) (d' : Int) : Bool :=
      let v' := (v + d').toNat
      (!lim || d' ≤ 0 || v' ≤ g.v) && (match cross segs (x + v') v' with
        | none => false
        | some (l, x') => canRest lim brakeFuel l x' v' d')
    let pick (lim : Bool) (c : Int) : Int :=
      if c ≤ hard then hard else if ok lim c then c else climb (ok lim) 256 hard (c - 1)
    match aim with
    | .stop => hard
    | .slow dec => pick false (slowStep (min dec g.a) g.j v d)
    | .go => if g.v < v then pick false (slowStep g.a g.j (v - g.v) d) else pick true (min (min (g.a : Int) (d + g.j)) (easeStep g.j (g.v - v)))

/-- What one tick makes of a motion: how far it goes, and the velocity and acceleration after it. A motion that has come within
half an ssu of the rest that ends its first stretch is there. -/
def moveTick (segs : List Stretch) (x v : Nat) (d : Int) (aim : Aim) : Nat × Nat × Int :=
  let d' := nextAcc segs x v d aim
  let v' := (v + d').toNat
  match segs with
  | g :: _ =>
    if g.out = 0 ∧ x + v' ≤ g.len ∧ 2 * (g.len - (x + v')) < fx ∧ aim ≠ .stop ∧ (0 < v ∨ 0 < v') then (g.len - x, 0, 0)
    else (v', v', if v' = 0 then 0 else d')
  | [] => (0, 0, 0)

/-- The cube root, rounded down. -/
def icbrt (n : Nat) : Nat := (climb (fun m => m.toNat ^ 3 ≤ n) 256 0 (2 ^ (n.log2 / 3 + 1) : Nat)).toNat

end Sys2Proof.Machine
end

