-- ==== Sys2Proof/Machine/Motion.lean ====
section
/-! DEFINITION. Stations in motion: the path, handshakes, stops, trips and resumes (spec/08_motion_and_braking.md, and
the handshakes of spec/07_part_programs.md). -/
namespace Sys2Proof.Machine
open Sys2Proof

/-! ## Items of a station -/

/-- A motion item (R202, R640): `RUN`, `MDI`, `TAPE RUN` and its blocks, and a jog. -/
def isMotionCmd : Instr → Bool
  | .run .. | .mdi .. | .tapeRun .. | .axisJog .. => true
  | _ => false

def State.stnItems (s : State) (k : Fin 4) : List Item := s.jrn.items.filter fun i => i.stn == k.val && i.isOpen

def State.heldItems (s : State) (k : Fin 4) : List Item := (s.stnItems k).filter fun i => i.st == .held

def Item.isMotion (i : Item) : Bool :=
  match i.cmd with
  | some c => isMotionCmd c
  | none => false

/-- A motion item of the station is pending, running or held (Table 8.1). -/
def State.motionOpen (s : State) (k : Fin 4) : Bool := (s.stnItems k).any Item.isMotion

/-- R203: every pending and running item of the station is held, but for the items of the stop itself. -/
def State.holdItems (s : State) (k : Fin 4) (but : List Key) : State :=
  forAll ((s.stnItems k).filter fun i => i.st != .held && !but.contains i.key) s fun s i => s.setItem i.key .held

/-! ## Limits in force (R205 to R207) -/

def State.axisLimRegs (s : State) (a : Nat) : AxisLim :=
  ⟨s.fld .MOT_VMAX_VMAX a, s.fld .MOT_VRAP_VRAPID a, s.fld .MOT_AMAX_AMAX a, s.fld .MOT_JMAX_JMAX a,
    s.fld .MOT_JOGF_JOGF a, s.fldInt .MOT_SLO_LO a, s.fldInt .MOT_SHI_HI a, s.flag .MOT_AXCTL_SLEN a⟩

def State.stnLimRegs (s : State) (k : Nat) : StnLim :=
  ⟨s.fld .MOT_HOLDT_HOLDT k, s.fld .MOT_RTOL_RTOL k, s.fld .MOT_APPF_APPF k, s.fld .MOT_CDV_CDV k,
    s.fld .MOT_SCFG_ENDLY k, s.flag .MOT_SCFG_BLEND k⟩

/-- R207: on a tick, the shadow limits of a station that is not braking become active. -/
def State.limitsTick (s : State) (k : Fin 4) : State :=
  if s.isBraking k then s
  else
    let s := s.setMot k fun m => { m with lim := s.stnLimRegs k }
    forAll (s.axesOf k) s fun s a => s.setAxis a fun x => { x with lim := s.axisLimRegs a }

/-- Soft limits act on the axis (Table 8.3). -/
def State.softOn (s : State) (k : Fin 4) (a : Fin 12) : Bool :=
  (s.axis[a]).lim.slen && s.flag .MOT_AXCTL_REFD a &&
  !(match s.axisSlot k a with
    | some i => s.flag .MOT_AXL_ROLL k i && s.slotRot k i
    | none => false)

/-- The quantum exponent of an axis; the spindle counts in 0.001 min⁻¹ (R240). -/
def State.axisQ (s : State) (k : Fin 4) (a : Nat) : Nat :=
  if s.fld .MOT_PGM_SPAX k = a then 3
  else match s.axisSlot k a with
    | some i => s.slotQ k i
    | none => s.qlin k

/-! ## Conditions for motion (R640) -/

/-- The feedback and tach channels of an axis read VALID 1 and FAILED 0 (row 6). -/
def State.channelOk (s : State) (fast : Bool) (n : Nat) : Bool :=
  if fast then s.flag .ADC_FSTAT_VALID n && !s.flag .ADC_FSTAT_FAILED n
  else s.flag .ADC_PSTAT_VALID n && !s.flag .ADC_PSTAT_FAILED n

def State.feedbackOk (s : State) (a : Nat) : Bool :=
  let mode := s.fld .SRV_MODE_MODE a
  mode == 0 || ((s.fld .SRV_FB_KIND a != 2
      || (s.channelOk false (s.fld .SRV_FB_SRC a) && s.channelOk false (s.fld .SRV_FB_SRC a + 1)))
    && (!s.flag .SRV_TACH_EN a || s.channelOk (s.flag .SRV_TACH_FAST a) (s.fld .SRV_TACH_CH a)))

/-- Row 4: every axis the item moves has its limits set. -/
def State.limitsSet (s : State) (axes : List (Fin 12)) : Bool :=
  axes.all fun (a : Fin 12) =>
    let l := (s.axis[a]).lim
    l.vmax != 0 && l.vrap != 0 && l.amax != 0 && l.jmax != 0

/-- Rows 2 to 6 of Table 26.1, in order. `admits` is row 3. -/
def State.motionErr (s : State) (k : Fin 4) (admits : Bool) (axes : List (Fin 12)) : Option Nat :=
  if s.asleep k then some 287
  else if !admits then some 226
  else if !s.limitsSet axes then some 267
  else if (s.axesOf k).any fun (a : Fin 12) => s.fld .SRV_MODE_MODE a != 0 && s.fld .SRV_VFS_VFS a == 0 then some 267
  else if !(s.axesOf k).all fun (a : Fin 12) => s.feedbackOk a then some 276
  else none

/-! ## Drives (R204) -/

/-- A BLOCK record (Table 22.6): 0 enters the window, 1 begins motion, 2 done, 3 failed. -/
def State.traceBlock (s : State) (k : Fin 4) (b : MBlock) (what err : Nat) : State :=
  s.traceRec 2 k (6 + k.val) (what + 2 ^ 16 * (err + 2 ^ 16 * b.key.wsn))

/-- R204: the setpoints take the measured position and the enables turn on; motion begins ENDLY later. -/
def State.startDrives (s : State) (k : Fin 4) : State :=
  if s.flag .MOT_STATE_DRVON k then s
  else
    let s := forAll (s.axesOf k) s fun s a => s.setAxis a fun x => { x with sp := x.pos, sp1 := x.pos, sp2 := x.pos, jf := 0 }
    (s.setFlag .MOT_STATE_DRVON k 0 true).setMot k fun m => { m with delay := true, onAt := s.clk.now }

/-! ## The path -/

/-- The whole path of a block. -/
def pathEnd : Nat := 2 ^ 64

/-- ssu in a quantum (R211). -/
def ssuPer : Int := 10000

/-- Whether a slot lies in the plane of an arc, and which axis of it: 0 first, 1 second. -/
def State.planeSlot (s : State) (k : Fin 4) (b : MBlock) (slot : Nat) : Option Nat :=
  let (l1, l2, _) := planeLetters b.plane
  if b.centre.isNone then none
  else if (s.letterSlot k l1).map (·.val) = some slot then some 0
  else if (s.letterSlot k l2).map (·.val) = some slot then some 1
  else none

/-- The end point of a block in a slot, ssu. -/
def MBlock.endOf (b : MBlock) (start : Int) (slot : Nat) : Int :=
  match b.tgt.find? fun t => t.1 == slot with
  | some t => t.2 * ssuPer
  | none => start

/-- An arc (R210): the slots of its plane, and its centre, start and end in the exact units of Convert, times ssu; the
start and the end are from the centre. -/
structure Arc where
  i : Fin 6
  j : Fin 6
  cx : Int
  cy : Int
  x0 : Int
  y0 : Int
  x1 : Int
  y1 : Int
deriving DecidableEq, Repr

/-- The arc of a block from `st`, and none where its start or its end lies on its centre. -/
def State.arcFrom (s : State) (k : Fin 4) (b : MBlock) (st : Vector Int 6) : Option Arc :=
  match b.centre, s.letterSlot k (planeLetters b.plane).1, s.letterSlot k (planeLetters b.plane).2.1 with
  | some (cx, cy), some i, some j =>
    let u := quantumU (s.qlin k)
    let a : Arc := ⟨i, j, cx * ssuPer, cy * ssuPer, st[i] * u - cx * ssuPer, st[j] * u - cy * ssuPer,
      b.endOf st[i] i * u - cx * ssuPer, b.endOf st[j] j * u - cy * ssuPer⟩
    if (a.x0 = 0 ∧ a.y0 = 0) ∨ (a.x1 = 0 ∧ a.y1 = 0) then none else some a
  | _, _, _ => none

/-- The scale of the arc arithmetic. -/
def arcFx : Nat := 10 ^ 60

/-- The angle an arc turns through, times `arcFx`. An end in the direction of the start is a whole turn. -/
def Arc.sweep (a : Arc) (ccw : Bool) : Int :=
  let two := 2 * piFx arcFx
  if a.x0 * a.y1 = a.y0 * a.x1 ∧ 0 < a.x0 * a.x1 + a.y0 * a.y1 then two
  else
    let d := atan2Fx arcFx a.x1 a.y1 - atan2Fx arcFx a.x0 a.y0
    (if ccw then d else -d) % two

/-- The radii at the start and at the end, times `arcFx`. -/
def Arc.radii (a : Arc) : Int × Int :=
  (isqrt ((a.x0 * a.x0 + a.y0 * a.y0).toNat * arcFx * arcFx), isqrt ((a.x1 * a.x1 + a.y1 * a.y1).toNat * arcFx * arcFx))

/-- R210: the point of the arc at `lam`: the radius goes from the one to the other in proportion to the angle. -/
def Arc.point (a : Arc) (ccw second : Bool) (u lam : Nat) : Int :=
  let turn := a.sweep ccw * lam / pathEnd
  let ang := atan2Fx arcFx a.x0 a.y0 + (if ccw then turn else -turn)
  let (r0, r1) := a.radii
  let r := r0 + (r1 - r0) * lam / pathEnd
  if second then roundHE (a.cy * arcFx + r * sinFx arcFx ang / arcFx) (u * arcFx)
  else roundHE (a.cx * arcFx + r * cosFx arcFx ang / arcFx) (u * arcFx)

/-- R210, R211: the setpoint of a slot at path parameter `lam` of a block that starts at `st`, rounded half to even. On an arc that
starts or ends on its centre, to which the spec gives no direction, it is free in the square about the arc (log entry 12). -/
def State.pointFrom (s : State) (k : Fin 4) (b : MBlock) (st : Vector Int 6) (lam slot : Nat) : Int :=
  let p := if h : slot < 6 then st[slot] else 0
  let e := b.endOf p slot
  if lam = 0 then p
  else if lam ≥ pathEnd then e
  else match s.planeSlot k b slot, b.centre, s.arcFrom k b st with
    | some ax, _, some a => a.point (b.motion = 4) (ax = 1) (quantumU (s.qlin k)).toNat lam
    | some ax, some (cx, cy), none =>
      let u := quantumU (s.qlin k)
      let c := roundHE ((if ax = 0 then cx else cy) * ssuPer) u.toNat
      let r := 2 * ((s.fld .MOT_PGM_ARCTOL k) + 1) * 10000
      c - r + (Config.freeValue (s.freeCtr + slot) % (2 * r + 1) : Nat)
    | _, _, _ => roundHE (p * (pathEnd : Int) + (e - p) * lam) pathEnd

def State.pathPoint (s : State) (k : Fin 4) (b : MBlock) (lam slot : Nat) : Int := s.pointFrom k b (s.mot[k]).start lam slot

/-- The setpoints of the station move to the path point. -/
def State.toPath (s : State) (k : Fin 4) (b : MBlock) (lam : Nat) : State :=
  let t := forAll ((s.axesOf k).zipIdx) s fun t (a, i) =>
    if s.fld .MOT_PGM_SPAX k = a.val ∨ b.motion = 5 ∨ b.motion = 0 then t
    else t.setAxis a fun x => { x with sp := s.pathPoint k b lam i }
  { t with freeCtr := t.freeCtr + 6 }

/-! ## Overrides in force (R216, R217) -/

/-- The override values in force (R216): the registers, or the image bits held to their ranges. -/
def State.overrides (s : State) (k : Fin 4) : Nat × Nat × Nat :=
  if s.flag .MOT_OVR_SRC k then
    (min (s.imgNum k 0x1780 8) 200, min (s.imgNum k 0x1788 8) 100, max 50 (min (s.imgNum k 0x1790 8) 150))
  else (s.fld .MOT_OVR_FEED k, s.fld .MOT_OVR_RAPID k, s.fld .MOT_OVR_SPIN k)

/-! ## Interpolator records (R72, R260) -/

/-- R260: the measured count of an axis is journalled with each interpolator record, at the end of a jog, at a deselection and at
AXIS REF. -/
def State.journalCount (s : State) (a : Fin 12) : State := s.setAxis a fun x => { x with jcount := x.count }

/-- fx per tick as fx per ms. -/
def State.perMs (s : State) (v : Int) : Int := v * msCounts / s.divisor

/-- R72: the interpolator state is journalled, and with it the measured counts of the station's axes. -/
def State.pathRecord (s : State) (k : Fin 4) : State :=
  let s := forAll (s.axesOf k) s.commitRec fun s a => s.journalCount a
  let ovr := (s.overrides k).1
  s.setMot k fun m =>
    { m with lastRec := ⟨(m.win.head?).map (·.key), m.lam, (s.perMs m.vel).toNat, s.perMs m.acc, ovr, s.clk.now⟩ }

/-! ## How fast a path may go (R205, R210, R212, R213) -/

/-- Velocities in quanta/min, accelerations in quanta/s² and jerks in thousands of quanta/s³, as the planner counts them. -/
def State.tickV (s : State) (v : Nat) : Nat := v * 10000 * s.divisor * fx / 1474560000
def State.tickA (s : State) (a : Nat) : Nat := a * 10000 * s.divisor ^ 2 * fx / 24576000 ^ 2
def State.tickJ (s : State) (j : Nat) : Nat := j * 10000000 * s.divisor ^ 3 * fx / 24576000 ^ 3

/-- Ticks per second. -/
def State.tickRate (s : State) : Rat := 24576000 / (s.divisor : Rat)

/-- The value of a converter channel as a fraction of full scale (R366). -/
def State.chanFrac (s : State) (fast : Bool) (c : Nat) : Rat :=
  if fast then s.fldInt .ADC_FDATA_VALUE c / (2 ^ 15 : Nat) else s.fldInt .ADC_PDATA_VALUE c / (2 ^ 23 : Nat)

/-- The velocity that the engine measures (R241): of the tach, or of the position. -/
def State.measuredVel (s : State) (a : Fin 12) : Rat :=
  if s.flag .SRV_TACH_EN a then
    let c := s.fld .SRV_TACH_CH a
    s.chanFrac (s.flag .SRV_TACH_FAST a) c * s.fld .SRV_TACHFS_TACHFS a
  else ((s.axis[a]).pos - (s.axis[a]).pos1 : Int) * s.tickRate * 60 / 10000

/-- The spindle axis of a station, if it has one. -/
def State.spindleAxis (s : State) (k : Fin 4) : Option (Fin 12) :=
  if h : s.fld .MOT_PGM_SPAX k < 12 then some ⟨s.fld .MOT_PGM_SPAX k, h⟩ else none

/-- The measured spindle speed without its sign, 0.001 min⁻¹. -/
def State.spindleSpeedNow (s : State) (k : Fin 4) : Rat :=
  match s.spindleAxis k with
  | some a => let v := s.measuredVel a; if v < 0 then -v else v
  | none => 0

/-- The axes that move in proportion to the path from `st`, with their slots and ways in ssu: not those of an arc's plane. -/
def State.pathGaps (s : State) (k : Fin 4) (b : MBlock) (st : Vector Int 6) : List (Fin 12 × Nat × Int) :=
  (s.axesOf k).zipIdx.filterMap fun ((a, i) : Fin 12 × Nat) =>
    let p := if h : i < 6 then st[i] else 0
    let d := b.endOf p i - p
    if d = 0 ∨ (s.planeSlot k b i).isSome ∨ s.fld .MOT_PGM_SPAX k = a.val then none else some (a, i, d)

/-- What a block's path is to the planner: its length, its limits, and by slot the way of an axis to that of the path at its start
and at its end, in 2⁻⁴⁰. -/
structure Geo where
  len : Nat
  v : Nat
  a : Nat
  j : Nat
  first : List Int
  last : List Int
deriving DecidableEq, Repr

/-- The bounds of the arc in the plane of a block, along the arc (R213): they leave 3/5 of AMAX to the turn of the path and 4/5 to
its velocity, and split JMAX alike (log entry 12). -/
def arcBounds (r v a j : Nat) : Nat × Nat × Nat :=
  let v := min v (min (isqrt (3 * a * r / 5)) (icbrt (j * r * r / 4)))
  (v, min (4 * a / 5) (j * r / (12 * v)), j / 2)

/-- The direction of an arc at a point from its centre, for a radius of 2⁴⁰. -/
def arcWay (ccw : Bool) (x y : Int) : Int × Int :=
  let r : Int := max 1 (isqrt (x * x + y * y).toNat : Nat)
  let c : Int := fx
  if ccw then (-y * c / r, x * c / r) else (y * c / r, -x * c / r)

/-- R210, R213: the path of a block from `st`. -/
def State.geoOf (s : State) (k : Fin 4) (b : MBlock) (st : Vector Int 6) : Geo :=
  let (f, r, _) := s.overrides k
  let gaps := s.pathGaps k b st
  let lin := gaps.filter fun ((_, i, _) : Fin 12 × Nat × Int) => !s.slotRot k i
  let onlyRot := lin.isEmpty && b.centre.isNone
  let used := if onlyRot then gaps else lin
  let arc := s.arcFrom k b st
  let u : Int := quantumU (s.qlin k)
  let arcLen : Nat := match arc with
    | some a => ((a.radii.1 + a.radii.2) * a.sweep (b.motion = 4) * fx / (2 * arcFx * arcFx * u)).toNat
    | none => 0
  let len := isqrt ((used.map fun g => (g.2.2.natAbs * fx) ^ 2).foldl (· + ·) (arcLen * arcLen))
  let gapLim (f : AxisLim → Nat) : Nat :=
    gaps.foldl (fun m g => min m (f (s.axis[g.1]).lim * len / (g.2.2.natAbs * fx))) unbounded
  let (av, aa, aj) := match arc with
    | some a =>
      let at_ (i : Fin 6) (f : AxisLim → Nat) : Nat := match s.slotAxis k i with
        | some x => f (s.axis[x]).lim
        | none => unbounded
      let both (f : AxisLim → Nat) : Nat := min (at_ a.i f) (at_ a.j f)
      let rad := (min a.radii.1 a.radii.2 * fx / (arcFx * u)).toNat
      let (v, c, j) := arcBounds rad (both fun l => s.tickV l.vmax) (both fun l => s.tickA l.amax) (both fun l => s.tickJ l.jmax)
      if arcLen = 0 then (unbounded, unbounded, unbounded) else (v * len / arcLen, c * len / arcLen, j * len / arcLen)
    | none => (unbounded, unbounded, unbounded)
  let vAx := gapLim fun l => s.tickV (if b.motion = 1 then l.vrap * r / 100 else l.vmax)
  let vF := match b.feed with
    | some d =>
      if b.motion = 1 then unbounded
      else
        let q := if onlyRot then s.qrot k else s.qlin k
        let per : Rat := if b.perRev then s.spindleSpeedNow k / 1000 else 1
        s.tickV (decRat d * (quantaPer q : Nat) * (f : Nat) / 100 * per).floor.toNat
    | none => unbounded
  let way (x y : Int) : List Int := (List.range 6).map fun i =>
    match arc, s.planeSlot k b i with
    | some _, some ax =>
      let w := arcWay (b.motion = 4) x y
      (if ax = 0 then w.1 else w.2) * arcLen / (max 1 len : Nat)
    | _, _ => match gaps.find? fun g => g.2.1 == i with
      | some g => g.2.2 * fx * fx / (max 1 len : Nat)
      | none => 0
  let w0 := match arc with
    | some a => way a.x0 a.y0
    | none => way 0 0
  let w1 := match arc with
    | some a => way a.x1 a.y1
    | none => w0
  ⟨len, min vF (min vAx av), min (gapLim fun l => s.tickA l.amax) aa, max 1 (min (gapLim fun l => s.tickJ l.jmax) aj), w0, w1⟩

/-- R212: the largest velocity at which no axis changes its own by more than CDV; tangent ways bound nothing. -/
def State.junctionV (s : State) (k : Fin 4) (g n : Geo) : Nat :=
  let cdv := s.tickV (s.mot[k]).lim.cdv
  (g.last.zip n.first).foldl (fun m e =>
    let d := (e.2 - e.1).natAbs
    if d ≤ 16 then m else min m (cdv * fx / d)) unbounded

/-! ## Soft limits of a block (R214) -/

/-- How far an arc reaches from its centre along an axis of its plane, times `arcFx`, where it does so after the path parameter
`lam` and before its end: the radius there, which changes with the angle. -/
def Arc.reach (a : Arc) (ccw second plus : Bool) (lam : Nat) : Option Int :=
  let half := piFx arcFx
  let dir := (if second then half / 2 else 0) + (if plus then 0 else half)
  let from_ := atan2Fx arcFx a.x0 a.y0
  let sw := a.sweep ccw
  let t := (if ccw then dir - from_ else from_ - dir) % (2 * half)
  if sw * lam < t * pathEnd ∧ t < sw then
    let d := a.radii.2 - a.radii.1
    let r := a.radii.1 + d * t / sw
    let q := d * arcFx / sw
    some (isqrt (r * r + q * q).toNat : Nat)
  else none

/-- The positions, in ssu, at which an arc turns along one axis of its plane, after the path parameter `lam`. -/
def State.arcExtremes (s : State) (k : Fin 4) (b : MBlock) (slot lam : Nat) : List Int :=
  match s.planeSlot k b slot, s.arcFrom k b (s.mot[k]).start with
  | some ax, some a =>
    let u := (quantumU (s.qlin k)).toNat
    let c := (if ax = 0 then a.cx else a.cy) * arcFx
    let end_ (plus : Bool) : List Int :=
      ((a.reach (b.motion = 4) (ax = 1) plus lam).map fun r => roundHE (if plus then c + r else c - r) (u * arcFx)).toList
    end_ true ++ end_ false
  | _, _ => []

/-- R214: the block leaves the soft limits of an axis somewhere on its path. -/
def State.leavesLimits (s : State) (k : Fin 4) (b : MBlock) : Bool :=
  b.motion != 0 && b.motion != 5 && ((s.axesOf k).zipIdx.any fun ((a, i) : Fin 12 × Nat) =>
    let st := if h : i < 6 then (s.mot[k]).start[i] else 0
    let l := (s.axis[a]).lim
    let moves := (b.tgt.any fun t => t.1 == i) || (s.planeSlot k b i).isSome
    s.softOn k a && moves && ((st :: b.endOf st i :: s.arcExtremes k b i 0).any fun p =>
      p < l.lo * ssuPer || l.hi * ssuPer < p))

/-! ## Handshakes (Table 7.8) -/

def bitMFIN : Nat := 0x17D1
def bitMSTB : Nat := 0x17D0
def bitMREP : Nat := 0x17D2
def bitTSTB : Nat := 0x17D3

/-- The handshakes before and after a block's motion, in order (R192). -/
def MBlock.handsBefore (b : MBlock) (rep : Bool) : List Hand :=
  (match b.tcode with
    | some c => [⟨true, c, true, .due, 0, false, rep⟩]
    | none => [])
  ++ (b.ms.filter (·.before)).map fun m => ⟨false, m.code, !m.nowait, .due, 0, false, false⟩

def MBlock.handsAfter (b : MBlock) : List Hand :=
  (b.ms.filter fun m => !m.before).map fun m => ⟨false, m.code, !m.nowait, .due, 0, false, false⟩

/-- The strobe of a handshake clears, and MREP with it (step 4). -/
def State.clearStrobe (s : State) (k : Fin 4) (h : Hand) : State :=
  let s := (s.imgLatch k (if h.isT then bitTSTB else bitMSTB) false).imgLatch k bitMREP false
  s.setFlag (if h.isT then .MOT_HS_TSTB else .MOT_HS_MSTB) k 0 false

/-- The handshake in its cycle goes on (Table 7.8, steps 2 to 6). -/
def State.handTick (s : State) (k : Fin 4) : State :=
  let m := s.mot[k]
  let fin := s.imgDev k bitMFIN
  match m.hand with
  | none => s
  | some h =>
    match h.step with
    | .due | .coded =>
      let s := s.imgLatch k (if h.isT then bitTSTB else bitMSTB) true
      let s := s.setFlag (if h.isT then .MOT_HS_TSTB else .MOT_HS_MSTB) k 0 true
      let s := if h.isT then s else s.setFld .MOT_HS_CODE k 0 h.code
      s.setMot k fun m => { m with hand := some { h with step := .strobed, at_ := s.clk.tick } }
    | .strobed =>
      if fin then
        ((s.commitRec).clearStrobe k h).setMot k fun m => { m with hand := some { h with step := .clearing } }
      else s
    | .clearing => if fin then s else s.setMot k fun m => { m with hand := none }

/-- Step 1: on the tick at which a handshake is due its code is written. It is due only in RUN, and once MFIN reads 0 (R223). -/
def State.handDue (s : State) (k : Fin 4) : State :=
  let m := s.mot[k]
  match m.hand, m.hands with
  | none, h :: l =>
    if s.stnState k = stRun ∧ !s.imgDev k bitMFIN then
      let rep := h.rep || m.repeat_
      let s := s.setMot k fun m => { m with hand := some { h with step := .coded }, hands := l, repeat_ := false }
      (s.imgLatchNum k (if h.isT then 0x17E0 else 0x17C0) h.code 16).imgLatch k bitMREP rep
    else s
  | _, _ => s

/-- No handshake holds the motion back: the queue is empty, and the one in its cycle does not make motion wait. -/
def StnMot.handsClear (m : StnMot) : Bool :=
  m.hands.isEmpty && (match m.hand with
    | none => true
    | some h => !h.wait && (h.step == .strobed || h.step == .clearing))

/-! ## Where a path rests (R192, R209, R212) -/

/-- A handshake of the block that motion waits for comes before it (R192, R212). -/
def MBlock.waitsBefore (b : MBlock) : Bool := b.tcode.isSome || b.ms.any fun m => m.before && !m.nowait

/-- The block waits for the spindle, or moves no axis for a time (R215). -/
def State.standsFirst (s : State) (k : Fin 4) (b : MBlock) : Bool :=
  b.motion == 5 || (s.hasSpindle k && (b.spdir != 0 || b.speed.isSome) && (b.motion == 2 || b.motion == 3 || b.motion == 4))

/-- The path rests between a block and the next one. -/
def State.restsBetween (s : State) (k : Fin 4) (b n : MBlock) : Bool :=
  b.exact || b.m00 || b.m01 || (b.ms.any fun m => !m.before) || b.motion == 5 || n.waitsBefore || s.standsFirst k n

/-- The path rests at the end of the first block of the window. -/
def State.restsAtEnd (s : State) (k : Fin 4) : Bool :=
  match (s.mot[k]).win with
  | b :: n :: _ => s.restsBetween k b n
  | _ => true

/-- The blocks of the window with the places where they start, up to the first rest of the path. -/
def State.pathBlocks (s : State) (k : Fin 4) : List MBlock → Vector Int 6 → List (MBlock × Vector Int 6)
  | [], _ => []
  | [b], st => [(b, st)]
  | b :: n :: l, st =>
    if s.restsBetween k b n then [(b, st)]
    else (b, st) :: s.pathBlocks k (n :: l) (Vector.ofFn fun (i : Fin 6) => b.endOf st[i] i)

/-- The stretches of a path, with the velocities at which it passes their ends. What bounds velocity within a stretch counts no
longer once braking has begun (R217, R221). -/
def State.segsOf (s : State) (k : Fin 4) : List Geo → List Stretch
  | [] => []
  | [g] => [⟨g.len, g.v, g.a, g.j, 0⟩]
  | g :: n :: l =>
    let v := if ((s.mot[k]).brake.map (·.begun)) = some true then unbounded else min g.v n.v
    ⟨g.len, g.v, g.a, g.j, min (s.junctionV k g n) v⟩ :: s.segsOf k (n :: l)

/-- The path ahead, from the start of the first block of the window to the first rest. Blocks that move nothing take no part. -/
def State.pathAhead (s : State) (k : Fin 4) : List Stretch :=
  let m := s.mot[k]
  s.segsOf k (((s.pathBlocks k m.win m.start).map fun e => s.geoOf k e.1 e.2).filter fun g => g.len != 0)

/-! ## The end of a block and of a run -/

/-- Blocks that a reader has converted, replacements of its extensions included, are still in the ring or the window. -/
def StnMot.hasBlocks (m : StnMot) (r : Reader) : Bool :=
  (m.ring ++ m.win).any fun b => b.key == r.key || (b.own && b.sub != 0 && b.prog == r.prog)

/-- R183: a run whose last block is done, or whose reader stopped at an error, ends when no block of it is left. -/
def State.endReader (s : State) (k : Fin 4) : State :=
  match (s.mot[k]).reader with
  | none => s
  | some r =>
    if (r.ended || r.err != 0) && r.ext.isNone && !(s.mot[k]).hasBlocks r && r.kind != .tape then
      let s := s.setMot k fun m => { m with reader := none }
      if r.err = 0 then s.workDone r.key
      else (s.modItem r.key fun i => { i with blk := some (r.prog, r.errBlk, 0) }).workFailed r.key r.err
    else s

/-- The first block of the window is done: its own item is done, and the next starts where it ends. -/
def State.blockDone (s : State) (k : Fin 4) : State :=
  match (s.mot[k]).win with
  | [] => s
  | b :: l =>
    let s := s.traceBlock k b 2 0
    let s := s.setMot k fun m =>
      { m with win := l, stage := .before, lam := 0
               start := Vector.ofFn fun (i : Fin 6) => b.endOf m.start[i] i
               hands := m.hands ++ match l with
                 | [] => []
                 | n :: _ => n.handsBefore false }
    let s := s.setFld .MOT_LOOK_WIN k 0 (l.length - 1)
    let s := s.pathRecord k
    let s := s.modItem b.key fun i => { i with blk := some (b.prog, b.blk, b.sub) }
    let s := if b.own then s.workDone b.key else s
    s.endReader k

/-! ## Stops (R221 to R225) -/

/-- R221: the deceleration a_H of a HOLD of `ms` from velocity `v`; none for the station maximum. -/
def State.holdDec (s : State) (ms v : Nat) : Option Nat := if ms = 0 then none else some (v * s.divisor / (ms * msCounts))

/-- Jogs and handwheel motion brake. What a handwheel has pending is not kept (DESIGN CHOICE, log entry 57). -/
def State.brakeJogs (s : State) (k : Fin 4) (ramp : Nat) : State :=
  forAll (s.axesOf k) s fun s a => s.setAxis a fun x =>
    { x with jog := x.jog.map fun j => { j with braking := true, dec := s.holdDec ramp x.jv.natAbs }, hwPend := 0 }

/-- The jogs that wait when a stop begins wait for RESUME. -/
def State.holdWaiting (s : State) (k : Fin 4) : State :=
  forAll (s.axesOf k) s fun s a => s.setAxis a fun x => { x with jogHeld := x.jogHeld ++ x.jogNext, jogNext := [] }

/-- The larger of two decelerations, where none is the largest. -/
def maxDec (a b : Option Nat) : Option Nat :=
  match a, b with
  | some a, some b => some (max a b)
  | _, _ => none

/-- Items of the station are held while it stands in IDLE: it is then HELD, at rest with held items (Table 8.1; DEDUCED, log entry
57). -/
def State.heldIdle (s : State) (k : Fin 4) (why : Nat) : State :=
  if s.stnState k = stIdle ∧ !(s.heldItems k).isEmpty then (s.setStn k stHeld).setFld .MOT_STATE_WHY k 0 why else s

/-- R202, R221 to R224: a HOLD or STOP begins. A stop of the device's own holds the station's items (R203). -/
def State.beginStop (s : State) (k : Fin 4) (stop : Bool) (key : Option Key) (ramp : Nat) (held : Bool)
    (why : Nat) : State :=
  let st := s.stnState k
  let keys := key.toList
  let dec := s.holdDec (if stop then 0 else ramp) (s.mot[k]).vel
  let s :=
    if st = stRun ∨ st = stJog ∨ st = stApproach then
      let done := (s.mot[k]).resume
      let s := ((s.setStn k (if stop then stStopping else stHolding)).brakeJogs k (if stop then 0 else ramp)).holdWaiting k
      let s := s.setMot k fun m =>
        { m with brake := some ⟨stop, keys, dec, held, why, false⟩, resume := none }
      match done with
      | some r => s.workDone r.key
      | none => s
    else if st = stHolding ∨ st = stStopping then
      let s := if stop then (s.setStn k stStopping).brakeJogs k 0 else s
      s.setMot k fun m => { m with brake := m.brake.map fun b =>
        { b with stop := b.stop || stop, keys := b.keys ++ keys, held := b.held || held
                 dec := maxDec b.dec dec
                 why := if stop && !b.stop then why else b.why } }
    else forAll keys s fun s q => s.workDone q
  if held then (s.holdItems k (((s.mot[k]).brake.map (·.keys)).getD [])).heldIdle k why else s

/-- R203, R221: a stop that the device begins for a cause of its own. -/
def State.deviceStop (s : State) (k : Fin 4) : State := s.beginStop k true none 0 true 3

/-- Items or motion of the station were interrupted (R202). -/
def State.interrupted (s : State) (k : Fin 4) : Bool :=
  !(s.mot[k]).win.isEmpty || !(s.mot[k]).ring.isEmpty || (s.mot[k]).reader.isSome || !(s.heldItems k).isEmpty
    || (s.axesOf k).any fun (a : Fin 12) => ((s.axis[a]).jog.bind (·.key)).isSome || !(s.axis[a]).jogHeld.isEmpty || !(s.axis[a]).jogNext.isEmpty

/-- R218, R225: the jogs that wait start. -/
def State.startWaiting (s : State) (k : Fin 4) : State :=
  forAll (s.axesOf k) s fun s a =>
    match (s.axis[a]).jogNext with
    | [] => s
    | j :: l =>
      let s := s.setAxis a fun x => { x with jog := some j, jogNext := l }
      (if s.stnState k = stIdle then s.setStn k stJog else s).startDrives k

/-- A jog ends its motion where a trip or a reset interrupts it: an incremental one is kept for RESUME. -/
def AxisSt.jogStops (x : AxisSt) : AxisSt :=
  { x with jog := none, jogNext := [], hwPend := 0, jv := 0, ja := 0
           jogHeld := ((x.jog.toList.filter fun j => j.key.isSome).map fun j => { j with braking := false, dec := none })
             ++ x.jogHeld ++ x.jogNext }

/-! ## Trips (R44, R228) -/

/-- R202, R203: a trip acts on the station. The braking that it ends makes its items done. The calculator gives the panel
back (R286). The interpolator state is journalled on the next tick (R228). -/
def State.tripStation (s : State) (k : Fin 4) : State :=
  let s := s.setFlag .PNL_CALC_ON 0 0 false
  if s.stnState k = stTripped then s.clampStation k
  else
    let m := s.mot[k]
    let keys := (m.brake.map (·.keys)).getD [] ++ (m.resume.map (·.key)).toList
    let s := (s.clampStation k).setStn k stTripped
    let s := s.setFld .MOT_STATE_WHY k 0 6
    let s := s.setMot k fun m => { m with brake := none, resume := none, delay := false, recDue := true }
    let s := forAll (s.axesOf k) s fun s a => s.setAxis a AxisSt.jogStops
    let s := forAll keys s fun s q => s.workDone q
    s.holdItems k keys

/-- A device trip condition of the station begins: the record is written and the station trips. -/
def State.deviceTrip (s : State) (k : Fin 4) (cause : Nat) (inst det : Nat) : State :=
  let s := s.setMot k fun m => { m with trips := if m.trips.contains cause then m.trips else m.trips ++ [cause] }
  (s.tripStation k).raise .trip cause k inst det

/-- A device trip condition ends. -/
def State.clearTrip (s : State) (k : Fin 4) (cause : Nat) : State :=
  s.setMot k fun m => { m with trips := m.trips.filter (· != cause) }

end Sys2Proof.Machine
end

