-- ==== Sys2Proof/Machine/Resume.lean ====
section
/-! DEFINITION. Resuming a station, the end of braking and of an approach (spec/08_motion_and_braking.md, R222 to R230;
spec/03_work_guarantee.md, R73). -/
namespace Sys2Proof.Machine
open Sys2Proof

/-! ## The re-entry point (R73) -/

/-- The stretch of path on which the re-entry point lies: 8 ms of motion at the journalled velocity from the journalled point, no
further than the first rest. Each part is a block of the window by its place, with its start and the parameters between which it
counts. -/
def State.stretch (s : State) (k : Fin 4) : Nat → Nat → Nat → List (MBlock × Vector Int 6) → List (Nat × MBlock × Vector Int 6 × Nat × Nat)
  | _, _, _, [] => []
  | n, lam, d, (b, st) :: l =>
    let len := (s.geoOf k b st).len
    let x := lam * len / pathEnd
    if x + d < len then [(n, b, st, lam, lam + d * pathEnd / len)]
    else (n, b, st, lam, pathEnd) :: (if x + d = len then [] else s.stretch k (n + 1) 0 (x + d - len) l)

/-- The squared distance, in ssu of every axis but the spindle, of the measured position from a point of a block. -/
def State.farness (s : State) (k : Fin 4) (b : MBlock) (st : Vector Int 6) (lam : Nat) : Nat :=
  ((s.axesOf k).zipIdx.map fun ((a, i) : Fin 12 × Nat) =>
    if s.fld .MOT_PGM_SPAX k = a.val then 0 else ((s.pointFrom k b st lam i - (s.axis[a]).pos).natAbs) ^ 2).foldl (· + ·) 0

/-- The least of a few candidates, the earliest where two are as near. -/
def leastFar (f : Nat → Nat) (l : List Nat) (d : Nat) : Nat := l.foldl (fun m x => if f x < f m then x else m) d

/-- Narrows down the nearest point of an arc between two parameters. -/
def narrow (f : Nat → Nat) : Nat → Nat → Nat → Nat
  | 0, lo, _ => lo
  | n + 1, lo, hi =>
    let p := lo + (hi - lo) / 3
    let q := hi - (hi - lo) / 3
    if f q < f p then narrow f n p hi else narrow f n lo q

/-- The point of a block between two parameters that lies nearest to the measured position: on a straight path, the foot of the
perpendicular; on an arc, the best of 64 parts is narrowed down (log entry 13). -/
def State.nearestIn (s : State) (k : Fin 4) (b : MBlock) (st : Vector Int 6) (lo hi : Nat) : Nat :=
  let far := s.farness k b st
  if (s.arcFrom k b st).isSome then
    let step := (hi - lo) / 64
    let c := leastFar far ((List.range 64).map fun n => lo + step * (n + 1)) lo
    leastFar far [lo, narrow far 60 (max lo (c - step)) (min hi (c + step)), hi] c
  else
    let way := (s.axesOf k).zipIdx.filterMap fun ((a, i) : Fin 12 × Nat) =>
      let p := if h : i < 6 then st[i] else 0
      if s.fld .MOT_PGM_SPAX k = a.val then none else some (b.endOf p i - p, (s.axis[a]).pos - p)
    let n : Int := (way.map fun e => e.1 * e.2).foldl (· + ·) 0
    let d : Int := (way.map fun e => e.1 * e.1).foldl (· + ·) 0
    if d = 0 then lo else max lo (min hi (n * (pathEnd : Int) / d).toNat)

/-- The re-entry point: the place of its block in the window, and the path parameter there. -/
def State.reentry (s : State) (k : Fin 4) : Nat × Nat :=
  let m := s.mot[k]
  let r := m.lastRec
  if r.vel = 0 then (0, r.lam)
  else
    let parts := s.stretch k 0 r.lam (8 * r.vel) (s.pathBlocks k m.win m.start)
    let best := parts.foldl (fun (z : Option (Nat × Nat × Nat)) (n, b, st, lo, hi) =>
      let lam := s.nearestIn k b st lo hi
      let f := s.farness k b st lam
      match z with
      | some (w, _) => if f < w then some (f, n, lam) else z
      | none => some (f, n, lam)) none
    match best with
    | some (_, n, lam) => (n, lam)
    | none => (0, r.lam)

/-- The positions at the re-entry point by slot, where a block is interrupted. -/
def State.reentryAt (s : State) (k : Fin 4) : Option (Vector Int 6) :=
  let m := s.mot[k]
  let (n, lam) := s.reentry k
  ((s.pathBlocks k m.win m.start)[n]?).map fun e => Vector.ofFn fun (i : Fin 6) => s.pointFrom k e.1 e.2 lam i

/-- The position of an axis at the re-entry point, for an axis that the station interpolates. -/
def State.reentryPos (s : State) (k : Fin 4) (a : Fin 12) (i : Nat) : Option Int :=
  if s.fld .MOT_PGM_SPAX k = a.val then none
  else (s.reentryAt k).bind fun v => if h : i < 6 then some v[i] else none

/-- R73: an axis lies further than RTOL quanta from the re-entry point. -/
def State.offPath (s : State) (k : Fin 4) : Bool :=
  !(s.mot[k]).cut && (s.axesOf k).zipIdx.any fun ((a, i) : Fin 12 × Nat) =>
    match s.reentryPos k a i with
    | none => false
    | some p => decide (((s.mot[k]).lim.rtol : Int) * ssuPer < (p - (s.axis[a]).pos).natAbs)

/-! ## Trip sources (R228) -/

/-- A trip comparator whose mask includes the station is at 1 (R350). -/
def State.comparatorTrip (s : State) (k : Fin 4) (c : Nat) : Bool :=
  s.flag .REB_CMODE_TRIP c && s.flag .REB_CSTAT_LOUT c && s.fld .REB_CMODE_TMASK c / 2 ^ k.val % 2 == 1

/-- R458: an enable pin of the station is latched off, failed or STUCK. -/
def State.enableBad (s : State) (k : Fin 4) : Bool :=
  (List.range 64).any fun (n : Nat) => s.fld .FIO_CFG_STN n == k.val && s.fld .FIO_CFG_FN n == 5 && s.fld .FIO_CFG_ENAX n != 15
    && (s.flag .FIO_STAT_LATCHOFF n || s.flag .FIO_STAT_FAILED n || s.fld .FIO_STAT_COND n / 8 % 2 == 1)

/-- R228: a trip source of the station is not clear. -/
def State.tripActive (s : State) (k : Fin 4) : Bool :=
  s.ev.tripIn || !s.flag .TC_STATUS_REFOK || !(s.mot[k]).trips.isEmpty || s.enableBad k
    || (List.range 64).any (s.comparatorTrip k)

/-! ## RESUME (R229) -/

/-- R229: the held items of the station are released in the order of their commits: those under way run on, blocks in the
ring wait for their motion, and the others begin again in their turn. A tape operation whose buffer a reset has emptied stays held
until its owner gives it again (R198). -/
def State.releaseItems (s : State) (k : Fin 4) : State :=
  forAll ((s.heldItems k).filter fun i => s.tape.want || s.tape.item != some i.key) s fun s i =>
    let m := s.mot[k]
    let reads := (m.reader.map (·.key)) == some i.key
    let started := (m.win.any fun b => b.key == i.key) || (reads && (m.reader.map (·.begun)) == some true)
      || ((m.reader.bind (·.ext)).bind (·.own)) == some i.key
      || (s.axesOf k).any fun (a : Fin 12) => (s.axis[a]).jogHeld.any fun j => j.key == some i.key
    let kept := reads || m.ring.any fun b => b.key == i.key
    let s := s.setItem i.key (if started then .running else .pending)
    if started || kept then s else { s with jrn := { s.jrn with ready := s.jrn.ready ++ [i.key] } }

/-- The commanded spindle velocity, times the SPINDLE override (R215, R216), 0.001 min⁻¹, signed. -/
def State.spindleTarget (s : State) (k : Fin 4) : Int :=
  let m := s.mot[k]
  let v : Int := m.speed * (s.overrides k).2.2 / 100
  match m.spdir with
  | 1 => v
  | 2 => -v
  | _ => 0

/-- R215: the measured spindle speed is within 2 % of its target. -/
def State.atSpeed (s : State) (k : Fin 4) : Bool :=
  match s.spindleAxis k with
  | some a =>
    let t : Rat := s.spindleTarget k
    let e := s.measuredVel a - t
    50 * (if e < 0 then -e else e) ≤ (if t < 0 then -t else t)
  | none => true

/-- R229 step 4: the approach begins, from where the setpoints stand: the measured position, where the drives have just turned on,
and otherwise the command position, since a setpoint never steps (DEDUCED, log entry 13). -/
def State.beginApproach (s : State) (k : Fin 4) (key : Key) : State :=
  let now : Vector Int 6 := Vector.ofFn fun (i : Fin 6) => match s.slotAxis k i with
    | some a => (s.axis[a]).sp
    | none => 0
  let (n, lam) := s.reentry k
  let goal := (s.reentryAt k).getD now
  (s.setStn k stApproach).setMot k fun m =>
    { m with resume := some ⟨key, .approach⟩, vel := 0, acc := 0, app := some ⟨now, goal, 0, n, lam⟩ }

/-- R229 step 3: the drives turn on first where they are off. -/
def State.resumeDrives (s : State) (k : Fin 4) (key : Key) : State :=
  if s.flag .MOT_STATE_DRVON k then s.beginApproach k key
  else (s.startDrives k).setMot k fun m => { m with resume := some ⟨key, .drives⟩ }

/-- The measured positions of a station by slot. -/
def State.measuredPos (s : State) (k : Fin 4) : Vector Int 6 := Vector.ofFn fun (i : Fin 6) => match s.slotAxis k i with
  | some a => (s.axis[a]).pos
  | none => 0

/-- R230: what follows a block that was cancelled at rest is planned from the measured position. -/
def State.startMeasured (s : State) (k : Fin 4) : State :=
  if (s.mot[k]).cut then s.setMot k fun m => { m with start := s.measuredPos k, cut := false } else s

/-- R229: RESUME acts on a HELD station. -/
def State.resumeHeld (s : State) (k : Fin 4) (key : Key) : State :=
  let s := (s.releaseItems k).startMeasured k
  let m := s.mot[k]
  let s := s.setMot k fun m =>
    { m with reader := m.reader.map fun r => { r with ext := r.ext.map fun e => { e with asked := true, since := s.clk.now } } }
  let s := if ((m.reader.bind (·.ext)).isSome) then (s.imgLatch k bitXREQ true).setFlag .MOT_HS_XPEND k 0 true else s
  if (m.spdir = 1 ∨ m.spdir = 2) ∧ !s.atSpeed k then s.setMot k fun m => { m with resume := some ⟨key, .spindle⟩ }
  else s.resumeDrives k key

/-- The state check of RESUME (R228, R229). -/
def State.resumeErr (s : State) (k : Fin 4) : Option Nat :=
  let st := s.stnState k
  if st = stTripped then if s.tripActive k then some 261 else none
  else if st = stHeld then
    if (s.axesOf k).any (fun (a : Fin 12) =>
        (s.axis[a]).jog.isSome || !(s.axis[a]).jogNext.isEmpty || (s.axis[a]).hwPend != 0 || (s.axis[a]).jv != 0) then some 226
    else if (s.axesOf k).any (fun (a : Fin 12) => s.flag .SRV_STAT_LOSS a) then some 261
    else if s.offPath k then some 241
    else none
  else if s.isBraking k ∨ st = stApproach then none
  else some 260

/-- R225: with BLEND, RESUME during HOLDING returns the station to RUN, and its HOLD items are done. -/
def State.blends (s : State) (k : Fin 4) : Bool := s.stnState k == stHolding && (s.mot[k]).lim.blend

/-- R225, R228, R229: what RESUME does, once its state check has passed. -/
def State.resumeNow (s : State) (k : Fin 4) (key : Key) : State :=
  let st := s.stnState k
  if st = stTripped then ((s.setStn k (if s.interrupted k then stHeld else stIdle)).releaseStation k).workDone key
  else if st = stApproach then s.workDone key
  else if s.blends k then
    let keys := ((s.mot[k]).brake.map (·.keys)).getD []
    let s := (s.setStn k stRun).setMot k fun m => { m with brake := none }
    let s := forAll (s.axesOf k) s fun s a => s.setAxis a fun x =>
      { x with jog := x.jog.map fun j => { j with braking := false, dec := none }, jogNext := x.jogHeld ++ x.jogNext, jogHeld := [] }
    forAll (keys ++ [key]) s fun s q => s.workDone q
  else if s.isBraking k then s.setMot k fun m => { m with resume := some ⟨key, .queued⟩ }
  else s.resumeHeld k key

/-- RESUME is checked when it is accepted, and acts on the next tick (R202, R225). -/
def workResume (o : Origin) (k : Option (Fin 4)) (s : State) : Work :=
  let k := s.argStn o k
  { pre := s.stnErr k
    permit := s.hasAuth o k
    stn := k
    chk := s.resumeErr k
    run := fun key s =>
      match s.resumeErr k with
      | some e => .fail e s
      | none => .running (s.setMot k fun m => { m with reqs := m.reqs ++ [.resume key] }) }

/-- What the items of a station have asked takes effect on the tick. -/
def State.stationReqs (s : State) (k : Fin 4) : State :=
  let l := (s.mot[k]).reqs
  forAll l (s.setMot k fun m => { m with reqs := [] }) fun s r =>
    match r with
    | .halt stop key ramp => s.beginStop k stop (some key) ramp false (if stop then 2 else 1)
    | .resume key => match s.resumeErr k with
      | some e => s.workFailed key e
      | none => s.resumeNow k key

def execResume (o : Origin) (k : Option (Fin 4)) (s : State) : Host.Outcome State Fault Refusal :=
  .next (s.offer o (.resume o k) (workResume o k s))

/-! ## The end of braking (R222) and of the approach (R229) -/

/-- The station stands: its path, its jogs and its handwheels. -/
def State.standsStill (s : State) (k : Fin 4) : Bool :=
  (s.mot[k]).vel == 0 && (s.axesOf k).all fun (a : Fin 12) => (s.axis[a]).jv == 0

/-- The end of braking: interrupted jogs wait for RESUME. -/
def AxisSt.jogInterrupted (x : AxisSt) : AxisSt :=
  { x with jog := none
           jogHeld := ((x.jog.toList.filter fun j => j.key.isSome).map fun j => { j with braking := false, dec := none }) ++ x.jogHeld }

/-- R202, R222, R225: path velocity has reached zero. Only a braking that has begun to decelerate ends. -/
def execBrakingComplete (k : Fin 4) (s : State) : Host.Outcome State Fault Refusal :=
  match (s.mot[k]).brake with
  | none => .next s
  | some b =>
    if !s.isBraking k || !b.begun || !s.standsStill k then .next s
    else
      let s := forAll (s.axesOf k) s fun s a => s.setAxis a AxisSt.jogInterrupted
      let held := s.interrupted k
      let s := s.setStn k (if held then stHeld else stIdle)
      let s := if held then s.setFld .MOT_STATE_WHY k 0 b.why else s
      -- An approach that was stopped leaves the path point as it is recorded.
      let s := if (s.mot[k]).app.isSome then s else s.pathRecord k
      let s := s.setMot k fun m => { m with brake := none, app := none }
      let s := forAll b.keys s fun s q => s.workDone q
      let s := s.startWaiting k
      match (s.mot[k]).resume with
      | some r =>
        if held then
          if s.offPath k then .next ((s.setMot k fun m => { m with resume := none }).workFailed r.key 241)
          else .next (s.resumeHeld k r.key)
        else .next ((s.setMot k fun m => { m with resume := none }).workDone r.key)
      | none => .next s

/-- R204: ENDLY ms have passed since the drives turned on, so motion begins. -/
def execMotionEnableDelayEnd (k : Fin 4) (s : State) : Host.Outcome State Fault Refusal :=
  let m := s.mot[k]
  if !m.delay || decide (s.clk.now < m.onAt + m.lim.endly * msCounts) then .next s
  else
    let s := s.setMot k fun m => { m with delay := false }
    match (s.mot[k]).resume with
    | some r => if r.stage = .drives then .next (s.beginApproach k r.key) else .next s
    | none => .next s

/-- The length of an approach, over its linear axes where any moves, else over the rotary ones (R210). -/
def State.approachGeo (s : State) (k : Fin 4) (p : Approach) : Geo :=
  let ways := (s.axesOf k).zipIdx.filterMap fun ((a, i) : Fin 12 × Nat) =>
    if h : i < 6 then (if p.goal[i] = p.from_[i] then none else some (a, i, (p.goal[i] - p.from_[i]).natAbs)) else none
  let lin := ways.filter fun ((_, i, _) : Fin 12 × Nat × Nat) => !s.slotRot k i
  let used := if lin.isEmpty then ways else lin
  let len := isqrt ((used.map fun g => (g.2.2 * fx) ^ 2).foldl (· + ·) 0)
  let most (f : AxisLim → Nat) : Nat := ways.foldl (fun m g => min m (f (s.axis[g.1]).lim * len / (g.2.2 * fx))) unbounded
  let feed := s.tickV ((s.mot[k]).lim.appf * (s.overrides k).1 / 100)
  ⟨len, min feed (most fun l => s.tickV l.vmax), most (fun l => s.tickA l.amax), max 1 (most fun l => s.tickJ l.jmax), [], []⟩

/-- R73: the blocks before that of the re-entry point are done, and the one entered takes up its motion there. -/
def State.enterAt (s : State) (k : Fin 4) (n lam : Nat) : State :=
  let s := (List.range n).foldl (fun s _ => s.blockDone k) s
  let s := if n = 0 then s else s.setMot k fun m => { m with stage := .moving }
  match (s.mot[k]).win with
  | [] => s
  | b :: _ => (s.setMot k fun m => { m with lam := lam, vel := 0, acc := 0 }).toPath k b lam

/-- R229 step 5: the re-entry point is reached, the interrupted path goes on with velocity rising from zero, and the RESUME item is
done. -/
def execApproachComplete (k : Fin 4) (s : State) : Host.Outcome State Fault Refusal :=
  match (s.mot[k]).resume, (s.mot[k]).app with
  | some r, some p =>
    if r.stage ≠ .approach ∨ s.stnState k ≠ stApproach ∨ p.dist < (s.approachGeo k p).len ∨ !s.standsStill k then .next s
    else
      let s := s.enterAt k p.blk p.lam
      let s := s.setMot k fun m => { m with resume := none, app := none }
      let s := forAll (s.axesOf k) s fun s a => s.setAxis a fun x => { x with jogNext := x.jogHeld ++ x.jogNext, jogHeld := [] }
      let s := s.startWaiting k
      let m := s.mot[k]
      let jogs := (s.axesOf k).any fun (a : Fin 12) => (s.axis[a]).jog.isSome
      let dest := if !m.win.isEmpty || !m.ring.isEmpty || m.reader.isSome then stRun
        else if jogs then stJog else stIdle
      .next ((s.setStn k dest).workDone r.key)
  | _, _ => .next s

/-- R215, R229: the measured spindle speed has come within 2 % of its target. -/
def execSpindleAtSpeed (k : Fin 4) (s : State) : Host.Outcome State Fault Refusal :=
  if !s.atSpeed k then .next s
  else
    let s := s.setMot k fun m => { m with spinWait := false }
    match (s.mot[k]).resume with
    | some r => if r.stage = .spindle then .next (s.resumeDrives k r.key) else .next s
    | none => .next s

end Sys2Proof.Machine
end

