-- ==== Sys2Proof/Machine/Rings.lean ====
section
/-! DEFINITION. Ring depths, acknowledgement of event records, and the commands of the rings and events
(spec/06_rings_and_events.md). -/
namespace Sys2Proof.Machine
open Sys2Proof

/-! ## Depths (R148, R153) -/

/-- The DEPTH code of a depth in entries, for a power of two from 16 to 4096. -/
def depthCode (n : Nat) : Option Nat := (List.range 9).find? fun c => 2 ^ (c + 4) == n

/-- The producers of ring `r` are quiescent (R153). -/
def State.quiescent (s : State) (r : Nat) : Bool :=
  if r = 8 ∨ r = 9 then
    s.fld .SER_CTRL_ENABLE (r - 8) == 0 && (!s.flag .SER_TAPE_ENABLE || s.fld .SER_TAPE_PORT != r - 8)
  else true

/-- The least depth other rules ask of ring `r` (R87 of an enabled port's rings, R276 of DEC_REQ, R480 of rings 12 and 13). -/
def State.ringLeast (s : State) (r : Nat) : Nat :=
  match r with
  | 8 | 10 => if s.flag .SER_CTRL_ENABLE 0 then 64 else 16
  | 9 | 11 => if s.flag .SER_CTRL_ENABLE 1 then 64 else 16
  | 12 | 13 | 14 => 128
  | _ => 16

/-- The depth that ring `r` will have, waiting changes counted. -/
def State.depthSoon (s : State) (r : Nat) : Nat :=
  match s.ringChg.find? fun c => c.ring == r with
  | some c => 2 ^ (c.depth + 4)
  | none => s.ringDepth r

/-- All rings together, with ring `r` at depth `n` (R148). -/
def State.totalDepth (s : State) (r n : Nat) : Nat :=
  (List.range 16).foldl (fun t k => t + if k = r then n else s.depthSoon k) 0

/-! ## Places (R504) -/

/-- Entries of the ring area of a bank. -/
def ringArea : Nat := 16384

/-- The lowest aligned place for `n` entries beside the spaces given, each a base and a size. -/
def lowestFree (used : List (Nat × Nat)) (n : Nat) : Option Nat :=
  ((List.range (ringArea / n)).map fun (k : Nat) => k * n).find? fun (b : Nat) =>
    used.all fun u => b + n ≤ u.1 || u.1 + u.2 ≤ b

/-- The bank that holds the entries of a ring whose RING_CFG names `bank`: the surviving one of a reduced layout (R508). -/
def State.bankOf (s : State) (bank : Nat) : Nat :=
  if s.flag .SYS_SRAM_FAIL0 then 1 else if s.flag .SYS_SRAM_FAIL1 then 0 else bank

/-- The spaces of a bank that rings other than `r` take, now or once their changes take effect. -/
def State.ringSpaces (s : State) (r bank : Nat) : List (Nat × Nat) :=
  ((List.finRange 16).filter fun (k : Fin 16) => k.val != r && s.bankOf (s.fld .RING_CFG_BANK k) == s.bankOf bank).map
      (fun (k : Fin 16) => (s.ringBase[k], s.ringDepth k))
    ++ (s.ringChg.filter fun c => c.ring != r && s.bankOf c.bank == s.bankOf bank).map fun c => (c.base, 2 ^ (c.depth + 4))

/-- The place that ring `r` takes in a bank at depth code `c`. -/
def State.ringPlace (s : State) (r c bank : Nat) : Option Nat := lowestFree (s.ringSpaces r bank) (2 ^ (c + 4))

/-- R504: every ring is placed afresh, in descending order of depth and then ascending number. -/
def State.placeRings (s : State) : State :=
  let order := (List.range 9).flatMap fun (d : Nat) => (List.finRange 16).filter fun (r : Fin 16) => s.fld .RING_CFG_DEPTH r == 8 - d
  let at_ := order.foldl (fun (l : List (Fin 16 × Nat)) (r : Fin 16) =>
    let used := (l.filter fun e => s.bankOf (s.fld .RING_CFG_BANK e.1) == s.bankOf (s.fld .RING_CFG_BANK r)).map fun e => (e.2, s.ringDepth e.1)
    l ++ [(r, (lowestFree used (s.ringDepth r)).getD 0)]) []
  { s with ringBase := at_.foldl (fun (v : Vector Nat 16) e => v.set e.1 e.2) s.ringBase }

/-- The state checks of a change of ring `r` to depth code `c` in a bank (R153, R87, R276, R480, R504). -/
def State.ringDepthErr (s : State) (r c bank : Nat) : Option Nat :=
  if c > 8 then some 511
  else if 2 ^ (c + 4) < s.ringLeast r then some 512
  else if s.totalDepth r (2 ^ (c + 4)) > 16384 ∨ (s.ringPlace r c bank).isNone then some 311
  else if s.ringFill r ≠ 0 ∨ !s.quiescent r then some 224
  else none

/-- R153: the change waits for the next lattice tick. -/
def State.ringChange (s : State) (r c bank : Nat) : State :=
  { s with ringChg := (s.ringChg.filter fun e => !(e.ring == r)) ++ [⟨r, c, bank, (s.ringPlace r c bank).getD 0⟩] }

/-- The lines whose entries were held enter CMD_SPp in their order. -/
def State.cmdHeld (s : State) (p : Fin 2) : State :=
  let n := ((s.port[p]).waiting.map fun w => min (lineEntries w.text.length) (s.ringDepth (cmdRing p))).foldl (· + ·) 0
  (s.ringPut (cmdRing p) n).setPort p fun q =>
    { q with waiting := q.waiting.map fun w => { w with entries := min (lineEntries w.text.length) (s.ringDepth (cmdRing p)) } }

/-- The lines that waited for room in RSP_SPp enter it in their order (R110). -/
def State.placeWaiting (p : Fin 2) : Nat → State → State
  | 0, s => s
  | n + 1, s =>
    match (s.port[p]).rspWait with
    | [] => s
    | l :: r =>
      if s.rspFits p l then State.placeWaiting p n ((s.setPort p fun q => { q with rspWait := r }).rspPut p l) else s

/-- R153, on the tick: the rings take their new depths, empty as they are, and the held enqueues are made. A record that was
held keeps the window in force when it is written (R160). -/
def State.applyRingChanges (s : State) : State :=
  let chg := s.ringChg
  let s := chg.foldl (fun s c =>
    let s := (s.setFld .RING_CFG_DEPTH c.ring 0 c.depth).note .RING_CFG_DEPTH c.ring 0
    let s := if s.fld .RING_CFG_BANK c.ring = c.bank then s
      else (s.setFld .RING_CFG_BANK c.ring 0 c.bank).note .RING_CFG_BANK c.ring 0
    let s : State := { s with ringBase := s.ringBase.setIfInBounds c.ring c.base }
    let d := 2 * 2 ^ (c.depth + 4)
    (s.setFld .RING_PTR_PUT c.ring 0 (s.fld .RING_PTR_PUT c.ring % d)).setFld .RING_PTR_GET c.ring 0
      (s.fld .RING_PTR_GET c.ring % d)) { s with ringChg := [] }
  let held := s.evWait
  let s := (List.finRange 4).foldl (fun s k => (held[k]).foldl (fun s r => s.post k { r with w := s.coalW k }) s)
    { s with evWait := Vector.replicate 4 [] }
  (List.finRange 2).foldl (fun s (p : Fin 2) =>
    let s := if chg.any fun c => c.ring == cmdRing p then s.cmdHeld p else s
    if chg.any fun c => c.ring == rspRing p then State.placeWaiting p (s.port[p]).rspWait.length s else s) s

/-- The work of `RING r DEPTH=n` (R166). -/
def workRingDepth (o : Origin) (r : Fin 16) (n : Nat) (s : State) : Work :=
  { permit := (s.originAuth o).brd
    chk := match depthCode n with
      | none => some 511
      | some c => s.ringDepthErr r c (s.fld .RING_CFG_BANK r)
    run := fun _ s =>
      match depthCode n with
      | none => .fail 511 s
      | some c =>
        match s.ringDepthErr r c (s.fld .RING_CFG_BANK r) with
        | some e => .fail e s
        | none => .done (s.ringChange r c (s.fld .RING_CFG_BANK r)) }

def execRingDepth (o : Origin) (r : Fin 16) (n : Nat) (s : State) : Host.Outcome State Fault Refusal :=
  .next (s.offer o (.ringDepth o r n) (workRingDepth o r n s))

def ringLine (s : State) (r : Nat) : List Fd :=
  [.s "RING", .n r, .s "DEPTH", .n (s.ringDepth r), .s "FILL", .n (s.ringFill r), .s "HWM",
    .n (s.fld .RING_STAT_HWM r), .s "FULL", .n (s.fld .RING_STAT_FULL r)]

/-- R166: one line per ring. -/
def execRingQuery (o : Origin) (r : Option (Fin 16)) (s : State) : Host.Outcome State Fault Refusal :=
  .next (s.askPure o none (s.originAuth o).any fun s =>
    (0, match r with
      | some r => [ringLine s r]
      | none => (List.range 16).map (ringLine s)))

/-- Table 6.6: RING_CLR clears HWM and FULL. -/
def State.ringClear (s : State) (r : Nat) : State :=
  (s.setFld .RING_STAT_HWM r 0 0).setFld .RING_STAT_FULL r 0 0

/-! ## Acknowledgement (R159) -/

/-- R159: ACK on every visible unacknowledged record at or below `seq`; then the acknowledged head is reclaimed. -/
def State.ackUpTo (s : State) (a : Auth) (k : Fin 4) (seq : Nat) : State :=
  let q := (s.ev.q[k]).map fun r => if visible a r && seqLe r.seq seq then { r with ack := true } else r
  let q' := q.dropWhile (·.ack)
  let s := s.ringGet k (q.length - q'.length)
  let drop := if q.any fun r => r.ovf && !r.ack then s.ev.dropped[k] else []
  { s with ev := { s.ev with q := s.ev.q.set k q', dropped := s.ev.dropped.set k drop } }

/-- The work of `EVENT ACK class seq` (R167). -/
def workEventAck (o : Origin) (c : EvClass) (seq : Nat) (s : State) : Work :=
  { chk := if seqLe seq (s.fld .EVT_SEQ_SEQ (classNo c)) then none else some 304
    run := fun _ s => .done (s.ackUpTo (s.originAuth o) (classNo c) seq) }

def execEventAck (o : Origin) (c : EvClass) (seq : Nat) (s : State) : Host.Outcome State Fault Refusal :=
  .next (s.offer o (.eventAck o c seq) (workEventAck o c seq s))

/-- R167: the visible records of a class from SEQ `frm` on, `n` of them, oldest first. -/
def execEventQuery (o : Origin) (c : EvClass) (frm : Option Nat) (n : Nat) (s : State) :
    Host.Outcome State Fault Refusal :=
  let bad := n < 1 || n > 32 || frm == some 0
  .next (s.askPure o (if bad then some 109 else none) true fun s =>
    let rs := (s.ev.q[classNo c]).filter fun r =>
      visible (s.originAuth o) r && (match frm with
        | none => true
        | some f => seqLe f r.seq)
    (0, (rs.take n).map fun r => [.s (evText r)] ++ (if r.ack then [.s "ACK"] else [])))

/-! ## Event pins (R163) -/

/-- nEV pin of class `k` is driven low. The driver does not wait for the record, so an occurrence held back by a depth change
counts too (R153). -/
def State.evPinLow (s : State) (k : Fin 4) : Bool :=
  let en := s.fld .EVT_PINEN_CLS / 2 ^ k.val % 2 == 1
  let sel (n : Nat) : Bool := if n < 4 then s.fld .EVT_PINEN_STN / 2 ^ n % 2 == 1 else s.flag .EVT_PINEN_BRD
  (en && ((s.ev.q[k]).any (fun r => !r.ack && !r.ovf && sel r.stn) || (s.evWait[k]).any (fun r => sel r.stn) || (s.ev.dropped[k]).any sel
    || (s.ev.q[k]).any (fun r => !r.ack && r.ovf && sel 4)))
  || (k.val == 0 && s.ev.tripIn)

/-- R164: level `k` is pending on core `c`. -/
def State.levelPending (s : State) (c : Fin 6) (k : Fin 4) : Bool :=
  s.fld .EVT_IMASK_MASK c / 2 ^ k.val % 2 == 1 &&
  (s.ev.q[k]).any fun r => visible (s.coreAuth c) r && !seqLe r.seq (s.fld .EVT_SEEN_SEEN c k)

end Sys2Proof.Machine
end

