-- ==== Sys2Proof/Machine/MotionCmds.lean ====
section
/-! DEFINITION. The motion commands: stops, overrides, limits, jogs, handwheels and the station state
(spec/08_motion_and_braking.md, R216 to R235). -/
namespace Sys2Proof.Machine
open Sys2Proof

/-! ## HOLD and STOP (R231) -/

/-- A ramp time in whole ms, from 0 to 10 s (R231). -/
def holdMs (t : Decimal) : Option Nat :=
  match decTimes t 1000 with
  | some (.ofNat n) => if n ≤ 10000 then some n else none
  | _ => none

/-- A HOLD or STOP waits for the next tick; one that finds the station at rest is done at once (R222, R223). -/
def State.askStop (s : State) (k : Fin 4) (stop : Bool) (key : Key) (ramp : Nat) : Res :=
  let st := s.stnState k
  if (st = stIdle ∨ st = stHeld ∨ st = stTripped) ∧ (s.mot[k]).reqs = [] then .done s
  else .running (s.setMot k fun m => { m with reqs := m.reqs ++ [.halt stop key ramp] })

def workHold (o : Origin) (k : Option (Fin 4)) (t : Option Decimal) (s : State) : Work :=
  let k := s.argStn o k
  let ms (s : State) : Option Nat := match t with
    | none => some (s.mot[k]).lim.holdt
    | some d => holdMs d
  { pre := s.stnErr k
    permit := s.hasAuth o k
    stn := k
    chk := if (ms s).isNone then some 511 else none
    run := fun key s =>
      match ms s with
      | none => .fail 511 s
      | some r => s.askStop k false key r }

def execHold (o : Origin) (k : Option (Fin 4)) (t : Option Decimal) (s : State) : Host.Outcome State Fault Refusal :=
  .next (s.offer o (.hold o k t) (workHold o k t s))

def workStop (o : Origin) (k : Option (Fin 4)) (s : State) : Work :=
  let k := s.argStn o k
  { pre := s.stnErr k
    permit := s.hasAuth o k
    stn := k
    run := fun key s => s.askStop k true key 0 }

def execStop (o : Origin) (k : Option (Fin 4)) (s : State) : Host.Outcome State Fault Refusal :=
  .next (s.offer o (.stop o k) (workStop o k s))

/-! ## Overrides (R216, R232) -/

def overErr (feed rapid spin : Option Nat) : Bool :=
  (feed.getD 0 > 200) || (rapid.getD 0 > 100) || (match spin with
    | some p => p < 50 || 150 < p
    | none => false)

def workOvr (o : Origin) (k : Option (Fin 4)) (feed rapid spin : Option Nat) (s : State) : Work :=
  let k := s.argStn o k
  let sets : List TickWrite :=
    (feed.toList.map fun v => ⟨.MOT_OVR_FEED, k, 0, v⟩) ++ (rapid.toList.map fun v => ⟨.MOT_OVR_RAPID, k, 0, v⟩)
      ++ (spin.toList.map fun v => ⟨.MOT_OVR_SPIN, k, 0, v⟩)
  let err (s : State) : Option Nat :=
    if overErr feed rapid spin then some 511 else if s.flag .MOT_OVR_SRC k then some 266 else none
  { pre := s.stnErr k
    permit := s.hasAuth o k
    stn := k
    chk := err s
    run := fun _ s =>
      match err s with
      | some e => .fail e s
      | none => .done { s with tickSet := s.tickSet ++ sets } }

def execOvr (o : Origin) (k : Option (Fin 4)) (feed rapid spin : Option Nat) (s : State) :
    Host.Outcome State Fault Refusal :=
  .next (s.offer o (.ovr o k feed rapid spin) (workOvr o k feed rapid spin s))

def execOvrQuery (o : Origin) (k : Option (Fin 4)) (s : State) : Host.Outcome State Fault Refusal :=
  let k := s.argStn o k
  .next (s.askPure o (s.stnErr k) (s.hasAuth o k) fun s =>
    let (f, r, p) := s.overrides k
    (0, [[.s "OVR", .s "FEED", .n f, .s "RAPID", .n r, .s "SPINDLE", .n p, .s "SRC", .n (s.fld .MOT_OVR_SRC k)]]))

/-! ## Limits (R205 to R208, R233) -/

/-- A value in register units: an exact multiple of the unit, within the register's range. -/
def limitValue (f : Fld) (num den : Nat) (d : Decimal) : Except Nat Int :=
  let r := decRat d * num / den
  if r.den ≠ 1 then .error 511
  else
    let lo : Int := if f.sgn then -(2 ^ (f.wd - 1) : Nat) else 0
    let hi : Int := if f.sgn then (2 ^ (f.wd - 1) : Nat) - 1 else (2 ^ f.wd : Nat) - 1
    if lo ≤ r.num ∧ r.num ≤ hi ∧ inRanges f.ok r.num then .ok r.num else .error 511

/-- A named value of a `LIMIT` line: the field it sets, its value, and the factor to register units. -/
structure LimitSet where
  fld : Fld
  val : Option Decimal
  num : Nat
  den : Nat

/-- The fields and values of the named limits, or the first error. -/
def limitSets : List LimitSet → Except Nat (List (Fld × Int))
  | [] => .ok []
  | e :: l =>
    match e.val with
    | none => limitSets l
    | some d =>
      match limitValue e.fld e.num e.den d, limitSets l with
      | .error c, _ => .error c
      | _, .error c => .error c
      | .ok v, .ok vs => .ok ((e.fld, v) :: vs)

/-- The limits of an axis as R233 gives them: velocities per minute, AMAX per s², JMAX per s³ in thousands. -/
def axisSets (q : Nat) (l : AxisLimits) : List LimitSet :=
  [⟨.MOT_VMAX_VMAX, l.vmax, 10 ^ q, 1⟩, ⟨.MOT_VRAP_VRAPID, l.vrapid, 10 ^ q, 1⟩, ⟨.MOT_AMAX_AMAX, l.amax, 10 ^ q, 1⟩,
    ⟨.MOT_JMAX_JMAX, l.jmax, 10 ^ q, 1000⟩, ⟨.MOT_JOGF_JOGF, l.jogf, 10 ^ q, 1⟩, ⟨.MOT_SLO_LO, l.lo, 10 ^ q, 1⟩,
    ⟨.MOT_SHI_HI, l.hi, 10 ^ q, 1⟩]

def stnSets (q : Nat) (l : StnLimits) : List LimitSet :=
  [⟨.MOT_HOLDT_HOLDT, l.holdt, 1, 1⟩, ⟨.MOT_RTOL_RTOL, l.rtol, 10 ^ q, 1⟩, ⟨.MOT_APPF_APPF, l.appf, 10 ^ q, 1⟩,
    ⟨.MOT_CDV_CDV, l.cdv, 10 ^ q, 1⟩, ⟨.MOT_SCFG_ENDLY, l.endly, 1, 1⟩]

/-- Set fields of one register instance. -/
def State.setFlds (s : State) (i : Nat) (vs : List (Fld × Int)) : State := forAll vs s fun s (f, v) => s.setFldInt f i 0 v

/-- R208: LO, HI, SLEN and RTOL change only in IDLE and HELD. -/
def State.limitsLocked (s : State) (k : Fin 4) : Bool := s.stnState k != stIdle && s.stnState k != stHeld

/-- The error of an axis number (R234, R645). -/
def axisPre (a : Nat) : Option Nat := if a ≤ 11 then none else some 109

/-- Authority over an axis; an axis of no station has no owner to ask, and its error is 250. -/
def State.axisPermit (s : State) (o : Origin) (a : Nat) : Bool :=
  match s.axisStation a with
  | some k => s.hasAuth o k
  | none => true

def State.limitAxisErr (s : State) (a : Nat) (l : AxisLimits) : Except Nat (List (Fld × Int)) :=
  match s.axisStation a with
  | none => .error 250
  | some k =>
    match limitSets (axisSets (s.axisQ k a) l) with
    | .error e => .error e
    | .ok vs =>
      if s.limitsLocked k && (l.lo.isSome || l.hi.isSome || l.slen.isSome) then .error 265
      else
        let vs := vs ++ (l.slen.toList.map fun b => (Fld.MOT_AXCTL_SLEN, (b2n b : Int)))
        let get (f : Fld) : Int := ((vs.find? fun v => v.1 == f).map (·.2)).getD (s.fldInt f a)
        if get .MOT_SHI_HI < get .MOT_SLO_LO then .error 513 else .ok vs

def workLimitAxis (o : Origin) (a : Nat) (l : AxisLimits) (s : State) : Work :=
  { pre := axisPre a
    permit := s.axisPermit o a
    stn := min (s.axisCode a) 4
    chk := match s.limitAxisErr a l with
      | .error e => some e
      | .ok _ => none
    run := fun _ s =>
      match s.limitAxisErr a l with
      | .error e => .fail e s
      | .ok vs => .done (s.setFlds a vs) }

def execLimitAxis (o : Origin) (a : Nat) (l : AxisLimits) (s : State) : Host.Outcome State Fault Refusal :=
  .next (s.offer o (.limitAxis o a l) (workLimitAxis o a l s))

def State.limitStnErr (s : State) (k : Fin 4) (l : StnLimits) : Except Nat (List (Fld × Int)) :=
  match limitSets (stnSets (s.qlin k) l) with
  | .error e => .error e
  | .ok vs =>
    let vs := vs ++ (l.blend.toList.map fun b => (Fld.MOT_SCFG_BLEND, (b2n b : Int)))
    if vs.any (fun v => v.1 == .MOT_APPF_APPF && v.2 > 4000000000) then .error 511
    else if s.limitsLocked k && l.rtol.isSome then .error 265
    else .ok vs

def workLimitStn (o : Origin) (k : Fin 4) (l : StnLimits) (s : State) : Work :=
  { pre := s.stnErr k
    permit := s.hasAuth o k
    stn := k
    chk := match s.limitStnErr k l with
      | .error e => some e
      | .ok _ => none
    run := fun _ s =>
      match s.limitStnErr k l with
      | .error e => .fail e s
      | .ok vs => .done (s.setFlds k vs) }

def execLimitStn (o : Origin) (k : Fin 4) (l : StnLimits) (s : State) : Host.Outcome State Fault Refusal :=
  .next (s.offer o (.limitStn o k l) (workLimitStn o k l s))

/-- A value in quanta as a decimal of the base unit. -/
def quantaDec (q : Nat) (v : Int) : Decimal := ⟨v < 0, v.natAbs, -(q : Int)⟩

def onOff (b : Bool) : String := if b then "ON" else "OFF"

/-- R233: `LIMIT? AXIS a` and `LIMIT? STN s`, one line each. -/
def execLimitQuery (o : Origin) (axis : Bool) (n : Nat) (s : State) : Host.Outcome State Fault Refusal :=
  if axis then
    .next (s.askPure o (axisPre n) (s.axisPermit o n) fun s =>
      match s.axisStation n with
      | none => (250, [])
      | some k =>
        let q := s.axisQ k n
        (0, [[.s "LIMIT AXIS", .n n, .s "VMAX", .d (quantaDec q (s.fld .MOT_VMAX_VMAX n)),
          .s "VRAPID", .d (quantaDec q (s.fld .MOT_VRAP_VRAPID n)), .s "AMAX", .d (quantaDec q (s.fld .MOT_AMAX_AMAX n)),
          .s "JMAX", .d (quantaDec q (1000 * s.fld .MOT_JMAX_JMAX n)), .s "JOGF", .d (quantaDec q (s.fld .MOT_JOGF_JOGF n)),
          .s "LO", .d (quantaDec q (s.fldInt .MOT_SLO_LO n)), .s "HI", .d (quantaDec q (s.fldInt .MOT_SHI_HI n)),
          .s "SLEN", .s (onOff (s.flag .MOT_AXCTL_SLEN n))]]))
  else
    let k : Fin 4 := ⟨n % 4, by omega⟩
    .next (s.askPure o (if n < 4 then s.stnErr k else some 302) (s.hasAuth o k) fun s =>
      let q := s.qlin k
      (0, [[.s "LIMIT STN", .n n, .s "HOLDT", .n (s.fld .MOT_HOLDT_HOLDT k), .s "RTOL",
        .d (quantaDec q (s.fld .MOT_RTOL_RTOL k)), .s "APPF", .d (quantaDec q (s.fld .MOT_APPF_APPF k)), .s "CDV",
        .d (quantaDec q (s.fld .MOT_CDV_CDV k)), .s "ENDLY", .n (s.fld .MOT_SCFG_ENDLY k), .s "BLEND",
        .s (onOff (s.flag .MOT_SCFG_BLEND k))]]))

/-! ## Jogs (R218, R234) -/

/-- The overtravel bit of a slot in a direction (Table 8.7). -/
def State.overtravel (s : State) (k : Fin 4) (slot : Nat) (plus : Bool) : Bool :=
  s.imgDev k ((if plus then 0x17A0 else 0x17A8) + slot)

/-- The state admits a jog: IDLE, JOG, HELD, or a braking that it waits for (R218, R225). -/
def State.jogAdmits (s : State) (k : Fin 4) : Bool :=
  let st := s.stnState k
  st == stIdle || st == stJog || st == stHeld || s.isBraking k

/-- A distance in ssu: a multiple of the quantum, or error 256. -/
def distanceSsu (q : Nat) (d : Decimal) : Except Nat Int :=
  match decTimes d (10 ^ q) with
  | some n => .ok (n * ssuPer)
  | none => .error 256

/-- The state check of a jog, and what it moves by. -/
def State.jogErr (s : State) (a : Nat) (plus : Bool) (d : Option Decimal) : Except Nat (Option Int) :=
  match s.axisStation a with
  | none => .error 250
  | some k =>
    if h : a < 12 then
      let x := s.axis[a]
      match s.motionErr k (s.jogAdmits k) [⟨a, h⟩] with
      | some e => .error e
      | none =>
        let dist : Except Nat (Option Int) := match d with
          | none => .ok none
          | some d => (distanceSsu (s.axisQ k a) d).map some
        match dist with
        | .error e => .error e
        | .ok v =>
          if (v.getD 0) < 0 then .error 511
          else if ((s.axisSlot k a).map fun i => s.overtravel k i plus) == some true then .error 264
          else if s.softOn k ⟨a, h⟩ && (if plus then x.lim.hi * ssuPer < x.sp else x.sp < x.lim.lo * ssuPer) then
            .error 263
          else .ok v
    else .error 250

/-- The velocity of a jog in quanta/min: F, or JOGF, and never above VMAX. -/
def State.jogVel (s : State) (k : Fin 4) (a : Fin 12) (f : Option Decimal) : Nat :=
  let v := match f with
    | some d => (decRat d * (10 ^ s.axisQ k a : Nat)).floor.toNat
    | none => (s.axis[a]).lim.jogf
  min v (s.axis[a]).lim.vmax

/-- R218: a jog executes. One that waits does so behind those that wait already. -/
def State.startJog (s : State) (k : Fin 4) (a : Fin 12) (j : Jog) : State :=
  let x := s.axis[a]
  if s.isBraking k || !x.jogNext.isEmpty then s.setAxis a fun x => { x with jogNext := x.jogNext ++ [j] }
  else
    match x.jog with
    | some old =>
      if old.plus = j.plus then
        let s := s.setAxis a fun x => { x with jog := some j }
        match old.key with
        | some q => s.workDone q
        | none => s
      else s.setAxis a fun x => { x with jogNext := x.jogNext ++ [j] }
    | none => (s.setAxis a fun x => { x with jog := some j }).startDrives k

/-- The absolute target of an incremental jog (R218), from its base at acceptance. -/
def jogTarget (base : Int) (plus : Bool) (v : Int) : Int := if plus then base + v else base - v

def workAxisJog (o : Origin) (a : Nat) (plus : Bool) (f d : Option Decimal) (s : State) : Work :=
  { pre := axisPre a
    permit := s.axisPermit o a
    stn := min (s.axisCode a) 4
    chk := match s.jogErr a plus d with
      | .error e => some e
      | .ok _ => none
    run := fun key s =>
      match s.jogErr a plus d, s.axisStation a with
      | .error e, _ => .fail e s
      | .ok v, some k =>
        if h : a < 12 then
          let i : Fin 12 := ⟨a, h⟩
          let base := ((s.findItem key).bind (·.base)).getD (jogBase s.axis[i])
          .running (s.startJog k i ⟨plus, s.jogVel k i f, v.map (jogTarget base plus), some key, false, none⟩)
        else .fail 250 s
      | .ok _, none => .fail 250 s }

def execAxisJog (o : Origin) (a : Nat) (plus : Bool) (f d : Option Decimal) (s : State) :
    Host.Outcome State Fault Refusal :=
  .next (s.offer o (.axisJog o a plus f d) (workAxisJog o a plus f d s))

/-- A jog brakes to rest; an incremental jog that is stopped short is done there. The jogs that wait behind it are done too (DESIGN
CHOICE, log entry 57). -/
def State.stopJog (s : State) (a : Fin 12) : State :=
  let keys := (s.axis[a]).jogNext.filterMap (·.key)
  let s := s.setAxis a fun x => { x with jog := x.jog.map fun j => { j with braking := true, target := none }, jogNext := [] }
  keys.foldl State.workDone s

def workAxisJogStop (o : Origin) (a : Nat) (s : State) : Work :=
  { pre := axisPre a
    permit := s.axisPermit o a
    stn := min (s.axisCode a) 4
    chk := if (s.axisStation a).isSome then none else some 250
    run := fun _ s => if h : a < 12 then .done (s.stopJog ⟨a, h⟩) else .fail 250 s }

def execAxisJogStop (o : Origin) (a : Nat) (s : State) : Host.Outcome State Fault Refusal :=
  .next (s.offer o (.axisJogStop o a) (workAxisJogStop o a s))

/-! ## Handwheels (R219, R432, R433) -/

def multCode (m : Nat) : Nat := if m = 1 then 0 else if m = 10 then 1 else 2
def multOf (c : Nat) : Nat := if c = 0 then 1 else if c = 1 then 10 else 100

def State.hwErr (s : State) (a : Nat) (n : Nat) : Option Nat :=
  match s.axisStation a with
  | none => some 250
  | some k =>
    if h : a < 12 then
      (s.motionErr k (s.stnState k == stIdle || s.stnState k == stJog || s.stnState k == stHeld) [⟨a, h⟩]).or
        (if s.fld .ENC_HWCFG_STN n = k.val then none else some 283)
    else some 250

def workAxisHw (o : Origin) (a : Nat) (n : Fin 2) (mult : Nat) (s : State) : Work :=
  { pre := (axisPre a).or (if [1, 10, 100].contains mult then none else some 109)
    permit := s.axisPermit o a
    stn := min (s.axisCode a) 4
    chk := s.hwErr a n
    run := fun _ s =>
      match s.hwErr a n, s.axisStation a with
      | some e, _ => .fail e s
      | none, none => .fail 250 s
      | none, some k =>
        let s := forAll (List.finRange 12) s fun s b =>
          if s.fld .MOT_AXCTL_HW b = n.val ∧ b.val ≠ a then (s.setFld .MOT_AXCTL_HW b 0 3).journalCount b else s
        let s := (s.setFld .MOT_AXCTL_HW a 0 n).setFld .MOT_AXCTL_MULT a 0 (multCode mult)
        .done (s.startDrives k) }

def execAxisHw (o : Origin) (a : Nat) (n : Fin 2) (mult : Nat) (s : State) : Host.Outcome State Fault Refusal :=
  .next (s.offer o (.axisHw o a n mult) (workAxisHw o a n mult s))

def workAxisHwOff (o : Origin) (a : Nat) (s : State) : Work :=
  { pre := axisPre a
    permit := s.axisPermit o a
    stn := min (s.axisCode a) 4
    chk := if (s.axisStation a).isSome then none else some 250
    run := fun _ s =>
      if h : a < 12 then .done ((s.setFld .MOT_AXCTL_HW a 0 3).journalCount ⟨a, h⟩) else .fail 250 s }

def execAxisHwOff (o : Origin) (a : Nat) (s : State) : Host.Outcome State Fault Refusal :=
  .next (s.offer o (.axisHwOff o a) (workAxisHwOff o a s))

/-- R219: a detent moves the target of a selected axis, within its soft limits. While more than 0.5 s of motion at VMAX is pending,
further detents are discarded, and so are those into a direction that an overtravel bit blocks (R227). -/
def State.detentMove (s : State) (k : Fin 4) (a : Fin 12) (d : Int) : State :=
  let x := s.axis[a]
  if ((s.axisSlot k a).map fun i => s.overtravel k i (0 < d)) == some true then s
  else if x.lim.vmax * 10000 < 120 * x.hwPend.natAbs then s.raise .attn Cause.HANDWHEEL_CLIP k a.val
  else
    let want := x.sp + x.hwPend + d * multOf (s.fld .MOT_AXCTL_MULT a) * ssuPer
    let t := if s.softOn k a then max (x.lim.lo * ssuPer) (min (x.lim.hi * ssuPer) want) else want
    s.setAxis a fun x => { x with hwPend := t - x.sp }

/-- R432: the counts have moved by CPD from the detent position, in the direction `d` that DIR may invert: the detent count changes
by one and wraps; a positive detent moves a selected axis in its positive
direction. -/
def execHandwheelDetent (n : Fin 2) (d : Int) (s : State) : Host.Outcome State Fault Refusal :=
  if d ≠ 1 ∧ d ≠ -1 then .next s
  else
    let d := if s.flag .ENC_HWCFG_DIR n then -d else d
    let s := { s with hwDet := s.hwDet.set n (ofSigned 16 ((s.hwDet[n] : Int) + d)) }
    .next (forAll (List.finRange 12) s fun s a =>
      match s.axisStation a with
      | some k =>
        if s.fld .MOT_AXCTL_HW a = n.val ∧ (s.stnState k = stJog ∨ s.stnState k = stHeld) then s.detentMove k a d
        else s
      | none => s)

/-! ## AXIS REF (R220) -/

/-- The axis is at rest: no jog, no handwheel motion pending, and the spindle stands. -/
def State.axisRest (s : State) (k : Fin 4) (a : Fin 12) : Bool :=
  let x := s.axis[a]
  x.jog.isNone && x.hwPend == 0 && x.jv == 0
    && (s.fld .MOT_PGM_SPAX k != a.val || ((s.mot[k]).spinNow == 0 && s.measuredVel a == 0))

def State.refErr (s : State) (a : Nat) : Option Nat :=
  match s.axisStation a with
  | none => some 250
  | some k =>
    if h : a < 12 then (if s.stnState k = stIdle ∧ s.axisRest k ⟨a, h⟩ then none else some 226) else some 250

def workAxisRef (o : Origin) (a : Nat) (pos : Decimal) (s : State) : Work :=
  { pre := axisPre a
    permit := s.axisPermit o a
    stn := min (s.axisCode a) 4
    chk := s.refErr a
    run := fun _ s =>
      match s.refErr a, s.axisStation a with
      | none, some k =>
        if h : a < 12 then
          let i : Fin 12 := ⟨a, h⟩
          let v := roundRat (decRat pos * (10 ^ (s.axisQ k a + 4) : Nat))
          let s := s.setAxis i fun x =>
            { x with ofs := x.ofs + v - x.pos, pos := v, pos1 := v, sp := v, sp1 := v, sp2 := v, own := none, jf := 0 }
          .done ((s.setFlag .MOT_AXCTL_REFD a 0 true).journalCount i)
        else .fail 250 s
      | some e, _ => .fail e s
      | none, none => .fail 250 s }

def execAxisRef (o : Origin) (a : Nat) (pos : Decimal) (s : State) : Host.Outcome State Fault Refusal :=
  .next (s.offer o (.axisRef o a pos) (workAxisRef o a pos s))

/-! ## STATE? (R235) -/

/-- A position in ssu as a decimal of the base unit, rounded half to even to a whole quantum, as the worked examples of ch. 26
show it (DEDUCED, log entry 46). -/
def ssuDec (q : Nat) (v : Int) : Decimal :=
  let n := roundHE v 10000
  ⟨n < 0, n.natAbs, -(q : Int)⟩

/-- The path velocity in quanta/min (R235). -/
def State.pathVel (s : State) (k : Fin 4) : Int := roundHE ((s.mot[k]).vel * 1474560000 : Nat) (s.divisor * 10000 * fx)

/-- R235. A jog has no path, so its velocity is not shown (DEDUCED, log entry 46). -/
def execStateQuery (o : Origin) (k : Option (Fin 4)) (s : State) : Host.Outcome State Fault Refusal :=
  let k := s.argStn o k
  .next (s.askPure o (s.stnErr k) (s.hasAuth o k) fun s =>
    let st := s.stnState k
    let (p, b, u) := match (s.mot[k]).win with
      | b :: _ => (b.prog, b.blk, b.sub)
      | [] => (0, 0, 0)
    let head : List Fd := [.s "STATE", .n k.val, .s (stateName st), .s "DRV", .s (onOff (s.flag .MOT_STATE_DRVON k)),
      .s "VEL", .d (quantaDec (s.qlin k) (s.pathVel k)), .s "PROG", .n p, .s "BLK", .n b, .s "SUB", .n u]
    let line (a : Fin 12) : List Fd :=
      let x := s.axis[a]
      let q := s.axisQ k a
      [.s "AXIS", .n a.val, .s "CMD", .d (ssuDec q x.sp), .s "ACT", .d (ssuDec q x.pos), .s "FE",
        .d (ssuDec q (x.sp - x.pos))]
    (0, head :: (s.axesOf k).map line))

/-! ## Events of the path (R215, R226) -/

/-- R215: a dwell has counted its ticks. -/
def execDwellEnd (k : Fin 4) (s : State) : Host.Outcome State Fault Refusal :=
  match (s.mot[k]).win with
  | b :: _ =>
    if b.motion = 5 ∧ (s.mot[k]).stage = .moving ∧ (s.mot[k]).dwell = 0 ∧ s.stnState k = stRun then
      .next (s.setMot k fun m => { m with lam := pathEnd })
    else .next s
  | [] => .next s

/-- R226: the following error of an axis has exceeded the warning limit on two consecutive ticks. -/
def execFollowingError (a : Fin 12) (s : State) : Host.Outcome State Fault Refusal :=
  match s.axisStation a with
  | some k =>
    if (s.axis[a]).feTicks < 2 ∨ !s.flag .MOT_STATE_DRVON k then .next s
    else if s.stnState k = stStopping then .next s
    else .next ((s.raise .fault Cause.FOLLOWING_ERROR k a.val).deviceStop k)
  | none => .next s

end Sys2Proof.Machine
end

