-- ==== Sys2Proof/Machine/Serial.lean ====
section
/-! DEFINITION. The serial ports as streams of characters: receiving, editing, history, flow control, sending, and the
tape port (spec/04_puarn_language.md, R82 to R96, R100 to R102, R107 to R116). -/
namespace Sys2Proof.Machine
open Sys2Proof

/-! ## The settings in effect -/

/-- Panel rescue forces its own settings on SP0 (R116), and so does the loader console (R547). -/
def State.portPhy (s : State) (p : Fin 2) : Nat := if s.rescued p then 0 else fldOf (s.port[p]).mode .SER_MODE_PHY
def State.portFlow (s : State) (p : Fin 2) : Nat := if s.rescued p then 0 else fldOf (s.port[p]).mode .SER_MODE_FLOW
def State.portEcho (s : State) (p : Fin 2) : Bool :=
  (s.rescued p || s.flag .SER_CTRL_ECHO p) && s.portPhy p != 2
def State.portAbbr (s : State) (p : Fin 2) : Bool := s.rescued p || s.flag .SER_CTRL_ABBR p

def State.portD7 (s : State) (p : Fin 2) : Bool := !s.rescued p && fldOf (s.port[p]).mode .SER_MODE_D7 == 1

/-- The receiver and the drivers of the port run: enabled, or rescued (R92, R116), and with a reference present, from
which the bit timing is derived (R32). -/
def State.portLive (s : State) (p : Fin 2) : Bool :=
  (s.rescued p || (s.port[p]).on) && s.flag .TC_STATUS_REFOK && (s.answering || s.phase == .console)

/-- The balls of a port (Table 4.1). -/
inductive SerBall where
  | y | z | a | b | rts | cts
deriving DecidableEq, Repr

/-- What a ball does. -/
inductive BallUse where
  | highZ | drives | receives
deriving DecidableEq, Repr

/-- R82, R89, R92: the balls that the mode of a port uses; the others, and the drivers of a port that is off, are high-impedance. -/
def State.ballUse (s : State) (p : Fin 2) (b : SerBall) : BallUse :=
  if !s.portLive p then .highZ
  else match s.portPhy p, b with
  | 0, .y | 0, .rts | 1, .y | 1, .z => .drives
  | 0, .a | 0, .cts | 1, .a | 1, .b | 2, .a | 2, .b => .receives
  | 2, .y | 2, .z => if (s.port[p]).driving then .drives else .highZ
  | _, _ => .highZ

/-- R82, SER_MODE.TERM: the receiver is terminated. -/
def State.rxTerm (s : State) (p : Fin 2) : Bool :=
  s.ballUse p .b == .receives && fldOf (s.port[p]).mode .SER_MODE_TERM == 1

/-- R86: SPn_RTS is asserted. -/
def State.rtsOut (s : State) (p : Fin 2) : Bool :=
  s.ballUse p .rts == .drives && !(s.portFlow p == 2 && s.flag .SER_STAT_RXSTOP p)

/-! ## Characters -/

def isFramed (line : List Byte) : Bool := line.head? == some 0x23

/-- Entries of CMD_SPp that the partial line will need. -/
def partialEntries (n : Nat) : Nat := if n = 0 then 0 else lineEntries n

/-- Free space of CMD_SPp in bytes, the partial line counted (R86, R148). -/
def State.cmdFreeBytes (s : State) (p : Fin 2) : Nat :=
  (s.ringFree (cmdRing p) - partialEntries (s.port[p]).line.length) * 32

/-- The port sends bytes. -/
def State.wireBytes (s : State) (p : Fin 2) (bs : List Byte) : State := s.setPort p fun q => { q with wire := q.wire ++ bs }

/-- R86: the host is stopped or released: under XON/XOFF by a character, which passes even a stopped output, and under RTS/CTS by
SPn_RTS. -/
def State.setRxStop (s : State) (p : Fin 2) (b : Bool) : State :=
  let s' := s.setFlag .SER_STAT_RXSTOP p 0 b
  if s.flag .SER_STAT_RXSTOP p != b && s.portFlow p == 1 then s'.wireBytes p [if b then 0x13 else 0x11] else s'

/-- R86: the device stops the host below 512 bytes and releases it above 1024. -/
def State.flowUpdate (s : State) (p : Fin 2) : State :=
  if s.portFlow p = 0 then s
  else if s.cmdFreeBytes p < 512 then s.setRxStop p true
  else if s.cmdFreeBytes p > 1024 then s.setRxStop p false
  else s

/-- R101: echo follows the lines that are being sent, and output that the host has stopped. -/
def State.echoBytes (s : State) (p : Fin 2) (bs : List Byte) : State :=
  if !s.portEcho p then s
  else if (s.port[p]).rsp.isEmpty && !s.flag .SER_STAT_TXSTOP p then s.wireBytes p bs
  else s.setPort p fun q => { q with echo := q.echo ++ bs }

/-- The echo held back is sent once nothing stands before it. -/
def State.echoFlush (s : State) (p : Fin 2) : State :=
  if (s.port[p]).rsp.isEmpty && !s.flag .SER_STAT_TXSTOP p then s.setPort p fun q => { q with wire := q.wire ++ q.echo, echo := [] }
  else s

/-- The port with its line in progress discarded. -/
def clearLine (q : Port) : Port :=
  { q with line := [], excess := 0, damaged := false, bad := false, overrun := false, edited := false, esc := .none }

/-- One more character fits in the free space of CMD_SPp (R88). -/
def State.cmdRoom (s : State) (p : Fin 2) : Bool :=
  decide (lineEntries ((s.port[p]).line.length + 1) ≤ s.ringFree (cmdRing p))

/-- Store a character of the line in progress: R88 discards it when CMD_SPp is full, R93 counts those past the 255th. -/
def State.storeChar (s : State) (p : Fin 2) (ch : Byte) (typed : Bool) : State :=
  let q := s.port[p]
  if q.overrun || !s.cmdRoom p then
    (s.setPort p fun q => { q with overrun := true }).setFlag .SER_STAT_OVR p 0 true
  else if q.line.length ≥ 255 then
    let s := s.setPort p fun q => { q with excess := q.excess + 1 }
    if typed then s.echoBytes p [0x07] else s
  else
    let s := s.setPort p fun q => { q with line := q.line ++ [ch], bad := q.bad || decide (ch.toNat ≥ 0x80) }
    if typed then s.echoBytes p [ch] else s

/-- R94: a character of text; HT stands for a space. -/
def isText (ch : Byte) : Bool := ch.toNat ≥ 0x20 && ch.toNat ≠ 0x7F || ch.toNat == 9

/-- R85: a character with a wrong parity or stop bit damages its line and counts as a character of it. -/
def State.damagedChar (s : State) (p : Fin 2) (ch : Byte) (typed : Bool) : State :=
  let s := s.setFlag .SER_STAT_CHERR p 0 true
  let s := s.setPort p fun q => { q with damaged := true, afterCr := false }
  s.storeChar p ch typed

/-- Table 4.3, last row: the characters of an ESC sequence, none of them stored or echoed. A character that the table does not
name inside ESC [ (0x20 to 0x2F, or a control) is discarded, and the sequence goes on (DESIGN CHOICE, log entry 53). -/
def State.escChar (s : State) (p : Fin 2) (ch : Byte) : Option State :=
  let n := ch.toNat
  match (s.port[p]).esc with
  | .none => if n = 0x1B then some (s.setPort p fun q => { q with esc := .esc }) else none
  | .esc => if n = 0x5B then some (s.setPort p fun q => { q with esc := .csi }) else if n = 0x1B then some s else none
  | .csi =>
    if 0x40 ≤ n ∧ n ≤ 0x7E then some (s.setPort p fun q => { q with esc := .none })
    else some s

/-- R83: with 7 data bits the eighth bit of a received character is 0. -/
def State.rxChar (s : State) (p : Fin 2) (ch : Byte) : Byte := if s.portD7 p then ch &&& 0x7F else ch

/-- R83, R85, R88, R93, R94, R101: a character of a typed line. `bad` marks a wrong parity or stop bit. A damaged # as the first
character is stored and echoed as one of a typed line, and its line counts as framed from there on (R96 leaves it open: DESIGN
CHOICE, log entry 53). -/
def State.typedChar (s : State) (p : Fin 2) (ch : Byte) (bad : Bool) : State :=
  if !s.portLive p || isFramed (s.port[p]).line || ((s.port[p]).line.isEmpty && ch == 0x23 && !bad) then s
  else if bad then (s.damagedChar p ch true).flowUpdate p
  else
    match s.escChar p ch with
    | some t => t
    | none =>
      let s := s.setPort p fun q => { q with afterCr := false, esc := .none }
      if isText ch then (s.storeChar p ch true).flowUpdate p else s

/-- R88, R94, R100: a character of a framed line. Editing controls mark the line; it is neither edited nor echoed. -/
def State.framedChar (s : State) (p : Fin 2) (ch : Byte) (bad : Bool) : State :=
  let q := s.port[p]
  if !s.portLive p || !(isFramed q.line || (q.line.isEmpty && ch == 0x23 && !bad)) then s
  else if bad then (s.damagedChar p ch false).flowUpdate p
  else
    let s := s.setPort p fun q => { q with afterCr := false, esc := .none }
    if isText ch then (s.storeChar p ch false).flowUpdate p
    else if [0x08, 0x7F, 0x15, 0x10, 0x0E, 0x1B].contains ch.toNat then s.setPort p fun q => { q with edited := true }
    else s

def execTypedCharacter (p : Fin 2) (ch : Byte) (bad : Bool) (s : State) : Host.Outcome State Fault Refusal :=
  .next (s.typedChar p (s.rxChar p ch) bad)

def execFramedCharacter (p : Fin 2) (ch : Byte) (bad : Bool) (s : State) : Host.Outcome State Fault Refusal :=
  .next (s.framedChar p (s.rxChar p ch) bad)

/-- The line in progress is a typed one, open to editing (R96, R100), and no ESC [ sequence swallows the control. -/
def State.editing (s : State) (p : Fin 2) : Bool := s.portLive p && !isFramed (s.port[p]).line && (s.port[p]).esc != .csi

/-- A control after a lone ESC is taken as usual (Table 4.3). -/
def State.endEsc (s : State) (p : Fin 2) : State := s.setPort p fun q => { q with esc := .none, afterCr := false }

/-- Table 4.3, BS or DEL: the last character goes; past the 255th nothing is echoed (R93). A line marked with 103 or 107 keeps
its mark, whatever character goes: no rule takes it off (DESIGN CHOICE, log entry 53). -/
def execTypedBackspace (p : Fin 2) (s : State) : Host.Outcome State Fault Refusal :=
  let q := s.port[p]
  if !s.editing p then .next s
  else if q.excess > 0 then .next ((s.endEsc p).setPort p fun q => { q with excess := q.excess - 1 })
  else if q.line.isEmpty then .next (s.endEsc p)
  else .next ((((s.endEsc p).setPort p fun q => { q with line := q.line.dropLast }).echoBytes p [0x08, 0x20, 0x08]).flowUpdate p)

/-- Table 4.3, Ctrl-U: the whole line goes, echoed as CR LF. A mark stays, as with BS. -/
def execTypedLineKill (p : Fin 2) (s : State) : Host.Outcome State Fault Refusal :=
  if !s.editing p then .next s
  else .next ((((s.endEsc p).setPort p fun q => { q with line := [], excess := 0 }).echoBytes p [0x0D, 0x0A]).flowUpdate p)

/-- Replace the line in progress by a recalled one; a recall that does not fit in CMD_SPp is not made (R102). -/
def State.recallTo (s : State) (p : Fin 2) (n : Nat) (line : List Byte) : State :=
  if partialEntries line.length > s.ringFree (cmdRing p) then s.echoBytes p [0x07]
  else
    ((s.setPort p fun q =>
      { q with line := line, excess := 0, damaged := false, bad := line.any fun c => decide (0x80 ≤ c.toNat), recalled := n
               esc := .none }).echoBytes p
      ([0x0D, 0x0A] ++ line)).flowUpdate p

/-- Table 4.3, Ctrl-P or ESC [ A. `recalled` counts the entries back from the empty line after the newest. -/
def execHistoryPrevious (p : Fin 2) (s : State) : Host.Outcome State Fault Refusal :=
  let q := s.port[p]
  if !s.editing p then .next s
  else match q.hist[q.recalled]? with
    | none => .next s
    | some l => .next (s.recallTo p (q.recalled + 1) l)

/-- Table 4.3, Ctrl-N or ESC [ B: the next entry, or an empty line after the newest. -/
def execHistoryNext (p : Fin 2) (s : State) : Host.Outcome State Fault Refusal :=
  let q := s.port[p]
  if !s.editing p || q.recalled = 0 then .next s
  else .next (s.recallTo p (q.recalled - 1) (if q.recalled = 1 then [] else q.hist.getD (q.recalled - 2) []))

/-- R86: XOFF under XON/XOFF, or CTS deasserted under RTS/CTS, stops the output; otherwise it is discarded. -/
def execXoffReceived (p : Fin 2) (s : State) : Host.Outcome State Fault Refusal :=
  if s.portLive p && s.portFlow p != 0 then .next (s.setFlag .SER_STAT_TXSTOP p 0 true) else .next s

def execXonReceived (p : Fin 2) (s : State) : Host.Outcome State Fault Refusal :=
  if s.portLive p && s.portFlow p != 0 then .next ((s.setFlag .SER_STAT_TXSTOP p 0 false).echoFlush p) else .next s

/-- R85: a break discards the partial line without an answer and sets BRK. -/
def execBreakReceived (p : Fin 2) (s : State) : Host.Outcome State Fault Refusal :=
  if s.portLive p then
    .next (((s.setPort p clearLine).setFlag .SER_STAT_BRK p 0 true).flowUpdate p)
  else .next s

/-! ## Settings that take effect later -/

/-- The status line of the port's own change has been sent (R91). -/
def State.ownSent (s : State) (p : Fin 2) : Bool := (s.port[p]).ownChange.all fun k => s.statusSent k

/-- R91: no line stands half sent: one that the host has stopped is only paused (R86). -/
def State.atBoundary (s : State) (p : Fin 2) : Bool := (s.port[p]).rsp.isEmpty || !s.flag .SER_STAT_TXSTOP p

/-- A port whose flow control goes has nothing that stops its output, and stops nobody (DESIGN CHOICE, log entry 53). -/
def State.flowChanged (s : State) (p : Fin 2) : State :=
  ((s.setFlag .SER_STAT_TXSTOP p 0 false).setFlag .SER_STAT_RXSTOP p 0 false).echoFlush p

/-- R91: the written SER_MODE and SER_BAUD take effect: a change of the port's own once its status line has been sent, one from
elsewhere at a line boundary, with the partial line discarded. -/
def execSerSettingsApply (p : Fin 2) (s : State) : Host.Outcome State Fault Refusal :=
  let m := s.reg .SER_MODE p 0
  let b := s.reg .SER_BAUD p 0
  let q := s.port[p]
  if (q.mode = m ∧ q.baud = b) || !s.ownSent p || (q.farChange && !s.atBoundary p) then .next s
  else
    let t := s.setPort p fun q =>
      let q := { q with mode := m, baud := b, ownChange := none, farChange := false }
      if (s.port[p]).farChange then clearLine q else q
    .next (if s.portFlow p = t.portFlow p then t else t.flowChanged p)

/-- R92: the drivers go high-impedance and the partial line is discarded, once ENABLE has been cleared: by a line of the port
itself, once its status line has been sent. -/
def execSerEnableClear (p : Fin 2) (s : State) : Host.Outcome State Fault Refusal :=
  if (s.port[p]).on && !s.flag .SER_CTRL_ENABLE p && s.ownSent p then
    .next (s.setPort p fun q => { clearLine q with on := false, driving := false, ownChange := none })
  else .next s

/-! ## Asynchronous lines -/

/-- The next record of class `k` that the port has not taken up (R165: once each, in SEQ order). -/
def State.dueRec (s : State) (p : Fin 2) (k : Fin 4) : Option EvRec :=
  (s.ev.q[k]).find? fun r => !seqLe r.seq ((s.port[p]).taken[k]) && !(s.port[p]).skip.contains (k, r.seq) && s.selects p k r

def classOf (k : Fin 4) : EvClass :=
  match k with
  | 0 => .trip
  | 1 => .fault
  | 2 => .attn
  | 3 => .fin

/-- R109: the partial typed line is echoed again after an event line, in the place of the part of it that was held back. -/
def reEcho (q : Port) : List Byte := (q.echo.reverse.dropWhile fun c => c != 0x0A).reverse ++ q.line

/-- Place an event line, or count it lost where RSP_SPp has no room (R110). While a typed line is edited, a CR LF goes before it,
and with ECHO the partial line is echoed again after it (R109). -/
def State.sendAsync (s : State) (p : Fin 2) (k : Fin 4) (r : EvRec) : State :=
  let q := s.port[p]
  let l := RLine.async (classOf k) r q.lost
  if q.rspWait.isEmpty && s.rspFits p l then
    let edit := !q.line.isEmpty && !isFramed q.line
    let s := s.rspPut p l edit
    s.setPort p fun q =>
      { q with lost := 0, echo := if edit && s.portEcho p then reEcho q else q.echo
               sent := (q.sent.filter fun e => !(e.cls == classOf k && e.seq == r.seq))
                 ++ [⟨classOf k, r.seq, r.rep, s.clk.now⟩] }
  else
    ((s.bump .SER_CNT_ALOST p 0 1).ringFull (rspRing p)).setPort p fun q => { q with lost := q.lost + 1 }

/-- Event lines leave the port at all: enabled, and not in RS-485 mode (R89, R92). -/
def State.asyncOpen (s : State) (p : Fin 2) : Bool := s.portLive p && s.answering && s.portPhy p != 2

/-- R109, R110, R126, R165: the due event line of class `c`; a TRIP line goes first. -/
def execAsyncLineSend (p : Fin 2) (c : EvClass) (s : State) : Host.Outcome State Fault Refusal :=
  let k := classNo c
  if !s.asyncOpen p || s.ringHeld (rspRing p) then .next s
  else if k.val ≠ 0 ∧ (s.dueRec p 0).isSome then .next s
  else match s.dueRec p k with
    | none => .next s
    | some r =>
      .next ((s.setPort p fun q => { q with taken := q.taken.set k r.seq }).sendAsync p k r)

/-- R161: a record already sent, whose REP has changed since, is sent again when its window closes, if the change came inside the
window, and else 100 ms after its line was last sent. -/
def execEventResend (p : Fin 2) (c : EvClass) (seq : Nat) (s : State) : Host.Outcome State Fault Refusal :=
  let k := classNo c
  match (s.ev.q[k]).find? (fun r => r.seq == seq), (s.port[p]).sent.find? (fun e => e.cls == c && e.seq == seq) with
  | some r, some e =>
    let close := r.t + r.w * msCounts
    let due := if !r.ovf ∧ r.w ≠ 0 ∧ e.at_ < close ∧ e.rep < r.wrep then decide (close ≤ s.clk.now)
      else decide (e.at_ + 100 * msCounts ≤ s.clk.now)
    if s.asyncOpen p && !s.ringHeld (rspRing p) && due && r.rep != e.rep && s.selects p k r then .next (s.sendAsync p k r) else .next s
  | _, _ => .next s

/-! ## The tape port -/

/-- Table 4.6: EIA RS-244 codes of channels 1 to 8 (PRESUMED, log entry 4: the code table itself is outside the spec). -/
def eiaChar (t : Nat) : Option Nat :=
  match t with
  | 0x20 => some 48 | 0x01 => some 49 | 0x02 => some 50 | 0x13 => some 51 | 0x04 => some 52 | 0x15 => some 53
  | 0x16 => some 54 | 0x07 => some 55 | 0x08 => some 56 | 0x19 => some 57
  | 0x61 => some 65 | 0x62 => some 66 | 0x73 => some 67 | 0x64 => some 68 | 0x75 => some 69 | 0x76 => some 70
  | 0x67 => some 71 | 0x68 => some 72 | 0x79 => some 73 | 0x51 => some 74 | 0x52 => some 75 | 0x43 => some 76
  | 0x54 => some 77 | 0x45 => some 78 | 0x46 => some 79 | 0x57 => some 80 | 0x58 => some 81 | 0x49 => some 82
  | 0x32 => some 83 | 0x23 => some 84 | 0x34 => some 85 | 0x25 => some 86 | 0x26 => some 87 | 0x37 => some 88
  | 0x38 => some 89 | 0x29 => some 90
  | 0x10 => some 32 | 0x70 => some 43 | 0x40 => some 45 | 0x6B => some 46 | 0x31 => some 47 | 0x0B => some 37
  | 0x1A => some 40 | 0x4A => some 41 | 0x3B => some 44 | 0x3E => some 32
  | _ => none

def oddHoles (t : Byte) : Bool := (List.range 8).foldl (fun b k => b != t.getLsbD k) false

/-- What a tape character is in the code in use (Table 4.6). -/
inductive TapeChar where
  | skip
  | endBlock
  | text (c : Nat)
  | parity
  | code
deriving DecidableEq, Repr

def readTape (det : Nat) (t : Byte) : TapeChar :=
  let n := t.toNat
  if det = 1 then
    if n = 0 ∨ n = 0xFF ∨ n = 0x8D then .skip
    else if oddHoles t then .parity
    else if n % 128 = 10 then .endBlock
    else if n % 128 = 9 then .text 32
    else .text (n % 128)
  else
    if n = 0 ∨ n = 0x7F then .skip
    else if !oddHoles t then .parity
    else if n = 0x80 then .endBlock
    else match eiaChar n with
      | some c => .text c
      | none => .code

/-- TPRUN: reading is requested, at least 256 buffer bytes are free (R112), and no block waits to be accepted (R115). -/
def State.tapeRun (s : State) : State :=
  s.setFlag .SER_TAPESTAT_RUN 0 0
    (s.flag .SER_TAPE_ENABLE && s.tape.want && !s.tape.blocked && decide (s.tape.buf.length ≤ 256))

/-- A write of SER_TAPE has changed ENABLE (R112, R113, Table 4.7): the characters count from its setting, and the code in use
holds until its clearing. -/
def State.tapeEnabled (s : State) (was : Bool) : State :=
  let on := s.flag .SER_TAPE_ENABLE
  let s := if on && !was then s.setFld .SER_TAPESTAT_CHARS 0 0 0 else s
  (if was && !on then s.setFld .SER_TAPE_DET 0 0 0 else s).tapeRun

/-- The characters buffered since the last end of block go (R114). -/
def dropPartialBlock (l : List Byte) : List Byte := (l.reverse.dropWhile fun c => c != 0x0A).reverse

/-- R114: reading stops, the block is not delivered, and the read operation fails. What the reader still gives of the block is
dropped too. -/
def State.tapeError (s : State) (f : Fld) (cause err : Nat) : State :=
  let s := s.setFlag f 0 0 true
  let it := s.tape.item
  let s := match s.tape.toStn with
    | some k => s.dropReader k
    | none => s
  let s := { s with tape := { s.tape with buf := dropPartialBlock s.tape.buf, want := false, drop := true, item := none
                                          toStn := none, toProg := none } }
  let s := s.tapeRun.raise .attn cause 4 (det := s.fld .SER_TAPESTAT_CHARS)
  match it with
  | some k => s.workFailed k err
  | none => s

/-- R112 to R114: a character is latched on the sprocket edge, decoded and buffered. -/
def execTapeCharacter (t : Byte) (s : State) : Host.Outcome State Fault Refusal :=
  if !s.flag .SER_TAPE_ENABLE then .next s
  else
    let det := s.fld .SER_TAPE_DET
    let det := if det ≠ 0 then det
      else match s.fld .SER_TAPE_CODE with
        | 1 => 1
        | 2 => 2
        | _ => if t = 0 then 0 else if oddHoles t then 2 else 1
    let s := s.setFld .SER_TAPE_DET 0 0 det
    let s := s.bumpWrap .SER_TAPESTAT_CHARS 0 0 1
    if det = 0 then .next s
    else if s.tape.drop then
      .next (if readTape det t = .endBlock then { s with tape := { s.tape with drop := false } } else s)
    else if s.tape.buf.length ≥ 512 then
      let s := s.setFlag .SER_TAPESTAT_TOVR 0 0 true
      let s := { s with tape := { s.tape with want := false } }
      .next (s.tapeRun.raise .attn Cause.TAPE_OVERRUN 4)
    else match readTape det t with
      | .skip => .next s
      | .endBlock => .next ({ s with tape := { s.tape with buf := s.tape.buf ++ [0x0A] } } : State).tapeRun
      | .text c => .next ({ s with tape := { s.tape with buf := s.tape.buf ++ [BitVec.ofNat 8 c] } } : State).tapeRun
      | .parity => .next (s.tapeError .SER_TAPESTAT_PERR Cause.TAPE_PARITY 108)
      | .code => .next (s.tapeError .SER_TAPESTAT_CODEERR Cause.TAPE_CODE 114)

/-- SER_CLR (Table 4.7) as a core or a session writes it is in RegAccess; these are its two effects. -/
def State.clrRej (s : State) (p : Fin 2) : State := s.setFld .SER_CNT_REJ p 0 0
def State.clrAlost (s : State) (p : Fin 2) : State := s.setFld .SER_CNT_ALOST p 0 0

end Sys2Proof.Machine
end

