-- ==== Sys2Proof/Machine/Storage.lean ====
section
/-! DEFINITION. Flash operations, quarantine and the steward, and the errors of SRAM
(spec/19_storage_and_journal.md). -/
namespace Sys2Proof.Machine
open Sys2Proof

/-! ## Sectors (R509, Table 19.2) -/

def sectSize : Nat := 65536
def flashBase : Nat := 0x10000000

/-- The sector of an address, and the bank of a sector. -/
def sectOf (a : Nat) : Nat := (a - flashBase) / sectSize
def bankOfSect (n : Nat) : Nat := n / 32
def sectAddr (n : Nat) : Nat := flashBase + n * sectSize

/-- A sector of image slot A or B. -/
def imageSect (n : Nat) : Bool := n < 16 || (32 ≤ n && n < 48)

/-- The address lies in flash. -/
def inFlash (a : Nat) : Bool := flashBase ≤ a && a < flashBase + 64 * sectSize

def sectFld (n : Nat) : Fld := ⟨.FLS_SECT, 2 * (n % 16), 2, .ro, false, []⟩

/-- Sector states (FLS_SECT). -/
def sectErased : Nat := 0
def sectUsed : Nat := 1
def sectQuar : Nat := 2
def sectBad : Nat := 3

def State.sectState (s : State) (n : Nat) : Nat := s.fld (sectFld n) (n / 16)

/-- A sector takes a state; FLS_STAT.QUAR follows. -/
def State.setSect (s : State) (n v : Nat) : State :=
  let s := s.setFld (sectFld n) (n / 16) 0 v
  s.setFld .FLS_STAT_QUAR 0 0 (min 63 ((List.range 64).filter fun (k : Nat) => s.sectState k == sectQuar).length)

def State.flashBankBad (s : State) (b : Nat) : Bool :=
  if b = 0 then s.flag .FLS_STAT_FAIL0 else s.flag .FLS_STAT_FAIL1

/-- The running image was loaded from the slot that holds the sector (R528). -/
def State.slotActive (s : State) (n : Nat) : Bool :=
  s.boot.run.isSome && s.fld .CFG_STAT_SRC == bankOfSect n && imageSect n

def State.setFlash (s : State) (f : FlashSt → FlashSt) : State := { s with flash := f s.flash }

/-! ## Operations (R513, R515) -/

def flashOpCode : FlashKind → Nat
  | .erase => 1
  | .program => 2
  | .repair => 3

/-- R520: an erase begins. -/
def State.countErase (s : State) (n : Nat) : State :=
  let s := s.bump .FLS_ECNT_ERASES n 0 1
  if s.fld .FLS_ECNT_ERASES n ≥ 80000 && !s.flash.worn then
    (s.setFlash fun f => { f with worn := true }).raise .attn Cause.FLASH_WEAR 4 (inst := n)
  else s

/-- R515: the INTENT of the first operation is committed, and it starts. With none, FLS_STAT shows none. -/
def State.flashStart (s : State) : State :=
  let s := (s.setFlag .FLS_STAT_SUSP 0 0 false).setFlag .FLS_STAT_XSUSP 0 0 false
  match s.flash.ops.head? with
  | none => ((s.setFld .FLS_STAT_OP 0 0 0).setFld .FLS_STAT_SECT 0 0 0).setFlash fun f => { f with restAt := s.clk.now }
  | some op =>
    let s := ((s.setFld .FLS_STAT_OP 0 0 (flashOpCode op.kind)).setFld .FLS_STAT_SECT 0 0 op.sect).commitRec
    if op.kind = .program then s else s.countErase op.sect

/-- Operations run in the order of their journal commits (R513). -/
def State.flashQueue (s : State) (l : List FlashOp) : State :=
  let idle := s.flash.ops.isEmpty
  let s := s.setFlash fun f => { f with ops := f.ops ++ l }
  if idle && !l.isEmpty then s.flashStart else s

/-! ## What the array holds (R509) -/

/-- A granule whose complete marker is written. -/
def State.marked (s : State) (a : Nat) : Bool := s.flash.marks.contains (a / 16)

/-- R528: a granule is erased. A read of a quarantined sector or of a failed bank returns 0. -/
def State.granErased (s : State) (a : Nat) : Bool :=
  !s.marked a && (s.memBytes a 16).all (· == 0xFF) && s.sectState (sectOf a) != sectQuar
    && !s.flashBankBad (bankOfSect (sectOf a))

def insertNat (n : Nat) : List Nat → List Nat
  | [] => [n]
  | m :: l => if n < m then n :: m :: l else if n = m then m :: l else m :: insertNat n l

def State.writeGranule (s : State) (g : Nat × List Byte) : State :=
  (s.memPut g.1 g.2).setFlash fun f => { f with marks := insertNat (g.1 / 16) f.marks }

/-- A sector becomes all ones, with no marker. -/
def State.eraseSector (s : State) (n : Nat) : State :=
  let keep (a : Nat) : Bool := a < sectAddr n || sectAddr (n + 1) ≤ a
  let s : State := { s with mem := s.mem.filter fun e => keep e.1 }
  s.setFlash fun f => { f with marks := f.marks.filter fun m => keep (m * 16) }

/-! ## The outcome archive (R512) -/

/-- Records in one part of the archive. -/
def archSize : Nat := 24576

/-- The address of a record: part 0 from sector 16 on, part 1 from sector 48 on. -/
def archAddr (n : Nat) : Nat := sectAddr (if n < archSize then 16 else 48) + 32 * (n % archSize)

/-- The record at an address of the archive. -/
def archRec (a : Nat) : Nat := if sectOf a < 32 then (a - sectAddr 16) / 32 else archSize + (a - sectAddr 48) / 32

/-- A state as R136 and Table 18.2 number it: 0 not accepted, 1 pending, 2 running, 3 held, 4 done, 5 failed. -/
def stateCode : OutState → Nat
  | .pending => 1
  | .running | .inDoubt => 2
  | .held => 3
  | .done => 4
  | .failed => 5

/-- The archive record of an outcome. -/
def Item.archived (i : Item) : List Byte :=
  leBytes 1 i.key.src ++ leBytes 1 (stateCode i.st + 8 * i.stn) ++ leBytes 2 i.key.ser ++ leBytes 2 i.err
    ++ leBytes 2 ((i.blk.map (·.1)).getD 0) ++ leBytes 4 i.key.wsn ++ leBytes 4 ((i.blk.map (·.2.1)).getD 0)
    ++ leBytes 8 i.acc ++ leBytes 8 i.chg

/-- The first record of a part from `n` on, round the part, that holds no live one. -/
def freeRec (b : Nat) (live : List Nat) : Nat → Nat → Nat
  | 0, n => b * archSize + n % archSize
  | f + 1, n => if live.contains (b * archSize + n % archSize) then freeRec b live f (n + 1) else b * archSize + n % archSize

/-- The record that the log of a part goes on at. -/
def nextRec (b : Nat) (l : List (Key × Nat)) : Nat :=
  let used := (l.map (·.2)).filter fun n => n / archSize == b
  freeRec b used used.length ((used.getLast?.map fun n => n % archSize + 1).getD 0)

/-- A byte of the archive or of the program store, where it is known: that of an archived outcome. -/
def State.recordByte (s : State) (a : Nat) : Option Byte :=
  let n := archRec a
  let i := (s.flash.arch.find? fun e => e.2 == n).bind fun e => s.findItem e.1
  if 28 ≤ sectOf a % 32 then none else i.bind fun i => i.archived[a % 32]?

/-! ## Failure (R513, R519) -/

/-- R519: a flash bank fails. The outcomes archived in it are lost, and answer as expired. -/
def State.flashBankFail (s : State) (b : Fin 2) : State :=
  if s.flashBankBad b then s
  else
    let gone := (s.flash.arch.filter fun e => e.2 / archSize == b.val).map (·.1)
    let s := (s.setFlag (if b = 0 then .FLS_STAT_FAIL0 else .FLS_STAT_FAIL1) 0 0 true).commitRec
    let s := s.setFlash fun f => { f with arch := f.arch.filter fun e => e.2 / archSize != b.val }
    let s := s.setFld .FLS_ARCH_LIVE 0 0 (s.flash.arch.length % 65536)
    let s : State := { s with jrn := { s.jrn with items := s.jrn.items.filter fun i => !gone.contains i.key } }
    s.raise .fault Cause.FLASH_BANK 4 (inst := b.val)

/-- R513: a sector fails; a second failed sector fails its bank. -/
def State.sectorFail (s : State) (n : Nat) : State :=
  let s := (s.setSect n sectBad).commitRec.raise .fault Cause.FLASH_SECTOR 4 (inst := n)
  let b : Fin 2 := if bankOfSect n = 0 then 0 else 1
  let bad := (List.range 64).filter fun (k : Nat) => bankOfSect k == b.val && s.sectState k == sectBad
  if bad.length ≥ 2 then s.flashBankFail b else s

/-! ## Reads (R510, R514, R517, R519) -/

def State.poison (s : State) (a : Nat) : State :=
  (s.setFld .FLS_POISON_ADDR 0 0 a).raise .fault Cause.FLASH_POISON 4 (inst := sectOf a)

/-- A byte read from flash by an address packet of `n` bytes at `a`, with what the read does. A granule under program is
read once its program is complete. -/
def State.flashRead (s : State) (a n : Nat) : Nat × State :=
  let b := bankOfSect (sectOf a)
  let s := match s.flash.ops.head? with
    | some op => if bankOfSect op.sect = b then s.setFlag .FLS_STAT_SUSP 0 0 true else s
    | none => s
  if s.flashBankBad b then (0, s.raise .fault Cause.FLASH_DATA 4)
  else if s.sectState (sectOf a) = sectQuar then (0, s.poison a)
  else
    let (plain, s) := if imageSect (sectOf a) then (leNat (s.memBytes a n), s)
      else s.readKnown ((List.range n).map fun i => s.recordByte (a + i))
    match s.flash.ops.head? with
    | none => (plain, s)
    | some op =>
      if op.kind ≠ .program ∧ op.sect = sectOf a then (0, s.poison a)
      else match op.gran.find? fun g => g.1 == a / 16 * 16 with
        | some g => (leNat ((g.2.drop (a % 16)).take n), s)
        | none => (plain, s)

/-! ## Commands (R528) -/

def State.flashEraseErr (s : State) (n : Nat) : Option Nat :=
  if n < 64 ∧ imageSect n then if s.slotActive n then some 551 else none else some 314

/-- An item whose operation was abandoned restarts after the steward has repaired the sector (R74). -/
def State.flashItem (s : State) (k : Key) (l : List FlashOp) : State :=
  let later := s.flash.cut.contains k && l.any fun op => s.sectState op.sect == sectQuar
  if later then s.setFlash fun f => { f with wait := f.wait ++ l } else s.flashQueue l

def workFlashErase (o : Origin) (n : Nat) (s : State) : Work :=
  { permit := (s.originAuth o).brd
    chk := s.flashEraseErr n
    run := fun k s =>
      match s.flashEraseErr n with
      | some e => .fail e s
      | none => .running (s.flashItem k [⟨.erase, n, [], some k, true⟩]) }

def execFlashErase (o : Origin) (n : Nat) (s : State) : Host.Outcome State Fault Refusal :=
  .next (s.offer o (.flashErase o n) (workFlashErase o n s))

/-- The granules of `FLASH PROG`: four words each, little-endian. -/
def granulesOf (a : Nat) : List Nat → List (Nat × List Byte)
  | w0 :: w1 :: w2 :: w3 :: l =>
    (a, leBytes 4 w0 ++ leBytes 4 w1 ++ leBytes 4 w2 ++ leBytes 4 w3) :: granulesOf (a + 16) l
  | _ => []

def State.flashProgErr (s : State) (a : Nat) (ws : List Nat) : Option Nat :=
  let gs := granulesOf a ws
  if !(gs.all fun g => inFlash g.1 && inFlash (g.1 + 15) && imageSect (sectOf g.1) && imageSect (sectOf (g.1 + 15))) then
    some 314
  else if a % 16 ≠ 0 ∨ ws.any (fun w => 2 ^ 32 ≤ w) then some 511
  else if gs.any fun g => s.slotActive (sectOf g.1) then some 551
  else none

/-- One operation for each sector, the last one marked. -/
def progOps (k : Key) (gs : List (Nat × List Byte)) : List FlashOp :=
  match gs with
  | [] => []
  | g :: _ =>
    let n := sectOf g.1
    let (a, b) := gs.partition fun g => sectOf g.1 == n
    if b.isEmpty then [⟨.program, n, a, some k, true⟩]
    else [⟨.program, n, a, some k, false⟩, ⟨.program, n + 1, b, some k, true⟩]

/-- R528, R518: the granules to write. A released item skips those that hold its data with a valid marker. -/
def State.progLeft (s : State) (k : Key) (gs : List (Nat × List Byte)) : List (Nat × List Byte) :=
  if s.flash.cut.contains k then gs.filter fun g => !(s.marked g.1 && s.memBytes g.1 16 == g.2) else gs

def workFlashProg (o : Origin) (a : Nat) (ws : List Nat) (s : State) : Work :=
  { pre := if [4, 8, 12, 16].contains ws.length then none else some 109
    permit := (s.originAuth o).brd
    chk := s.flashProgErr a ws
    run := fun k s =>
      match s.flashProgErr a ws with
      | some e => .fail e s
      | none =>
        let gs := granulesOf a ws
        let wait := s.flash.cut.contains k && gs.any fun g => s.sectState (sectOf g.1) == sectQuar
        let left := s.progLeft k gs
        if wait then .running (s.setFlash fun f => { f with wait := f.wait ++ progOps k gs })
        else if left.any fun g => !s.granErased g.1 then .fail 249 s
        else if left.isEmpty then .done s
        else .running (s.flashQueue (progOps k left)) }

def execFlashProg (o : Origin) (a : Nat) (ws : List Nat) (s : State) : Host.Outcome State Fault Refusal :=
  .next (s.offer o (.flashProg o a ws) (workFlashProg o a ws s))

/-- R514: FLASH SUSPEND, and FLS_CTL.SUSPEND. -/
def State.flashSuspend (s : State) : State :=
  if s.flash.ops.isEmpty then s else (s.setFlag .FLS_STAT_SUSP 0 0 true).setFlag .FLS_STAT_XSUSP 0 0 true

/-- R514: FLASH RESUME, and FLS_CTL.RESUME. -/
def State.flashResumeOp (s : State) : State :=
  (s.setFlag .FLS_STAT_SUSP 0 0 false).setFlag .FLS_STAT_XSUSP 0 0 false

def workFlashSuspend (o : Origin) (s : State) : Work :=
  { permit := (s.originAuth o).brd, run := fun _ s => .done s.flashSuspend }

def execFlashSuspend (o : Origin) (s : State) : Host.Outcome State Fault Refusal :=
  .next (s.offer o (.flashSuspend o) (workFlashSuspend o s))

def workFlashResume (o : Origin) (s : State) : Work :=
  { permit := (s.originAuth o).brd, run := fun _ s => .done s.flashResumeOp }

def execFlashResume (o : Origin) (s : State) : Host.Outcome State Fault Refusal :=
  .next (s.offer o (.flashResume o) (workFlashResume o s))

def flashOpName (n : Nat) : String :=
  match n with
  | 0 => "NONE"
  | 1 => "ERASE"
  | 2 => "PROGRAM"
  | _ => "STEWARD"

def areaName (n : Nat) : String :=
  if n < 16 then "A" else if n < 28 then "ARCH0" else if n < 32 then "STORE0" else if n < 48 then "B"
  else if n < 60 then "ARCH1" else "STORE1"

def sectStateName (n : Nat) : String :=
  match n with
  | 0 => "ERASED"
  | 1 => "USED"
  | 2 => "QUARANTINED"
  | _ => "FAILED"

/-- What FLS_SECT and FLS_ECNT show of a sector. Which sectors of the archive and the program store the steward has
written is not given: unless quarantined or failed, their state is a free value, and so is their erase count. -/
def State.sectShown (s : State) (n : Nat) : Nat × Nat × State :=
  if imageSect n then (s.sectState n, s.fld .FLS_ECNT_ERASES n, s)
  else
    let (v, s) := s.fresh 1
    let (e, s) := s.fresh 24
    (if s.sectState n ≥ 2 then s.sectState n else v, e, s)

/-- R528: FLASH?. -/
def execFlashQuery (o : Origin) (sect : Option Nat) (s : State) : Host.Outcome State Fault Refusal :=
  .next (s.ask o none (s.originAuth o).any fun s =>
    let bank (b : Nat) : Fd := .s (if s.flashBankBad b then "FAILED" else "OK")
    let l : List Fd := [.s "FLASH", .s "BANK0", bank 0, .s "BANK1", bank 1, .s "OP",
      .s (flashOpName (s.fld .FLS_STAT_OP)), .s "SECTOR", .n (s.fld .FLS_STAT_SECT), .s "SUSP",
      .n (s.fld .FLS_STAT_SUSP), .s "QUAR", .n (s.fld .FLS_STAT_QUAR)]
    match sect with
    | none => (0, [l], s)
    | some n =>
      if n ≥ 64 then (314, [], s)
      else
        let (st, er, s) := s.sectShown n
        (0, [l, [.s "SECTOR", .n n, .s "AREA", .s (areaName n), .s "STATE", .s (sectStateName st), .s "ERASES",
          .n er]], s))

/-! ## Completion and the steward (R513, R518) -/

/-- R512, R515: an outcome's record is written, between its INTENT and its DONE. -/
def State.archiveOne (b : Fin 2) (s : State) (i : Item) : State :=
  (s.commitRec.setFlash fun f => { f with arch := f.arch ++ [(i.key, nextRec b f.arch)] }).commitRec

/-- R512: outcomes that have become done or failed are archived in the bank that has no operation in progress. -/
def State.archive (s : State) : State :=
  let busy : Option Nat := s.flash.ops.head?.map fun op => bankOfSect op.sect
  let b : Fin 2 := if s.flashBankBad 0 || busy == some 0 then 1 else 0
  let b : Fin 2 := if s.flashBankBad b then (if b = 0 then 1 else 0) else b
  if s.flashBankBad b then s
  else
    let old := s.flash.arch.filter fun e => s.jrn.items.any fun i => i.key == e.1
    let new := s.jrn.items.filter fun i =>
      (i.st == .done || i.st == .failed) && !(old.any fun e => e.1 == i.key)
    let s := new.foldl (State.archiveOne b) (s.setFlash fun f => { f with arch := old })
    s.setFld .FLS_ARCH_LIVE 0 0 (min 65535 s.flash.arch.length)

/-- Operations that waited for the repair of their sector are queued once none of them is quarantined. -/
def State.flashWaiting (s : State) : State :=
  let ready := s.flash.wait.filter fun op =>
    !(s.flash.wait.any fun o => o.key == op.key && s.sectState o.sect == sectQuar)
  let s := s.setFlash fun f => { f with wait := f.wait.filter fun op => !ready.contains op }
  /- A program item skips the granules that already hold its data (R518). -/
  let left (op : FlashOp) : FlashOp := { op with gran := match op.key with
    | some k => s.progLeft k op.gran
    | none => op.gran }
  let ops := ready.map left
  let go := ops.filter fun op => op.kind != .program || !op.gran.isEmpty
  let empty := (ops.filter fun op => op.kind == .program && op.gran.isEmpty && op.last).filterMap (·.key)
  forAllKeys (s.flashQueue go) empty go
where
  /-- An item with nothing left to write is done. -/
  forAllKeys (s : State) (l : List Key) (go : List FlashOp) : State :=
    l.foldl (fun s k => if go.any fun op => op.key == some k then s else s.workDone k) s

/-- R181: the flash operation of an append has ended. The block of one that did not verify, or was cancelled, leaves the
program. -/
def Prog.addEnded (k : Key) (ok : Bool) (g : Prog) : Prog :=
  match g.adds.find? fun e => e.1 == k with
  | none => g
  | some (_, n) =>
    let l := g.adds.filter fun e => e.1 != k
    if ok then { g with adds := l }
    else { g with blocks := g.blocks.eraseIdx n, adds := l.map fun e => (e.1, if n < e.2 then e.2 - 1 else e.2) }

def State.addEnded (s : State) (k : Key) (ok : Bool) : State := { s with progs := s.progs.map (Prog.addEnded k ok) }

/-- What a verified operation leaves in the array. -/
def State.flashApply (s : State) (op : FlashOp) : State :=
  match op.kind with
  | .erase => (s.eraseSector op.sect).setSect op.sect sectErased
  | .program => (op.gran.foldl State.writeGranule s).setSect op.sect sectUsed
  | .repair =>
    let s := op.gran.foldl State.writeGranule (s.eraseSector op.sect)
    s.setSect op.sect (if op.gran.isEmpty then sectErased else sectUsed)

/-- R547: the loader console answers `IMAGE WRITE` when its last operation has ended. -/
def State.consoleDone (s : State) (ok : Bool) : State :=
  if s.phase == .console && s.flash.ops.isEmpty then
    s.portLine 0 (if ok then .ok .none false else .er .none 435 false)
  else s

/-- R513, R515: the operation in progress completes. Verified, it commits DONE; else its sector fails, and its item with
error 435. An operation of a failed bank never verifies, since every read of the bank returns 0 (R519). -/
def execFlashOpDone (ok : Bool) (s : State) : Host.Outcome State Fault Refusal :=
  .next (match s.flash.ops with
    | [] => s
    | op :: rest =>
      if s.flag .FLS_STAT_SUSP then s
      else if ok && !s.flashBankBad (bankOfSect op.sect) then
        let s := (s.flashApply op).commitRec
        let more := rest.any fun r => r.key == op.key
        let s := s.setFlash fun f => { f with ops := rest }
        let s := match op.key with
          | some k => if more || !op.last then s
            else ((s.setFlash fun f => { f with cut := f.cut.filter (· != k) }).addEnded k true).workDone k
          | none => s
        let s := if s.fld .JRN_STAT_FILL ≥ s.fld .JRN_CFG_FILLWARN then s.archive else s
        (s.flashStart.flashWaiting).consoleDone true
      else
        let keep (r : FlashOp) : Bool := s.phase != .console && (op.key.isNone || r.key != op.key)
        let s := s.setFlash fun f => { f with ops := rest.filter keep }
        let s := s.sectorFail op.sect
        let s := match op.key with
          | some k => (s.addEnded k false).workFailed k 435
          | none => s
        (s.flashStart.flashWaiting).consoleDone false)

/-- R514: an operation that a read suspended resumes. -/
def execFlashAutoResume (s : State) : Host.Outcome State Fault Refusal :=
  .next (if s.flag .FLS_STAT_XSUSP then s else s.setFlag .FLS_STAT_SUSP 0 0 false)

/-- The granules of a sector that the steward keeps: those with their marker, unless an erase was abandoned. -/
def State.keptGranules (s : State) (n : Nat) : List (Nat × List Byte) :=
  if s.flash.lost.any fun op => op.sect == n && op.kind != .program then []
  else (s.flash.marks.filter fun m => sectOf (m * 16) == n).map fun m => (m * 16, s.memBytes (m * 16) 16)

/-- R518: an idle period: no operation has been queued or running for 10 ms. The steward repairs the quarantined sectors in ascending order and archives outcomes. -/
def execStewardIdle (s : State) : Host.Outcome State Fault Refusal :=
  .next (if !s.flash.ops.isEmpty || !(s.phase == .running) || decide (s.clk.now < s.flash.restAt + 10 * msCounts) then s
    else
      let quar := (List.range 64).filter fun (n : Nat) => s.sectState n == sectQuar && !s.flashBankBad (bankOfSect n)
      let s := s.archive
      let ops := quar.map fun (n : Nat) => (⟨.repair, n, s.keptGranules n, none, true⟩ : FlashOp)
      s.flashQueue ops)

/-! ## SRAM errors (R505 to R508) -/

/-- General page of an address, if it lies in one (R502). -/
def generalPage (a : Nat) : Option Nat :=
  let p := a / 0x4000
  if p < 80 then some p else if 128 ≤ p ∧ p < 208 then some (p - 48) else none

/-- The bank's failed mark is set and journalled, and the part goes down for the reduced layout (Table 3.4). -/
def State.sramFail (s : State) (b : Fin 2) : State :=
  let f : Fld := if b = 0 then .SYS_SRAM_FAIL0 else .SYS_SRAM_FAIL1
  if s.flag f then s
  else ((s.setFlag f 0 0 true).commitRec.raise .fault Cause.SRAM_BANK 4 (inst := b.val))

/-- R149: the copies of a ring's descriptor are found to differ, with neither in error. -/
def State.metaDiffers (s : State) (r : Fin 16) : State :=
  if s.ringMeta.contains r then s
  else ({ s with ringMeta := s.ringMeta ++ [r] } : State).raise .fault Cause.RING_META 4 (inst := r.val)

/-- R505: corrected words of a scrub. The scrub is an access to every ring's descriptor, whose copies are compared (R149). -/
def execSramScrub (seen : ScrubObs) (s : State) : Host.Outcome State Fault Refusal :=
  let s := seen.differ.foldl State.metaDiffers s
  .next (if seen.corr = 0 then s
    else (List.range (min seen.corr 65535)).foldl (fun s _ => s.raise .attn Cause.SRAM_CORR 4)
      (s.bump .SYS_SECC_CORR 0 0 seen.corr))

end Sys2Proof.Machine
end

