-- ==== Sys2Proof/Machine/Programs.lean ====
section
/-! DEFINITION. Stored programs, runs, MDI, tape and extension blocks (spec/07_part_programs.md). -/
namespace Sys2Proof.Machine
open Sys2Proof

/-! ## The program store (R180, R181, R511) -/

def State.findProg (s : State) (p : Nat) : Option Prog := s.progs.find? fun g => g.no == p

def State.modProg (s : State) (p : Nat) (f : Prog → Prog) : State :=
  { s with progs := s.progs.map fun g => if g.no = p then f g else g }

/-- Bytes of flash that a block of n characters takes, and a program (R511). -/
def blockBytes (n : Nat) : Nat := 16 * ((n + 8 + 15) / 16)

def progBytes (g : Prog) : Nat := g.blocks.foldl (fun t b => t + blockBytes b.length) 64

/-- Bytes in use in the program store of a bank. -/
def State.storeUsed (s : State) (b : Fin 2) : Nat := (s.progs.filter fun g => g.bank == b).foldl (fun t g => t + progBytes g) 0

/-- One sector of each bank's four is kept erased, so a bank holds 192 KiB of programs (R511). -/
def storeSize : Nat := 3 * 65536

/-- The bank with more free store, of those that have not failed (R519). -/
def State.freerBank (s : State) : Fin 2 :=
  if s.flashBankBad 0 then 1 else if s.flashBankBad 1 then 0 else if s.storeUsed 1 < s.storeUsed 0 then 1 else 0

/-- R71, R519: error 432 for a program whose flash bank has failed. -/
def State.storeErr (s : State) (g : Prog) : Option Nat := if s.flashBankBad g.bank then some 432 else none

/-- The sector of a bank's store that the next block goes to: the store is filled from its first sector on (log entry 56). -/
def State.storeSect (s : State) (b : Fin 2) : Nat := 28 + 32 * b.val + min 3 (s.storeUsed b / 65536)

/-- Authority for the PROG forms (R181). -/
def State.anyAuth (s : State) (o : Origin) : Bool := (s.originAuth o).any

def progPre (p : Nat) : Option Nat := if 1 ≤ p ∧ p ≤ 9999 then none else some 109

def State.progNewErr (s : State) (p : Nat) : Option Nat :=
  if (s.findProg p).isSome then some 229
  else if s.flashBankBad 0 && s.flashBankBad 1 then some 432
  else if s.progs.length ≥ 512 then some 313
  else if s.storeUsed s.freerBank + 64 > storeSize then some 312
  else none

def State.progNew (s : State) (p : Nat) (title : String) : State :=
  { s with progs := s.progs ++ [⟨p, title, [], false, s.freerBank, 0, []⟩] }

def workProgNew (o : Origin) (p : Nat) (title : String) (s : State) : Work :=
  { pre := (progPre p).or (if title.length ≤ 32 then none else some 109)
    permit := s.anyAuth o
    chk := s.progNewErr p
    run := fun _ s =>
      match s.progNewErr p with
      | some e => .fail e s
      | none => .done (s.progNew p title) }

def execProgNew (o : Origin) (p : Nat) (title : String) (s : State) : Host.Outcome State Fault Refusal :=
  .next (s.offer o (.progNew o p title) (workProgNew o p title s))

def State.progAddErr (s : State) (p : Nat) (block : String) : Option Nat :=
  match s.findProg p with
  | none => some 305
  | some g =>
    if g.closed then some 228
    else if (s.storeErr g).isSome then s.storeErr g
    else if g.blocks.length ≥ 65535 ∨ s.storeUsed g.bank + blockBytes block.length > storeSize then some 312
    else none

/-- The block takes its place behind the others, and its flash operation waits its turn. A released append that has its place
already keeps it. -/
def State.progAdd (s : State) (p : Nat) (block : String) (key : Key) : State :=
  match s.findProg p with
  | none => s
  | some g =>
    let op : FlashOp := ⟨.program, s.storeSect g.bank, [], some key, true⟩
    let s := if g.adds.any fun e => e.1 == key then s
      else s.modProg p fun g => { g with blocks := g.blocks ++ [block], adds := g.adds ++ [(key, g.blocks.length)] }
    s.flashItem key [op]

/-- R181: the append has its place, so a released one needs no room. -/
def State.progAddRunErr (s : State) (p : Nat) (block : String) (key : Key) : Option Nat :=
  match s.findProg p with
  | some g => if g.adds.any fun e => e.1 == key then s.storeErr g else s.progAddErr p block
  | none => some 305

def workProgAdd (o : Origin) (p : Nat) (block : String) (s : State) : Work :=
  { pre := (progPre p).or (blockErr block)
    permit := s.anyAuth o
    chk := s.progAddErr p block
    run := fun key s =>
      match s.progAddRunErr p block key with
      | some e => .fail e s
      | none => .running (s.progAdd p block key) }

def execProgAdd (o : Origin) (p : Nat) (block : String) (s : State) : Host.Outcome State Fault Refusal :=
  .next (s.offer o (.progAdd o p block) (workProgAdd o p block s))

def State.progEndErr (s : State) (p : Nat) : Option Nat :=
  match s.findProg p with
  | none => some 305
  | some g => if g.closed then some 228 else s.storeErr g

/-- The program is closed, and a CRC-32 over its text recorded: over the characters of its blocks, one after another, since no rule
says what stands between two blocks (DESIGN CHOICE, log entry 56). -/
def State.progEnd (s : State) (p : Nat) : State :=
  s.modProg p fun g => { g with closed := true, crc := crc32 (g.blocks.flatMap textBytes) }

def workProgEnd (o : Origin) (p : Nat) (s : State) : Work :=
  { pre := progPre p
    permit := s.anyAuth o
    chk := s.progEndErr p
    run := fun _ s =>
      match s.progEndErr p with
      | some e => .fail e s
      | none => .done (s.progEnd p) }

def execProgEnd (o : Origin) (p : Nat) (s : State) : Host.Outcome State Fault Refusal :=
  .next (s.offer o (.progEnd o p) (workProgEnd o p s))

/-- A `RUN` of the program is running or held. -/
def State.progInUse (s : State) (p : Nat) : Bool :=
  s.jrn.items.any fun i => (i.st == .running || i.st == .held) && (match i.cmd with
    | some (.run _ q _ _) => q == p
    | _ => false)

def State.progDelErr (s : State) (p : Nat) : Option Nat :=
  if (s.findProg p).isNone then some 305 else if s.progInUse p then some 225 else none

def workProgDel (o : Origin) (p : Nat) (s : State) : Work :=
  { pre := progPre p
    permit := s.anyAuth o
    chk := s.progDelErr p
    run := fun _ s =>
      match s.progDelErr p with
      | some e => .fail e s
      | none => .done { s with progs := s.progs.filter fun g => !(g.no == p) } }

def execProgDel (o : Origin) (p : Nat) (s : State) : Host.Outcome State Fault Refusal :=
  .next (s.offer o (.progDel o p) (workProgDel o p s))

def execProgQuery (o : Origin) (p frm : Option Nat) (n : Nat) (s : State) : Host.Outcome State Fault Refusal :=
  match p with
  | none =>
    .next (s.askPure o none (s.anyAuth o) fun s =>
      (0, s.progs.map fun g => [.s "PROG", .n g.no, .s "BLOCKS", .n g.blocks.length,
        .s (if g.closed then "CLOSED" else "OPEN")] ++ (if g.title.isEmpty then [] else [.s g.title])))
  | some p =>
    let f := frm.getD 1
    .next (s.askPure o ((progPre p).or (if 1 ≤ n ∧ n ≤ 32 ∧ 1 ≤ f then none else some 109)) (s.anyAuth o) fun s =>
      match s.findProg p with
      | none => (305, [])
      | some g =>
        if (s.storeErr g).isSome then (432, [])
        else if f > g.blocks.length then (306, [])
        else (0, ((g.blocks.drop (f - 1)).take n).zipIdx.map fun (b, i) => [.s "BLK", .n (f + i), .s b]))

/-! ## Blocks into the ring (R150, R187) -/

def blkRing (k : Fin 4) : Nat := 4 + k.val

/-- A block enters the station's ring, and its record the journal. -/
def State.enqueueBlock (s : State) (k : Fin 4) (b : MBlock) : State :=
  ((s.commitRec).ringPut (blkRing k) b.entries).setMot k fun m => { m with ring := m.ring ++ [b] }

/-- The position that the next block of a station starts from, in quanta by slot: the end of the last block not yet
done, or the command position at rest. -/
def State.planEnd (s : State) (k : Fin 4) : Vector Int 6 :=
  let m := s.mot[k]
  let rest : Vector Int 6 := Vector.ofFn fun (i : Fin 6) =>
    match s.slotAxis k i with
    | some a => roundHE (s.axis[a]).sp 10000
    | none => 0
  let base := if m.win.isEmpty then rest else Vector.ofFn fun (i : Fin 6) => roundHE m.start[i] 10000
  (m.win ++ m.ring).foldl (fun v b => Vector.ofFn fun (i : Fin 6) =>
    ((b.tgt.find? fun t => t.1 == i.val).map (·.2)).getD v[i]) base

/-- The modal state at a start (R172): no feed in force, and the program targets at the planned position less the
offsets in force (log entry 14). -/
def State.freshModal (s : State) (k : Fin 4) : Modal :=
  let at_ := s.planEnd k
  let m0 := startModal (s.baseInch k) at_ (Vector.replicate 6 0)
  let tgt : Vector Int 6 := Vector.ofFn fun (i : Fin 6) =>
    at_[i] * quantumU (s.slotQ k i) - (s.slotOffset k m0 i).1
  startModal (s.baseInch k) at_ tgt

/-- R182: the modal words of the blocks before FROM. -/
def modalOnly (m : Modal) (text : String) : Modal :=
  match parseBlock text with
  | .ok b => modalWords m b
  | .error _ => m

/-! ## RUN (R179, R181 to R183) -/

/-- The axes that the blocks of a text name. -/
def State.blockAxes (s : State) (k : Fin 4) (text : String) : List (Fin 12) :=
  match parseBlock text with
  | .error _ => []
  | .ok b => b.axes.filterMap fun w => (s.letterSlot k w.letter).bind fun i => s.slotAxis k i

def State.runErr (s : State) (k : Fin 4) (p frm : Nat) : Option Nat :=
  match s.findProg p with
  | none => some 305
  | some g =>
    if !g.closed then some 227
    else if (s.storeErr g).isSome then s.storeErr g
    else if frm > g.blocks.length then some 306
    else s.motionErr k (s.stnState k == stIdle && !s.motionOpen k && (s.mot[k]).reader.isNone)
      ((g.blocks.drop (frm - 1)).flatMap (s.blockAxes k))

def State.startRun (s : State) (k : Fin 4) (p frm : Nat) (key : Key) : State :=
  match s.findProg p with
  | none => s
  | some g =>
    let m := (g.blocks.take (frm - 1)).foldl modalOnly (s.freshModal k)
    s.setMot k fun x => { x with reader := some ⟨key, .run, p, frm, m, false, 0, 0, none, false⟩ }

/-- A RUN waits, pending, until its first block is converted (R183). -/
def workRun (o : Origin) (p : Nat) (k : Option (Fin 4)) (frm : Nat) (s : State) : Work :=
  let k := s.argStn o k
  { pre := (progPre p).or ((if frm ≥ 1 then none else some 109).or (s.stnErr k))
    permit := s.hasAuth o k
    stn := k
    chk := s.runErr k p frm
    run := fun key s => .running ((s.startRun k p frm key).setItem key .pending) }

def execRun (o : Origin) (p : Nat) (k : Option (Fin 4)) (frm : Nat) (s : State) : Host.Outcome State Fault Refusal :=
  .next (s.offer o (.run o p k frm) (workRun o p k frm s))

/-! ## Extension blocks (R195) -/

/-- The SRAM address of a station's extension slot. -/
def State.xslot (s : State) (k : Fin 4) : Nat := s.fld .MOT_XSLOT_ADDR k

/-- R195 steps 1 and 2: the block text goes into the slot and XREQ is set. -/
def State.requestExt (s : State) (k : Fin 4) (text : String) : State :=
  let bs := textBytes text
  let s := s.memPut (s.xslot k) (BitVec.ofNat 8 bs.length :: bs)
  (s.imgLatch k bitXREQ true).setFlag .MOT_HS_XPEND k 0 true

/-- XREQ clears. -/
def State.clearExt (s : State) (k : Fin 4) : State :=
  (s.clearXreq k).setReader k fun r => { r with ext := none }

/-! ## MDI (R184) -/

/-- The conversion of one block of the MDI stream, or of a tape. An extension block is not converted; only its operation tag is
taken (R190, R195). -/
def State.mdiConv (s : State) (k : Fin 4) (m : Modal) (key : Key) (prog blk : Nat) (text : String) : Except Nat Conv :=
  match parseBlock text with
  | .error e => .error e
  | .ok b =>
    if s.isExtension k b then
      if s.fld .MOT_PGM_XCORE k = 7 then .error 251 else .ok ⟨{ m with optag := b.optag.getD m.optag }, none, .none⟩
    else s.convert k m ⟨key, true, prog, blk, 0⟩ b

def State.textExtends (s : State) (k : Fin 4) (text : String) : Bool :=
  match parseBlock text with
  | .ok b => s.isExtension k b
  | .error _ => false

/-- `/` and BDEL: the block is skipped (R186). -/
def State.skipped (s : State) (k : Fin 4) (text : String) : Bool :=
  match parseBlock text with
  | .ok b => b.del && s.imgDev k 0x17D4
  | .error _ => false

/-- The modal state of the MDI stream brought to the planned position: another source may have moved the station. Before its first
block it is the one of a start (R172). -/
def State.mdiModal (s : State) (k : Fin 4) : Modal :=
  if (s.mot[k]).mdiCount = 0 then s.freshModal k
  else
    let m := (s.mot[k]).mdiModal
    let at_ := s.planEnd k
    { m with
      tgt := Vector.ofFn fun (i : Fin 6) =>
        if m.last[i] = at_[i] then m.tgt[i] else at_[i] * quantumU (s.slotQ k i) - (s.slotOffset k m i).1
      last := at_ }

/-- Row 4 of Table 26.1 for the axes that a converted block moves. -/
def State.blockLimits (s : State) (k : Fin 4) (c : Conv) : Option Nat :=
  if s.limitsSet ((c.block.map fun b => b.tgt.filterMap fun t => s.slotAxis k t.1).getD []) then none else some 267

/-- The state check of an MDI block: a block to be skipped is not converted (R186). -/
def State.mdiErr (s : State) (k : Fin 4) (text : String) : Option Nat :=
  match s.motionErr k ((s.mot[k]).reader.isNone || ((s.mot[k]).reader.map (·.kind)) == some .mdi) [] with
  | some e => some e
  | none =>
    if s.skipped k text then none
    else match s.mdiConv k (s.mdiModal k) ⟨0, 0, 0⟩ 0 0 text with
    | .error e => some e
    | .ok c => s.blockLimits k c

/-- R150: the ring has no room for the block. -/
def State.mdiNoRoom (s : State) (k : Fin 4) (text : String) : Bool :=
  !s.skipped k text && (match s.mdiConv k (s.mdiModal k) ⟨0, 0, 0⟩ 0 0 text with
    | .ok ⟨_, some b, _⟩ => decide (s.ringFree (blkRing k) < b.entries)
    | _ => false)

/-- The ring has no room or is held (R153), or an extension of an earlier MDI block goes on. -/
def State.mdiFull (s : State) (k : Fin 4) (text : String) : Bool :=
  s.ringHeld (blkRing k) || ((s.mot[k]).reader.bind (·.ext)).isSome || ((s.mot[k]).reader.isSome && s.textExtends k text)
    || s.mdiNoRoom k text

/-- An MDI block enters the ring; a block that moves nothing and needs no ring entry is done at once. -/
def State.startMdi (s : State) (k : Fin 4) (text : String) (key : Key) : Res :=
  if s.skipped k text then .done s
  else
    let n := (s.mot[k]).mdiCount + 1
    match s.mdiConv k (s.mdiModal k) key 0 n text with
    | .error e => .fail e s
    | .ok c =>
      let s := s.setMot k fun m => { m with mdiModal := c.modal, mdiCount := n }
      let s := (s.applySetting k c.set).modItem key fun i => { i with blk := some (0, n, 0) }
      if s.textExtends k text then
        let e : Ext := ⟨n, text, 0, true, s.clk.now, none⟩
        .running ((s.setMot k fun m => { m with reader := some ⟨key, .mdi, 0, n, c.modal, true, 0, 0, some e, true⟩ }).requestExt k text)
      else match c.block with
      | none => .done s.commitRec
      | some b => .running ((s.enqueueBlock k b).setItem key .pending)

def Res.state : Res → State
  | .done s | .running s | .fail _ s => s

/-- The MDI blocks of a station that are accepted, or on their way there, and have not begun, in the order of acceptance. -/
def State.mdiAhead (s : State) (k : Fin 4) : List (Key × String) :=
  (s.jrn.ready.filterMap fun q => (s.findItem q).bind fun i => match i.cmd with
    | some (.mdi _ t _) => if i.stn = k.val ∧ i.st = .pending then some (q, t) else none
    | _ => none)
  ++ s.jrn.queue.filterMap fun e => match e with
    | .item r _ => (match r.cmd with
      | .mdi _ t _ => if r.stn = k.val ∧ r.err = 0 then some (r.key, t) else none
      | _ => none)
    | .copy _ => none

/-- R150, R184: the state against which an MDI block is judged: those accepted before it have their places and their effect on the
modal state. -/
def State.mdiView (s : State) (k : Fin 4) : State := (s.mdiAhead k).foldl (fun t e => (t.startMdi k e.2 e.1).state) s

def workMdi (o : Origin) (block : String) (k : Option (Fin 4)) (s : State) : Work :=
  let k := s.argStn o k
  { pre := (blockErr block).or (s.stnErr k)
    permit := s.hasAuth o k
    stn := k
    chk := (s.mdiView k).mdiErr k block
    full := (s.mdiView k).mdiFull k block
    noRoom := if (s.mdiView k).mdiNoRoom k block then some (blkRing k) else none
    run := fun key s => s.startMdi k block key }

def execMdi (o : Origin) (block : String) (k : Option (Fin 4)) (s : State) : Host.Outcome State Fault Refusal :=
  .next (s.offer o (.mdi o block k) (workMdi o block k s))

/-! ## Conversion of the reader's next block (R186, R187) -/

/-- The reader stops at a block with an error (R183). -/
def State.readerStops (s : State) (k : Fin 4) (blk e : Nat) : State :=
  (s.setReader k fun r => { r with ended := true, err := e, errBlk := blk }).endReader k

/-- R183: the item runs from the conversion of its first block. -/
def State.runBegins (s : State) (key : Key) : State :=
  match s.findItem key with
  | some i => if i.st = .pending then s.setItem key .running else s
  | none => s

/-- The reader's first block is converted, so its item runs. -/
def State.readerRuns (s : State) (k : Fin 4) (key : Key) : State := (s.runBegins key).setReader k fun r => { r with begun := true }

/-- R186: the ring has no room for the block, or is held (R153). -/
def State.blockWaits (s : State) (k : Fin 4) (c : Conv) : Bool :=
  match c.block with
  | some b => decide (s.ringFree (blkRing k) < b.entries) || s.ringHeld (blkRing k)
  | none => false

/-- The converted block takes its place; an M02 or M30 block is the last one converted. -/
def State.placeBlock (s : State) (k : Fin 4) (c : Conv) : State :=
  let s := s.applySetting k c.set
  let s := s.setReader k fun r => { r with modal := c.modal, next := r.next + 1 }
  match c.block with
  | none => s.commitRec
  | some b =>
    let s := s.enqueueBlock k b
    if b.fin then s.setReader k fun r => { r with ended := true } else s

/-- R195 step 1, R190: the extension begins; of the block's own words the operation tag alone acts. -/
def State.beginExt (s : State) (k : Fin 4) (n : Nat) (text : String) (b : PBlock) (own : Option Key) : State :=
  let e : Ext := ⟨n, text, 0, true, s.clk.now, own⟩
  (s.setReader k fun r => { r with ext := some e, modal := { r.modal with optag := b.optag.getD r.modal.optag } }).requestExt k text

/-- The block that the reader of a run converts next, if its program can be read (R71, R519). -/
def State.nextText (s : State) (r : Reader) : Except Nat (Option String) :=
  match s.findProg r.prog with
  | none => .ok none
  | some g => if (s.storeErr g).isSome then .error 432 else .ok g.blocks[r.next - 1]?

/-- R183, R186, R195: the reader of station k converts its next block once the ring has room for it. -/
def execBlockConvert (k : Fin 4) (s : State) : Host.Outcome State Fault Refusal :=
  match (s.mot[k]).reader with
  | none => .next s
  | some r =>
    if r.kind ≠ .run ∨ r.ended ∨ r.ext.isSome ∨ ((s.findItem r.key).map (·.st)) = some .held then .next s
    else match s.nextText r with
    | .error e => .next (s.readerStops k r.next e)
    | .ok none => .next ((s.setReader k fun r => { r with ended := true }).endReader k)
    | .ok (some text) =>
      if s.skipped k text then .next ((s.readerRuns k r.key).setReader k fun r => { r with next := r.next + 1 })
      else match parseBlock text with
      | .error e => .next ((s.readerRuns k r.key).readerStops k r.next e)
      | .ok b =>
        if s.isExtension k b then
          if s.fld .MOT_PGM_XCORE k = 7 then .next ((s.readerRuns k r.key).readerStops k r.next 251)
          else .next ((s.readerRuns k r.key).beginExt k r.next text b none)
        else match s.convert k r.modal ⟨r.key, false, r.prog, r.next, 0⟩ b with
        | .error e => .next ((s.readerRuns k r.key).readerStops k r.next e)
        | .ok c => if s.blockWaits k c then .next s else .next ((s.readerRuns k r.key).placeBlock k c)

/-! ## The end of a tape operation (R185) -/

/-- Reading ends: the program closes, the reader of the station ends, and the tape item ends with it. -/
def State.tapeEnds (s : State) (err : Nat) : State :=
  let t := s.tape
  let s := ({ s with tape := { s.tape with want := false, item := none, toStn := none, toProg := none } } : State).tapeRun
  let s := match t.toProg with
    | some p => if err = 0 then s.progEnd p else s
    | none => s
  let s := match t.toStn with
    | some k => s.dropReader k
    | none => s
  match t.item with
  | none => s
  | some key => if err = 0 then s.workDone key else s.workFailed key err

/-! ## Writes of MOT_XCTL (R195, R199) -/

/-- R195: XCTL and XWSN answer to the core XCORE and to board cores alone. -/
def State.xctlAllowed (s : State) (c : Fin 6) (k : Fin 4) : Bool :=
  s.fld .MOT_PGM_XCORE k == c.val || s.fld .SYS_CASN_STN c == 4

/-- The refused write changes nothing and raises FAULT WRITE_DENIED. -/
def State.xctlDenied (s : State) (k : Fin 4) : State := s.raise .fault Cause.WRITE_DENIED k (det := regAddr .MOT_XCTL k 0)

/-- The replacement text that stands in bytes 256 to 511 of the slot. -/
def State.slotText (s : State) (k : Fin 4) : String :=
  bytesText (s.memBytes (s.xslot k + 257) (s.memGet (s.xslot k + 256)).toNat)

/-- A failed replacement shows in XERR. -/
def State.xerr (s : State) (k : Fin 4) (e : Nat) : State := s.setFld .MOT_HS_XERR k 0 e

/-- The error of a replacement (R195). -/
def State.replaceErr (s : State) (k : Fin 4) (r : Reader) (e : Ext) (text : String) (key : Key) : Except Nat Conv :=
  if e.subs ≥ 255 then .error 253
  else match parseBlock text with
  | .error c => .error c
  | .ok b =>
    if s.isExtension k b then .error 253
    else match s.convert k r.modal ⟨key, true, r.prog, e.blk, e.subs + 1⟩ b with
    | .error x => .error x
    | .ok c => match s.blockLimits k c with
      | some x => .error x
      | none => .ok c

/-- How the WSN of a replacement, in the series that its core keeps, is judged against what the core's source has accepted
(R64, R643). -/
def judgeCore (n : Nat) (e : Source) (k : Key) : Judged :=
  if k.ser ≠ e.ser then (if nextKey n e = k then .next else .dup)
  else if k.wsn ≤ e.last then .dup
  else if k.wsn = e.last + 1 then .next
  else .gap

/-- The replacement is accepted: it is converted in the modal state of the run and takes its place (R195 step 4). An M02 or M30
makes it the last block converted (Table 7.4). -/
def State.takeReplacement (s : State) (k : Fin 4) (r : Reader) (e : Ext) (key : Key) (cv : Conv) : State :=
  let s := (s.applySetting k cv.set).setReader k fun r =>
    { r with modal := cv.modal, ext := r.ext.map fun e => { e with subs := e.subs + 1 } }
  let s := if r.kind = .mdi then s.setMot k fun m => { m with mdiModal := cv.modal } else s
  let s := s.modItem key fun i => { i with blk := some (r.prog, e.blk, e.subs + 1) }
  match cv.block with
  | none => s.commitRec.workDone key
  | some b =>
    let s := s.enqueueBlock k b
    if b.fin then s.setReader k fun r => { r with ended := true } else s

/-- R195 step 3 and 4: a replacement block is a work item of the core's source, with the WSN of MOT_XWSN. After an M02 or M30 the
reader takes no further one. -/
def execXctlSubmit (c : Fin 6) (k : Fin 4) (s : State) : Host.Outcome State Fault Refusal :=
  if !s.xctlAllowed c k then .next (s.xctlDenied k)
  else match (s.mot[k]).reader with
  | none => .next s
  | some r =>
    match r.ext with
    | none => .next s
    | some e =>
      let text := s.slotText k
      let n := s.srcNo (.core c)
      let key : Key := ⟨n, (s.core[c]).ser, s.fld .MOT_XWSN_WSN k⟩
      if judgeCore n (s.lastOf n) key ≠ .next ∨ (r.ended ∧ r.kind ≠ .mdi) then .next s
      else
        let res := s.replaceErr k r e text key
        let full := match res with
          | .ok cv => s.blockWaits k cv
          | .error _ => false
        if !s.accepting ∨ s.commitFull text.length then .next s
        else if full then .next (if s.ringHeld (blkRing k) then s else s.ringFull (blkRing k))
        else
          let err := match res with
            | .ok _ => 0
            | .error x => x
          let s := s.accept ⟨key, .core c, .mdi (.core c) text (some k), err, k, text.length⟩
          match res with
          | .error x => .next (s.xerr k x)
          | .ok cv => .next (s.takeReplacement k r e key cv)

/-- The item of a tape block that was the extension ends with it. -/
def State.extItem (s : State) (e : Ext) (err : Nat) : State :=
  match e.own with
  | some q => if err = 0 then s.workDone q else s.workFailed q err
  | none => s

/-- R195 step 5: the extension ends and the reader goes on after the block. -/
def execXctlEnd (c : Fin 6) (k : Fin 4) (s : State) : Host.Outcome State Fault Refusal :=
  if !s.xctlAllowed c k then .next (s.xctlDenied k)
  else match (s.mot[k]).reader with
  | none => .next s
  | some r =>
    match r.ext with
    | none => .next s
    | some e =>
      let s := (((s.clearExt k).setReader k fun r => { r with next := r.next + 1 }).extItem e 0)
      .next (if r.kind = .tape ∧ r.ended then s.tapeEnds 0 else s.endReader k)

/-- R195 step 6: the block is rejected, and the item fails with ERR, or with 251. -/
def execXctlReject (c : Fin 6) (k : Fin 4) (err : Nat) (s : State) : Host.Outcome State Fault Refusal :=
  if !s.xctlAllowed c k then .next (s.xctlDenied k)
  else match (s.mot[k]).reader with
  | none => .next s
  | some r =>
    match r.ext with
    | none => .next s
    | some e =>
      let x := if err = 0 then 251 else err
      let s := (s.clearExt k).extItem e x
      .next (if r.kind = .tape then s.tapeEnds x else s.readerStops k e.blk x)

/-- R196: an extension not ended within XTMO ms stops the station, and its item is held. -/
def execExtTimeout (k : Fin 4) (s : State) : Host.Outcome State Fault Refusal :=
  match (s.mot[k]).reader.bind (·.ext) with
  | none => .next s
  | some e =>
    let t := s.fld .MOT_PGM_XTMO k
    if t = 0 ∨ !e.asked ∨ s.clk.now < e.since + t * msCounts then .next s
    else
      let s := (s.imgLatch k bitXREQ false).setReader k fun r =>
        { r with ext := r.ext.map fun e => { e with asked := false } }
      .next ((s.raise .fault Cause.EXT_TIMEOUT k).deviceStop k)

/-! ## Handshakes (R193, R194) -/

/-- R193: MFIN has not come MFT × 100 ms after the strobe. -/
def execMfinLate (k : Fin 4) (s : State) : Host.Outcome State Fault Refusal :=
  match (s.mot[k]).hand with
  | some h =>
    let t := s.fld .MOT_MFT_MFT k
    if h.step ≠ .strobed ∨ h.late ∨ t = 0 ∨ s.clk.now < h.at_ + t * 100 * msCounts then .next s
    else
      let s := s.setMot k fun m => { m with hand := some { h with late := true } }
      .next (s.raise .attn Cause.MFIN_LATE k (det := h.code))
  | none => .next s

def StnMot.strobePending (m : StnMot) : Option Hand := m.hand.filter fun h => h.step == .strobed

/-- R194: acts as MFIN set and then cleared for the pending strobe. -/
def workMfin (o : Origin) (k : Option (Fin 4)) (s : State) : Work :=
  let k := s.argStn o k
  { pre := s.stnErr k
    permit := s.hasAuth o k
    stn := k
    chk := if ((s.mot[k]).strobePending).isSome then none else some 246
    run := fun _ s =>
      match (s.mot[k]).strobePending with
      | none => .fail 246 s
      | some h => .done (((s.commitRec).clearStrobe k h).setMot k fun m => { m with hand := none }) }

def execMfin (o : Origin) (k : Option (Fin 4)) (s : State) : Host.Outcome State Fault Refusal :=
  .next (s.offer o (.mfin o k) (workMfin o k s))

/-! ## Tape (R185, R198) -/

/-- A tape operation is running or held. -/
def State.tapeBusy (s : State) : Bool :=
  match s.tape.item with
  | some k => ((s.findItem k).map Item.isOpen) == some true
  | none => false

/-- A held tape operation of the same owner, for the same station or program, is taken up again (R198). -/
def State.tapeResumes (s : State) (o : Origin) (toStn : Option (Fin 4)) (toProg : Option Nat) : Bool :=
  match s.tape.item with
  | some k => ((s.findItem k).map (·.st)) == some .held && s.ownSource o k.src && s.tape.toStn == toStn && s.tape.toProg == toProg
  | none => false

/-- Reading starts, or goes on after the copy of the last accepted block; the held item that it takes up is done. -/
def State.startTape (s : State) (o : Origin) (key : Key) (toStn : Option (Fin 4)) (toProg : Option Nat) : State :=
  let again := s.tapeResumes o toStn toProg
  let s := match s.tape.item with
    | some old => if again then (s.setItem old .running).workDone old else s
    | none => s
  ({ s with tape := { s.tape with want := true, item := some key, toStn := toStn, toProg := toProg, started := false
                                  blocked := false, drop := false, seek := again, count := if again then s.tape.count else 0
                                  last := if again then s.tape.last else "" } } : State).tapeRun

def State.tapeReadErr (s : State) (o : Origin) (p : Nat) : Option Nat :=
  if s.tapeResumes o none (some p) then none
  else if s.tapeBusy then some 245
  else s.progNewErr p

/-- R185: creates the program, and appends the tape's blocks to it. -/
def workTapeRead (o : Origin) (p : Nat) (s : State) : Work :=
  { pre := progPre p
    permit := s.anyAuth o
    chk := s.tapeReadErr o p
    run := fun key s =>
      match s.tapeReadErr o p with
      | some e => .fail e s
      | none =>
        let s := if s.tapeResumes o none (some p) then s else s.progNew p ""
        .running (s.startTape o key none (some p)) }

def execTapeRead (o : Origin) (p : Nat) (s : State) : Host.Outcome State Fault Refusal :=
  .next (s.offer o (.tapeRead o p) (workTapeRead o p s))

def State.tapeRunErr (s : State) (o : Origin) (k : Fin 4) : Option Nat :=
  if s.tapeResumes o (some k) none then none
  else if s.tapeBusy then some 245
  else s.motionErr k (s.stnState k == stIdle && !s.motionOpen k && (s.mot[k]).reader.isNone) []

/-- R198: the reader of a tape operation that is taken up again keeps its modal state. -/
def State.tapeReader (s : State) (o : Origin) (k : Fin 4) (key : Key) : Reader :=
  let m := match (s.mot[k]).reader with
    | some r => if s.tapeResumes o (some k) none then r.modal else s.freshModal k
    | none => s.freshModal k
  let ext := if s.tapeResumes o (some k) none then (s.mot[k]).reader.bind (·.ext) else none
  ⟨key, .tape, 0, (if s.tapeResumes o (some k) none then s.tape.count else 0) + 1, m, false, 0, 0, ext, false⟩

def workTapeRun (o : Origin) (k : Option (Fin 4)) (s : State) : Work :=
  let k := s.argStn o k
  { pre := s.stnErr k
    permit := s.hasAuth o k
    stn := k
    chk := s.tapeRunErr o k
    run := fun key s =>
      if !s.tapeResumes o (some k) none && s.tapeBusy then .fail 245 s
      else .running ((s.startTape o key (some k) none).setMot k fun x => { x with reader := some (s.tapeReader o k key) }) }

def execTapeRun (o : Origin) (k : Option (Fin 4)) (s : State) : Host.Outcome State Fault Refusal :=
  .next (s.offer o (.tapeRun o k) (workTapeRun o k s))

/-- R185: TAPE STOP ends reading normally. -/
def workTapeStop (o : Origin) (s : State) : Work :=
  { permit := match s.tape.toStn with
      | some k => s.hasAuth o k
      | none => s.anyAuth o
    stn := match s.tape.toStn with
      | some k => k.val
      | none => 4
    run := fun _ s => if s.tapeBusy then .done (s.tapeEnds 0) else .done s }

def execTapeStop (o : Origin) (s : State) : Host.Outcome State Fault Refusal :=
  .next (s.offer o (.tapeStop o) (workTapeStop o s))

def tapeStateName (s : State) : String :=
  if !s.tapeBusy then "IDLE"
  else match s.tape.item.bind s.findItem with
  | some i => if i.st = .held then "HELD" else "READING"
  | none => "IDLE"

/-- R185. The words for the state and the code are the model's (log entry 15). -/
def execTapeQuery (o : Origin) (s : State) : Host.Outcome State Fault Refusal :=
  .next (s.askPure o none (s.anyAuth o) fun s =>
    (0, [[.s "TAPE", .s (tapeStateName s), .s "CODE",
      .s (match s.fld .SER_TAPE_DET with
        | 1 => "ISO"
        | 2 => "EIA"
        | _ => "NONE"), .s "LAST", .n s.tape.count]]))

/-- The first whole block of the buffer, and the rest of it. -/
def firstBlock (l : List Byte) : Option (List Byte × List Byte) :=
  if l.contains 0x0A then
    let b := l.takeWhile fun c => c != 0x0A
    some (b, l.drop (b.length + 1))
  else none

/-- A block that is `%` alone. -/
def isPercent (b : List Byte) : Bool := (b.filter fun c => c != 0x20 && c != 9) == [0x25]

def textEnds (text : String) : Bool :=
  match parseBlock text with
  | .ok b => b.ms.contains 2 || b.ms.contains 30
  | .error _ => false

/-- The typed stream that the tape's blocks belong to (R115). -/
def State.tapeOrigin (s : State) : Origin := .typed ⟨s.fld .SER_TAPE_PORT % 2, by omega⟩

/-- What becomes of a tape block on a station: a block to be skipped is not converted (R186), and what it moves has its limits set
(R205). -/
def State.tapeConv (s : State) (k : Fin 4) (m : Modal) (key : Key) (n : Nat) (text : String) : Except Nat Conv :=
  if s.skipped k text then .ok ⟨m, none, .none⟩
  else match s.mdiConv k m key 0 n text with
  | .error e => .error e
  | .ok c => match s.blockLimits k c with
    | some e => .error e
    | none => .ok c

/-- The station can take the tape block up now. -/
def State.tapeRoom (s : State) (k : Fin 4) (text : String) : Bool :=
  match (s.mot[k]).reader with
  | none => true
  | some r => r.ext.isNone && !r.ended && (match s.tapeConv k r.modal ⟨0, 0, 0⟩ 0 text with
    | .ok c => !s.blockWaits k c
    | .error _ => true)

/-- A tape block of a TAPE RUN: accepted as an item of the typed stream, converted in the tape's modal state. -/
def State.tapeToStn (s : State) (k : Fin 4) (text : String) : State :=
  match (s.mot[k]).reader with
  | none => s
  | some r =>
    let n := s.tape.count + 1
    let o := s.tapeOrigin
    let key := s.candKey o
    let res := s.tapeConv k r.modal key n text
    let err := match res with
      | .ok _ => 0
      | .error x => x
    let ext := s.textExtends k text && !s.skipped k text
    let s := s.accept ⟨key, o, .mdi o text (some k), err, k, text.length⟩
    let s := { s with tape := { s.tape with count := n, last := text } }
    let s := s.modItem key fun i => { i with blk := some (0, n, 0) }
    match res with
    | .error e => s.tapeEnds e
    | .ok c =>
      let s := (s.applySetting k c.set).setReader k fun r => { r with modal := c.modal, next := n + 1 }
      let s := s.readerRuns k r.key
      if ext then
        let e : Ext := ⟨n, text, 0, true, s.clk.now, some key⟩
        (((s.setItem key .running).setReader k fun r => { r with ext := some e }).requestExt k text)
      else match c.block with
      | none => s.commitRec.workDone key
      | some b => s.enqueueBlock k b

/-- R115, R185: a tape block of a TAPE READ is an item of the typed stream, and appended. -/
def State.tapeToProg (s : State) (p : Nat) (text : String) : State :=
  let o := s.tapeOrigin
  let key := s.candKey o
  let err := s.progAddErr p text
  let s := s.accept ⟨key, o, .progAdd o p text, err.getD 0, 4, text.length⟩
  match err with
  | some e => s.tapeEnds e
  | none =>
    let s := { s with tape := { s.tape with count := s.tape.count + 1, last := text } }
    s.begin_ key (workProgAdd o p text s).run

/-- The block ends the tape (Table 7.4): M02 or M30 in a block that is converted or appended. -/
def State.tapeTextEnds (s : State) (text : String) : Bool :=
  textEnds text && (match s.tape.toStn with
    | some k => !s.skipped k text && !s.textExtends k text
    | none => true)

/-- R115: a whole block that cannot be accepted at once holds TPRUN back. -/
def State.tapeBlocked (s : State) (b : Bool) : State := ({ s with tape := { s.tape with blocked := b } } : State).tapeRun

/-- The next whole block of the buffer can be accepted. -/
def State.tapeAdmits (s : State) (text : String) : Bool :=
  s.accepting && s.jrn.queue.isEmpty && !s.commitFull text.length && (match s.tape.toStn with
    | some k => s.tapeRoom k text
    | none => true)

/-- R185, R198: a whole block that has left the buffer. -/
def State.tapeTake (s : State) (b : List Byte) : State :=
  let text := bytesText b
  if isPercent b then
    if s.tape.started then s.tapeEnds (if s.tape.seek then 247 else 0)
    else { s with tape := { s.tape with started := true } }
  else if !s.tape.started then s
  else if s.tape.seek then
    if text = s.tape.last then { s with tape := { s.tape with seek := false } }
    else if textEnds text then s.tapeEnds 247
    else s
  else match blockErr text with
  | some e => s.tapeEnds e
  | none =>
    let ends := s.tapeTextEnds text
    let s := match s.tape.toStn, s.tape.toProg with
      | some k, _ => s.tapeToStn k text
      | none, some p => s.tapeToProg p text
      | none, none => s
    if ends && s.tape.item.isSome then s.tapeEnds 0 else s

/-- R115, R185, R198: the next whole block of the buffer is taken up by the tape operation. -/
def execTapeBlockAccept (s : State) : Host.Outcome State Fault Refusal :=
  match s.tape.item, firstBlock s.tape.buf with
  | some _, some (b, rest) =>
    if !s.tape.want then .next s
    else if !s.tapeAdmits (bytesText b) then .next (s.tapeBlocked true)
    else .next ((({ s with tape := { s.tape with buf := rest } } : State).tapeBlocked false).tapeTake b)
  | _, _ => .next s

/-! ## Cancelled motion (R137, R230) -/

/-- The block belongs to the item: it is its own, or a run's or tape's reader converted it, or a core gave it for one of its
extensions. -/
def MBlock.ofItem (b : MBlock) (r : Option Reader) (key : Key) : Bool :=
  b.key == key || (match r with
    | some r => r.key == key && b.own && (r.kind == .tape || (b.sub != 0 && b.prog == r.prog))
    | none => false)

/-- A jog of a cancelled item waits no longer; one that still brakes has no item any more. -/
def AxisSt.cancelJog (x : AxisSt) (key : Key) : AxisSt :=
  { x with jog := x.jog.map fun j => if j.key = some key then { j with key := none } else j
           jogNext := x.jogNext.filter fun j => j.key != some key
           jogHeld := x.jogHeld.filter fun j => j.key != some key }

/-- The blocks of a cancelled item leave the ring and the window of a station, and the reader of a cancelled run stops. Items of
their own that these blocks have fail as cancelled (DESIGN CHOICE, log entry 56). While the station brakes its path stays as it is,
and the blocks leave when it stands (DESIGN CHOICE, log entry 57). -/
def State.cancelOn (s : State) (k : Fin 4) (key : Key) : State :=
  let m := s.mot[k]
  let mine (b : MBlock) : Bool := b.ofItem m.reader key
  let dead := (m.win ++ m.ring).filter mine
  let reads := (m.reader.map (·.key)) == some key
  let ext := (m.reader.bind (·.ext)).bind (·.own)
  if ext = some key then (s.clearExt k).setReader k fun r => { r with next := r.next + 1 }
  else if s.isBraking k || (dead.isEmpty && !reads) then s
  else
    let head := m.win.head?.any mine
    let gone := (m.ring.filter mine).foldl (fun t b => t + b.entries) 0
    let s := if gone = 0 then s else s.ringGet (blkRing k) gone
    let s := s.setMot k fun m =>
      { m with ring := m.ring.filter fun b => !mine b, win := m.win.filter fun b => !mine b }
    let s := s.setFld .MOT_LOOK_WIN k 0 ((s.mot[k]).win.length - 1)
    let s := if head then
        s.setMot k fun m =>
          { m with lam := 0, vel := 0, acc := 0, stage := .before, cut := true, start := s.measuredPos k
                   lastRec := { m.lastRec with lam := 0, vel := 0, acc := 0 }
                   hands := match m.win with
                     | [] => []
                     | n :: _ => n.handsBefore false }
      else s
    let s := if reads then s.dropReader k else s
    let own := ((dead.filter fun b => b.own && b.key != key).map (·.key)) ++ (if reads then ext.toList else [])
    forAll own s fun s q => s.workFailed q 615

/-- R137, R230: what a cancelled item had in motion goes. -/
def State.cancelBlocks (s : State) (key : Key) : State :=
  let s := forAll (List.finRange 4) s fun s k => s.cancelOn k key
  let s := forAll (List.finRange 12) s fun s a => s.setAxis a fun x => x.cancelJog key
  if s.tape.item = some key then
    ({ s with tape := { s.tape with want := false, item := none, toStn := none, toProg := none } } : State).tapeRun
  else s

/-- Blocks and a reader whose item was cancelled while the station braked. -/
def State.dropCancelled (s : State) (k : Fin 4) : State :=
  let m := s.mot[k]
  let keys := ((m.win ++ m.ring).map (·.key) ++ (m.reader.map (·.key)).toList).eraseDups
  if s.isBraking k then s
  else (keys.filter fun q => (s.findItem q).any fun i => i.st == .failed && i.err == 615).foldl (fun s q => s.cancelOn k q) s

end Sys2Proof.Machine
end

