-- ==== Sys2Proof/Machine/Outputs.lean ====
section
/-! DEFINITION. The DAC outputs and the excitation generators (spec/15_outputs_and_excitation.md). -/
namespace Sys2Proof.Machine
open Sys2Proof

/-! ## Structure of a DAC (R396, R400, R403, R418) -/

def State.dacStn (s : State) (n : Nat) : Nat := s.fld .DAC_CFG_STN n

def State.dacPermit (s : State) (o : Origin) (n : Nat) : Bool := s.hasAuth o (s.dacStn n)

/-- R400: a span change is refused while one is in progress, and for a servo-driven DAC outside IDLE. -/
def State.spanErr (s : State) (n : Nat) : Option Nat :=
  if s.flag .DAC_STAT_SPANCH n then some 278
  else match s.dacAxisStn n with
  | some k => if s.stnState k = stIdle then none else some 278
  | none => none

/-- The state check of structure changes, whatever path makes them. -/
def State.dacCfgErr (s : State) (n : Nat) (c : DacSet) : Option Nat :=
  let stn := match c.stn with
    | some t => if t ≤ 4 ∨ t = 7 then s.assignErr (s.dacStn n) t else some 511
    | none => none
  let span := match c.span with
    | some p => if p > 4 then some 511 else if p = s.fld .DAC_CFG_SPAN n then none else s.spanErr n
    | none => none
  let ldg := match c.ldg with
    | some g => if s.servoDriven n && s.fld .DAC_LDG_TRIG g.val != 0 then some 513 else none
    | none => none
  let major := match c.major with
    | some m => if 1 ≤ m ∧ m ≤ 1048575 then none else some 511
    | none => none
  (((stn.or span).or ldg).or major)

/-- R400 step 1: the change begins, and any ramp of the DAC ends. -/
def State.startSpan (s : State) (n : Fin 16) (sp : Nat) (key : Option Key) : State :=
  let old := s.fld .DAC_CFG_SPAN n
  let s := ((s.endRamp n).setFlag .DAC_STAT_SPANCH n 0 true).setFld .DAC_CFG_SPAN n 0 sp
  s.setDac n fun d => { d with spanKey := key, spanStep := 1, spanNow := old }

def State.dacApply (s : State) (n : Fin 16) (c : DacSet) : State :=
  let s := match c.stn with
    | some t => { s with tickSet := s.tickSet ++ [⟨.DAC_CFG_STN, n, 0, t⟩] }
    | none => s
  let s := match c.ldg with
    | some g => s.setFld .DAC_CFG_LDG n 0 g
    | none => s
  let s := match c.dg with
    | some b => s.setFlag .DAC_CFG_DGEN n 0 b
    | none => s
  match c.major with
  | some m => s.setFld .DAC_MAJOR_MAJOR n 0 m
  | none => s

def workDacConfig (o : Origin) (n : Fin 16) (c : DacSet) (s : State) : Work :=
  { permit := s.dacPermit o n && (c.stn.isNone || (s.originAuth o).brd)
    stn := min (s.dacStn n) 4
    chk := s.dacCfgErr n c
    run := fun key s =>
      match s.dacCfgErr n c with
      | some e => .fail e s
      | none =>
        let s' := s.dacApply n c
        match c.span with
        | some p => if p = s.fld .DAC_CFG_SPAN n then .done s' else .running (s'.startSpan n p (some key))
        | none => .done s' }

def execDacConfig (o : Origin) (n : Fin 16) (c : DacSet) (s : State) : Host.Outcome State Fault Refusal :=
  .next (s.offer o (.dacConfig o n c) (workDacConfig o n c s))

/-! ## Values and ramps (R404, R418) -/

/-- The code of a level: exact, rounded half to even, held to the code range; none outside the closed span. -/
def levelCode (sp : Nat) (v : Decimal) : Option Int :=
  let (n, f, z) := spanScale sp
  let r := decRat v
  let hi : Rat := if sp = 1 then 5 else if sp ≥ 3 then 20 else 10
  let lo : Rat := if spanBipolar sp then -hi else z
  if r < lo ∨ hi < r then none else some (spanClamp sp (roundRat ((r - z) * n / f)))

def State.dacValueErr (s : State) (n : Nat) (v : Decimal) (t : Nat) : Except Nat Int :=
  if s.servoDriven n ∨ s.flag .DAC_STAT_SPANCH n then .error 278
  else if t > 600000 then .error 511
  else match levelCode (s.fld .DAC_CFG_SPAN n) v with
  | none => .error 511
  | some c => .ok c

/-- R404: a ramp of `ticks` ticks to a code; 0 takes one tick. A replaced item is done on the next tick. -/
def State.startRamp (s : State) (n : Fin 16) (c : Int) (ticks : Nat) (key : Key) : State :=
  let s := if s.flag .DAC_HOLD_SAFE n then s.setFld .DAC_HOLD_CODE n 0 0 else s
  let s := (s.setFld .DAC_RTGT_CODE n 0 (ofSigned 20 c)).setFlag .DAC_RTGT_ACTIVE n 0 true
  (s.setFld .DAC_RTCK_TICKS n 0 (max ticks 1)).setDac n fun d =>
    { d with valueKey := some key, replaced := d.replaced ++ d.valueKey.toList }

/-- R407: a VALUE or SAFE item after the 8th retry lets the output go; before it, the retries go on, and the item's SAFE is what
a passed one leaves. -/
def State.clearRetry (s : State) (n : Fin 16) (safe : Bool) : State :=
  if s.fld .DAC_STAT_RETRY n = 8 then (s.setFlag .DAC_STAT_LATCHOFF n 0 false).setFld .DAC_STAT_RETRY n 0 0
  else s.setDac n fun d => { d with wasSafe := safe }

def workDacValue (o : Origin) (n : Fin 16) (v : Decimal) (t : Nat) (s : State) : Work :=
  { permit := s.dacPermit o n
    stn := min (s.dacStn n) 4
    chk := (sleepErr (s.dacAsleep n)).or (match s.dacValueErr n v t with
      | .error e => some e
      | .ok _ => none)
    run := fun key s =>
      match s.dacValueErr n v t with
      | .error e => .fail e s
      | .ok c => if s.dacAsleep n then .fail 287 s else .running ((s.clearRetry n false).startRamp n c (s.msTicks t) key) }

def execDacValue (o : Origin) (n : Fin 16) (v : Decimal) (t : Nat) (s : State) : Host.Outcome State Fault Refusal :=
  .next (s.offer o (.dacValue o n v t) (workDacValue o n v t s))

def State.dacSafeErr (s : State) (n : Nat) : Option Nat := if s.servoDriven n then some 278 else none

def workDacSafe (o : Origin) (n : Fin 16) (s : State) : Work :=
  { permit := s.dacPermit o n
    stn := min (s.dacStn n) 4
    chk := s.dacSafeErr n
    run := fun _ s =>
      match s.dacSafeErr n with
      | some e => .fail e s
      | none => .done (((s.clearRetry n true).endRamp n).setDac n fun d => { d with safeNext := true }) }

def execDacSafe (o : Origin) (n : Fin 16) (s : State) : Host.Outcome State Fault Refusal :=
  .next (s.offer o (.dacSafe o n) (workDacSafe o n s))

/-! ## Load groups (R401, R403) -/

/-- The DACs of a load group that a station or the board owns. -/
def State.groupDacs (s : State) (g : Nat) : List (Fin 16) :=
  (List.finRange 16).filter fun (n : Fin 16) => s.fld .DAC_CFG_LDG n == g && s.dacStn n != 7

/-- R401: authority to strobe a group. -/
def State.groupPermit (s : State) (a : Auth) (g : Nat) : Bool :=
  let l := s.groupDacs g
  if l.isEmpty then a.any else l.all fun (n : Fin 16) => a.over (s.dacStn n)

/-- R401: a command group is strobed on the next tick. -/
def State.loadGroup (s : State) (g : Nat) : State :=
  if s.fld .DAC_LDG_TRIG g = 3 then { s with loadReq := s.loadReq ||| 2 ^ g } else s

def workDacLoad (o : Origin) (g : Fin 4) (s : State) : Work :=
  { permit := s.groupPermit (s.originAuth o) g
    run := fun _ s => .done (s.loadGroup g) }

def execDacLoad (o : Origin) (g : Fin 4) (s : State) : Host.Outcome State Fault Refusal :=
  .next (s.offer o (.dacLoad o g) (workDacLoad o g s))

/-- R403: a group of a servo-driven DAC keeps TRIG TICK. -/
def State.trigErr (s : State) (g trig : Nat) : Option Nat :=
  if trig ≠ 0 ∧ ((List.finRange 16).any fun (n : Fin 16) => s.fld .DAC_CFG_LDG n == g && s.servoDriven n) then some 513
  else none

def workDacLdg (o : Origin) (g : Fin 4) (trig : Fin 4) (s : State) : Work :=
  { permit := (s.originAuth o).brd
    chk := s.trigErr g trig
    run := fun _ s =>
      match s.trigErr g trig with
      | some e => .fail e s
      | none => .done (s.setFld .DAC_LDG_TRIG g 0 trig) }

def execDacLdg (o : Origin) (g : Fin 4) (trig : Fin 4) (s : State) : Host.Outcome State Fault Refusal :=
  .next (s.offer o (.dacLdg o g trig) (workDacLdg o g trig s))

/-- R401: an edge of LDAC_IN; the first tick at least 1 µs later takes it up. -/
def execLdacEdge (rise : Bool) (s : State) : Host.Outcome State Fault Refusal :=
  if rise then .next { s with ldacRise := (s.ldacRise).or (some s.clk.now) }
  else .next { s with ldacFall := (s.ldacFall).or (some s.clk.now) }

/-! ## Query (R418) -/

def stnName (n : Nat) : String :=
  match n with
  | 4 => "BOARD"
  | 7 => "NONE"
  | n => natText n

def spanName (n : Nat) : String :=
  match n with
  | 0 => "BI10"
  | 1 => "BI5"
  | 2 => "UNI10"
  | 3 => "MA20"
  | _ => "MA4_20"

/-- An exact decimal of a rational whose denominator is a power of two. -/
def binDecimal (r : Rat) : Decimal :=
  let k := r.den.log2
  ⟨r.num < 0, r.num.natAbs * 5 ^ k, -(k : Int)⟩

def natFin16 (n : Nat) : Fin 16 := ⟨n % 16, by omega⟩

/-- The level at the output (R399): the safe value, or that of the loaded code in the span of the output stage. -/
def State.dacLevel (s : State) (n : Nat) : Rat :=
  if s.flag .DAC_OUT_SAFE n || s.flag .DAC_STAT_LATCHOFF n then 0
  else
    let sp := if s.flag .DAC_STAT_SPANCH n then (s.dac[natFin16 n]).spanNow else s.fld .DAC_CFG_SPAN n
    spanLevel sp (spanCode sp (s.fld .DAC_OUT_CODE n))

def dacFlt (s : State) (n : Nat) : String :=
  let l := (if s.flag .DAC_STAT_SHORT n then ["SHORT"] else []) ++ (if s.flag .DAC_STAT_COMPL n then ["COMPL"] else [])
    ++ (if s.flag .DAC_STAT_OPEN n then ["OPEN"] else [])
  if l.isEmpty then "NONE" else joinSp l

def dacLine (s : State) (n : Nat) : List Fd :=
  [.s ("DA" ++ natText n), .s "STN", .s (stnName (s.dacStn n)), .s "SPAN", .s (spanName (s.fld .DAC_CFG_SPAN n)),
    .s "VALUE", .d (binDecimal (s.dacLevel n)), .s "SAFE", .n (s.fld .DAC_OUT_SAFE n), .s "CLAMP",
    .n (s.fld .DAC_STAT_CLAMP n), .s "RAMP", .n (s.fld .DAC_RTCK_TICKS n), .s "FLT", .s (dacFlt s n)]

/-- R418: `DAC? [DAn]`: one DAC, or every DAC that the offerer has authority over. -/
def execDacQuery (o : Origin) (n : Option (Fin 16)) (s : State) : Host.Outcome State Fault Refusal :=
  match n with
  | some n => .next (s.askPure o none (s.dacPermit o n) fun s => (0, [dacLine s n]))
  | none =>
    .next (s.askPure o none (s.originAuth o).any fun s =>
      (0, ((List.range 16).filter fun n => s.dacPermit o n).map (dacLine s)))

/-! ## The deglitcher and wiring conditions (R405 to R407) -/

/-- 150 µs in counts, rounded up. -/
def deglitchCounts : Nat := 3687

def execDeglitchRelease (n : Fin 16) (s : State) : Host.Outcome State Fault Refusal :=
  if s.flag .DAC_STAT_DGH n ∧ (s.dac[n]).dgAt + deglitchCounts ≤ s.clk.now then
    .next (s.setFlag .DAC_STAT_DGH n 0 false)
  else .next s

/-- The station code that events of a resource carry: the board's for none (R157, R407). -/
def evStn (code : Nat) : Nat := if code < 4 then code else 4

/-- R407, Table 15.4: a short begins. -/
def State.dacShort (s : State) (n : Fin 16) : State :=
  let code := s.dacStn n
  match s.fld .DAC_CFG_POL n with
  | 0 => s
  | 1 => s.raise .fault Cause.DA_SHORT (evStn code) n.val
  | _ =>
    if code = 7 then s.raise .fault Cause.DA_SHORT 4 n.val
    else match s.dacAxisStn n with
    | some k => s.deviceTrip k Cause.DA_SHORT n.val 0
    | none =>
      let s := s.setDac n fun d => { d with wasSafe := s.flag .DAC_OUT_SAFE n, shortAt := s.clk.now }
      let s := (s.endRamp n).setFlag .DAC_OUT_SAFE n 0 true
      let s := (s.setFlag .DAC_HOLD_SAFE n 0 true).setFlag .DAC_STAT_LATCHOFF n 0 true
      (s.setFld .DAC_STAT_RETRY n 0 0).raise .fault Cause.DA_SHORT (evStn code) n.val

/-- Table 15.3: a short is detected in a voltage span, a compliance failure in a current one, and an open loop while the output
commands at least 1 V or 1 mA. -/
def State.dacDetects (s : State) (n : Fin 16) : Bool × Bool × Bool :=
  let v := decide ((if s.flag .DAC_STAT_SPANCH n then (s.dac[n]).spanNow else s.fld .DAC_CFG_SPAN n) ≤ 2)
  let l := s.dacLevel n
  (v, !v, decide (1 ≤ l) || decide (l ≤ -1))

/-- R406, R407: the conditions of a DAC as its detectors now report them. -/
def execDacCondition (n : Fin 16) (short compl isOpen : Bool) (s : State) : Host.Outcome State Fault Refusal :=
  let can := s.dacDetects n
  let short := short && can.1
  let compl := compl && can.2.1
  let isOpen := isOpen && can.2.2
  let newS := short && !s.flag .DAC_STAT_SHORT n
  let newC := compl && !s.flag .DAC_STAT_COMPL n
  let newO := isOpen && !s.flag .DAC_STAT_OPEN n
  let s := ((s.setFlag .DAC_STAT_SHORT n 0 short).setFlag .DAC_STAT_COMPL n 0 compl).setFlag .DAC_STAT_OPEN n 0 isOpen
  let s := if short then s.setFlag .DAC_STAT_SHORTSEEN n 0 true else s
  let s := if compl then s.setFlag .DAC_STAT_COMPLSEEN n 0 true else s
  let s := if isOpen then s.setFlag .DAC_STAT_OPENSEEN n 0 true else s
  let stn := evStn (s.dacStn n)
  let off := s.fld .DAC_CFG_POL n == 0
  let s := if newS then s.dacShort n else match s.dacAxisStn n with
    | some k => if short then s else s.clearTrip k Cause.DA_SHORT
    | none => s
  let s := if newC && !off then s.raise .fault Cause.DA_COMPLIANCE stn n.val else s
  .next (if newO && !off then s.raise .fault Cause.DA_OPEN stn n.val else s)

/-- R407: the output has been released for 10 ms, 1 s after the short or the retry before, and the short was or was not found
again. -/
def execDacShortRetry (n : Fin 16) (short : Bool) (s : State) : Host.Outcome State Fault Refusal :=
  let r := s.fld .DAC_STAT_RETRY n
  if !s.flag .DAC_STAT_LATCHOFF n ∨ r ≥ 8 ∨ s.clk.now < (s.dac[n]).shortAt + 1010 * msCounts then .next s
  else
    let s := (s.setFld .DAC_STAT_RETRY n 0 (r + 1)).setDac n fun d => { d with shortAt := s.clk.now }
    if !short then
      let w := (s.dac[n]).wasSafe
      let s := (s.setFlag .DAC_STAT_LATCHOFF n 0 false).setFlag .DAC_STAT_SHORT n 0 false
      .next ((s.setFlag .DAC_HOLD_SAFE n 0 w).setFlag .DAC_OUT_SAFE n 0 w)
    else if r + 1 = 8 then .next (s.raise .fault Cause.DA_SHORT (evStn (s.dacStn n)) n.val 8)
    else .next s

/-! ## The tick of the DACs -/

/-- R404: one tick of a ramp. -/
def State.rampTick (s : State) (n : Fin 16) : State :=
  if !s.flag .DAC_RTGT_ACTIVE n then s
  else
    let sp := s.fld .DAC_CFG_SPAN n
    let r := s.fld .DAC_RTCK_TICKS n
    let c := spanCode sp (s.fld .DAC_HOLD_CODE n)
    let t := spanCode sp (s.fld .DAC_RTGT_CODE n)
    let c' := if r ≤ 1 then t else c + roundHE (t - c) r
    let s := s.dacHold n c'
    if r ≤ 1 then s.endRamp n else s.setFld .DAC_RTCK_TICKS n 0 (r - 1)

/-- Table 15.2 step 3: the output stage stands in the new span, at its safe value. -/
def State.respan (s : State) (n : Fin 16) : State :=
  s.setDac n fun d => { d with spanStep := 3, spanNow := s.fld .DAC_CFG_SPAN n }

/-- Step 3 comes at most 1 ms after step 2. -/
def State.spanDue (s : State) (n : Fin 16) : State :=
  if (s.dac[n]).spanStep = 2 ∧ (s.dac[n]).spanAt + msCounts ≤ s.clk.now then s.respan n else s

/-- R400 steps 2 and 4. -/
def State.spanTick (s : State) (n : Fin 16) : State :=
  match (s.dac[n]).spanStep with
  | 1 => (s.setFlag .DAC_OUT_SAFE n 0 true).setDac n fun d => { d with spanStep := 2, spanAt := s.clk.now }
  | 3 =>
    let key := (s.dac[n]).spanKey
    let s := ((s.setFld .DAC_HOLD_CODE n 0 0).setFlag .DAC_HOLD_SAFE n 0 true).setFld .DAC_OUT_CODE n 0 0
    let s := (s.setFlag .DAC_OUT_SAFE n 0 true).setFlag .DAC_STAT_SPANCH n 0 false
    let s := s.setDac n fun d => { d with spanStep := 0, spanKey := none }
    match key with
    | some q => s.workDone q
    | none => s
  | _ => s

/-- Table 15.2 step 3. -/
def execSpanReconfigured (n : Fin 16) (s : State) : Host.Outcome State Fault Refusal :=
  .next (if (s.dac[n]).spanStep = 2 then s.respan n else s)

/-- R395, R402, R405: the output register takes the holding register. A clamp keeps SAFE. -/
def State.dacStrobe (s : State) (n : Fin 16) : State :=
  let sp := s.fld .DAC_CFG_SPAN n
  let new := s.fld .DAC_HOLD_CODE n
  let old := s.fld .DAC_OUT_CODE n
  let safe := s.flag .DAC_HOLD_SAFE n || s.flag .DAC_STAT_CLAMP n || s.dacStn n == 7 || s.flag .DAC_STAT_SPANCH n
    || s.flag .DAC_STAT_LATCHOFF n
  let gap := (spanCode sp new - spanCode sp old).natAbs
  let s := (s.setFld .DAC_OUT_CODE n 0 new).setFlag .DAC_OUT_SAFE n 0 safe
  if s.flag .DAC_CFG_DGEN n && !s.flag .DAC_STAT_DGH n && decide (s.fld .DAC_MAJOR_MAJOR n < gap) then
    (s.setFlag .DAC_STAT_DGH n 0 true).setDac n fun d => { d with dgAt := s.clk.now }
  else s

/-- R401: an edge that this tick takes up: at least 1 µs, 25 counts, old. -/
def edgeDue (at_ : Option Nat) (now : Nat) : Bool :=
  match at_ with
  | some t => decide (t + 25 ≤ now)
  | none => false

/-- R395, R401: the load strobes of a tick. -/
def State.strobeTick (s : State) : State :=
  let rise := edgeDue s.ldacRise s.clk.now
  let fall := edgeDue s.ldacFall s.clk.now
  let req := s.loadReq
  let s := { s with ldacRise := if rise then none else s.ldacRise, ldacFall := if fall then none else s.ldacFall,
                    loadReq := 0 }
  forAll (List.range 4) s fun s g =>
    let go := match s.fld .DAC_LDG_TRIG g with
      | 0 => true
      | 1 => rise
      | 2 => fall
      | _ => req / 2 ^ g % 2 == 1
    if go then
      let s := s.bumpWrap .DAC_LDG_LOADS g 0 1
      forAll ((List.finRange 16).filter fun (n : Fin 16) => s.fld .DAC_CFG_LDG n == g) s fun s n => s.dacStrobe n
    else s

/-- R404: `VALUE` items that another has replaced are done. -/
def State.replacedDone (s : State) (n : Fin 16) : State :=
  forAll (s.dac[n]).replaced (s.setDac n fun d => { d with replaced := [] }) fun s q => s.workDone q

/-- What falls on a tick for one DAC before the strobes: a hold of the deglitcher that is over (R405), replaced items, a safe
request, ramp and span change. A DAC assigned to nothing holds SAFE (R396). -/
def State.dacStep (s : State) (n : Fin 16) : State :=
  let s := if s.flag .DAC_STAT_DGH n ∧ (s.dac[n]).dgAt + deglitchCounts ≤ s.clk.now then s.setFlag .DAC_STAT_DGH n 0 false else s
  let s := s.replacedDone n
  let s := if (s.dac[n]).safeNext then (s.dacHoldSafe n).setDac n fun d => { d with safeNext := false } else s
  let s := ((s.rampTick n).spanDue n).spanTick n
  if s.dacStn n = 7 ∧ !s.flag .DAC_HOLD_SAFE n then s.dacHoldSafe n else s

/-- The DACs on a tick. Those of the board are clamped while TRIP is asserted, and released once it is clear (R408, R409). -/
def State.dacTick (s : State) : State :=
  let s := (forAll (List.finRange 16) s fun s n => s.dacStep n).strobeTick
  forAll (s.dacsOf 4) s fun s n =>
    if !s.ev.tripIn then s.releaseDac n else if s.flag .DAC_STAT_CLAMP n then s else s.clampDac n

/-! ## Excitation (R412 to R417, R419) -/

def State.excStn (s : State) (g : Nat) : Nat := s.fld .EXC_CFG_STN g
def State.excPermit (s : State) (o : Origin) (g : Nat) : Bool := s.hasAuth o (s.excStn g)

def State.setExc (s : State) (g : Fin 4) (f : ExcSt → ExcSt) : State := { s with exc := s.exc.set g (f s.exc[g]) }

/-- A tracking bandwidth in Hz (Table 14.5). -/
def trkHz (c : Nat) : Nat := 50 * 2 ^ c

/-- MODE RESOLVER of a filter chain channel. -/
def modeResolver : Nat := 4

/-- The generator that a resolver pair uses: the one its axis names, or FCH_RES.EXC where no axis uses it (R387). -/
def State.pairExc (s : State) (k : Nat) : Nat :=
  match (List.range 12).find? fun a => (s.axisStation a).isSome && s.fld .SRV_FB_KIND a == 2 && s.fld .SRV_FB_SRC a == k with
  | some a => s.fld .SRV_FB_EXC a
  | none =>
    match (List.range 12).find? fun a =>
        (s.axisStation a).isSome && s.fld .SRV_FB_KIND2 a == 2 && s.fld .SRV_FB_SRC2 a == k with
    | some a => s.fld .SRV_FB_EXC2 a
    | none => s.fld .FCH_RES_EXC k

/-- The resolver pairs: the even channels in mode RESOLVER. -/
def State.pairs (s : State) : List Nat := ([0, 2, 4, 6, 8, 10, 12, 14]).filter fun k => s.fld .FCH_CFG_MODE k == modeResolver

/-- R388: the generator of a pair is too slow for its tracking bandwidth. -/
def State.pairSlow (s : State) (k : Nat) : Bool :=
  s.fld .FCH_CFG_MODE k == modeResolver
    && decide (s.fld .EXC_INC_INC (s.pairExc k) * 6144000 < 10 * trkHz (s.fld .FCH_RES_TRK k) * 2 ^ 32)

/-- R413: the frequency of an increment lies below 10 × TRK of a pair that uses the generator. -/
def State.excTooSlow (s : State) (g inc : Nat) : Bool :=
  s.pairs.any fun k => s.pairExc k == g && decide (inc * 6144000 < 10 * trkHz (s.fld .FCH_RES_TRK k) * 2 ^ 32)

/-- The increment of a frequency in Hz, nearest, half to even. -/
def incOf (f : Decimal) : Int := roundRat (decRat f * (2 ^ 32 : Nat) / 6144000)

def incOk (i : Int) : Bool := 1398102 ≤ i && i ≤ 13981013

def State.excErr (s : State) (g : Nat) (c : ExcSet) : Option Nat :=
  let stn := match c.stn with
    | some t => if t ≤ 4 ∨ t = 7 then s.assignErr (s.excStn g) t else some 511
    | none => none
  let amp := match c.amp with
    | some a => match decTimes a 1000 with
      | some v => if 0 ≤ v ∧ v ≤ 7500 then none else some 511
      | none => some 511
    | none => none
  let f := match c.f with
    | some f => if !incOk (incOf f) then some 511 else if s.excTooSlow g (incOf f).toNat then some 513 else none
    | none => none
  let ph := match c.phase with
    | some p => if 0 ≤ decRat p ∧ decRat p < 360 then none else some 511
    | none => none
  let ar := match c.ar with
    | some v => if 1 ≤ v ∧ v ≤ 7500 then none else some 511
    | none => none
  let fr := match c.fr with
    | some v => if 1 ≤ v ∧ v ≤ 18000 then none else some 511
    | none => none
  ((((stn.or amp).or f).or ph).or ar).or fr

/-- Present values of a generator in the register's units. -/
def excAmpUnit : Nat := 24576
def excIncUnit : Nat := 24576 * 6144000
def excPhUnit : Nat := 2 ^ 34

/-- The amplitude a generator goes to: 0 V where it is assigned to nothing (R412) or its station sleeps (R575). -/
def State.excGoal (s : State) (g : Fin 4) : Nat :=
  if s.excStn g = 7 || s.excAsleep g then 0 else s.fld .EXC_AMP_AMP g * excAmpUnit

def State.excSettled (s : State) (g : Fin 4) : Bool :=
  let x := s.exc[g]
  x.amp == s.excGoal g && x.inc == s.fld .EXC_INC_INC g * excIncUnit
    && x.phase == s.fld .EXC_PHASE_PHASE g * excPhUnit

/-- R416: a new amplitude request clears OFF. -/
def State.excTarget (s : State) (g : Fin 4) (f : Fld) (v : Nat) : State :=
  let s := s.setFld f g 0 v
  let s := if f = .EXC_AMP_AMP then s.setFlag .EXC_STAT_OFF g 0 false else s
  s.setFlag .EXC_STAT_RAMPING g 0 (!s.excSettled g)

/-- R414: a new target replaces the old, whose item is done at that moment. -/
def State.excReplaced (s : State) (g : Fin 4) : State :=
  let s' := s.setExc g fun x => { x with key := none }
  match (s.exc[g]).key with
  | some q => s'.workDone q
  | none => s'

/-- R414: new targets. -/
def State.excApply (s : State) (g : Fin 4) (c : ExcSet) : State :=
  let s := match c.stn with
    | some t => { s with tickSet := s.tickSet ++ [⟨.EXC_CFG_STN, g, 0, t⟩] }
    | none => s
  let s := match c.ar with
    | some v => s.setFld .EXC_RATE_AR g 0 v
    | none => s
  let s := match c.fr with
    | some v => s.setFld .EXC_RATE_FR g 0 v
    | none => s
  let s := match c.amp.bind fun a => decTimes a 1000 with
    | some v => s.excTarget g .EXC_AMP_AMP v.toNat
    | none => s
  let s := match c.f with
    | some f => s.excTarget g .EXC_INC_INC (incOf f).toNat
    | none => s
  match c.phase with
  | some p => s.excTarget g .EXC_PHASE_PHASE ((roundRat (decRat p * 65536 / 360)).toNat % 65536)
  | none => s

def workExc (o : Origin) (g : Fin 4) (c : ExcSet) (s : State) : Work :=
  { permit := s.excPermit o g && (c.stn.isNone || (s.originAuth o).brd)
    stn := min (s.excStn g) 4
    chk := s.excErr g c
    run := fun key s =>
      match s.excErr g c with
      | some e => .fail e s
      | none =>
        let targets := c.amp.isSome || c.f.isSome || c.phase.isSome
        let s := s.excApply g c
        if !targets then .done s
        else
          let s := s.excReplaced g
          if s.excSettled g then .done s else .running (s.setExc g fun x => { x with key := some key }) }

def execExc (o : Origin) (g : Fin 4) (c : ExcSet) (s : State) : Host.Outcome State Fault Refusal :=
  .next (s.offer o (.exc o g c) (workExc o g c s))

/-- R414: every target is reached, so the item is done and RAMPING clears. -/
def execExcRampDone (g : Fin 4) (s : State) : Host.Outcome State Fault Refusal :=
  if !s.excSettled g ∨ !s.flag .EXC_STAT_RAMPING g then .next s
  else
    let key := (s.exc[g]).key
    let s := (s.setFlag .EXC_STAT_RAMPING g 0 false).setExc g fun x => { x with key := none }
    match key with
    | some q => .next (s.workDone q)
    | none => .next s

/-- A value moved toward its target by at most `step`. -/
def toward (x t step : Nat) : Nat := if x < t then min t (x + step) else max t (x - step)

/-- A phase moved toward its target the shorter way round a circle of `m`. -/
def towardRound (x t step m : Nat) : Nat :=
  let d := (t + m - x) % m
  if d ≤ step ∨ m - d ≤ step then t
  else if 2 * d ≤ m then (x + step) % m else (x + m - step) % m

/-- R412, R414: a tick of a generator: its accumulator has advanced by the increment in every fourth count, and its ramps move.
A carrier period allows 64 of 65536 cycle. -/
def State.excTick (s : State) (g : Fin 4) : State :=
  let x := s.exc[g]
  let d := s.divisor
  let amp := toward x.amp (s.excGoal g) (s.fld .EXC_RATE_AR g * d)
  let inc := toward x.inc (s.fld .EXC_INC_INC g * excIncUnit) (s.fld .EXC_RATE_FR g * d * 2 ^ 32)
  let phase := towardRound x.phase (s.fld .EXC_PHASE_PHASE g * excPhUnit) (64 * (inc / excIncUnit) * d)
    (65536 * excPhUnit)
  let s := s.setExc g fun x =>
    { x with amp := amp, inc := inc, phase := phase, acc := (x.acc + x.inc / excIncUnit * (d / 4)) % 2 ^ 32 }
  (s.setFld .EXC_NOW_AMP g 0 (amp / excAmpUnit)).setFld .EXC_NINC_INC g 0 (inc / excIncUnit)

/-! ### Tables (R415) -/

def State.tableErr (s : State) (g i : Nat) (vs : List Nat) : Option Nat :=
  if s.flag .EXC_STAT_TPEND g then some 279
  else if i + vs.length > 1024 ∨ vs.any (· > 1048575) then some 511
  else none

def workExcTable (o : Origin) (g : Fin 4) (i : Nat) (vs : List Nat) (s : State) : Work :=
  { pre := if 1 ≤ vs.length ∧ vs.length ≤ 8 ∧ i ≤ 1023 then none else some 109
    permit := s.excPermit o g
    stn := min (s.excStn g) 4
    chk := s.tableErr g i vs
    run := fun _ s =>
      match s.tableErr g i vs with
      | some e => .fail e s
      | none => .done (forAll vs.zipIdx s fun s (v, j) => s.setFld .EXC_TAB_V g (i + j) v) }

def execExcTable (o : Origin) (g : Fin 4) (i : Nat) (vs : List Nat) (s : State) : Host.Outcome State Fault Refusal :=
  .next (s.offer o (.excTable o g i vs) (workExcTable o g i vs s))

/-- R415: the shadow table takes the sine again. -/
def State.sineShadow (s : State) (g : Nat) : State :=
  let lo := regAddr .EXC_TAB g 0
  { s with regs := s.regs.filter fun e => !(lo ≤ e.1 && e.1 < lo + 4096) }

def workExcTableSine (o : Origin) (g : Fin 4) (s : State) : Work :=
  { permit := s.excPermit o g
    stn := min (s.excStn g) 4
    chk := s.tableErr g 0 []
    run := fun _ s => if s.flag .EXC_STAT_TPEND g then .fail 279 s else .done (s.sineShadow g) }

def execExcTableSine (o : Origin) (g : Fin 4) (s : State) : Host.Outcome State Fault Refusal :=
  .next (s.offer o (.excTableSine o g) (workExcTableSine o g s))

/-- R415: a swap is requested; a further request changes nothing. -/
def State.requestSwap (s : State) (g : Nat) : State := s.setFlag .EXC_STAT_TPEND g 0 true

def workExcTableSwap (o : Origin) (g : Fin 4) (s : State) : Work :=
  { permit := s.excPermit o g
    stn := min (s.excStn g) 4
    run := fun _ s => .done (s.requestSwap g) }

def execExcTableSwap (o : Origin) (g : Fin 4) (s : State) : Host.Outcome State Fault Refusal :=
  .next (s.offer o (.excTableSwap o g) (workExcTableSwap o g s))

/-- The entries of the shadow table that differ from the sine. -/
def State.shadowTab (s : State) (g : Nat) : List (Nat × Nat) :=
  let lo := regAddr .EXC_TAB g 0
  (s.regs.filter fun e => lo ≤ e.1 && e.1 < lo + 4096).map fun e => ((e.1 - lo) / 4, e.2.toNat)

/-- The phase of a generator passes 0 before the next tick. -/
def State.excPasses (s : State) (g : Fin 4) : Bool :=
  let x := s.exc[g]
  decide (2 ^ 32 ≤ x.acc + x.inc / excIncUnit * ((s.nextTick - s.clk.now) / 4))

/-- R415: the phase passes 0 with a swap pending, so the tables change places. -/
def execExcTableChange (g : Fin 4) (s : State) : Host.Outcome State Fault Refusal :=
  if !s.flag .EXC_STAT_TPEND g || !s.excPasses g then .next s
  else
    let new := s.shadowTab g
    let old := (s.exc[g]).tab
    let s := forAll old (s.sineShadow g) fun s (i, v) => s.setFld .EXC_TAB_V g i v
    let s := (s.setExc g fun x => { x with tab := new }).setFlag .EXC_STAT_TPEND g 0 false
    .next (s.setFlag .EXC_STAT_BANK g 0 (!s.flag .EXC_STAT_BANK g))

/-! ### Limiting (R416) and the query -/

def execExcShort (g : Fin 4) (on : Bool) (s : State) : Host.Outcome State Fault Refusal :=
  let was := s.flag .EXC_STAT_SHORT g
  let s := s.setFlag .EXC_STAT_SHORT g 0 on
  if on && !was then
    let s := (s.setFlag .EXC_STAT_SHORTSEEN g 0 true).setExc g fun x => { x with shortAt := s.clk.now }
    .next (s.raise .fault Cause.EXC_SHORT (evStn (s.excStn g)) g.val)
  else .next s

/-- R416: 1 s of continuous limiting. -/
def execExcOff (g : Fin 4) (s : State) : Host.Outcome State Fault Refusal :=
  if s.flag .EXC_STAT_SHORT g ∧ (s.exc[g]).shortAt + 1000 * msCounts ≤ s.clk.now ∧ !s.flag .EXC_STAT_OFF g then
    let s := (s.excTarget g .EXC_AMP_AMP 0).setFlag .EXC_STAT_OFF g 0 true
    .next (s.raise .fault Cause.EXC_OFF (evStn (s.excStn g)) g.val)
  else .next s

/-- A number of thousandths as a decimal. -/
def milli (n : Nat) : Decimal := ⟨false, n, -3⟩

def excLine (s : State) (g : Nat) : List Fd :=
  [.s ("EX" ++ natText g), .s "STN", .s (stnName (s.excStn g)), .s "AMP", .d (milli (s.fld .EXC_NOW_AMP g)), .s "TGT",
    .d (milli (s.fld .EXC_AMP_AMP g)), .s "F", .d (binDecimal ((s.fld .EXC_NINC_INC g * 6144000 : Nat) / (2 ^ 32 : Nat))),
    .s "PHASE", .d (binDecimal ((s.fld .EXC_PHASE_PHASE g * 360 : Nat) / (65536 : Rat))), .s "RAMP",
    .n (s.fld .EXC_STAT_RAMPING g), .s "SHORT", .n (s.fld .EXC_STAT_SHORT g), .s "OFF", .n (s.fld .EXC_STAT_OFF g),
    .s "BANK", .n (s.fld .EXC_STAT_BANK g)]

def execExcQuery (o : Origin) (g : Option (Fin 4)) (s : State) : Host.Outcome State Fault Refusal :=
  match g with
  | some g => .next (s.askPure o none (s.excPermit o g) fun s => (0, [excLine s g]))
  | none =>
    .next (s.askPure o none (s.originAuth o).any fun s =>
      (0, ((List.range 4).filter fun g => s.excPermit o g).map (excLine s)))

end Sys2Proof.Machine
end

