-- ==== Sys2Proof/Machine/Servo.lean ====
section
/-! DEFINITION. Servo loops, encoder receivers, compensation and feedback faults (spec/09_servo_and_feedback.md). -/
namespace Sys2Proof.Machine
open Sys2Proof

/-! ## Settings (R245 to R247, R261) -/

/-- The gains of R245. -/
def gainFlds : List Fld :=
  [.SRV_KP_KP, .SRV_KI_KI, .SRV_KVF_KVF, .SRV_KAF_KAF, .SRV_KVP_KVP, .SRV_KVI_KVI, .SRV_OUTLIM_OUTLIM,
    .SRV_OUTOFS_OUTOFS, .SRV_TACHTOL_TOL, .SRV_FEWARN_FEWARN, .SRV_FETRIP_FETRIP]

/-- Settings that are neither gains nor structure (R245). -/
def freeFlds : List Fld := [.ENC_CFG_ZARM, .SRV_FB_RESPOL, .ENC_CFG_POL]

def isGain (f : Fld) : Bool := gainFlds.contains f
def isStructure (f : Fld) : Bool := !isGain f && !freeFlds.contains f

/-- The shadow gains of an axis: what its registers hold. -/
def State.gainRegs (s : State) (a : Nat) : Gains :=
  ⟨s.fld .SRV_KP_KP a, s.fld .SRV_KI_KI a, s.fld .SRV_KVF_KVF a, s.fld .SRV_KAF_KAF a, s.fld .SRV_KVP_KVP a,
    s.fld .SRV_KVI_KVI a, s.fld .SRV_OUTLIM_OUTLIM a, s.fldInt .SRV_OUTOFS_OUTOFS a, s.fld .SRV_TACHTOL_TOL a,
    s.fld .SRV_FEWARN_FEWARN a, s.fld .SRV_FETRIP_FETRIP a⟩

/-- PEND shows a shadow set that differs from the active one. -/
def State.pendTick (s : State) (a : Fin 12) : State := s.setFlag .SRV_STAT_PEND a 0 (s.gainRegs a != (s.axis[a]).gain)

/-- R245: on the first tick after APPLY or a SERVO item, every shadow gain becomes active. -/
def State.gainTick (s : State) (a : Fin 12) : State :=
  if (s.axis[a]).apply then
    (s.setAxis a fun x => { x with gain := s.gainRegs a, apply := false }).pendTick a
  else s

/-- The field of an axis stands in its SRV registers, or in those of its main encoder receiver. -/
def fldIsEnc (f : Fld) : Bool := match f.reg with
  | .ENC_CFG => true
  | _ => false

def State.servoIdx (s : State) (f : Fld) (a : Nat) : Nat := if fldIsEnc f then s.fld .SRV_FB_SRC a else a

/-- The raw bits of a value for a field, if it lies in the field's range (R131). -/
def fldBits (f : Fld) (v : Int) : Option Nat :=
  let lo : Int := if f.sgn then -(2 ^ (f.wd - 1) : Nat) else 0
  let hi : Int := if f.sgn then (2 ^ (f.wd - 1) : Nat) - 1 else (2 ^ f.wd : Nat) - 1
  if lo ≤ v ∧ v ≤ hi ∧ inRanges f.ok v then some (ofSigned f.wd v) else none

/-- The state with the fields set, out of range ones left. -/
def State.servoSet (s : State) (a : Nat) (sets : List FieldSet) : State :=
  forAll sets s fun s e =>
    match fldBits e.fld e.val with
    | some v => s.setFld e.fld (s.servoIdx e.fld a) 0 v
    | none => s

/-- A feedback source belongs to the station (R246). -/
def State.sourceOk (s : State) (k : Fin 4) (kind src exc : Nat) : Bool :=
  match kind with
  | 0 => true
  | 1 => src ≤ 11 && s.encStn src == k.val
  | _ => src % 2 == 0 && s.fld .ADC_PCFG_STN src == k.val && s.fld .ADC_PCFG_STN (src + 1) == k.val
      && s.fld .EXC_CFG_STN exc == k.val

/-- R246, R403: the structure of an axis names only what its station owns, and a combination that may stand. -/
def State.servoComb (s : State) (k : Fin 4) (a : Nat) : Bool :=
  let driven := s.fld .SRV_MODE_MODE a != 0
  let d := s.fld .SRV_MODE_DAC a
  let kind := s.fld .SRV_FB_KIND a
  let kind2 := s.fld .SRV_FB_KIND2 a
  s.sourceOk k kind (s.fld .SRV_FB_SRC a) (s.fld .SRV_FB_EXC a)
    && s.sourceOk k kind2 (s.fld .SRV_FB_SRC2 a) (s.fld .SRV_FB_EXC2 a)
    && !(kind2 != 0 && kind2 == kind && s.fld .SRV_FB_SRC a == s.fld .SRV_FB_SRC2 a)
    && (!s.flag .SRV_TACH_EN a || (if s.flag .SRV_TACH_FAST a then
          s.fld .SRV_TACH_CH a < 8 && s.fld .ADC_FCFG_STN (s.fld .SRV_TACH_CH a) == k.val
        else s.fld .ADC_PCFG_STN (s.fld .SRV_TACH_CH a) == k.val))
    && (!driven || (s.fld .DAC_CFG_STN d == k.val && s.fld .DAC_LDG_TRIG (s.fld .DAC_CFG_LDG d) == 0
        && (List.range 12).all fun b => b == a || s.fld .SRV_MODE_MODE b == 0 || s.fld .SRV_MODE_DAC b != d))

/-- A pair of following-error limits with FETRIP below FEWARN, both non-zero (R246). -/
def State.fePairBad (s : State) (a : Nat) : Bool :=
  s.fld .SRV_FEWARN_FEWARN a != 0 && s.fld .SRV_FETRIP_FETRIP a != 0
    && decide (s.fld .SRV_FETRIP_FETRIP a < s.fld .SRV_FEWARN_FEWARN a)

/-- R245, R246: the error of a set of fields of an axis. -/
def State.servoErr (s : State) (a : Nat) (sets : List FieldSet) : Option Nat :=
  match s.axisStation a with
  | none => some 250
  | some k =>
    if sets.any fun e => (fldBits e.fld e.val).isNone then some 511
    else
      let str := sets.any fun e => isStructure e.fld && s.fld e.fld (s.servoIdx e.fld a) != (fldBits e.fld e.val).getD 0
      if str ∧ s.stnState k ≠ stIdle then some 270
      else
        let t := s.servoSet a sets
        if (sets.any fun e => isStructure e.fld && !fldIsEnc e.fld) && !t.servoComb k a then some 513
        else if t.pairs.any fun q => t.pairSlow q && !s.pairSlow q then some 513
        else if t.fePairBad a then some 513
        else none

/-- The drive goes to its safe value when its loop is switched off (Table 9.1, MODE 0). -/
def State.modeOff (s t : State) (a : Nat) : State :=
  if s.fld .SRV_MODE_MODE a ≠ 0 ∧ t.fld .SRV_MODE_MODE a = 0 then
    t.dacHoldSafe ⟨s.fld .SRV_MODE_DAC a % 16, by omega⟩
  else t

def workServo (o : Origin) (a : Nat) (sets : List FieldSet) (s : State) : Work :=
  { pre := axisPre a
    permit := s.axisPermit o a
    stn := min (s.axisCode a) 4
    chk := s.servoErr a sets
    run := fun _ s =>
      match s.servoErr a sets with
      | some e => .fail e s
      | none =>
        let t := s.modeOff (s.servoSet a sets) a
        if h : a < 12 then
          if sets.any fun e => isGain e.fld then
            .done ((t.setAxis ⟨a, h⟩ fun x => { x with apply := true }).pendTick ⟨a, h⟩)
          else .done t
        else .fail 250 s }

def execServo (o : Origin) (a : Nat) (sets : List FieldSet) (s : State) : Host.Outcome State Fault Refusal :=
  .next (s.offer o (.servo o a sets) (workServo o a sets s))

/-- R245: a write of 1 to SRV_APPLY. -/
def State.applyGains (s : State) (a : Fin 12) : State := s.setAxis a fun x => { x with apply := true }

/-- The sin/cos pair of the axis, and its generator. -/
def State.axisPair (s : State) (a : Nat) : Option (Nat × Nat) :=
  if s.fld .SRV_FB_KIND a = 2 then some (s.fld .SRV_FB_SRC a, s.fld .SRV_FB_EXC a) else none

/-- R252: RESCAL needs A from 4 % to 100 %, and a generator that does not ramp. -/
def State.rescalErr (s : State) (a : Nat) : Option Nat :=
  if (s.axisStation a).isNone then some 250
  else match s.axisPair a with
  | none => some 271
  | some (k, g) =>
    let v := s.fld .FCH_RAMP_A k
    if s.chanAsleep k then some 287
    else if v < 400 ∨ 10000 < v ∨ s.flag .EXC_STAT_RAMPING g then some 271 else none

def workServoRescal (o : Origin) (a : Nat) (s : State) : Work :=
  { pre := axisPre a
    permit := s.axisPermit o a
    stn := min (s.axisCode a) 4
    chk := s.rescalErr a
    run := fun _ s =>
      match s.rescalErr a, s.axisPair a with
      | none, some (k, g) =>
        if h : a < 12 then
          .done ((s.setFld .SRV_RESNOM_NOM a 0 (s.fld .FCH_RAMP_A k)).setAxis ⟨a, h⟩ fun x =>
            { x with ecal := s.fld .EXC_NOW_AMP g, amplTicks := 0 })
        else .fail 250 s
      | some e, _ => .fail e s
      | none, none => .fail 271 s }

def execServoRescal (o : Origin) (a : Nat) (s : State) : Host.Outcome State Fault Refusal :=
  .next (s.offer o (.servoRescal o a) (workServoRescal o a s))

/-- The names of the servo settings as `SERVO` takes and `SERVO?` gives them. -/
def servoNames : List (String × Fld) :=
  [("MODE", .SRV_MODE_MODE), ("FBPOL", .SRV_MODE_FBPOL), ("OPOL", .SRV_MODE_OPOL), ("DAC", .SRV_MODE_DAC),
    ("FB", .SRV_FB_KIND), ("SRC", .SRV_FB_SRC), ("EXC", .SRV_FB_EXC), ("KEEPREF", .SRV_FB_KEEPREF),
    ("FB2", .SRV_FB_KIND2), ("SRC2", .SRV_FB_SRC2), ("EXC2", .SRV_FB_EXC2), ("FBNUM", .SRV_FBNUM_NUM),
    ("FBDEN", .SRV_FBDEN_DEN), ("KP", .SRV_KP_KP), ("KI", .SRV_KI_KI), ("KVF", .SRV_KVF_KVF), ("KAF", .SRV_KAF_KAF),
    ("VFS", .SRV_VFS_VFS), ("OUTLIM", .SRV_OUTLIM_OUTLIM), ("OUTOFS", .SRV_OUTOFS_OUTOFS), ("KVP", .SRV_KVP_KVP),
    ("KVI", .SRV_KVI_KVI), ("CH", .SRV_TACH_CH), ("FAST", .SRV_TACH_FAST), ("EN", .SRV_TACH_EN),
    ("TACHFS", .SRV_TACHFS_TACHFS), ("TACHTOL", .SRV_TACHTOL_TOL), ("FEWARN", .SRV_FEWARN_FEWARN),
    ("FETRIP", .SRV_FETRIP_FETRIP), ("DECODE", .ENC_CFG_DECODE), ("DIR", .ENC_CFG_DIR), ("FILT", .ENC_CFG_FILT),
    ("ZEN", .ENC_CFG_ZEN)]

/-- An active gain by its field. -/
def Gains.get (g : Gains) (f : Fld) : Option Int :=
  if f = .SRV_KP_KP then some g.kp else if f = .SRV_KI_KI then some g.ki else if f = .SRV_KVF_KVF then some g.kvf
  else if f = .SRV_KAF_KAF then some g.kaf else if f = .SRV_KVP_KVP then some g.kvp
  else if f = .SRV_KVI_KVI then some g.kvi else if f = .SRV_OUTLIM_OUTLIM then some g.outlim
  else if f = .SRV_OUTOFS_OUTOFS then some g.outofs else if f = .SRV_TACHTOL_TOL then some g.tachtol
  else if f = .SRV_FEWARN_FEWARN then some g.fewarn else if f = .SRV_FETRIP_FETRIP then some g.fetrip else none

def State.fldVal (s : State) (f : Fld) (i : Nat) : Int := if f.sgn then s.fldInt f i else s.fld f i

/-- R261: `SERVO? a`. -/
def execServoQuery (o : Origin) (a : Nat) (s : State) : Host.Outcome State Fault Refusal :=
  .next (s.askPure o (axisPre a) (s.axisPermit o a) fun s =>
    if h : a < 12 then
      match s.axisStation a with
      | none => (250, [])
      | some k =>
        let x := s.axis[(⟨a, h⟩ : Fin 12)]
        let act : List Fd := servoNames.flatMap fun (n, f) =>
          [.s n, .n ((x.gain.get f).getD (s.fldVal f (s.servoIdx f a)))]
        let sh : List Fd := servoNames.flatMap fun (n, f) =>
          if isGain f then [.s n, .n (s.fldVal f (s.servoIdx f a))] else []
        (0, [[.s "SERVO", .n a] ++ act] ++ (if s.flag .SRV_STAT_PEND a then [.s "SHADOW" :: sh] else [])
          ++ [[.s "FB POS", .d (ssuDec (s.axisQ k a) x.pos), .s "FE", .d (ssuDec (s.axisQ k a) (x.sp - x.pos)), .s "STAT",
            .s (String.ofList (hexDigits 2 (s.reg .SRV_STAT a 0).toNat))]])
    else (109, []))

/-! ## Compensation (R257 to R259, R262) -/

def compNames : List (String × Fld) :=
  [("START", .SRV_CSTART_START), ("STEP", .SRV_CSTEP_STEP), ("N", .SRV_COMP_N), ("BKL", .SRV_BKL_BKL),
    ("BKLT", .SRV_COMP_BKLT), ("SCEN", .SRV_COMP_SCEN), ("BKEN", .SRV_COMP_BKEN)]

def workComp (o : Origin) (a : Nat) (sets : List FieldSet) (s : State) : Work :=
  { pre := axisPre a
    permit := s.axisPermit o a
    stn := min (s.axisCode a) 4
    chk := s.servoErr a sets
    run := fun _ s =>
      match s.servoErr a sets with
      | some e => .fail e s
      | none => .done (forAll sets (s.servoSet a sets) fun s e => s.note e.fld a 0) }

def execComp (o : Origin) (a : Nat) (sets : List FieldSet) (s : State) : Host.Outcome State Fault Refusal :=
  .next (s.offer o (.comp o a sets) (workComp o a sets s))

def State.compPtErr (s : State) (a i : Nat) (v : Int) : Option Nat :=
  match s.axisStation a with
  | none => some 250
  | some k =>
    if i ≥ s.fld .SRV_COMP_N a ∨ (fldBits .SRV_CPT_V v).isNone then some 511
    else if s.stnState k ≠ stIdle ∧ s.fldInt .SRV_CPT_V a i ≠ v then some 270
    else none

def workCompPt (o : Origin) (a i : Nat) (v : Int) (s : State) : Work :=
  { pre := axisPre a
    permit := s.axisPermit o a
    stn := min (s.axisCode a) 4
    chk := s.compPtErr a i v
    run := fun _ s =>
      match s.compPtErr a i v with
      | some e => .fail e s
      | none => .done ((s.setFldInt .SRV_CPT_V a i v).note .SRV_CPT_V a i) }

def execCompPt (o : Origin) (a i : Nat) (v : Int) (s : State) : Host.Outcome State Fault Refusal :=
  .next (s.offer o (.compPt o a i v) (workCompPt o a i v s))

def execCompQuery (o : Origin) (a : Nat) (frm n : Nat) (s : State) : Host.Outcome State Fault Refusal :=
  .next (s.askPure o ((axisPre a).or (if 1 ≤ n ∧ n ≤ 32 ∧ frm ≤ 127 then none else some 109)) (s.axisPermit o a) fun s =>
    if (s.axisStation a).isNone then (250, [])
    else
      let pts := ((List.range n).map (frm + ·)).filter fun (i : Nat) => decide (i < s.fld .SRV_COMP_N a)
      (0, ([.s "COMP", .n a] ++ compNames.flatMap fun (n, f) =>
          [.s n, if f = .SRV_COMP_SCEN ∨ f = .SRV_COMP_BKEN then .s (onOff (s.flag f a)) else .n (s.fldVal f a)])
        :: pts.map fun (i : Nat) => [.s "PT", .n i, .n (s.fldInt .SRV_CPT_V a i)]))

/-- R257: the correction of the scale table at a converted position, ssu. -/
def State.scaleCorr (s : State) (a : Nat) (p : Int) : Int :=
  if !s.flag .SRV_COMP_SCEN a || !s.flag .MOT_AXCTL_REFD a then 0
  else
    let start := s.fldInt .SRV_CSTART_START a * ssuPer
    let step : Int := s.fld .SRV_CSTEP_STEP a * ssuPer
    let n : Nat := s.fld .SRV_COMP_N a
    if p ≤ start then s.fldInt .SRV_CPT_V a 0
    else
      let i : Nat := ((p - start) / step).toNat
      if i + 1 ≥ n then s.fldInt .SRV_CPT_V a (n - 1)
      else
        let v0 := s.fldInt .SRV_CPT_V a i
        let v1 := s.fldInt .SRV_CPT_V a (i + 1)
        roundHE (v0 * step + (v1 - v0) * (p - start - i * step)) step.toNat

/-- R258: one tick of the backlash term, kept in ssu/BKLT. -/
def State.backlashTick (s : State) (a : Fin 12) : State :=
  let x := s.axis[a]
  let plus := if x.sp > x.sp1 then true else if x.sp < x.sp1 then false else x.bkPlus
  let b : Int := s.fld .SRV_BKL_BKL a
  let t : Int := if plus then b * s.fld .SRV_COMP_BKLT a else 0
  let now := if x.bkNow < t then min t (x.bkNow + b) else max t (x.bkNow - b)
  s.setAxis a fun x => { x with bkPlus := plus, bkNow := now }

def State.backlash (s : State) (a : Fin 12) : Int :=
  if s.flag .SRV_COMP_BKEN a && s.flag .MOT_AXCTL_REFD a then roundHE (s.axis[a]).bkNow (s.fld .SRV_COMP_BKLT a) else 0

/-! ## Encoder receivers (R248, R249, R256) -/

/-- The axes whose feedback in use is encoder `n`. -/
def State.encAxes (s : State) (n : Nat) : List (Fin 12) :=
  (List.finRange 12).filter fun (a : Fin 12) =>
    (s.axisStation a).isSome &&
    (if s.flag .SRV_STAT_FB2ACT a then s.fld .SRV_FB_KIND2 a == 1 && s.fld .SRV_FB_SRC2 a == n
      else s.fld .SRV_FB_KIND a == 1 && s.fld .SRV_FB_SRC a == n)

/-- R249, R256: the conditions of a receiver as now detected. The axis acts on a loss on the next tick. -/
def execEncoderCondition (n : Fin 12) (c : EncCond) (s : State) : Host.Outcome State Fault Refusal :=
  let pol := s.fld .ENC_CFG_POL n
  let stn := evStn (s.encStn n)
  let lb := if s.flag .ENC_CFG_ZEN n then c.lb.val else c.lb.val % 4
  let old := s.fld .ENC_STAT_LB n
  let s :=
    if pol = 0 then (s.setFld .ENC_STAT_LB n 0 0).setFlag .ENC_STAT_AMPL n 0 false
    else
      let ab := lb % 4 != 0 && lb % 4 != old % 4
      let z := lb ≥ 4 && old < 4
      let am := c.ampl && !s.flag .ENC_STAT_AMPL n
      let s := (s.setFld .ENC_STAT_LB n 0 lb).setFlag .ENC_STAT_AMPL n 0 c.ampl
      let s := if lb != 0 then s.setFlag .ENC_STAT_LBSEEN n 0 true else s
      let s := if ab then s.raise .fault Cause.ENC_LINE stn n.val (lb % 4) else s
      let s := if z then s.raise .attn Cause.ENC_LINE stn n.val 4 else s
      if am then s.raise .fault Cause.ENC_AMPL stn n.val else s
  if !c.illegal then .next s
  else
    let s := (s.bump .ENC_ERRS_ERRS n 0 1).setFlag .ENC_STAT_CNTERR n 0 true
    if pol = 0 then .next s
    else
      let s := s.raise .fault Cause.ENC_COUNT stn n.val
      if pol = 2 then .next (forAll (s.encAxes n) s fun s a => s.setFlag .MOT_AXCTL_REFD a 0 false) else .next s

/-- A Z break under ADAPT refuses capture (Table 9.3). -/
def State.zRefused (s : State) (n : Nat) : Bool := s.fld .ENC_CFG_POL n == 2 && s.fld .ENC_STAT_LB n ≥ 4

/-- R248: the first Z edge with ZEN and ZARM at 1. -/
def execEncoderIndexCapture (n : Fin 12) (count : Int) (s : State) : Host.Outcome State Fault Refusal :=
  if s.flag .ENC_CFG_ZEN n && s.flag .ENC_CFG_ZARM n && !s.zRefused n then
    .next (((s.setFld .ENC_ZCAP_ZCAP n 0 (ofSigned 32 count)).setFlag .ENC_CFG_ZARM n 0 false).setFlag .ENC_STAT_ZSEEN
      n 0 true)
  else .next s

/-! ## Feedback on a tick (R239, R248, R250, R255) -/

/-- The count by which a source moved since the last tick. -/
def State.sourceStep (s t : State) (kind src : Nat) : Int :=
  match kind with
  | 1 => toSigned 32 ((t.fld .ENC_CNT_CNT src + 2 ^ 32 - s.fld .ENC_CNT_CNT src) % 2 ^ 32)
  | 2 => toSigned 24 ((t.fld .FCH_ANG_ANGLE src + 2 ^ 24 - s.fld .FCH_ANG_ANGLE src) % 2 ^ 24)
  | _ => 0

/-- R239: the converted position of a count: exact, the remainder kept. -/
def State.converted (s : State) (a : Nat) (count : Int) : Int :=
  let c := if s.flag .SRV_MODE_FBPOL a then -count else count
  c * s.fld .SRV_FBNUM_NUM a / s.fld .SRV_FBDEN_DEN a

/-- The feedback in use: kind and source. -/
def State.feedback (s : State) (a : Nat) : Nat × Nat :=
  if s.flag .SRV_STAT_FB2ACT a then (s.fld .SRV_FB_KIND2 a, s.fld .SRV_FB_SRC2 a)
  else (s.fld .SRV_FB_KIND a, s.fld .SRV_FB_SRC a)

/-- A loss of the feedback in use, by its cause (R251, R253, R254, R256); 0 for none. `step` is the change of count. -/
def State.lossNow (s : State) (a : Fin 12) (step : Int) : Nat :=
  let (kind, src) := s.feedback a
  match kind with
  | 1 =>
    if s.fld .ENC_CFG_POL src ≠ 2 then 0
    else if s.fld .ENC_STAT_LB src % 4 ≠ 0 then Cause.ENC_LINE
    else if s.flag .ENC_STAT_AMPL src then Cause.ENC_AMPL
    else 0
  | 2 =>
    if s.flag .ADC_PSTAT_FAILED src || s.flag .ADC_PSTAT_FAILED (src + 1) then Cause.ADC_CHANNEL
    else if step = -(2 ^ 23 : Nat) then Cause.FB_JUMP
    else if s.fld .SRV_FB_RESPOL a = 2 ∧ !s.flag .SRV_STAT_FB2ACT a ∧ (s.axis[a]).amplTicks ≥ 5 then Cause.RES_AMPL
    else 0
  | _ => 0

/-- A tach channel marked failed is a loss of a MODE 2 axis (R254). -/
def State.tachFailed (s : State) (a : Nat) : Bool :=
  s.flag .SRV_TACH_EN a && (if s.flag .SRV_TACH_FAST a then s.flag .ADC_FSTAT_FAILED (s.fld .SRV_TACH_CH a)
    else s.flag .ADC_PSTAT_FAILED (s.fld .SRV_TACH_CH a))

/-- R255: FB2 is configured, and not yet in use. -/
def State.hasFb2 (s : State) (a : Fin 12) : Bool := s.fld .SRV_FB_KIND2 a != 0 && !s.flag .SRV_STAT_FB2ACT a

/-- R255: feedback loss: a switch to FB2, whose position is offset to go on where the other stood on the tick before, or a stop and at
most 8 ticks of extrapolation. `d` and `d2` are the steps of both counts on this tick. -/
def State.feedbackLost (s : State) (k : Fin 4) (a : Fin 12) (cause : Nat) (d d2 : Int) : State :=
  let x := s.axis[a]
  if s.hasFb2 a then
    let stood := s.converted a (x.count - d) + x.ofs
    let s := s.setAxis a fun x =>
      { x with ofs := stood - s.converted a (x.count2 - d2), count := x.count2, lossCause := 0 }
    let s := (s.setFlag .SRV_STAT_FB2ACT a 0 true).raise .fault Cause.FB_SWITCH k a.val
    s.deviceStop k
  else
    let s := s.setFlag .SRV_STAT_LOSS a 0 true
    (s.setAxis a fun x => { x with lossLeft := 8, lossCause := cause }).deviceStop k

/-- R251, R255: a jump where FB2 stands ready: the axis switches on the next tick, and on this one its position goes on at its last
velocity. -/
def State.jumpTick (s : State) (k : Fin 4) (a : Fin 12) (d v : Int) : State :=
  (s.setAxis a fun x =>
    { x with ofs := x.ofs - (s.converted a x.count - s.converted a (x.count - d)) + v, lossCause := Cause.FB_JUMP }).deviceStop k

/-- R252: A lies outside ±10 % of RESNOM × (E / E_cal)², while the generator does not ramp. -/
def State.amplBad (s : State) (a : Fin 12) (k g : Nat) : Bool :=
  let e := s.fld .EXC_NOW_AMP g
  let ec := (s.axis[a]).ecal
  let nom := s.fld .SRV_RESNOM_NOM a * e * e * 100
  let v := s.fld .FCH_RAMP_A k * ec * ec * 1000
  ec != 0 && !s.flag .EXC_STAT_RAMPING g && (decide (v < nom * 9) || decide (nom * 11 < v))

def State.amplTick (s : State) (a : Fin 12) : State :=
  match s.axisPair a with
  | none => s
  | some (k, g) =>
    if s.fld .SRV_FB_RESPOL a = 0 then s.setAxis a fun x => { x with amplTicks := 0 }
    else if s.flag .EXC_STAT_RAMPING g then s
    else if s.amplBad a k g then s.setAxis a fun x => { x with amplTicks := if x.amplTicks < 4 then x.amplTicks + 1 else x.amplTicks }
    else s.setAxis a fun x => { x with amplTicks := 0 }

/-- R239, R255, R257, R258: the measured position of an axis on a tick. `old` is the state before the tick's samples. -/
def State.measureTick (s old : State) (a : Fin 12) : State :=
  let (kind, src) := s.feedback a
  let d := old.sourceStep s kind src
  let d2 := if s.flag .SRV_STAT_FB2ACT a then 0 else old.sourceStep s (s.fld .SRV_FB_KIND2 a) (s.fld .SRV_FB_SRC2 a)
  let s := s.amplTick a
  let loss := s.lossNow a d
  let loss := if loss = 0 ∧ s.fld .SRV_MODE_MODE a = 2 ∧ s.tachFailed a then Cause.ADC_CHANNEL else loss
  let was := s.flag .SRV_STAT_LOSS a
  let s := s.setAxis a fun x => { x with count := x.count + d, count2 := x.count2 + d2, pos1 := x.pos }
  let s := s.backlashTick a
  match s.axisStation a with
  | none => s
  | some k =>
    let supervised := s.fld .SRV_MODE_MODE a != 0
    let s :=
      if loss ≠ 0 ∧ supervised then
        if was then s
        else
          let s := if loss = Cause.FB_JUMP then s.raise .fault Cause.FB_JUMP k a.val d.natAbs else s
          if loss = Cause.FB_JUMP ∧ s.hasFb2 a then s.jumpTick k a d ((s.axis[a]).pos - old.axis[a].pos1)
          else s.feedbackLost k a loss d d2
      else if supervised ∧ (s.axis[a]).lossCause ≠ 0 ∧ !was then s.feedbackLost k a Cause.FB_JUMP d d2
      else if loss = Cause.FB_JUMP then s.raise .fault Cause.FB_JUMP k a.val d.natAbs
      else if was then ((s.setFlag .SRV_STAT_LOSS a 0 false).setAxis a fun x => { x with lossCause := 0 }).clearTrip k Cause.FEEDBACK_LOSS
      else s
    let x := s.axis[a]
    if s.flag .SRV_STAT_LOSS a then
      let v := x.pos1 - old.axis[a].pos1
      s.setAxis a fun x => { x with pos := if x.lossLeft = 0 then x.pos else x.pos + v, lossLeft := x.lossLeft - 1 }
    else
      let p := s.converted a x.count + x.ofs
      s.setAxis a fun x => { x with pos := p - (s.scaleCorr a p + s.backlash a) }

/-! ## The loops (R241 to R244) -/

/-- R241: the velocity command of MODE 1 and 2 without its integral, and the integral's growth in this tick. -/
def State.velCommand (s : State) (a : Fin 12) : Rat × Rat :=
  let x := s.axis[a]
  let g := x.gain
  let e : Rat := (x.sp - x.pos : Int)
  let r := s.tickRate
  let v : Rat := (x.sp - x.sp1 : Int) * r * 60 / 10000
  let acc : Rat := (x.sp - 2 * x.sp1 + x.sp2 : Int) * r * r * 60 / 10000
  (e * g.kp * 60 / 10000000 + v * g.kvf / 10000 + acc * g.kaf / 1000000, e * g.ki * 60 / 10000000 / r)

/-- R242: f as a code of the span: with negative f taken as 0 in a unipolar one. -/
def driveCode (sp : Nat) (f : Rat) : Int :=
  if spanBipolar sp then spanClamp sp (roundRat (f * 524288))
  else spanClamp sp (roundRat ((if f < 0 then 0 else f) * 1048576))

/-- R241 to R243: one tick of an engine whose drives are on. -/
def State.loopTick (s : State) (k : Fin 4) (a : Fin 12) : State :=
  let x := s.axis[a]
  let g := x.gain
  let mode := s.fld .SRV_MODE_MODE a
  let n : Fin 16 := ⟨s.fld .SRV_MODE_DAC a % 16, by omega⟩
  let vfs : Rat := s.fld .SRV_VFS_VFS a
  let vm := s.measuredVel a
  let (vc, di) := if mode = 3 then (((s.mot[k]).spinNow : Rat), 0) else
    let (c, d) := s.velCommand a
    (c + x.integ, d)
  let inner := mode = 2 ∨ (mode = 3 ∧ s.flag .SRV_TACH_EN a)
  let err := if vfs = 0 then 0 else (vc - vm) / vfs
  let f := if vfs = 0 then 0
    else if inner then err * g.kvp / 1000 + x.integV else vc / vfs
  let lim : Rat := (g.outlim : Rat) / 100
  let sat := lim ≤ f ∨ f ≤ -lim
  let f := max (-lim) (min lim f)
  let f := f + (g.outofs : Rat) / 1000000
  let f := if s.flag .SRV_MODE_OPOL a then -f else f
  -- R254: a failed tach makes the spindle's output 0.
  let f := if mode = 3 ∧ s.tachFailed a then 0 else f
  let s := (s.dacHold n (driveCode (s.fld .DAC_CFG_SPAN n) f)).setFlag .SRV_STAT_SAT a 0 sat
  s.setAxis a fun x =>
    { x with integ := if sat then x.integ else x.integ + di
             integV := if sat ∨ !inner then x.integV else x.integV + err * g.kvi / 1000 / s.tickRate
             satTicks := if sat then (if x.satTicks < 64 then x.satTicks + 1 else x.satTicks) else 0 }

/-- R244: one tick of an engine whose drives are off. -/
def State.idleTick (s : State) (k : Fin 4) (a : Fin 12) : State :=
  let s := s.setAxis a fun x => { x with sp := x.pos, sp1 := x.pos, sp2 := x.pos, jf := 0, integ := 0, integV := 0, satTicks := 0 }
  if s.stnState k = stTripped ∨ s.fld .SRV_MODE_MODE a = 0 then s
  else s.dacHoldSafe ⟨s.fld .SRV_MODE_DAC a % 16, by omega⟩

/-- The supervised error of an axis in whole quanta, rounded down (R247); of the spindle, in 0.001 min⁻¹. -/
def State.feQuanta (s : State) (k : Fin 4) (a : Fin 12) : Nat :=
  if s.fld .SRV_MODE_MODE a = 3 then
    let d := ((s.mot[k]).spinNow : Rat) - s.measuredVel a
    (if d < 0 then -d else d).floor.toNat
  else ((s.axis[a]).sp - (s.axis[a]).pos).natAbs / 10000

/-- R226, R254: supervision of an axis on a tick with its drives on. -/
def State.superviseTick (s : State) (k : Fin 4) (a : Fin 12) : State :=
  let x := s.axis[a]
  let g := x.gain
  let q := s.feQuanta k a
  let warn := g.fewarn ≠ 0 ∧ g.fewarn < q
  let tol := g.tachtol ≠ 0 ∧ s.flag .SRV_TACH_EN a ∧ s.fld .SRV_FB_KIND a ≠ 0 ∧
    (let pv : Rat := (x.pos - x.pos1 : Int) * s.tickRate * 60 / 10000
     let d := s.measuredVel a - pv
     (g.tachtol : Rat) * s.fld .SRV_VFS_VFS a / 100 < (if d < 0 then -d else d))
  let s := s.setAxis a fun x =>
    { x with feTicks := if warn then x.feTicks + 1 else 0
             tachTicks := if tol then (if x.tachTicks < 16 then x.tachTicks + 1 else x.tachTicks) else 0 }
  if g.fetrip ≠ 0 ∧ g.fetrip < q ∧ s.stnState k ≠ stTripped then
    (s.tripStation k).raise .trip Cause.FOLLOWING_TRIP k a.val
  else s

/-- R241, R244: the servo engine of an axis on a tick. -/
def State.servoTick (s : State) (k : Fin 4) (a : Fin 12) : State :=
  let s := s.gainTick a
  let s := s.setFldInt .SRV_FE_FE a 0
    (max (-(2 ^ 31 : Nat)) (min ((2 ^ 31 : Nat) - 1) ((s.axis[a]).sp - (s.axis[a]).pos)))
  if !s.flag .MOT_STATE_DRVON k then s.idleTick k a
  else if s.fld .SRV_MODE_MODE a = 0 then s
  else (s.loopTick k a).superviseTick k a

/-! ## Events -/

/-- R243: f has stayed at its limit for 64 ticks. -/
def execOutputSat (a : Fin 12) (s : State) : Host.Outcome State Fault Refusal :=
  if (s.axis[a]).satTicks = 64 then
    .next ((s.setAxis a fun x => { x with satTicks := 65 }).raise .attn Cause.OUTPUT_SAT (evStn (s.axisCode a)) a.val)
  else .next s

/-- R252, R256: A has lain outside its range for 4 ticks; under ADAPT the next tick takes it as a loss. -/
def execResAmpl (a : Fin 12) (s : State) : Host.Outcome State Fault Refusal :=
  if (s.axis[a]).amplTicks = 4 then
    .next ((s.setAxis a fun x => { x with amplTicks := 5 }).raise .fault Cause.RES_AMPL (evStn (s.axisCode a)) a.val)
  else .next s

/-- R254: tach and position have disagreed for 16 ticks. -/
def execTachMismatch (a : Fin 12) (s : State) : Host.Outcome State Fault Refusal :=
  match s.axisStation a with
  | some k =>
    if (s.axis[a]).tachTicks = 16 then
      .next (((s.setAxis a fun x => { x with tachTicks := 17 }).raise .fault Cause.TACH_MISMATCH k a.val).deviceStop k)
    else .next s
  | none => .next s

/-- The axis is at rest: the spindle by its own velocity, any other with its station. -/
def State.axisStands (s : State) (k : Fin 4) (a : Fin 12) : Bool :=
  if s.fld .MOT_PGM_SPAX k = a.val then (s.mot[k]).spinNow == 0 else s.standsStill k

/-- R255: after the ticks of extrapolation, an axis that is not at rest trips its station. -/
def execFeedbackLoss (a : Fin 12) (s : State) : Host.Outcome State Fault Refusal :=
  match s.axisStation a with
  | some k =>
    if s.flag .SRV_STAT_LOSS a ∧ (s.axis[a]).lossLeft = 0 ∧ !s.axisStands k a ∧ s.stnState k ≠ stTripped then
      .next (s.deviceTrip k Cause.FEEDBACK_LOSS a.val 0)
    else .next s
  | none => .next s

end Sys2Proof.Machine
end

