-- ==== Sys2Proof/Machine/Reedbed.lean ====
section
/-! DEFINITION. The Reedbed analogue array, its crosspoint, and the logic fabric (spec/13_reedbed_and_fabric.md). -/
namespace Sys2Proof.Machine
open Sys2Proof

/-! ## Owners, sinks and sources (R341, R346, R347) -/

def State.rgnStn (s : State) (r : Nat) : Nat := s.fld .REB_RGN_STN r

/-- The station code of a converter channel: PA0 to PA15 are 0 to 15, FA0 to FA7 are 16 to 23 (R368). -/
def State.chanStn (s : State) (ch : Nat) : Nat :=
  if ch < 16 then s.fld .ADC_PCFG_STN ch else s.fld .ADC_FCFG_STN (ch - 16)

/-- The owner of a sink (R347). -/
def State.sinkOwner (s : State) (k : Nat) : Nat := if k < 192 then s.rgnStn (k / 24) else s.chanStn (k - 192)

def srcAgnd : Nat := 104

def State.sinkSrc (s : State) (k : Nat) : Nat := s.fld .REB_XPT_SRC k

/-- The routes that stand: pairs of sink and source. -/
def State.routes (s : State) : List (Nat × Nat) :=
  (List.range 216).filterMap fun k => if s.sinkSrc k = srcAgnd then none else some (k, s.sinkSrc k)

/-- Routes with some sinks changed; a change to AGND removes the route. -/
def changeRoutes (rts ch : List (Nat × Nat)) : List (Nat × Nat) :=
  (rts.filter fun e => !ch.any fun c => c.1 == e.1) ++ ch.filter fun c => c.2 != srcAgnd

/-- The last write of each route that waits, by sink. -/
def lastRoutes (l : List TickWrite) : List (Nat × Nat) :=
  (l.filter fun w => w.fld == .REB_XPT_SRC).foldl (fun m w => (m.filter fun e => e.1 != w.i) ++ [(w.i, w.v)]) []

/-- R346, R347: the error of a set of route changes, beside the changes that already wait for the next tick. -/
def State.routeErr (s : State) (ch : List (Nat × Nat)) : Option Nat :=
  let after := changeRoutes (changeRoutes s.routes (lastRoutes s.tickSet)) ch
  let bad (c : Nat × Nat) : Bool :=
    if c.2 < 32 then after.any fun e => e.2 == c.2 && s.sinkOwner e.1 != s.sinkOwner c.1
    else if c.2 < 96 then
      let o := s.rgnStn ((c.2 - 32) / 8)
      o != 4 && s.sinkOwner c.1 != o
    else false
  if ch.any bad then some 532
  else if ch.any fun c => c.2 != srcAgnd && decide (16 < (after.filter fun e => e.2 == c.2).length) then some 533
  else none

/-! ## Live routes (R348) -/

/-- A station that is neither HELD nor IDLE. -/
def State.activeCode (s : State) (code : Nat) : Bool :=
  if h : code < 4 then s.configured code && s.stnState ⟨code, h⟩ != stIdle && s.stnState ⟨code, h⟩ != stHeld else false

/-- Analogue cell `n` is a trip source for such a station. -/
def State.activeTripCell (s : State) (n : Nat) : Bool :=
  s.flag .REB_CMODE_TRIP n && s.fld .REB_CMODE_MODE n == 3
    && (List.range 4).any fun k => s.fld .REB_CMODE_TMASK n / 2 ^ k % 2 == 1 && s.activeCode k

/-- The sinks from which a sink of `l` is reached, following further routes; `fuel` cells deep. -/
def upstream (rts : List (Nat × Nat)) : Nat → List Nat → List Nat
  | 0, l => l
  | f + 1, l =>
    let more := rts.filterMap fun e =>
      if e.1 < 192 ∧ !l.contains e.1 ∧ (rts.any fun d => d.2 == 32 + e.1 / 3 && l.contains d.1) = true then some e.1 else none
    if more.isEmpty then l else upstream rts f (l ++ more)

/-- The sinks whose routes are live. -/
def State.liveSinks (s : State) : List Nat :=
  upstream s.routes 64 (s.routes.filterMap fun e =>
    if s.activeCode (s.sinkOwner e.1) || (decide (e.1 < 192) && s.activeTripCell (e.1 / 3)) then some e.1 else none)

/-- A route to sink `k` that a change adds, removes or moves is live: what it reaches does not depend on its source. -/
def State.sinkLive (s : State) (k : Nat) : Bool :=
  s.liveSinks.contains k || s.activeCode (s.sinkOwner k) || (decide (k < 192) && (s.activeTripCell (k / 3)
    || s.liveSinks.any fun d => s.sinkSrc d == 32 + k / 3))

/-- REB_XPT[k].LIVE on a tick. -/
def State.liveTick (s : State) : State :=
  let live := s.liveSinks
  forAll (List.range 216) s fun s k =>
    if s.flag .REB_XPT_LIVE k = live.contains k then s else s.setFlag .REB_XPT_LIVE k 0 (live.contains k)

/-! ## Disturbed channels (R379, R386) -/

def State.setChan (s : State) (c : Fin 24) (f : ChanSt → ChanSt) : State :=
  { s with conv := { s.conv with chan := s.conv.chan.set c (f s.conv.chan[c]) } }

/-- What a channel reads is disturbed: VALID reads 0 for a chain memory from now, and a settle-first conversion in progress is
discarded, so that the next one starts on the next tick. -/
def State.disturb (s : State) (c : Fin 24) : State :=
  if c.val < 16 then
    let n := c.val
    let s := (s.setFlag .ADC_PSTAT_VALID n 0 false).setChan c fun x => { x with memAt := s.clk.now }
    if s.fld .FCH_CFG_MODE n = 3 then
      (s.setFlag .ADC_PSTAT_STALE n 0 true).setChan c fun x => { x with sfAge := s.fld .FCH_SF_N n, sfGood := false }
    else s
  else s

/-- Analogue cells fed, directly or through further cells, by a cell of `l`. -/
def downstream (rts : List (Nat × Nat)) : Nat → List Nat → List Nat
  | 0, l => l
  | f + 1, l =>
    let more := (rts.filterMap fun e =>
      if e.1 < 192 ∧ 32 ≤ e.2 ∧ e.2 < 96 ∧ l.contains (e.2 - 32) ∧ !l.contains (e.1 / 3) then some (e.1 / 3) else none)
    if more.isEmpty then l else downstream rts f (l ++ more.eraseDups)

/-- The channels that cells of `l` feed. -/
def State.fedChans (s : State) (l : List Nat) : List (Fin 24) :=
  let d := downstream s.routes 64 l
  (List.finRange 24).filter fun (c : Fin 24) => s.routes.any fun e =>
    e.1 == 192 + c.val && decide (32 ≤ e.2) && d.contains (e.2 - 32)

/-- The channels that AIN pin `i` reaches through its routes (R348, R464). -/
def State.ainChans (s : State) (i : Nat) : List (Fin 24) :=
  let cells := ((s.routes.filter fun e => decide (e.1 < 192) && e.2 == i).map (·.1 / 3)).eraseDups
  let fed := s.fedChans cells
  (List.finRange 24).filter fun (c : Fin 24) => s.routes.contains (192 + c.val, i) || fed.contains c

/-- The stations of the converter channels that an AIN pin reaches (Table 5.3, R464), each once. -/
def State.ainOwners (s : State) (i : Nat) : List Nat := ((s.ainChans i).map fun (c : Fin 24) => s.chanStn c).eraseDups

/-- The one station of those channels; 7 where the pin reaches none, or those of several. -/
def State.ainStn (s : State) (i : Nat) : Nat :=
  match s.ainOwners i with
  | [k] => k
  | _ => 7

/-- Table 5.3: authority over an AIN pin: over each of those stations, or the board flag where it reaches no channel. -/
def State.ainMay (s : State) (a : Auth) (i : Nat) : Bool :=
  a.brd || (!(s.ainOwners i).isEmpty && (s.ainOwners i).all a.over)

/-- R464: under ADAPT, a present condition of an AIN pin holds VALID of the channels it reaches at 0. -/
def State.ainBlocked (s : State) (c : Nat) : Bool :=
  (List.range 32).any fun (i : Nat) => s.fld .FIO_ASTAT_COND i != 0 && s.fld .FIO_ACFG_POL i == 2
    && (s.ainChans i).any fun (e : Fin 24) => e.val == c

/-- The channels whose input changes when the routes to some sinks change. -/
def State.routedChans (s : State) (ks : List Nat) : List (Fin 24) :=
  let cells := (ks.filter (· < 192)).map (· / 3)
  (List.finRange 24).filter fun (c : Fin 24) => ks.contains (192 + c.val) || (s.fedChans cells).contains c

/-- Routes change, on a tick (R349). -/
def State.setRoutes (s : State) (ch : List (Nat × Nat)) : State :=
  let ch := ch.filter fun c => s.sinkSrc c.1 != c.2
  let s := forAll ch s fun s c => s.setFld .REB_XPT_SRC c.1 0 c.2
  forAll (s.routedChans (ch.map (·.1))) s fun s c => s.disturb c

/-! ## The logic fabric (R351 to R353) -/

def State.setRgn (s : State) (r : Fin 8) (f : RegionSt → RegionSt) : State := { s with rgn := s.rgn.set r (f s.rgn[r]) }

/-- The images in which a region's bits stand: its station's, or those that the board cores name. -/
def State.rgnImages (s : State) (r : Nat) : List (Fin 4) :=
  let o := s.rgnStn r
  if h : o < 4 then [⟨o, h⟩]
  else (List.finRange 4).filter fun (k : Fin 4) =>
    (List.finRange 6).any fun (c : Fin 6) => s.fld .SYS_CASN_STN c == 4 && s.fld .SYS_CCTL_IOSTN c == k.val

/-- A source of the fabric in region `r`, with the region's cells at `ones`. -/
def State.fabVal (s : State) (r : Nat) (ones : List (Nat × Bool)) : FabIn → Bool
  | .cell n => bitFind ones n
  | .lout n => n < 8 && s.flag .REB_CSTAT_LOUT (8 * r + n)
  | .logic n => n < 32 && (s.rgnImages r).any fun (k : Fin 4) => s.imgDev k (0x1500 + 32 * r + n)
  | .link q n => q < 8 && n < 16 && (s.rgnStn r == 4 || s.rgnStn q == s.rgnStn r) && s.fld .LGF_OUT2_LINK q / 2 ^ n % 2 == 1
  | .const b => b

/-- The lookup table of a cell. -/
def State.lut (s : State) (r : Nat) (ones : List (Nat × Bool)) (c : LogicCell) : Bool :=
  let i := (c.ins.take 4).foldr (fun x a => b2n (s.fabVal r ones x) + 2 * a) 0
  c.table / 2 ^ i % 2 == 1

/-- One pass over the cells without a register. -/
def State.fabPass (s : State) (r : Nat) (l : List LogicCell) (ones : List (Nat × Bool)) : List (Nat × Bool) :=
  l.foldl (fun o c => if c.reg then o else bitPut o c.n (s.lut r o c)) ones

def State.fabSettle (s : State) (r : Nat) (l : List LogicCell) : Nat → List (Nat × Bool) → List (Nat × Bool)
  | 0, o => o
  | f + 1, o =>
    let p := s.fabPass r l o
    if p = o then o else s.fabSettle r l f p

/-- The number that the outputs `lo` to `lo + n − 1` of a region spell. -/
def State.fabOuts (s : State) (r : Nat) (ones : List (Nat × Bool)) (outs : List (Nat × FabIn)) (lo : Nat) : Nat → Nat
  | 0 => 0
  | n + 1 =>
    b2n (match outs.find? fun e => e.1 == lo with
      | some e => s.fabVal r ones e.2
      | none => false) + 2 * s.fabOuts r ones outs (lo + 1) n

/-- A region at its hand-off values or OFF drives nothing new. -/
def State.rgnRuns (s : State) (r : Nat) : Bool := s.fld .REB_RGN_STATE r == 1

/-- The combinational paths of a region settle, and its outputs follow. -/
def State.settleRegion (s : State) (r : Fin 8) : State :=
  if !s.rgnRuns r then s
  else
    let c := (s.rgn[r]).cfg
    let o := s.fabSettle r c.logic (c.logic.length + 1) (s.rgn[r]).ones
    let s := s.setRgn r fun x => { x with ones := o }
    let s := s.setFld .LGF_OUT_FAB r 0 (s.fabOuts r o c.outs 0 32)
    let s := s.setFld .LGF_OUT2_LINK r 0 (s.fabOuts r o c.outs 32 16)
    s.setFld .LGF_OUT2_CTL r 0 (s.fabOuts r o c.outs 48 8)

/-- Every region settles; link lines need a pass for each region they cross. -/
def State.settleFabric (s : State) : State :=
  forAll (List.range 8) s fun s _ => forAll (List.finRange 8) s fun s r => s.settleRegion r

/-- One clock edge of a region's registers: each takes its lookup table's output where its enable is 1. -/
def State.clockRegion (s : State) (r : Fin 8) : Nat → State
  | 0 => s
  | n + 1 =>
    let x := s.rgn[r]
    let o := x.cfg.logic.foldl (fun o c =>
      if c.reg && (match c.en with
        | some e => s.fabVal r x.ones e
        | none => true) then bitPut o c.n (s.lut r x.ones c) else o) x.ones
    ((s.setRgn r fun x => { x with ones := o }).settleRegion r).clockRegion r n

/-- The clock edges of a region from count `p` (not included) to count `q` (R353). -/
def State.fabEdges (s : State) (r : Nat) (p q : Nat) : Nat :=
  if s.fld .LGF_CLK_SRC r = 0 then 1 else q / 2 ^ s.fld .LGF_CLK_DIV r - p / 2 ^ s.fld .LGF_CLK_DIV r

/-- R352, R353: the fabric up to a tick, and the bits it presents in the images; `p` is the count of the tick before. -/
def State.fabricTick (s : State) (p : Nat) : State :=
  let s := s.settleFabric
  let s := forAll (List.finRange 8) s fun s r =>
    if s.rgnRuns r && !(s.rgn[r]).cfg.logic.isEmpty then s.clockRegion r (s.fabEdges r p s.clk.now) else s
  let s := s.settleFabric
  forAll (List.finRange 8) s fun s r =>
    forAll (s.rgnImages r) s fun s k => s.imgLatchNum k (0x1400 + 32 * r.val) (s.fld .LGF_OUT_FAB r) 32

/-! ## Trip comparators (R350) -/

def State.tripCells (s : State) (k : Nat) : List Nat :=
  (List.range 64).filter fun n => s.flag .REB_CMODE_TRIP n && s.fld .REB_CMODE_MODE n == 3 && s.fld .REB_CMODE_TMASK n / 2 ^ k % 2 == 1

/-- R16, R44, R350: the output of a trip comparator becomes 1, and the stations of its mask trip. A comparator of a
loading region holds its contribution (R355). -/
def execTripCmp (n : Fin 64) (s : State) : Host.Outcome State Fault Refusal :=
  if s.flag .REB_CMODE_TRIP n && s.fld .REB_CMODE_MODE n == 3 && !s.flag .REB_CSTAT_FROZEN n then
    let s := s.setFlag .REB_CSTAT_LOUT n 0 true
    .next (forAll (List.finRange 4) s fun s k =>
      if s.configured k && s.fld .REB_CMODE_TMASK n / 2 ^ k.val % 2 == 1 then s.deviceTrip k Cause.TRIP_CMP n.val 0 else s)
  else .next s

/-- Table 13.1: the logic output of a cell on a tick: a comparator's and a rectifier's as `b` observes it, saturation in the
modes that show it, and the holding of a sample-and-hold cell. -/
def State.cellLout (s : State) (n : Nat) (b : Bool) : Bool :=
  match s.fld .REB_CMODE_MODE n with
  | 0 => false
  | 3 | 6 => b
  | 5 => s.fld .REB_CMODE_SUB n == 1 || s.fld .LGF_OUT2_CTL (n / 8) / 2 ^ (n % 8) % 2 == 0
  | _ => s.flag .REB_CSTAT_SAT n

/-- LOUT on a tick. A trip comparator's rise is its own event; its fall clears the condition. -/
def State.loutTick (s : State) (l : List (Fin 64 × Bool)) : State :=
  let s := forAll (List.finRange 64) s fun s (n : Fin 64) =>
    let b := s.cellLout n (match l.find? fun e => e.1 == n with
      | some e => e.2
      | none => s.flag .REB_CSTAT_LOUT n)
    if s.flag .REB_CSTAT_FROZEN n || (b && s.flag .REB_CMODE_TRIP n) || s.flag .REB_CSTAT_LOUT n == b then s
    else s.setFlag .REB_CSTAT_LOUT n 0 b
  forAll (List.finRange 4) s fun s k =>
    if (s.mot[k]).trips.contains Cause.TRIP_CMP && !(s.tripCells k).any fun n => s.flag .REB_CSTAT_LOUT n then
      s.clearTrip k Cause.TRIP_CMP
    else s

/-- R344: an output saturates, or leaves saturation. -/
def execCellSat (n : Fin 64) (sat : Bool) (s : State) : Host.Outcome State Fault Refusal :=
  let was := s.flag .REB_CSTAT_SAT n
  let s := s.setFlag .REB_CSTAT_SAT n 0 sat
  .next (if sat && !was then s.raise .attn Cause.CELL_SAT (evStn (s.rgnStn (n.val / 8))) n.val else s)

/-! ## Region loads (R354 to R361) -/

def maskList (m : Nat) : List Nat := (List.range 8).filter fun r => m / 2 ^ r % 2 == 1

/-- A region is loading. -/
def State.rgnLoading (s : State) (r : Nat) : Bool := s.loads.any fun l => l.cfg.any fun e => e.1 == r

/-- A sink of a loading region, or one that a load changes (R360). -/
def State.sinkLocked (s : State) (k : Nat) : Bool :=
  (decide (k < 192) && s.rgnLoading (k / 24)) || s.loads.any fun l => l.newRoutes.any fun e => e.1 == k

/-- The route changes an image makes. -/
def State.imageRoutes (s : State) (cfg : List (Nat × RegionCfg)) : List (Nat × Nat) :=
  (cfg.flatMap fun e => e.2.routes).filter fun c => s.sinkSrc c.1 != c.2

/-- R350: a trip designation that its region may not carry. -/
def State.tripMaskBad (s : State) (cfg : List (Nat × RegionCfg)) : Bool :=
  cfg.any fun (r, c) => c.cells.any fun x =>
    x.trip && decide (s.rgnStn r < 4) && (List.range 4).any fun k => x.tmask / 2 ^ k % 2 == 1 && k != s.rgnStn r

/-- The conditions of error 531 of R354. `tripsOf` gives a region's designations after the load. -/
def State.loadLive (s : State) (cfg : List (Nat × RegionCfg)) (ch : List (Nat × Nat)) : Bool :=
  let inMask (n : Nat) : Bool := cfg.any fun e => e.1 == n / 8
  let after := cfg.any fun e => e.2.cells.any fun x =>
    x.trip && x.mode == 3 && (List.range 4).any fun k => x.tmask / 2 ^ k % 2 == 1 && s.activeCode k
  let before := (List.range 64).any fun n => inMask n && s.activeTripCell n
  let rts := s.routes
  let trip := upstream rts 64 (rts.filterMap fun e =>
    if e.1 < 192 && !inMask (e.1 / 3) && s.activeTripCell (e.1 / 3) then some e.1 else none)
  (ch.any fun c => s.sinkLive c.1) || after || before
    || rts.any fun e => trip.contains e.1 && decide (32 ≤ e.2) && decide (e.2 < 96) && inMask (e.2 - 32)

def maxSettle (cfg : List (Nat × RegionCfg)) : Nat := (cfg.map fun e => e.2.settle).foldl max 1

/-- R356: the earliest epoch tick by the latest bounds: 150 µs a region after the next tick, then SETTLE ticks. -/
def State.earliestEpoch (s : State) (cfg : List (Nat × RegionCfg)) : Nat :=
  firstMultiple (s.nextTick + cfg.length * 36864 / 10 + 1) s.divisor + maxSettle cfg * s.divisor

def State.findStaged (s : State) (img : Nat) : Option Staged := s.staged.find? fun g => g.serial == img

/-- R354: the state check of a load. -/
def State.loadErr (s : State) (img : Nat) (at_ : Option Nat) : Option Nat :=
  match s.findStaged img with
  | none => some 536
  | some g =>
    if g.cfg.any fun e => s.rgnLoading e.1 then some 537
    else if s.tripMaskBad g.cfg then some 538
    else
      let ch := s.imageRoutes g.cfg
      match s.routeErr ch with
      | some e => some e
      | none =>
        if s.loadLive g.cfg ch then some 531
        else match at_ with
          | none => none
          | some t =>
            if firstMultiple t s.divisor < s.earliestEpoch g.cfg ∨ s.clk.now + 24576000 < t then some 535 else none

def State.startLoad (s : State) (g : Staged) (at_ : Option Nat) (key : Key) : State :=
  let ch := s.imageRoutes g.cfg
  let s := { s with loads := s.loads ++ [⟨key, g.serial, g.cfg, at_, .accepted, [], ch.map fun c => (c.1, s.sinkSrc c.1), ch,
    [], 0⟩] }
  forAll ((List.range 216).filter s.sinkLocked) s fun s k => s.setFlag .REB_XPT_LOCK k 0 true

def workRegionLoad (o : Origin) (img : Nat) (at_ : Option Nat) (s : State) : Work :=
  { permit := match s.findStaged img with
      | none => (s.originAuth o).any
      | some g => (g.cfg.all fun e => s.hasAuth o (s.rgnStn e.1) && e.2.routes.all fun c => s.hasAuth o (s.sinkOwner c.1))
    stn := match s.findStaged img with
      | some g => match g.cfg with
        | [e] => min (s.rgnStn e.1) 4
        | _ => 4
      | none => 4
    chk := s.loadErr img at_
    run := fun key s =>
      match s.loadErr img at_, s.findStaged img with
      | none, some g => .running (s.startLoad g at_ key)
      | some e, _ => .fail e s
      | none, none => .fail 536 s }

def execRegionLoad (o : Origin) (img : Nat) (at_ : Option Nat) (s : State) : Host.Outcome State Fault Refusal :=
  .next (s.offer o (.regionLoad o img at_) (workRegionLoad o img at_ s))

def State.setLoad (s : State) (key : Key) (f : RegionLoad → RegionLoad) : State :=
  { s with loads := s.loads.map fun l => if l.key = key then f l else l }

/-- A load ends: its sinks unlock. -/
def State.endLoad (s : State) (key : Key) : State :=
  let s := { s with loads := s.loads.filter fun l => l.key != key }
  forAll ((List.range 216).filter fun k => s.flag .REB_XPT_LOCK k && !s.sinkLocked k) s fun s k =>
    s.setFlag .REB_XPT_LOCK k 0 false

def cellsOfRgn (r : Nat) : List Nat := (List.range 8).map (8 * r + ·)

/-- Bits of `v` replaced by those of `c` where `m` is 1, over `n` bits. -/
def maskMux (m c v : Nat) : Nat → Nat
  | 0 => 0
  | n + 1 => (if m % 2 = 1 then c % 2 else v % 2) + 2 * maskMux (m / 2) (c / 2) (v / 2) n

/-- R355: the outputs of a region go to their hand-off values. -/
def State.freezeRegion (s : State) (r : Nat) : State :=
  let s := s.setFld .REB_RGN_STATE r 0 2
  let s := forAll (cellsOfRgn r) s fun s n => s.setFlag .REB_CSTAT_FROZEN n 0 true
  let s := s.setFld .LGF_OUT_FAB r 0 (maskMux (s.fld .LGF_HMODE_FAB r) (s.fld .LGF_HVAL_FAB r) (s.fld .LGF_OUT_FAB r) 32)
  let v := s.fld .LGF_HVAL2_VAL r
  let s := s.setFld .LGF_OUT2_LINK r 0 (maskMux (s.fld .LGF_HMODE2_LINK r) v (s.fld .LGF_OUT2_LINK r) 16)
  s.setFld .LGF_OUT2_CTL r 0 (maskMux (s.fld .LGF_HMODE2_CTL r) (v / 2 ^ 16) (s.fld .LGF_OUT2_CTL r) 8)

/-- The configuration registers of a region show `c`. -/
def State.showCfg (s : State) (r : Fin 8) (c : RegionCfg) : State :=
  let s := s.setRgn r fun x => { x with cfg := c }
  let s := forAll (List.range 8) s fun s j =>
    let n := 8 * r.val + j
    match c.cells[j]? with
    | some x =>
      let s := (s.setFld .REB_CMODE_MODE n 0 x.mode).setFld .REB_CMODE_SUB n 0 x.sub
      ((s.setFlag .REB_CMODE_TRIP n 0 x.trip).setFld .REB_CMODE_TMASK n 0 x.tmask).setFld .REB_CPAR_PAR n 0 x.par
    | none => s
  let s := (s.setFld .LGF_CLK_SRC r 0 c.clkSrc).setFld .LGF_CLK_DIV r 0 c.clkDiv
  (s.setFld .LGF_CRC_CRC r 0 c.crc).setFld .REB_RGN_SETTLE r 0 c.settle

/-- R355: the image sets the hand-off values. -/
def State.showHandoff (s : State) (r : Fin 8) (c : RegionCfg) : State :=
  let s := forAll (List.range 8) s fun s j =>
    match c.cells[j]? with
    | some x => (s.setFld .REB_CHOFF_HMODE (8 * r.val + j) 0 x.hmode).setFld .REB_CHOFF_HCONST (8 * r.val + j) 0 x.hconst
    | none => s
  let s := (s.setFld .LGF_HMODE_FAB r 0 c.hmode).setFld .LGF_HVAL_FAB r 0 c.hval
  ((s.setFld .LGF_HMODE2_LINK r 0 (c.hmode2 % 2 ^ 16)).setFld .LGF_HMODE2_CTL r 0 (c.hmode2 / 2 ^ 16)).setFld
    .LGF_HVAL2_VAL r 0 c.hval2

/-- R357: the values registers start from; those of the cells before stand in `old`. -/
def initOnes (c : RegionCfg) (old : RegionSt) : List (Nat × Bool) :=
  c.logic.foldl (fun o x =>
    if !x.reg then o
    else match x.init with
      | some b => bitPut o x.n b
      | none => bitPut o x.n ((old.cfg.logic.any fun y => y.n == x.n && y.reg) && bitFind old.ones x.n)) []

def rgnFin (r : Nat) : Fin 8 := ⟨r % 8, by omega⟩

/-- The outputs of a region are released with its registers at `ones`. -/
def State.releaseRegion (s : State) (r : Nat) (ones : List (Nat × Bool)) : State :=
  let s := (s.setFld .REB_RGN_STATE r 0 1).setRgn (rgnFin r) fun x => { x with ones := ones }
  forAll (cellsOfRgn r) s fun s n => s.setFlag .REB_CSTAT_FROZEN n 0 false

/-- The region after `r` in a load's mask. -/
def nextRegion (l : RegionLoad) (r : Nat) : Option Nat := ((l.cfg.map (·.1)).filter (r < ·)).head?

/-- R358: every region of the mask is to be rewritten with what it had before the load. -/
def State.undoLoad (s : State) (key : Key) (err : Nat) : State :=
  s.setLoad key fun l => { l with stage := .undoing ((l.cfg.map (·.1)).headD 0) false, err := err }

/-- R356 step 3, R358, R359: a region has been written and read back; `ok` is the comparison. -/
def execRegionWriteComplete (r : Fin 8) (ok : Bool) (s : State) : Host.Outcome State Fault Refusal :=
  match s.loads.find? fun l => l.cfg.any fun e => e.1 == r.val with
  | none => .next s
  | some l =>
    let next (st : Nat → LoadStage) (fin : LoadStage) (s : State) : State :=
      s.setLoad l.key fun l => { l with stage := match nextRegion l r with
        | some q => st q
        | none => fin }
    match l.stage with
    | .writing q again =>
      if q ≠ r.val then .next s
      else if ok then
        match l.cfg.find? fun e => e.1 == r.val with
        | some e => .next (next (.writing · false) .written (s.showCfg r e.2))
        | none => .next s
      else
        let s := s.bump .REB_RLOAD_VFAIL r 0 1
        if again then
          .next ((s.raise .fault Cause.REGION_VERIFY (evStn (s.rgnStn r)) r.val).undoLoad l.key 433)
        else .next (s.setLoad l.key fun l => { l with stage := .writing q true })
    | .undoing q again =>
      if q ≠ r.val then .next s
      else if ok then
        match l.old.find? fun e => e.1 == r.val with
        | some e => .next (next (.undoing · false) .undone (s.showCfg r e.2.cfg))
        | none => .next (next (.undoing · false) .undone s)
      else
        let s := s.bump .REB_RLOAD_VFAIL r 0 1
        if again then
          .next (next (.undoing · false) .undone
            ((s.setFld .REB_RGN_STATE r 0 4).setLoad l.key fun l => { l with failed := l.failed ++ [r.val] }))
        else .next (s.setLoad l.key fun l => { l with stage := .undoing q true })
    | _ => .next s

/-- One tick of a load (Table 13.4). -/
def State.loadTick (s : State) (l : RegionLoad) : State :=
  match l.stage with
  | .accepted =>
    let old := l.cfg.map fun e => (e.1, s.rgn[rgnFin e.1])
    let s := forAll l.cfg s fun s e => s.freezeRegion e.1
    s.setLoad l.key fun l => { l with stage := .writing ((l.cfg.map (·.1)).headD 0) false, old := old }
  | .written =>
    let s := s.setRoutes (l.newRoutes.filter fun c => decide (c.1 < 192) && l.cfg.any fun e => e.1 == c.1 / 24)
    let s := forAll l.cfg s fun s e => s.setFld .REB_RGN_STATE e.1 0 3
    s.setLoad l.key fun x => { x with stage := .settling (maxSettle l.cfg) }
  | .settling n =>
    if n ≤ 1 ∧ (l.at_.getD 0) ≤ s.clk.now then s.setLoad l.key fun l => { l with stage := .due }
    else s.setLoad l.key fun l => { l with stage := .settling (n - 1) }
  | .undone =>
    let s := (s.setRoutes l.routes).endLoad l.key
    let s := forAll l.old s fun s e => if l.failed.contains e.1 then s else s.releaseRegion e.1 e.2.ones
    let s := forAll (s.fedChans (l.cfg.flatMap fun e => cellsOfRgn e.1)) s fun s c => s.disturb c
    s.workFailed l.key l.err
  | _ => s

def State.loadsTick (s : State) : State := forAll s.loads s fun s l => s.loadTick l

/-- R356 step 5, R357, R358: tick E. The load is completed, or its rollback begins. -/
def execRegionEpoch (r : Fin 8) (s : State) : Host.Outcome State Fault Refusal :=
  match s.loads.find? fun l => decide (l.stage = .due) && l.cfg.any fun e => e.1 == r.val with
  | none => .next s
  | some l =>
    if s.loadLive l.cfg l.newRoutes then .next (s.undoLoad l.key 531)
    else
      let s := (s.setRoutes l.newRoutes).endLoad l.key
      let s := forAll l.cfg s fun s e =>
        let old := match l.old.find? fun x => x.1 == e.1 with
          | some x => x.2
          | none => ⟨e.2, []⟩
        let s := (s.showHandoff (rgnFin e.1) e.2).releaseRegion e.1 (initOnes e.2 old)
        (s.setFld .REB_RSER_IMG e.1 0 l.img).bump .REB_RLOAD_LOADS e.1 0 1
      let s := { s with clk := { s.clk with epoch := s.clk.tick } }
      let s := forAll (s.fedChans (l.cfg.flatMap fun e => cellsOfRgn e.1)) s.settleFabric fun s c => s.disturb c
      .next (s.workDone l.key)

/-- R361: a warm reset rolls every load back; its item becomes held. The regions are released on the first tick after
the restart, so they wait as rolled back loads. -/
def State.loadsWarmReset (s : State) : State :=
  forAll s.loads s fun s l =>
    let s := forAll l.old s fun s e => s.showCfg (rgnFin e.1) e.2.cfg
    match l.stage with
    | .accepted => (s.endLoad l.key).setItem l.key .held
    | _ => (s.setItem l.key .held).setLoad l.key fun l => { l with stage := .undone, key := ⟨24, 0, 0⟩ }

/-! ## Hand-off values, reference cells and queries (R345, R362) -/

/-- A level in volts as a code of 312.5 µV: exact, or none. -/
def levelCode312 (v : Decimal) : Option Int :=
  match decTimes v 3200 with
  | some c => if -32768 ≤ c ∧ c ≤ 32767 then some c else none
  | none => none

def State.handoffErr (s : State) (r : Nat) (v : Option Decimal) : Option Nat :=
  if (v.bind levelCode312).isNone && v.isSome then some 511 else if s.rgnLoading r then some 537 else none

def workRegionHandoffCell (o : Origin) (n : Fin 64) (v : Option Decimal) (s : State) : Work :=
  { permit := s.hasAuth o (s.rgnStn (n.val / 8))
    stn := min (s.rgnStn (n.val / 8)) 4
    chk := s.handoffErr (n.val / 8) v
    run := fun _ s =>
      match s.handoffErr (n.val / 8) v with
      | some e => .fail e s
      | none => match v.bind levelCode312 with
        | some c =>
          let s := (s.setFld .REB_CHOFF_HMODE n 0 1).setFldInt .REB_CHOFF_HCONST n 0 c
          .done ((s.note .REB_CHOFF_HMODE n 0).note .REB_CHOFF_HCONST n 0)
        | none => .done ((s.setFld .REB_CHOFF_HMODE n 0 0).note .REB_CHOFF_HMODE n 0) }

def execRegionHandoffCell (o : Origin) (n : Fin 64) (v : Option Decimal) (s : State) : Host.Outcome State Fault Refusal :=
  .next (s.offer o (.regionHandoffCell o n v) (workRegionHandoffCell o n v s))

/-- A number with bit `i` set to `b`. -/
def bitTo (v i : Nat) (b : Bool) : Nat := v - (v / 2 ^ i % 2) * 2 ^ i + (b2n b) * 2 ^ i

def workRegionHandoffRg (o : Origin) (r : Fin 8) (out : Fin 56) (v : Option Bool) (s : State) : Work :=
  { permit := s.hasAuth o (s.rgnStn r)
    stn := min (s.rgnStn r) 4
    chk := s.handoffErr r none
    run := fun _ s =>
      match s.handoffErr r none with
      | some e => .fail e s
      | none =>
        let c := v.isSome
        let b := v.getD false
        if out.val < 32 then
          let s := s.setFld .LGF_HMODE_FAB r 0 (bitTo (s.fld .LGF_HMODE_FAB r) out c)
          let s := s.note .LGF_HMODE_FAB r 0
          .done (if c then (s.setFld .LGF_HVAL_FAB r 0 (bitTo (s.fld .LGF_HVAL_FAB r) out b)).note .LGF_HVAL_FAB r 0 else s)
        else
          let i := out.val - 32
          let s := if i < 16 then s.setFld .LGF_HMODE2_LINK r 0 (bitTo (s.fld .LGF_HMODE2_LINK r) i c)
            else s.setFld .LGF_HMODE2_CTL r 0 (bitTo (s.fld .LGF_HMODE2_CTL r) (i - 16) c)
          let s := (s.note .LGF_HMODE2_LINK r 0).note .LGF_HMODE2_CTL r 0
          .done (if c then (s.setFld .LGF_HVAL2_VAL r 0 (bitTo (s.fld .LGF_HVAL2_VAL r) i b)).note .LGF_HVAL2_VAL r 0 else s) }

def execRegionHandoffRg (o : Origin) (r : Fin 8) (out : Fin 56) (v : Option Bool) (s : State) :
    Host.Outcome State Fault Refusal :=
  .next (s.offer o (.regionHandoffRg o r out v) (workRegionHandoffRg o r out v s))

/-- R345: the level takes effect on the next tick. -/
def workRegionRef (o : Origin) (i : Fin 8) (v : Decimal) (s : State) : Work :=
  { permit := (s.originAuth o).brd
    chk := if (levelCode312 v).isNone then some 511 else none
    run := fun _ s =>
      match levelCode312 v with
      | some c => .done { s with tickSet := s.tickSet ++ [⟨.REB_RC_LEVEL, i, 0, ofSigned 16 c⟩] }
      | none => .fail 511 s }

def execRegionRef (o : Origin) (i : Fin 8) (v : Decimal) (s : State) : Host.Outcome State Fault Refusal :=
  .next (s.offer o (.regionRef o i v) (workRegionRef o i v s))

def regionStateName (n : Nat) : String :=
  match n with
  | 0 => "OFF"
  | 1 => "ACTIVE"
  | 2 => "LOADING"
  | 3 => "SETTLING"
  | _ => "FAILED"

def execRegionQuery (o : Origin) (r : Option (Fin 8)) (s : State) : Host.Outcome State Fault Refusal :=
  .next (s.askPure o none (s.originAuth o).any fun s =>
    let rs := match r with
      | some (q : Fin _) => [q.val]
      | none => List.range 8
    (0, rs.map fun (q : Nat) => [.s "REGION", .n q, .s "STN", .s (stnName (s.rgnStn q)), .s "STATE",
      .s (regionStateName (s.fld .REB_RGN_STATE q)), .s "IMG", .n (s.fld .REB_RSER_IMG q), .s "SETTLE",
      .n (s.fld .REB_RGN_SETTLE q), .s "LOADS", .n (s.fld .REB_RLOAD_LOADS q)]))

/-! ## Routes (R349, R363) -/

/-- R346 to R349, R360: the error of a set of routes. -/
def State.xptErr (s : State) (l : List (Nat × Nat)) : Option Nat :=
  let ch := l.filter fun c => s.sinkSrc c.1 != c.2
  if l.any fun c => s.sinkLocked c.1 then some 537
  else match s.routeErr l with
    | some e => some e
    | none => if ch.any fun c => s.sinkLive c.1 then some 531 else none

def routePairs (l : List (Fin 216 × Fin 105)) : List (Nat × Nat) := l.map fun e => (e.1.val, e.2.val)

def State.xptApply (s : State) (l : List (Nat × Nat)) : State :=
  { s with tickSet := s.tickSet ++ l.map fun c => ⟨.REB_XPT_SRC, c.1, 0, c.2⟩ }

def workXpt (o : Origin) (routes : List (Fin 216 × Fin 105)) (s : State) : Work :=
  let l := routePairs routes
  { pre := if 1 ≤ l.length ∧ l.length ≤ 16 then none else some 109
    permit := l.all fun c => s.hasAuth o (s.sinkOwner c.1)
    stn := match l with
      | c :: _ => if l.all fun d => s.sinkOwner d.1 == s.sinkOwner c.1 then min (s.sinkOwner c.1) 4 else 4
      | [] => 4
    chk := s.xptErr l
    run := fun _ s =>
      match s.xptErr l with
      | some e => .fail e s
      | none => .done (s.xptApply l) }

def execXpt (o : Origin) (routes : List (Fin 216 × Fin 105)) (s : State) : Host.Outcome State Fault Refusal :=
  .next (s.offer o (.xpt o routes) (workXpt o routes s))

def sinkName (k : Nat) : String :=
  if k < 192 then "AC" ++ natText (k / 3) ++ (match k % 3 with
    | 0 => ".P"
    | 1 => ".N"
    | _ => ".X")
  else if k < 208 then "PA" ++ natText (k - 192) else "FA" ++ natText (k - 208)

def sourceName (n : Nat) : String :=
  if n < 32 then "AIN" ++ natText n else if n < 96 then "AC" ++ natText (n - 32)
  else if n < 104 then "RC" ++ natText (n - 96) else "AGND"

def xptLine (s : State) (q : Nat) : List Fd :=
  [.s "XPT", .s (sinkName q), .s (sourceName (s.sinkSrc q)), .s (if s.flag .REB_XPT_LIVE q then "LIVE" else "IDLE")]

/-- R363: one sink, or every route whose sink the offerer has authority over. -/
def execXptQuery (o : Origin) (k : Option (Fin 216)) (s : State) : Host.Outcome State Fault Refusal :=
  match k with
  | some k => .next (s.askPure o none (s.hasAuth o (s.sinkOwner k)) fun s => (0, [xptLine s k]))
  | none =>
    .next (s.askPure o none (s.originAuth o).any fun s =>
      (0, (s.routes.filter fun (e : Nat × Nat) => s.hasAuth o (s.sinkOwner e.1)).map fun (e : Nat × Nat) => xptLine s e.1))

end Sys2Proof.Machine
end

