-- ==== Sys2Proof/Machine/General.lean ====
section
/-! DEFINITION. Sessions, identity, time, work status, cancel, series restart, journal, reset commands and policies
(spec/05_puarn_commands.md). -/
namespace Sys2Proof.Machine
open Sys2Proof

/-! ## Sessions (R118 to R122) -/

def State.setSess (s : State) (p : Fin 2) (f : Session → Session) : State :=
  { s with sess := s.sess.set p (f s.sess[p]) }

/-- The owners whose key in force is `key`: the board, and each configured station (R120). -/
def State.matching (s : State) (key : Nat) : Auth :=
  ⟨Vector.ofFn fun k => s.conf.stations[k] && s.stnKey k == key, s.boardKey == key⟩

/-- R120: AUTH is refused with error 232 for 60 s from the fifth failure in a row, and from each failure that follows without a
success: the count goes back to 0 with a success or a reset alone. -/
def lockCounts : Nat := 60000 * msCounts

def State.authLocked (s : State) (p : Fin 2) : Bool := (s.sess[p]).lock.any fun t => decide (s.clk.now < t)

/-- R120: AUTH key. -/
def execAuth (o : Origin) (key : Nat) (s : State) : Host.Outcome State Fault Refusal :=
  .next (s.ask o (if (sessionPort o).isSome then none else some 109) true fun s =>
    match sessionPort o with
    | none => (109, [], s)
    | some p =>
      if s.authLocked p then (232, [], s)
      else
        let m := s.matching key
        if m.any then
          (0, [], s.setSess p fun q =>
            { q with own := ⟨Vector.ofFn fun k => q.own.stn[k] || m.stn[k], q.own.brd || m.brd⟩, fails := 0, lock := none })
        else
          let s := s.setSess p fun q =>
            { q with fails := q.fails + 1, lock := if 5 ≤ q.fails + 1 then some (s.clk.now + lockCounts) else none }
          (231, [], s.raise .attn Cause.AUTH_FAIL 4 (inst := p.val)))

/-- R120: AUTH OFF empties the session except for open owners; the selected station stays. What the session no longer sees is not
held back for it (R126). -/
def execAuthOff (o : Origin) (s : State) : Host.Outcome State Fault Refusal :=
  .next (s.ask o (if (sessionPort o).isSome then none else some 109) true fun s =>
    match sessionPort o with
    | none => (109, [], s)
    | some p => (0, [], (s.setSess p fun q => { q with own := noAuth }).skipUnseen p))

/-- R120: the board flag and the configured stations in authority (log entry 47). -/
def execAuthQuery (o : Origin) (s : State) : Host.Outcome State Fault Refusal :=
  .next (s.askPure o (if (sessionPort o).isSome then none else some 109) true fun s =>
    let a := s.originAuth o
    let ws := (if a.brd then ["BOARD"] else [])
      ++ (List.finRange 4).filterMap (fun (k : Fin 4) => if a.stn[k] && s.configured k then some ("S" ++ natText k.val) else none)
    (0, [.s "AUTH" :: (if ws.isEmpty then [.s "NONE"] else ws.map .s)]))

/-- R120: the 60 s lockout ends. -/
def execAuthLockoutEnd (p : Fin 2) (s : State) : Host.Outcome State Fault Refusal :=
  .next (if s.authLocked p then s else s.setSess p fun q => { q with lock := none })

/-- R121: STN s. -/
def execStnSelect (o : Origin) (k : Fin 4) (s : State) : Host.Outcome State Fault Refusal :=
  .next (s.ask o (if (sessionPort o).isSome then none else some 109) true fun s =>
    match sessionPort o with
    | none => (109, [], s)
    | some p =>
      if !s.configured k then (302, [], s)
      else if !(s.sessAuth p).stn[k] then (230, [], s)
      else (0, [], s.setSess p fun q => { q with sel := k }))

def execStnQuery (o : Origin) (s : State) : Host.Outcome State Fault Refusal :=
  .next (s.askPure o (if (sessionPort o).isSome then none else some 109) true fun s =>
    (0, [[.s "STN", .n (s.defStn o).val]]))

/-- R119, R123: AUTHSET owner key. A key is a 64-bit value. -/
def workAuthset (o : Origin) (w : Owner) (key : Nat) (s : State) : Work :=
  { permit := (s.originAuth o).brd
    chk := if key < 2 ^ 64 then none else some 511
    run := fun _ s =>
      let s : State := { s with jrn := match w with
          | .board => { s.jrn with boardKey := some key }
          | .stn k => { s.jrn with stnKey := s.jrn.stnKey.set k (some key) } }
      .done ((s.skipUnseen 0).skipUnseen 1) }

def execAuthset (o : Origin) (w : Owner) (key : Nat) (s : State) : Host.Outcome State Fault Refusal :=
  .next (s.offer o (.authset o w key) (workAuthset o w key s))

/-! ## Identity and time (R127 to R129) -/

def execIdQuery (o : Origin) (s : State) : Host.Outcome State Fault Refusal :=
  .next (s.askPure o none true fun s => (0, [[.s "FOSHAHOLT IX-6240 REV C", .w8 s.conf.serial]]))

def leapYear (y : Nat) : Bool := y % 4 == 0 && (y % 100 != 0 || y % 400 == 0)

def monthDays (y m : Nat) : Nat :=
  match m with
  | 2 => if leapYear y then 29 else 28
  | 4 | 6 | 9 | 11 => 30
  | _ => 31

/-- R129: the date exists and lies from 2000-01-01 to 2099-12-31. -/
def dateValid (d : DateTime) : Bool :=
  2000 ≤ d.year && d.year ≤ 2099 && 1 ≤ d.month && d.month ≤ 12 && 1 ≤ d.day && d.day ≤ monthDays d.year d.month
    && d.hour ≤ 23 && d.minute ≤ 59 && d.second ≤ 59

/-- Days from 2000-01-01. -/
def dayNumber (d : DateTime) : Nat :=
  (List.range (d.year - 2000)).foldl (fun t k => t + if leapYear (2000 + k) then 366 else 365) 0
    + (List.range (d.month - 1)).foldl (fun t k => t + monthDays d.year (k + 1)) 0 + (d.day - 1)

/-- The year and the day in it, of a day counted from the start of year `y`; `fuel` years at most. -/
def yearOfDay : Nat → Nat → Nat → Nat × Nat
  | 0, y, d => (y, d)
  | f + 1, y, d =>
    let n := if leapYear y then 366 else 365
    if d < n then (y, d) else yearOfDay f (y + 1) (d - n)

def monthOfDay : Nat → Nat → Nat → Nat → Nat × Nat
  | 0, _, m, d => (m, d)
  | f + 1, y, m, d => if d < monthDays y m then (m, d) else monthOfDay f y (m + 1) (d - monthDays y m)

/-- A date moved on by `n` seconds. -/
def addSeconds (d : DateTime) (n : Nat) : DateTime :=
  let t := dayNumber d * 86400 + d.hour * 3600 + d.minute * 60 + d.second + n
  let (y, yd) := yearOfDay 200 2000 (t / 86400)
  let (m, md) := monthOfDay 12 y 1 yd
  ⟨y, m, md + 1, t / 3600 % 24, t / 60 % 60, t % 60⟩

def dateText (d : DateTime) : String :=
  String.ofList (decDigits 4 d.year ++ ['-'] ++ decDigits 2 d.month ++ ['-'] ++ decDigits 2 d.day ++ ['T']
    ++ decDigits 2 d.hour ++ [':'] ++ decDigits 2 d.minute ++ [':'] ++ decDigits 2 d.second)

/-- The real-time clock now: its setting and the seconds the time counter has made since (R129). -/
def State.rtcNow (s : State) : Option DateTime :=
  s.rtc.map fun (d, at_) => addSeconds d ((s.clk.now - at_) / 24576000)

/-- R128: TIME?. -/
def execTimeQuery (o : Origin) (s : State) : Host.Outcome State Fault Refusal :=
  .next (s.askPure o none true fun s =>
    (0, [[.s "FTC", .h64 s.clk.now], [.s "TICK", .h64 s.clk.tick],
      [.s "RATE", .n (s.fld .LAT_CTRL_RATE), .s "REFOK", .n (s.fld .TC_STATUS_REFOK), .s "SYNCED",
        .n (s.fld .TC_STATUS_SYNCED), .s "COARSE", .n (s.fld .TC_STATUS_COARSE)],
      [.s "RTC", .s (match s.rtcNow with
        | some d => dateText d
        | none => "UNSET")]]))

def workTimeRtc (o : Origin) (d : DateTime) (s : State) : Work :=
  { permit := (s.originAuth o).brd
    chk := if dateValid d then none else some 511
    run := fun _ s => .done { s with rtc := some (d, s.clk.now) } }

def execTimeRtc (o : Origin) (d : DateTime) (s : State) : Host.Outcome State Fault Refusal :=
  .next (s.offer o (.timeRtc o d) (workTimeRtc o d s))

/-! ## Work status and outcomes (R135 to R139) -/

/-- The source numbers of Table 3.1. -/
def usedSource (n : Nat) : Bool := n ≤ 4 || (8 ≤ n && n ≤ 13) || (16 ≤ n && n ≤ 23)

def State.source (s : State) (n : Nat) : Source := if h : n < 24 then s.jrn.src[n] else ⟨1, 0⟩

def sourceLine (s : State) (n : Nat) : List Fd :=
  let e := s.source n
  [.s "SRC", .n n, .s "SER", .n e.ser, .s "LAST", .s (wsnText n e.last), .s "OPEN",
    .n (s.jrn.items.filter fun i => i.key.src == n && i.live).length]

/-- R135: WSN? [SRC=n]. -/
def execWsnQuery (o : Origin) (src : Option Nat) (s : State) : Host.Outcome State Fault Refusal :=
  let n := src.getD (s.srcNo o).val
  .next (s.askPure o (if usedSource n then none else some 303) (s.ownSource o n || (s.originAuth o).brd) fun s =>
    (0, [sourceLine s n]))

def outName : OutState → String
  | .pending => "PENDING"
  | .running => "RUNNING"
  | .done => "DONE"
  | .failed => "FAILED"
  | .held => "HELD"
  | .inDoubt => "INDOUBT"

/-- R136: the line of one WSN. -/
def outcomeLine (s : State) (k : Key) : List Fd :=
  let hd : List Fd := [.s "SRC", .n k.src, .s "SER", .n k.ser, .s "WSN", .n k.wsn, .s "STATE"]
  match s.findItem k with
  | some i =>
    hd ++ [.s (outName i.st), .s "ERR", .n i.err, .s "STN", .n i.stn, .s "ACC", .h64 i.acc, .s "CHG", .h64 i.chg]
      ++ (match i.blk with
        | some (p, b, _) => [.s "PROG", .n p, .s "BLK", .n b]
        | none => [])
  | none =>
    let e := s.source k.src
    if k.ser = e.ser ∧ k.wsn > e.last then hd ++ [.s "NONE"] else hd ++ [.s "EXPIRED"]

/-- R136, R641: OUTCOME? w [SRC=n] [SER=s] [N=m]. -/
def execOutcomeQuery (o : Origin) (w : Nat) (src ser : Option Nat) (n : Nat) (s : State) :
    Host.Outcome State Fault Refusal :=
  let m := src.getD (s.srcNo o).val
  let pre := if w < 1 ∨ w > 0xFFFFFFFF ∨ n < 1 ∨ n > 32 then some 109 else if usedSource m then none else some 303
  .next (s.askPure o pre (s.ownSource o m || (s.originAuth o).brd) fun s =>
    (0, (List.range n).map fun k => outcomeLine s ⟨m, ser.getD (s.source m).ser, w + k⟩))

/-- The item `CANCEL` and `RELEASE` name (R137, R138). -/
def State.namedKey (s : State) (o : Origin) (w : Nat) (src ser : Option Nat) : Key :=
  let m := src.getD (s.srcNo o).val
  ⟨m, ser.getD (s.source m).ser, w⟩

/-- Table 5.1: own sources; otherwise the item's station, or the board flag for a board item. -/
def State.mayTouch (s : State) (o : Origin) (k : Key) : Bool :=
  s.ownSource o k.src || (match s.findItem k with
    | some i => (s.originAuth o).over i.stn
    | none => (s.originAuth o).brd)

def selErr (w src : Nat) : Option Nat :=
  if w < 1 ∨ w > 0xFFFFFFFF then some 109 else if usedSource src then none else some 303

/-- The state check `CANCEL` and `RELEASE` share: a WSN above the last accepted, or an item no longer retained. -/
def State.namedErr (s : State) (k : Key) : Option Nat :=
  match s.findItem k with
  | some _ => none
  | none =>
    let e := s.source k.src
    if k.ser = e.ser ∧ k.wsn > e.last then some 303 else some 613

/-- R137: CANCEL. A pending or held item fails with error 615. -/
def workCancel (o : Origin) (w : Nat) (src ser : Option Nat) (s : State) : Work :=
  let k := s.namedKey o w src ser
  { pre := selErr w k.src
    permit := s.mayTouch o k
    stn := ((s.findItem k).map (·.stn)).getD 4
    chk := match s.findItem k with
      | some i => if i.st = .pending ∨ i.st = .held then none else some 242
      | none => s.namedErr k
    run := fun _ s =>
      match s.findItem k with
      | some i => if i.st = .pending ∨ i.st = .held then .done (((s.cancelBlocks k).addEnded k false).workFailed k 615) else .fail 242 s
      | none => .fail 613 s }

def execCancel (o : Origin) (w : Nat) (src ser : Option Nat) (s : State) : Host.Outcome State Fault Refusal :=
  .next (s.offer o (.cancel o w src ser) (workCancel o w src ser s))

/-- R59, R60: the series of a source restarts: the next series, L at 0, and its retained outcomes discarded. -/
def State.restartSeries (s : State) (n : Nat) : State :=
  if h : n < 24 then
    { s with jrn := { s.jrn with
        src := s.jrn.src.set n ⟨nextSeries (s.jrn.src[n]).ser, 0⟩
        items := s.jrn.items.filter fun i => !(i.key.src == n) } }
  else s

/-- R59: no item of the source is pending, running or held. -/
def State.seriesClosed (s : State) (n : Nat) : Bool :=
  (s.queuedKeys n).isEmpty && !s.jrn.items.any fun i => i.key.src == n && i.live

/-- R59, R61, R139: SERIES RESTART. Its condition is checked before acceptance, and error 614 consumes no WSN. -/
def execSeriesRestart (o : Origin) (s : State) : Host.Outcome State Fault Refusal :=
  let n := (s.srcNo o).val
  if !s.answering then .next s
  else if s.rescueOf o then .next (s.refuse o 115)
  else if !s.accepting then .next (s.answer o (.busy (originTag o)))
  else if (sessionPort o).isNone then .next (s.refuse o 109)
  else match s.judge o with
    | .zero => .next (s.answer o (.er (originTag o) 611 false))
    | .gap => .next (s.answer o (.er (originTag o) 612 false))
    | .dup => .next (s.judgedDup o)
    | .next =>
      let k := s.candKey o
      if !s.seriesClosed n then .next (s.answer o (.er (originTag o) 614 false))
      else if s.commitFull then .next ((s.ringFull 15).answer o (.busy (originTag o)))
      else
        let s := (s.commitRec.restartSeries n).answer o (acceptLine o k 0)
        .next (s.raise .fin Cause.WORK_DONE 4 (src := k.src) (wsn := k.wsn))

/-! ## The journal (R140) -/

def okFailed (b : Bool) : String := if b then "FAILED" else "OK"

/-- R140: the lines of JRN?. WEAR is a whole percentage, rounded down: the spec gives no rounding (DESIGN CHOICE, log entry 51). -/
def execJrnQuery (o : Origin) (s : State) : Host.Outcome State Fault Refusal :=
  .next (s.askPure o none (s.originAuth o).any fun s =>
    (0, [[.s "HALF A", .s (okFailed (s.flag .JRN_STAT_AFAIL))], [.s "HALF B", .s (okFailed (s.flag .JRN_STAT_BFAIL))],
      [.s "FILL", .n (s.fld .JRN_STAT_FILL)], [.s "QUEUE", .n (s.jrn.queue.filter QEnt.isRec).length],
      [.s "WEAR", .n (s.fld .JRN_WEAR_WEAR / 100)]]))

def execJrnSourcesQuery (o : Origin) (s : State) : Host.Outcome State Fault Refusal :=
  .next (s.askPure o none (s.originAuth o).brd fun s =>
    (0, ((List.range 24).filter usedSource).map (sourceLine s)))

/-! ## Reset commands (R141) -/

/-- R141: from the commit of an accepted RESET, acceptance stops; the reset begins later. -/
def workReset (o : Origin) (kind : ResetKind) (s : State) : Work :=
  { permit := (s.originAuth o).brd
    run := fun k s => .running { s with resetReq := some (k, kind), stopped := true } }

def execResetWarm (o : Origin) (s : State) : Host.Outcome State Fault Refusal :=
  .next (s.offer o (.resetWarm o) (workReset o .warm s))

def execResetCold (o : Origin) (s : State) : Host.Outcome State Fault Refusal :=
  .next (s.offer o (.resetCold o) (workReset o .cold s))

/-! ## Policies (R142 to R144) -/

/-- The policy field of a target, and the number of its instances (Table 5.3). -/
def policyFld : PolicyTarget → Fld × Nat
  | .fio => (.FIO_CFG_POL, 64)
  | .ain => (.FIO_ACFG_POL, 32)
  | .da => (.DAC_CFG_POL, 16)
  | .en => (.ENC_CFG_POL, 12)
  | .res => (.SRV_FB_RESPOL, 12)
  | .ref => (.ADC_REF_POL, 1)
  | .vcore => (.LAT_VPOL_POL, 1)
  | .link => (.OLK_PCTL_POL, 2)

def policyName : PolicyTarget → String
  | .fio => "FIO"
  | .ain => "AIN"
  | .da => "DA"
  | .en => "EN"
  | .res => "RES"
  | .ref => "REF"
  | .vcore => "VCORE"
  | .link => "LINK"

def policyCode : PolicyMode → Nat
  | .off => 0
  | .report => 1
  | .adapt => 2

def policyModeName (n : Nat) : String :=
  match n with
  | 0 => "OFF"
  | 1 => "REPORT"
  | _ => "ADAPT"

/-- Table 5.3: the station code whose authority instance `i` needs. -/
def State.policyStn (s : State) (t : PolicyTarget) (i : Nat) : Nat :=
  match t with
  | .fio => s.fld .FIO_CFG_STN i
  | .ain => s.ainStn i
  | .da => s.fld .DAC_CFG_STN i
  | .en => s.encStn i
  | .res => s.axisCode i
  | .ref | .vcore | .link => 4

/-- Table 5.3: authority over instance `i` of a target. -/
def State.policyMay (s : State) (a : Auth) (t : PolicyTarget) (i : Nat) : Bool :=
  if t = .ain then s.ainMay a i else a.over (s.policyStn t i)

/-- The instances of `i[-j]`; none for a target without instances. -/
def policyRange (t : PolicyTarget) (i j : Nat) : List Nat :=
  if (policyFld t).2 = 1 then [0] else (List.range (j + 1)).filter fun k => i ≤ k

def policyPre (t : PolicyTarget) (i j : Nat) : Option Nat :=
  if (policyFld t).2 = 1 ∨ (i ≤ j ∧ j < (policyFld t).2) then none else some 301

/-- R143: the instances change together, on the first tick after execution. -/
def workPolicy (o : Origin) (t : PolicyTarget) (i j : Nat) (m : PolicyMode) (s : State) : Work :=
  let a := s.originAuth o
  { pre := policyPre t i j
    permit := (policyRange t i j).all fun k => s.policyMay a t k
    stn := if (policyRange t i j).length = 1 then min (s.policyStn t i) 4 else 4
    run := fun _ s => .done
      { s with tickSet := s.tickSet ++ (policyRange t i j).map fun k => ⟨(policyFld t).1, k, 0, policyCode m⟩ } }

def execPolicy (o : Origin) (t : PolicyTarget) (i j : Nat) (m : PolicyMode) (s : State) :
    Host.Outcome State Fault Refusal :=
  .next (s.offer o (.policy o t i j m) (workPolicy o t i j m s))

/-- R144: one line per instance. Its authority is that of `POLICY` (Table 5.1). -/
def execPolicyQuery (o : Origin) (t : PolicyTarget) (i j : Nat) (s : State) : Host.Outcome State Fault Refusal :=
  let a := s.originAuth o
  .next (s.askPure o (policyPre t i j) ((policyRange t i j).all fun k => s.policyMay a t k) fun s =>
    (0, (policyRange t i j).map fun k =>
      .s (policyName t) :: (if (policyFld t).2 = 1 then [] else [.n k])
        ++ [.s (policyModeName (s.fld (policyFld t).1 k))]))

end Sys2Proof.Machine
end

