-- ==== Sys2Proof/Machine/DecEngine.lean ====
section
/-! DEFINITION. The decimal engine: requests, issue, results and `CALC?` (spec/10_decimal_engine.md). -/
namespace Sys2Proof.Machine
open Sys2Proof

/-! ## Requests (R274 to R277) -/

def State.decReg (s : State) (n : Nat) : Nat := (sparseFind s.dec.regs n).getD decZero

def State.setDecReg (s : State) (n v : Nat) : State :=
  { s with dec := { s.dec with regs := sparsePut s.dec.regs n (if v = decZero then none else some v) } }

/-- Table 10.3: the outstanding limit. -/
def decLimit (m : Nat) : Nat := if m < 10 then 4 else 1

/-- Table 10.3, R339: the registers of a requester. A core's are those of the task it hosts. -/
def State.decOwns (s : State) (m n : Nat) : Bool :=
  if m < 4 then 48 + 12 * m ≤ n && n ≤ 59 + 12 * m
  else if m < 10 then
    let t := s.fld .SYS_CSTAT_TASK (m - 4)
    8 * t ≤ n && n ≤ 8 * t + 7
  else false

/-- The request names a register that its requester may not use (R274). -/
def State.decDenied (s : State) (r : DecReq) : Bool :=
  (r.asrc && !s.decOwns r.req r.areg) || (r.bsrc && !s.decOwns r.req r.breg) || (r.csrc && !s.decOwns r.req r.creg)
    || (r.dsten && !s.decOwns r.req r.dst)

/-- The image has been committed (Table 20.5, step 3). The engine takes requests from then on (R276). -/
def State.committed (s : State) : Bool :=
  s.phase == .committing || s.phase == .replaying || s.phase == .running || s.phase == .closing

/-- A requester at its limit, or a full ring, stalls the request (R274, Table 6.1). -/
def State.decStalls (s : State) (m : Nat) : Bool :=
  decide (decLimit m ≤ s.fld .DEC_OUT_OUT m) || decide (s.ringFree 14 < 2) || s.ringHeld 14

/-- R277: requests leave the ring for the issue window at once. -/
def State.decWindow (s : State) : State :=
  if !s.committed || s.dec.ring.isEmpty then s
  else
    let n := s.dec.ring.length
    let s := (s.ringGet 14 (2 * n)).setFld .DEC_STAT_WIN 0 0 (min (s.dec.win.length + n) 127)
    let s := s.setFld .DEC_STAT_HWM 0 0 (max (s.fld .DEC_STAT_HWM) (s.fld .DEC_STAT_WIN))
    { s with dec := { s.dec with win := s.dec.win ++ s.dec.ring, ring := [] } }

/-- R275: a request enters the ring whole. -/
def State.decEnqueue (s : State) (r : DecReq) : State :=
  let s := (s.ringPut 14 2).setFld .DEC_OUT_OUT r.req 0 (s.fld .DEC_OUT_OUT r.req + 1)
  { s with dec := { s.dec with ring := s.dec.ring ++ [r] } }.decWindow

/-- A requester enqueues a request. Stalled, it waits, and nothing changes yet. -/
def execDecRequest (r : DecReq) (s : State) : Host.Outcome State Fault Refusal :=
  if 24 ≤ r.req ∨ s.decStalls r.req then .next s else .next (s.decEnqueue r)

/-- R277: the rank of a request; a lower one issues first: planners in overrun escalation, planners, servo engines, cores, `CALC?`. -/
def State.decRank (s : State) (m : Nat) : Nat :=
  if h : m < 4 then (if s.lat.suspended[m] then m else 4 + m) else if 10 ≤ m ∧ m < 22 then m else m + 22

/-- The request that issues next: the least rank, and of one requester the earliest. -/
def State.decNext (s : State) : Option DecReq :=
  s.dec.win.foldl (fun best r => match best with
    | none => some r
    | some b => if s.decRank r.req < s.decRank b.req then some r else best) none

def execDecIssue (s : State) : Host.Outcome State Fault Refusal :=
  let s := s.decWindow
  match s.dec.busy, s.decNext with
  | none, some r =>
    let win := s.dec.win.erase r
    let s := (s.bumpWrap .DEC_ISSUED_N 0 0 1).setFld .DEC_STAT_WIN 0 0 (min win.length 127)
    .next { s with dec := { s.dec with win := win, busy := some r, out := none } }
  | _, _ => .next s

/-! ## Operation (R268) -/

/-- The operation in progress is carried out, where `p` takes its code. A denied request reads and writes no register, and
its value is open. -/
def State.decRun (s : State) (p : Nat → Bool) : State :=
  match s.dec.busy, s.dec.out with
  | some r, none =>
    if !p r.op then s
    else if s.decDenied r then
      let (v, s) := s.fresh 128
      { s with dec := { s.dec with out := some ⟨v, r.tag, fDENY⟩ } }
    else
      let opnd (src : Bool) (n v : Nat) : Nat := if src then s.decReg n else v
      let (v, f) := decOp r.op r.rm r.deg (opnd r.asrc r.areg r.a) (opnd r.bsrc r.breg r.b) (opnd r.csrc r.creg r.c)
      { s with dec := { s.dec with out := some ⟨v, r.tag, f⟩ } }
  | _, _ => s

def execDecLoad (s : State) : Host.Outcome State Fault Refusal := .next (s.decRun fun op => op == 0x01)

def execDecAdd (s : State) : Host.Outcome State Fault Refusal := .next (s.decRun fun op => op == 0x02)

def execDecSub (s : State) : Host.Outcome State Fault Refusal := .next (s.decRun fun op => op == 0x03)

def execDecMul (s : State) : Host.Outcome State Fault Refusal := .next (s.decRun fun op => op == 0x04)

def execDecDiv (s : State) : Host.Outcome State Fault Refusal := .next (s.decRun fun op => op == 0x05)

def execDecSqrt (s : State) : Host.Outcome State Fault Refusal := .next (s.decRun fun op => op == 0x06)

def execDecFma (s : State) : Host.Outcome State Fault Refusal := .next (s.decRun fun op => op == 0x07)

def execDecQuant (s : State) : Host.Outcome State Fault Refusal := .next (s.decRun fun op => op == 0x08)

def execDecRint (s : State) : Host.Outcome State Fault Refusal := .next (s.decRun fun op => op == 0x09)

def execDecCmp (s : State) : Host.Outcome State Fault Refusal := .next (s.decRun fun op => op == 0x0A)

def execDecToint (s : State) : Host.Outcome State Fault Refusal := .next (s.decRun fun op => op == 0x0B)

def execDecFromint (s : State) : Host.Outcome State Fault Refusal := .next (s.decRun fun op => op == 0x0C)

def execDecSin (s : State) : Host.Outcome State Fault Refusal := .next (s.decRun fun op => op == 0x10)

def execDecCos (s : State) : Host.Outcome State Fault Refusal := .next (s.decRun fun op => op == 0x11)

def execDecTan (s : State) : Host.Outcome State Fault Refusal := .next (s.decRun fun op => op == 0x12)

def execDecAtan (s : State) : Host.Outcome State Fault Refusal := .next (s.decRun fun op => op == 0x13)

def execDecAtan2 (s : State) : Host.Outcome State Fault Refusal := .next (s.decRun fun op => op == 0x14)

def execDecExp (s : State) : Host.Outcome State Fault Refusal := .next (s.decRun fun op => op == 0x15)

def execDecLn (s : State) : Host.Outcome State Fault Refusal := .next (s.decRun fun op => op == 0x16)

def execDecLog10 (s : State) : Host.Outcome State Fault Refusal := .next (s.decRun fun op => op == 0x17)

def execDecPow (s : State) : Host.Outcome State Fault Refusal := .next (s.decRun fun op => op == 0x18)

/-- A request with an operation code that Table 10.1 does not name. -/
def execDecInvalidOp (s : State) : Host.Outcome State Fault Refusal := .next (s.decRun fun op => !decOpValid op)

/-! ## Results (R272, R273, R278, R279) -/

/-- The station and instance that a requester's exception concerns: a planner's path, or a servo engine's axis. -/
def State.decStation (s : State) (m : Nat) : Option (Fin 4 × Nat) :=
  if h : m < 4 then some (⟨m, h⟩, 0xFFFF)
  else if 10 ≤ m ∧ m < 22 then (s.axisStation (m - 10)).map fun k => (k, m - 10)
  else none

/-- R273: no valid setpoint of an axis follows: while its station brakes, the last one is extended by the last velocity (R51). -/
def State.extendSetpoint (s : State) (a : Fin 12) : State :=
  s.setAxis a fun x => { x with own := some (x.own.getD x.sp), sp := 2 * x.sp1 - x.sp2 }

/-- R184: an MDI block whose conversion fails: the last one that entered the ring. -/
def State.mdiFails (s : State) (k : Fin 4) (e : Nat) : State :=
  match (s.mot[k]).ring.getLast? with
  | some b =>
    if b.own then
      ((s.ringGet (blkRing k) b.entries).setMot k fun m => { m with ring := m.ring.dropLast }).workFailed b.key e
    else s
  | none => s

/-- R273: what a planner or a servo engine does on INV, DZ or OVF. -/
def State.decException (s : State) (r : DecReq) (flags : Nat) : State :=
  if flags % 8 = 0 then s
  else match s.decStation r.req with
    | none => s
    | some (k, inst) =>
      if r.conv ∧ r.req < 4 then
        match (s.mot[k]).reader with
        | some d => if d.kind = .run then s.readerStops k d.next 257 else if d.kind = .tape then s.tapeEnds 257 else s.mdiFails k 257
        | none => s.mdiFails k 257
      else
        let s := (s.raise .fault Cause.DEC_RANGE k inst).deviceStop k
        if s.isBraking k then
          forAll ((s.axesOf k).filter fun (a : Fin 12) => inst == 0xFFFF || a.val == inst) s fun s a => s.extendSetpoint a
        else s

/-- An outstanding request's result has been taken. -/
def State.decTaken (s : State) (m : Nat) : State := s.setFld .DEC_OUT_OUT m 0 (s.fld .DEC_OUT_OUT m - 1)

/-- The operation completes; its residue check failed `fails` times. -/
def execDecResult (fails : Fin 3) (s : State) : Host.Outcome State Fault Refusal :=
  match s.dec.busy, s.dec.out with
  | some r, some o =>
    let s := if fails = 0 then s else s.bump .DEC_CHKS_RETRY 0 0 1
    let s := if fails = 2 then (s.bump .DEC_CHKS_CHKFAIL 0 0 1).raise .fault Cause.DEC_CHECK 4 r.op else s
    let o := if fails = 2 then { o with value := encodeDec (invalidNan r.op r.rm r.a r.b r.c), flags := o.flags ||| (fINV + fCHK) }
      else o
    let s := s.setFld .DEC_SFLAGS_FLAGS r.req 0 (s.fld .DEC_SFLAGS_FLAGS r.req ||| o.flags)
    let s := if r.dsten && !s.decDenied r then s.setDecReg r.dst o.value else s
    let s := { s with dec := { s.dec with busy := none, out := none } }
    let s :=
      if h : 4 ≤ r.req ∧ r.req < 10 then
        let c : Fin 6 := ⟨r.req - 4, by omega⟩
        { s with dec := { s.dec with mbx := s.dec.mbx.set c (s.dec.mbx[c] ++ [o]) } }
      else s.decTaken r.req
    .next (s.decException r o.flags)
  | _, _ => .next s

/-- The head result of a core's mailbox is removed. -/
def State.mbxPop (s : State) (c : Fin 6) : State :=
  match s.dec.mbx[c] with
  | [] => s
  | _ :: l => { s with dec := { s.dec with mbx := s.dec.mbx.set c l } }.decTaken (c.val + 4)

def State.decClear (s : State) : State :=
  ((s.setFld .DEC_STAT_HWM 0 0 0).setFld .DEC_CHKS_RETRY 0 0 0).setFld .DEC_CHKS_CHKFAIL 0 0 0

/-! ## Expressions (R280) -/

/-- An element of an expression in postfix order. -/
inductive ETok where
  | num (v : Nat)
  | op (code : Nat)
  | minus
deriving DecidableEq, Repr

def constPi : Nat := encodeDec (.fin false 3141592653589793238462643383279503 (-33))
def constE : Nat := encodeDec (.fin false 2718281828459045235360287471352662 (-33))

/-- A decimal number at the head of the characters (Table 4.2), without a sign. -/
def lexNum (l : List Char) : Option (Nat × List Char) :=
  let isD (c : Char) : Bool := (digitOf c).isSome
  let ip := l.takeWhile isD
  let r := l.drop ip.length
  let (fp, r) := match r with
    | '.' :: t => (t.takeWhile isD, t.dropWhile isD)
    | t => ([], t)
  if ip.isEmpty && fp.isEmpty then none
  else
    let ds := (ip ++ fp).dropWhile (· == '0')
    let num (x : Int) (r : List Char) : Option (Nat × List Char) :=
      let v := digitsValue ds
      let e := x - fp.length
      if ds.length > 34 then none
      else if v = 0 then some (encodeDec (.fin false 0 (clampExp e)), r)
      else
        let (c, q) := padTo 6111 40 v e
        let (c, q) := stripTo (-6176) 40 c q
        if q < -6176 ∨ 6111 < q then none else some (encodeDec (.fin false c q), r)
    match r with
    | 'E' :: t =>
      -- Table 4.2: the exponent has a sign.
      let (neg, t') := match t with
        | '-' :: u => (true, u)
        | '+' :: u => (false, u)
        | _ => (false, [])
      let xs := t'.takeWhile isD
      if xs.isEmpty ∨ xs.length > 4 then none
      else num (if neg then -(digitsValue xs : Int) else digitsValue xs) (t'.drop xs.length)
    | _ => num 0 r

/-- The functions of R280: operation code and number of arguments. -/
def exprFun (n : String) : Option (Nat × Nat) :=
  [("SQRT", 0x06, 1), ("SIN", 0x10, 1), ("COS", 0x11, 1), ("TAN", 0x12, 1), ("ATAN", 0x13, 1), ("ATAN2", 0x14, 2),
    ("EXP", 0x15, 1), ("LN", 0x16, 1), ("LOG", 0x17, 1), ("POW", 0x18, 2), ("FMA", 0x07, 3)].lookup n

/-- Where the parser stands. -/
inductive EMode where
  | sum
  | sumRest
  | mul
  | mulRest
  | unary
  | power
  | primary
  /-- Arguments still to come of a call of the operation. -/
  | args (code n : Nat)

/-- Parse by descent: the postfix elements so far stand in `acc`, newest first. Errors 130 and 131. -/
def parseExpr : Nat → EMode → Nat → List ETok → List Char → Except Nat (List ETok × List Char)
  | 0, _, _, _, _ => .error 130
  | f + 1, m, d, acc, l =>
    match m with
    | .sum => match parseExpr f .mul d acc l with
      | .ok (acc, l) => parseExpr f .sumRest d acc l
      | .error e => .error e
    | .sumRest => match l with
      | '+' :: r => match parseExpr f .mul d acc r with
        | .ok (acc, l) => parseExpr f .sumRest d (.op 0x02 :: acc) l
        | .error e => .error e
      | '-' :: r => match parseExpr f .mul d acc r with
        | .ok (acc, l) => parseExpr f .sumRest d (.op 0x03 :: acc) l
        | .error e => .error e
      | _ => .ok (acc, l)
    | .mul => match parseExpr f .unary d acc l with
      | .ok (acc, l) => parseExpr f .mulRest d acc l
      | .error e => .error e
    | .mulRest => match l with
      | '*' :: r => match parseExpr f .unary d acc r with
        | .ok (acc, l) => parseExpr f .mulRest d (.op 0x04 :: acc) l
        | .error e => .error e
      | '/' :: r => match parseExpr f .unary d acc r with
        | .ok (acc, l) => parseExpr f .mulRest d (.op 0x05 :: acc) l
        | .error e => .error e
      | _ => .ok (acc, l)
    | .unary => match l with
      | '+' :: r => parseExpr f .unary d acc r
      | '-' :: r => match parseExpr f .unary d acc r with
        | .ok (acc, l) => .ok (.minus :: acc, l)
        | .error e => .error e
      | _ => parseExpr f .power d acc l
    | .power => match parseExpr f .primary d acc l with
      | .error e => .error e
      | .ok (acc, '^' :: r) => match parseExpr f .unary d acc r with
        | .ok (acc, l) => .ok (.op 0x18 :: acc, l)
        | .error e => .error e
      | .ok r => .ok r
    | .primary => match l with
      | '(' :: r =>
        if d ≥ 16 then .error 131
        else match parseExpr f .sum (d + 1) acc r with
          | .ok (acc, ')' :: l) => .ok (acc, l)
          | .ok _ => .error 130
          | .error e => .error e
      | _ =>
        match lexNum l with
        | some (v, r) => .ok (.num v :: acc, r)
        | none =>
          let w := l.takeWhile fun c => isLetter c || (digitOf c).isSome
          let r := l.drop w.length
          match r, exprFun (String.ofList w) with
          | '(' :: r, some (code, n) => if d ≥ 16 then .error 131 else parseExpr f (.args code n) (d + 1) acc r
          | _, _ =>
            if w = ['P', 'I'] then .ok (.num constPi :: acc, r)
            else if w = ['E'] then .ok (.num constE :: acc, r)
            else .error 130
    | .args code n => match parseExpr f .sum d acc l with
      | .error e => .error e
      | .ok (acc, c :: l) =>
        if n ≤ 1 then if c = ')' then .ok (.op code :: acc, l) else .error 130
        else if c = ',' then parseExpr f (.args code (n - 1)) d acc l
        else .error 130
      | .ok (_, []) => .error 130

/-- The postfix elements of an expression; letters stand in either case (R95). -/
def readExpr (t : String) : Except Nat (List ETok) :=
  let l := t.toList.map upChar
  match parseExpr (10 * l.length + 20) .sum 0 [] l with
  | .error e => .error e
  | .ok (acc, []) =>
    let isOp (x : ETok) : Bool := match x with
      | .op _ => true
      | _ => false
    if 64 < (acc.filter isOp).length then .error 131 else .ok acc.reverse
  | .ok _ => .error 130

/-- One element on the stack of values; the flags collect. -/
def evalStep (rm : Nat) (deg : Bool) (st : List Nat × Nat × Nat) (t : ETok) : List Nat × Nat × Nat :=
  let (l, fl, n) := st
  match t, l with
  | .num v, l => (v :: l, fl, n)
  | .minus, x :: l => (encodeDec (flipSign (decodeDec x)) :: l, fl, n)
  | .op 0x07, z :: y :: x :: l =>
    let (v, f) := decOp 0x07 rm deg x y z
    (v :: l, fl ||| f, n + 1)
  | .op c, l =>
    let unary := c == 0x06 || (c ≥ 0x10 && c ≤ 0x13) || (c ≥ 0x15 && c ≤ 0x17)
    match unary, l with
    | true, x :: l =>
      let (v, f) := decOp c rm deg x 0 0
      (v :: l, fl ||| f, n + 1)
    | false, y :: x :: l =>
      let (v, f) := decOp c rm deg x y 0
      (v :: l, fl ||| f, n + 1)
    | _, l => (l, fl, n)
  | _, l => (l, fl, n)

def evalExpr (rm : Nat) (deg : Bool) (l : List ETok) : List Nat × Nat × Nat := l.foldl (evalStep rm deg) ([], 0, 0)

def flagNames (f : Nat) : List String :=
  let l := [(0, "INV"), (1, "DZ"), (2, "OVF"), (3, "UNF"), (4, "INX"), (5, "CHK"), (6, "DENY")].filterMap fun e =>
    if f / 2 ^ e.1 % 2 = 1 then some e.2 else none
  if l.isEmpty then ["NONE"] else l

/-- R280: CALC?. Requesters 22 and 23 take its flags. -/
def execCalcQuery (o : Origin) (expr : String) (rm : Nat) (deg : Bool) (s : State) : Host.Outcome State Fault Refusal :=
  let pre := match readExpr expr with
    | .error e => some e
    | .ok _ => if rm ≤ 4 then none else some 109
  .next (s.ask o pre true fun s =>
    match readExpr expr with
    | .error e => (e, [], s)
    | .ok l =>
      let (vs, fl, n) := evalExpr rm deg l
      let s := s.bumpWrap .DEC_ISSUED_N 0 0 n
      let s := match sessionPort o with
        | some p => s.setFld .DEC_SFLAGS_FLAGS (22 + p.val) 0 (s.fld .DEC_SFLAGS_FLAGS (22 + p.val) ||| fl)
        | none => s
      (0, [[.s (decText (decodeDec (vs.headD 0)))], .s "FLAGS" :: (flagNames fl).map .s], s))

/-- R281: DEC?. -/
def execDecQuery (o : Origin) (s : State) : Host.Outcome State Fault Refusal :=
  .next (s.askPure o none (s.originAuth o).any fun s =>
    (0, [[.s "DEC", .s "WIN", .n (s.fld .DEC_STAT_WIN), .s "HWM", .n (s.fld .DEC_STAT_HWM), .s "ISSUED",
      .n (s.fld .DEC_ISSUED_N), .s "RETRY", .n (s.fld .DEC_CHKS_RETRY), .s "CHKFAIL", .n (s.fld .DEC_CHKS_CHKFAIL)]]))

end Sys2Proof.Machine
end

