-- ==== Sys2Proof/Machine/CalcUnit.lean ====
section
/-! DEFINITION. The calculator unit in KEEP (R284 to R292). -/
namespace Sys2Proof.Machine
open Sys2Proof

/-- The part is powered and out of reset. -/
def State.powered (s : State) : Bool :=
  match s.phase with
  | .off | .keepOnly | .inReset => false
  | _ => true

/-- R286: the calculator owns the panel. -/
def State.calcOwns (s : State) : Bool :=
  (s.phase == .keepOnly && s.flag .PNL_CALC_OFFEN) || (s.powered && s.flag .PNL_CALC_ON)

def State.rpn (s : State) : Bool := s.flag .PNL_CALC_STYLE

/-- The value of a number being keyed in. -/
def CalcEntry.value (e : CalcEntry) : Nat :=
  let x : Int := if e.expNeg then -(e.exp : Int) else e.exp
  encodeDec (deliver 0 e.neg e.digits 1 (x - e.frac) (x - e.frac)).1

def newEntry : CalcEntry := ⟨false, 0, 0, false, 0, false, false, 0, 0⟩

/-- Lift the stack: X is copied up. -/
def CalcSt.liftUp (c : CalcSt) : CalcSt := { c with t := c.z, z := c.y, y := c.x }

/-- A value comes to X as if keyed. -/
def CalcSt.recallValue (c : CalcSt) (rpn : Bool) (v : Nat) : CalcSt :=
  let c := if rpn && c.lift then c.liftUp else c
  { c with x := v, entry := none, lift := true, error := false }

/-- Change the number being keyed in, beginning one where none is. -/
def CalcSt.edit (c : CalcSt) (rpn : Bool) (f : CalcEntry → CalcEntry) : CalcSt :=
  let c := match c.entry with
    | some _ => c
    | none => if rpn && c.lift then c.liftUp else c
  let e := f (c.entry.getD newEntry)
  { c with entry := some e, x := e.value, lift := true, error := false }

def CalcEntry.digit (d : Nat) (e : CalcEntry) : CalcEntry :=
  if e.inExp then if e.expCount ≥ 4 then e else { e with exp := e.exp * 10 + d, expCount := e.expCount + 1 }
  else if e.count ≥ 34 then e
  else
    { e with digits := e.digits * 10 + d, count := if e.digits = 0 ∧ d = 0 then e.count else e.count + 1
             frac := if e.point then e.frac + 1 else e.frac }

/-- The precedence of a binary operation (R280). -/
def calcPrec (op : Nat) : Nat := if op = 0x18 then 3 else if op = 0x04 ∨ op = 0x05 then 2 else 1

/-- A pending operator is due before the goal. -/
def calcDue (goal : CalcGoal) (op : Nat) : Bool :=
  match goal with
  | .push c => decide (calcPrec c < calcPrec op) || (calcPrec c == calcPrec op && op != 0x18)
  | .close | .equals => true
  | _ => false

def isParen : CalcPend → Bool
  | .paren => true
  | _ => false

/-- Apply due operators, one computation each, then what the goal asks. `ok` says that the battery lets a computation
start (R285). `fuel` bounds the parentheses that `=` closes. -/
def CalcSt.advance (ok : Bool) (goal : CalcGoal) : Nat → CalcSt → CalcSt
  | 0, c => c
  | f + 1, c =>
    match goal, c.pend with
    | .push op, l =>
      match l with
      | .op p lhs :: r =>
        if calcDue goal p then
          if ok then { c with pend := r, job := some ⟨p, lhs, c.x, goal⟩ } else c
        else CalcSt.pushOp c op
      | _ => CalcSt.pushOp c op
    | g, .op p lhs :: r =>
      if calcDue g p then
        if ok then { c with pend := r, job := some ⟨p, lhs, c.x, g⟩ } else c
      else c
    | .close, .paren :: r => { c with pend := r }
    | .equals, .paren :: r => CalcSt.advance ok .equals f { c with pend := r }
    | .equals, [] => { c with ans := c.x }
    | _, _ => c
where
  /-- Push an operator with X; a seventeenth shows ERROR. -/
  CalcSt.pushOp (c : CalcSt) (op : Nat) : CalcSt :=
    if (c.pend.filter fun p => !isParen p).length ≥ 16 then { c with pend := [], error := true }
    else { c with pend := .op op c.x :: c.pend }

def State.setCalc (s : State) (f : CalcSt → CalcSt) : State := { s with calcu := f s.calcu }

/-- R285: the unit starts a computation only at 2.2 V or more. -/
def State.calcPower (s : State) : Bool := decide (2200 ≤ s.fld .PWR_VBAT_V)

/-- Start a computation. -/
def State.calcStart (s : State) (op a b : Nat) (goal : CalcGoal) : State :=
  if s.calcPower then s.setCalc fun c => { c with job := some ⟨op, a, b, goal⟩, entry := none, lift := true }
  else s

/-- A function of X alone; in RPN, X is kept for LASTX. -/
def State.calcFunc (s : State) (op a b : Nat) : State :=
  let x := s.calcu.x
  (if s.rpn && s.calcPower then s.setCalc fun c => { c with ans := x } else s).calcStart op a b .func

def State.calcBinary (s : State) (op : Nat) : State :=
  let c := s.calcu
  if s.rpn then
    (if s.calcPower then s.setCalc fun c => { c with ans := c.x } else s).calcStart op c.y c.x .drop
  else s.setCalc fun c => { CalcSt.advance s.calcPower (.push op) 40 c with entry := none, lift := true }

/-- The digit that STO, RCL or STO+ waits for. -/
def State.calcMemory (s : State) (f : Nat) (n : Fin 10) : State :=
  let s := s.setCalc fun c => { c with await := none }
  match f with
  | 34 => s.setCalc fun c => { c with mem := c.mem.set n c.x, entry := none }
  | 35 => s.setCalc fun c => c.recallValue s.rpn c.mem[n]
  | _ => s.calcStart 0x02 s.calcu.mem[n] s.calcu.x (.memory n.val)

def one128 : Nat := encodeDec (.fin false 1 0)

/-! ## The text shown (R291) -/

/-- Digits with `n` of them after the point. -/
def fixDigits (c n : Nat) : List Char :=
  let ds := Nat.toDigits 10 c
  let ds := List.replicate (n + 1 - ds.length) '0' ++ ds
  ds.take (ds.length - n) ++ (if n = 0 then [] else '.' :: ds.drop (ds.length - n))

def State.calcText (s : State) : String :=
  let c := s.calcu
  if c.blank && s.phase == .keepOnly then ""
  else if !s.calcPower && c.job.isNone then "LO BAT"
  else if c.error then "ERROR"
  else match decodeDec c.x with
    | .nan .. => "ERROR"
    | .inf n => if n then "-INF" else "INF"
    | .fin n m e =>
      let d := s.fld .PNL_CALC_DIGITS
      let sg : List Char := if n then ['-'] else []
      match s.fld .PNL_CALC_DMODE with
      | 0 => decText (.fin n m e)
      | 1 =>
        let k := roundInt 0 false m (e + d)
        String.ofList (sg ++ fixDigits k d)
      | md =>
        let r := roundDigits (d + 1) n m 1 e
        let adj : Int := if m = 0 then 0 else r.exp + numDigits r.coef - 1
        let x : Int := if md = 3 then adj - adj % 3 else adj
        let frac : Nat := (d - (adj - x)).toNat
        String.ofList (sg ++ fixDigits r.coef frac ++ 'E' :: (if x < 0 then '-' else '+') :: Nat.toDigits 10 x.natAbs)

/-- The grids that the text takes: a point joins the character before it (R437). -/
def State.calcLong (s : State) : Nat := (s.calcText.toList.filter fun c => c != '.' && c != ',').length

/-- R288, Table 10.9: one function key. -/
def State.calcDo (s : State) (f : Nat) : State :=
  let c := s.calcu
  let r := s.rpn
  match f with
  | 10 => s.setCalc fun c => c.edit r fun e => if e.inExp then e else { e with point := true }
  | 11 => s.setCalc fun c => c.edit r fun e => { e with inExp := true, digits := if e.count = 0 ∧ e.digits = 0 then 1 else e.digits }
  | 12 =>
    if c.entry.isSome then
      s.setCalc fun c => c.edit r fun e => if e.inExp then { e with expNeg := !e.expNeg } else { e with neg := !e.neg }
    else s.setCalc fun c => { c with x := encodeDec (flipSign (decodeDec c.x)) }
  | 13 => s.calcBinary 0x02
  | 14 => s.calcBinary 0x03
  | 15 => s.calcBinary 0x04
  | 16 => s.calcBinary 0x05
  | 17 =>
    if r then s
    else if (c.pend.filter isParen).length ≥ 16 then s.setCalc fun c => { c with pend := [], error := true }
    else s.setCalc fun c => { c with pend := .paren :: c.pend, entry := none }
  | 18 => if r then s else s.setCalc fun c => { CalcSt.advance s.calcPower .close 40 c with entry := none }
  | 19 =>
    if r then s.setCalc fun c => { c.liftUp with entry := none, lift := false }
    else s.setCalc fun c => { CalcSt.advance s.calcPower .equals 40 c with entry := none }
  | 20 => s.setCalc fun c => { c with x := decZero, entry := none, lift := false, error := false }
  | 21 => s.setCalc fun c =>
      { c with x := decZero, y := decZero, z := decZero, t := decZero, pend := [], entry := none, lift := false, error := false }
  | 22 => s.calcFunc 0x06 c.x 0
  | 23 => s.calcFunc 0x04 c.x c.x
  | 24 => s.calcFunc 0x05 one128 c.x
  | 25 => s.calcFunc 0x10 c.x 0
  | 26 => s.calcFunc 0x11 c.x 0
  | 27 => s.calcFunc 0x12 c.x 0
  | 28 => s.calcFunc 0x13 c.x 0
  | 29 => s.calcFunc 0x15 c.x 0
  | 30 => s.calcFunc 0x16 c.x 0
  | 31 => s.calcFunc 0x17 c.x 0
  | 32 => s.calcBinary 0x18
  | 33 => s.setCalc fun c => c.recallValue r constPi
  | 34 | 35 | 36 => s.setCalc fun c => { c with await := some f }
  | 37 => s.setCalc fun c => c.recallValue r c.ans
  | 38 => s.setCalc fun c => { c with x := c.y, y := c.x, entry := none }
  | 39 => s.setCalc fun c => { c with x := c.y, y := c.z, z := c.t, t := c.x, entry := none }
  | 40 => s.setFlag .PNL_CALC_ANG 0 0 (!s.flag .PNL_CALC_ANG)
  | 41 => s.setFlag .PNL_CALC_STYLE 0 0 (!s.rpn)
  | 42 => s.setCalc fun c => { c with scroll := c.scroll - 1 }
  | 43 => s.setCalc fun c => { c with scroll := min (c.scroll + 1) (s.calcLong - s.fld .PNL_DCFG_NGRID) }
  | 44 => s.setFld .PNL_CALC_DMODE 0 0 ((s.fld .PNL_CALC_DMODE + 1) % 4)
  | 45 => s.setCalc fun c => { c with mem := Vector.replicate 10 decZero }
  | _ => s

/-- R289: the function of a key; the lower-numbered of two entries applies. -/
def State.calcFn (s : State) (key : Nat) : Option Nat :=
  ((List.range 64).find? fun i => s.flag .PNL_CKEY_VALID i && s.fld .PNL_CKEY_KEY i == key).map fun i =>
    s.fld .PNL_CKEY_FUNC i

/-- A key press while the calculator owns the panel. It lights a blank display, and it is acted on (R287). -/
def execCalcKey (key : Fin 256) (s : State) : Host.Outcome State Fault Refusal :=
  if !s.calcOwns then .next s
  else
    let s := s.setCalc fun c => { c with blank := false, keyAt := s.clk.now }
    match s.calcFn key with
    | none => .next s
    | some f =>
      if s.calcu.job.isSome then .next s
      else if h : f < 10 then
        match s.calcu.await with
        | some a => .next (s.calcMemory a ⟨f, h⟩)
        | none => .next (s.setCalc fun c => c.edit s.rpn (CalcEntry.digit f))
      else .next ((s.setCalc fun c => { c with await := none }).calcDo f)

/-- R285: a computation completes; its result goes to X, or to a memory for STO+. -/
def execCalcComputationDone (s : State) : Host.Outcome State Fault Refusal :=
  match s.calcu.job with
  | none => .next s
  | some j =>
    let r := (decOp j.op (s.fld .PNL_CALC_RM) (s.flag .PNL_CALC_ANG) j.a j.b 0).1
    let ok := s.calcPower
    let s := s.setCalc fun c =>
      let c := { c with job := none }
      match j.goal with
      | .func => { c with x := r, ans := if s.rpn then c.ans else r }
      | .drop => { c with x := r, y := c.z, z := c.t }
      | .memory n => if h : n < 10 then { c with mem := c.mem.set n r } else c
      | g => CalcSt.advance ok g 40 { c with x := r, ans := r }
    .next s

/-- R287: AUTOOFF seconds have passed without a key in KEEP-only operation. -/
def execCalcAutooff (s : State) : Host.Outcome State Fault Refusal :=
  if s.phase = .keepOnly ∧ s.calcOwns ∧ s.fld .PNL_CALC_AUTOOFF ≠ 0 ∧
      s.calcu.keyAt + s.fld .PNL_CALC_AUTOOFF * 1000 * msCounts ≤ s.clk.now then .next (s.setCalc fun c => { c with blank := true })
  else .next s

/-- R286: at image commit a computation in progress is abandoned. -/
def State.calcCommit (s : State) : State := s.setCalc fun c => { c with job := none }

end Sys2Proof.Machine
end

