-- ==== Sys2Proof/Machine/Converters.lean ====
section
/-! DEFINITION. Converter channels, references and the filter chain (spec/14_converters_and_filters.md). -/
namespace Sys2Proof.Machine
open Sys2Proof

/-! ## Channels (R366, R368) -/

/-- The field of a channel, precision or fast, with its index. -/
def State.chFld (s : State) (p f : Fld) (c : Nat) : Nat := if c < 16 then s.fld p c else s.fld f (c - 16)

def State.setCh (s : State) (p f : Fld) (c v : Nat) : State := if c < 16 then s.setFld p c 0 v else s.setFld f (c - 16) 0 v

def State.chFailed (s : State) (c : Nat) : Bool := s.chFld .ADC_PSTAT_FAILED .ADC_FSTAT_FAILED c != 0
def State.chCalip (s : State) (c : Nat) : Bool := s.chFld .ADC_PSTAT_CALIP .ADC_FSTAT_CALIP c != 0
/-- VALID of a channel. A wiring condition of an AIN pin that feeds it keeps it at 0 (R464). -/
def State.setValid (s : State) (c : Nat) (b : Bool) : State :=
  s.setCh .ADC_PSTAT_VALID .ADC_FSTAT_VALID c (b2n (b && !s.ainBlocked c))

def chanName (c : Nat) : String := if c < 16 then "PA" ++ natText c else "FA" ++ natText (c - 16)

/-- The value of a channel in volts, exact: 1/819200 V or 312.5 µV a code. -/
def State.chVolts (s : State) (c : Nat) : Decimal :=
  let (v, k, e) : Int × Nat × Int := if c < 16 then (s.fldInt .ADC_PDATA_VALUE c, 1220703125, -15)
    else (s.fldInt .ADC_FDATA_VALUE (c - 16), 3125, -7)
  ⟨v < 0, v.natAbs * k, e⟩

/-- The channel can convert: assigned, not failed and not calibrating. -/
def State.chRuns (s : State) (c : Nat) : Bool := s.chanStn c != 7 && !s.chFailed c && !s.chCalip c && !s.chanAsleep c

/-- R368: a channel has a new assignment. One assigned to nothing reads 0 with VALID at 0. -/
def State.chanAssigned (s : State) (c : Fin 24) : State :=
  if s.chanStn c = 7 then (s.setCh .ADC_PDATA_VALUE .ADC_FDATA_VALUE c 0).setValid c false
  else if c.val < 16 then s.disturb c
  else s.setValid c (s.chRuns c)

def State.adcAssignErr (s : State) (c stn : Nat) : Option Nat :=
  if stn ≤ 4 ∨ stn = 7 then s.assignErr (s.chanStn c) stn else some 511

def adcStnFld (c : Nat) : Fld := if c < 16 then .ADC_PCFG_STN else .ADC_FCFG_STN

def workAdcAssign (o : Origin) (c : Chan) (stn : StnCode) (s : State) : Work :=
  { permit := (s.originAuth o).brd
    stn := min (s.chanStn c) 4
    chk := s.adcAssignErr c stn
    run := fun _ s =>
      match s.adcAssignErr c stn with
      | some e => .fail e s
      | none => .done { s with tickSet := s.tickSet ++ [⟨adcStnFld c, if c.val < 16 then c.val else c.val - 16, 0, stn⟩] } }

def execAdcAssign (o : Origin) (c : Chan) (stn : StnCode) (s : State) : Host.Outcome State Fault Refusal :=
  .next (s.offer o (.adcAssign o c stn) (workAdcAssign o c stn s))

def adcLine (s : State) (c : Nat) : List Fd :=
  let t : Int := if c < 16 then s.fldInt .ADC_PCALT_T c else s.fldInt .ADC_FCALT_T (c - 16)
  [.s (chanName c), .s "STN", .s (stnName (s.chanStn c)), .s "VALUE", .d (s.chVolts c), .s "VALID",
    .n (s.chFld .ADC_PSTAT_VALID .ADC_FSTAT_VALID c), .s "CLIP", .n (s.chFld .ADC_PSTAT_CLIP .ADC_FSTAT_CLIP c),
    .s "CAL", .d ⟨t < 0, t.natAbs, -1⟩, .s "FAILED", .n (s.chFld .ADC_PSTAT_FAILED .ADC_FSTAT_FAILED c)]

def execAdcQuery (o : Origin) (c : Option Chan) (s : State) : Host.Outcome State Fault Refusal :=
  match c with
  | some c => .next (s.askPure o none (s.hasAuth o (s.chanStn c)) fun s => (0, [adcLine s c]))
  | none =>
    .next (s.askPure o none (s.originAuth o).any fun s =>
      (0, ((List.range 24).filter fun (c : Nat) => s.hasAuth o (s.chanStn c)).map (adcLine s)))

/-! ## Calibration and self-check (R370 to R373) -/

/-- A channel whose station is neither HELD nor IDLE, or that a live route reaches (R372, R383). -/
def State.chanBusy (s : State) (c : Nat) : Bool := s.activeCode (s.chanStn c) || s.liveSinks.contains (192 + c)

/-- The channels a `CAL` names: none for ALL. -/
def calChans (ch : Option (Chan × Chan)) : List (Fin 24) :=
  match ch with
  | none => List.finRange 24
  | some (a, b) => (List.finRange 24).filter fun (c : Fin 24) => a ≤ c && c ≤ b

def calPre (ch : Option (Chan × Chan)) : Option Nat :=
  match ch with
  | none => none
  | some (a, b) => if a ≤ b ∧ (a.val < 16 ↔ b.val < 16) then none else some 109

def State.calErr (s : State) (ch : Option (Chan × Chan)) : Option Nat :=
  if (calChans ch).any fun (c : Fin 24) => s.chanAsleep c then some 287
  else if (calChans ch).any fun (c : Fin 24) => s.chanBusy c then some 274 else none

def State.startCal (s : State) (c : Fin 24) : State :=
  ((s.setCh .ADC_PSTAT_CALIP .ADC_FSTAT_CALIP c 1).setValid c false).setChan c fun x => { x with calAt := s.clk.now }

def workCal (o : Origin) (ch : Option (Chan × Chan)) (s : State) : Work :=
  { pre := calPre ch
    permit := match ch with
      | none => (s.originAuth o).brd
      | some _ => (calChans ch).all fun (c : Fin 24) => s.hasAuth o (s.chanStn c)
    stn := match calChans ch with
      | [c] => min (s.chanStn c) 4
      | _ => 4
    chk := s.calErr ch
    run := fun key s =>
      match s.calErr ch with
      | some e => .fail e s
      | none =>
        let l := calChans ch
        let s := forAll l s fun s c => s.startCal c
        .running { s with conv := { s.conv with cals := s.conv.cals ++ [(key, l.map (·.val))] } } }

def execCal (o : Origin) (ch : Option (Chan × Chan)) (s : State) : Host.Outcome State Fault Refusal :=
  .next (s.offer o (.cal o ch) (workCal o ch s))

/-- R373: the channel is marked failed: its value holds and VALID reads 0. -/
def State.failChan (s : State) (c : Fin 24) : State :=
  if s.chFailed c then s
  else ((s.setCh .ADC_PSTAT_FAILED .ADC_FSTAT_FAILED c 1).setValid c false).raise .fault Cause.ADC_CHANNEL
    (evStn (s.chanStn c)) c.val

/-- CAL items lose a channel that has finished; one with none left is done. -/
def State.calFinished (s : State) (c : Nat) : State :=
  let l := s.conv.cals.map fun e => (e.1, e.2.filter (· != c))
  let s := { s with conv := { s.conv with cals := l.filter fun e => !e.2.isEmpty } }
  forAll (l.filter fun e => e.2.isEmpty) s fun s e => s.workDone e.1

/-- R370: a calibration takes 60 ms for a precision channel and 2 ms for a fast one. -/
def calCounts (c : Nat) : Nat := (if c < 16 then 60 else 2) * msCounts

/-- The calibration of channel `c` has taken its time. -/
def State.calOver (s : State) (c : Fin 24) : Bool := s.chCalip c && decide ((s.conv.chan[c]).calAt + calCounts c ≤ s.clk.now)

/-- R370, R373: a channel's calibration ends, with `pass` its checks, and the input is switched back. -/
def execCalibrationDone (c : Chan) (pass : Bool) (temp : Int) (s : State) : Host.Outcome State Fault Refusal :=
  if !s.calOver c then .next s
  else
    let s := s.setCh .ADC_PSTAT_CALIP .ADC_FSTAT_CALIP c 0
    let s := (s.setCh .ADC_PCALT_T .ADC_FCALT_T c (ofSigned 16 temp)).setChan c fun x => { x with due := false }
    let s := if pass then s.setCh .ADC_PSTAT_FAILED .ADC_FSTAT_FAILED c 0 else s.failChan c
    let s := if c.val < 16 then s.disturb c else s.setValid c (s.chRuns c)
    .next (s.calFinished c)

/-- R371: the die temperature has moved by more than CALDT since the last calibration of a channel. -/
def State.calDueCheck (s : State) : State :=
  let d := s.fld .ADC_CALCFG_CALDT
  let temp := s.fldInt .ADC_TEMP_T 0
  if d = 0 then s
  else forAll (List.finRange 24) s fun s (c : Fin 24) =>
    let t : Int := if c.val < 16 then s.fldInt .ADC_PCALT_T c else s.fldInt .ADC_FCALT_T (c.val - 16)
    if 10 * d < (temp - t).natAbs ∧ !(s.conv.chan[c]).due then
      (s.setChan c fun x => { x with due := true }).raise .attn Cause.CAL_DUE (evStn (s.chanStn c)) c.val
    else s

def execCalDue (temp : Int) (s : State) : Host.Outcome State Fault Refusal :=
  .next (s.setFldInt .ADC_TEMP_T 0 0 temp).calDueCheck

def execAdcChannel (c : Chan) (s : State) : Host.Outcome State Fault Refusal := .next (s.failChan c)

/-! ## The references (R374 to R376) -/

def clamp16 (v : Int) : Int := max (-32768) (min 32767 v)

/-- R375: one comparison, each 10 ms after the one before: the changes of REFA/REFB, REFA/check and REFB/check since calibration, in 0.1 ppm. -/
def execRefCompare (diff chkA chkB : Int) (s : State) : Host.Outcome State Fault Refusal :=
  let pol := s.fld .ADC_REF_POL
  if pol = 0 ∨ s.flag .ADC_REF_FAILA ∨ s.flag .ADC_REF_FAILB ∨ s.clk.now < s.conv.refAt + 10 * msCounts then .next s
  else
    let s := { s with conv := { s.conv with refAt := s.clk.now } }
    let s := s.setFldInt .ADC_REFDIFF_DIFF 0 0 (clamp16 diff)
    let s := (s.setFldInt .ADC_REFCHK_A 0 0 (clamp16 chkA)).setFldInt .ADC_REFCHK_B 0 0 (clamp16 chkB)
    let n := if 80 < diff.natAbs then min (s.conv.diverge + 1) 4 else 0
    let s := { s with conv := { s.conv with diverge := n } }
    if n ≠ 3 then .next s
    else
      let a := chkA.natAbs
      let b := chkB.natAbs
      let wrong : Option Nat := if b < a ∧ 2 * b ≤ a then some 0 else if a < b ∧ 2 * a ≤ b then some 1 else none
      match wrong with
      | none =>
        .next ((s.setFlag .ADC_REF_UNDEC 0 0 true).raise .fault Cause.REF_FAILED 4 0xFFFF diff.natAbs)
      | some w =>
        let s := if w = 0 then s.setFlag .ADC_REF_FAILA 0 0 true else s.setFlag .ADC_REF_FAILB 0 0 true
        let s := if pol = 2 ∧ s.fld .ADC_REF_ACT = w then
            { s with tickSet := s.tickSet ++ [⟨.ADC_REF_ACT, 0, 0, 1 - w⟩] } else s
        .next (s.raise .fault Cause.REF_FAILED 4 w diff.natAbs)

/-- R376: CAL REF, with the changes of the ratios as it measures them. -/
def calRefErr (diff chkA chkB : Int) : Option Nat :=
  if diff.natAbs ≤ 20 ∧ chkA.natAbs ≤ 80 ∧ chkB.natAbs ≤ 80 then none else some 277

def workCalRef (o : Origin) (diff chkA chkB : Int) (s : State) : Work :=
  { permit := (s.originAuth o).brd
    run := fun _ s =>
      match calRefErr diff chkA chkB with
      | some e => .fail e s
      | none =>
        let s := (s.setFlag .ADC_REF_FAILA 0 0 false).setFlag .ADC_REF_FAILB 0 0 false
        let s := (s.setFld .ADC_REFDIFF_DIFF 0 0 0).setReg .ADC_REFCHK 0 0 0
        .done { s with conv := { s.conv with diverge := 0 } } }

def execCalRef (o : Origin) (diff chkA chkB : Int) (s : State) : Host.Outcome State Fault Refusal :=
  .next (s.offer o (.calRef o diff chkA chkB) (workCalRef o diff chkA chkB s))

/-! ## The filter chain (R377 to R383) -/

/-- A chain: order, CIC and FIR decimation, taps. -/
structure Chain where
  ord : Nat
  cic : Nat
  fir : Nat
  taps : Nat
deriving DecidableEq, Repr

/-- Table 14.3. -/
def presetChain (p : Nat) : Chain :=
  match p with
  | 0 => ⟨5, 512, 12, 384⟩
  | 1 => ⟨5, 128, 12, 288⟩
  | 2 => ⟨4, 64, 6, 144⟩
  | _ => ⟨3, 24, 4, 96⟩

/-- The settle-first period of a preset, in counts: 4 ms, 1 ms, 250 µs, 62.5 µs. -/
def presetPeriod (p : Nat) : Nat :=
  match p with
  | 0 => 98304
  | 1 => 24576
  | 2 => 6144
  | _ => 1536

def State.customChain (s : State) (n taps : Nat) : Chain :=
  ⟨s.fld .FCH_CFG_ORD n, s.fld .FCH_CFG_CICDEC n, s.fld .FCH_CFG_FIRDEC n, taps⟩

def State.activeTaps (s : State) (n : Nat) : Nat :=
  if s.flag .FCH_TAPS_ACTB n then s.fld .FCH_TAPS_TAPSB n else s.fld .FCH_TAPS_TAPSA n

/-- The chain of a channel in mode PRESET or CUSTOM, with its active bank. -/
def State.chain (s : State) (n : Nat) : Option Chain :=
  match s.fld .FCH_CFG_MODE n with
  | 1 => some (presetChain (s.fld .FCH_CFG_PRESET n))
  | 2 => some (s.customChain n (s.activeTaps n))
  | _ => none

/-- R379: D in 1/64 modulator periods; 0 outside PRESET and CUSTOM. -/
def State.fchDly (s : State) (n : Nat) : Nat :=
  match s.chain n with
  | some c => 32 * c.ord * (c.cic - 1) + 32 * (c.taps - 1) * c.cic + 736 * c.cic * c.fir + 64 * s.fld .FCH_PHD_PHINT n
      + s.fld .FCH_PHD_PHFRAC n
  | none => 0

/-- R379: the chain memory of a channel in counts, each modulator period being 4 (R366); none is given for a pair. -/
def State.chainMemory (s : State) (n : Nat) : Nat :=
  match s.chain n with
  | some c => 4 * (c.ord * c.cic + c.taps * c.cic + 24 * c.cic * c.fir)
  | none => 0

/-- A chain memory has passed since the channel was last disturbed, and it converts. -/
def State.memoryPassed (s : State) (n : Fin 16) : Bool :=
  let m := s.fld .FCH_CFG_MODE n
  s.chRuns n && m != 0 && m != 3
    && decide ((s.conv.chan[(⟨n.val, by omega⟩ : Fin 24)]).memAt + s.chainMemory n ≤ s.clk.now)

/-- R370, R379: a chain memory has passed undisturbed. -/
def execChainMemoryPassed (n : Fin 16) (s : State) : Host.Outcome State Fault Refusal :=
  .next (if s.memoryPassed n then s.setValid n true else s)

/-- The chain rate in S/s, rounded down; a resolver pair runs at 192 kS/s (R387). -/
def State.fchRate (s : State) (n : Nat) : Nat :=
  match s.fld .FCH_CFG_MODE n with
  | 0 => 0
  | 2 => 6144000 / (s.fld .FCH_CFG_CICDEC n * s.fld .FCH_CFG_FIRDEC n)
  | 4 => 192000
  | _ => let c := presetChain (s.fld .FCH_CFG_PRESET n); 6144000 / (c.cic * c.fir)

/-- R380: the multiply-accumulates a second of a channel, by its mode and its chain with the larger tap count. -/
def chanMacs (mode : Nat) (c : Chain) : Rat :=
  match mode with
  | 1 | 2 => (c.taps * 6144000 : Rat) / (c.cic * c.fir)
  | 4 => 1000000
  | _ => 0

def State.loadOf (s : State) (n : Nat) : Rat :=
  let m := s.fld .FCH_CFG_MODE n
  chanMacs m (if m = 2 then s.customChain n (max (s.fld .FCH_TAPS_TAPSA n) (s.fld .FCH_TAPS_TAPSB n))
    else presetChain (s.fld .FCH_CFG_PRESET n))

/-- The sum of a processor. -/
def State.procLoad (s : State) (p : Nat) : Rat :=
  (List.range 4).foldl (fun t j => t + s.loadOf (4 * p + j)) 0

/-- FCH_PLOAD, in 0.1 % of 25 × 10⁶. -/
def State.fchLoad (s : State) (p : Nat) : Nat := (s.procLoad p / 25000).floor.toNat

/-- The structure check of a configuration that stands in `s` for channel `n` (R380, R384, R388). -/
def State.chainErr (s : State) (n : Nat) : Option Nat :=
  let m := s.fld .FCH_CFG_MODE n
  if m = 4 ∧ n % 2 = 1 ∧ s.fld .FCH_CFG_MODE (n - 1) ≠ 4 then some 513
  else if m = 2 ∧ (let d := s.fld .FCH_CFG_CICDEC n * s.fld .FCH_CFG_FIRDEC n
      6144000 < 750 * d ∨ 256000 * d < 6144000) then some 513
  else if m = 3 ∧ s.fld .FCH_SF_N n * s.divisor < presetPeriod (s.fld .FCH_CFG_PRESET n) then some 513
  else if s.pairSlow (n / 2 * 2) then some 513
  else if 25000000 < s.procLoad (n / 4) then some 540
  else none

/-- The state with the writes applied, for a check. -/
def State.withWrites (s : State) (l : List TickWrite) : State := forAll l s fun s w => s.setFld w.fld w.i w.j w.v

/-- R387: the odd channel of a pair reads RESOLVER while the even one does, and is off when the even one has left the mode. -/
def State.fixPair (s : State) (n : Nat) : State :=
  let e := n / 2 * 2
  if s.fld .FCH_CFG_MODE e = modeResolver then s.setFld .FCH_CFG_MODE (e + 1) 0 modeResolver
  else if n % 2 = 0 ∧ s.fld .FCH_CFG_MODE (e + 1) = modeResolver then s.setFld .FCH_CFG_MODE (e + 1) 0 0
  else s

/-- R383: a structure change by its writes: in use, then the combination. -/
def State.structErr (s : State) (n : Nat) (l : List TickWrite) : Option Nat :=
  if l.any fun w => !fldOk w.fld w.v then some 511
  else if s.chanBusy n && l.any fun w => s.fld w.fld w.i w.j != w.v then some 274
  else ((s.withWrites l).fixPair n).chainErr n

/-- A structure change of channel `n`: it takes effect on one tick. -/
def workStruct (o : Origin) (n : Nat) (l : List TickWrite) (chk : State → Option Nat) (s : State) : Work :=
  { permit := s.hasAuth o (s.chanStn n)
    stn := min (s.chanStn n) 4
    chk := chk s
    run := fun _ s =>
      match chk s with
      | some e => .fail e s
      | none => .done { s with tickSet := s.tickSet ++ l } }

/-- Leaving RESOLVER turns the other channel of the pair off. -/
def State.leavePair (s : State) (n : Nat) : List TickWrite :=
  if s.fld .FCH_CFG_MODE n = modeResolver ∧ n % 2 = 0 then [⟨.FCH_CFG_MODE, n + 1, 0, 0⟩] else []

def workFilterPreset (o : Origin) (n : Fin 16) (preset : Fin 4) (sf : Option Nat) (s : State) : Work :=
  let l (s : State) : List TickWrite :=
    [⟨.FCH_CFG_MODE, n, 0, if sf.isSome then 3 else 1⟩, ⟨.FCH_CFG_PRESET, n, 0, preset⟩]
      ++ (match sf with
        | some k => [⟨.FCH_SF_N, n, 0, k⟩]
        | none => []) ++ s.leavePair n
  workStruct o n (l s) (fun s => s.structErr n (l s)) s

def execFilterPreset (o : Origin) (n : Fin 16) (preset : Fin 4) (sf : Option Nat) (s : State) :
    Host.Outcome State Fault Refusal :=
  .next (s.offer o (.filterPreset o n preset sf) (workFilterPreset o n preset sf s))

def workFilterCustom (o : Origin) (n : Fin 16) (ord cic fir : Nat) (s : State) : Work :=
  let l (s : State) : List TickWrite :=
    [⟨.FCH_CFG_MODE, n, 0, 2⟩, ⟨.FCH_CFG_ORD, n, 0, ord⟩, ⟨.FCH_CFG_CICDEC, n, 0, cic⟩, ⟨.FCH_CFG_FIRDEC, n, 0, fir⟩]
      ++ s.leavePair n
  workStruct o n (l s) (fun s => s.structErr n (l s)) s

def execFilterCustom (o : Origin) (n : Fin 16) (ord cic fir : Nat) (s : State) : Host.Outcome State Fault Refusal :=
  .next (s.offer o (.filterCustom o n ord cic fir) (workFilterCustom o n ord cic fir s))

def workFilterPhase (o : Origin) (n : Fin 16) (int frac : Nat) (s : State) : Work :=
  let l : List TickWrite := [⟨.FCH_PHD_PHINT, n, 0, int⟩, ⟨.FCH_PHD_PHFRAC, n, 0, frac⟩]
  workStruct o n l (fun s => s.structErr n l) s

def execFilterPhase (o : Origin) (n : Fin 16) (int frac : Nat) (s : State) : Host.Outcome State Fault Refusal :=
  .next (s.offer o (.filterPhase o n int frac) (workFilterPhase o n int frac s))

/-! ## Coefficient banks (R381) -/

def State.bankErr (s : State) (n : Nat) (bankB : Bool) : Option Nat :=
  if s.flag .FCH_TAPS_ACTB n = bankB then some 541 else none

def tapsFld (bankB : Bool) : Fld := if bankB then .FCH_TAPS_TAPSB else .FCH_TAPS_TAPSA

def State.tapsErr (s : State) (n : Nat) (bankB : Bool) (t : Nat) : Option Nat :=
  if !fldOk (tapsFld bankB) t then some 511
  else match s.bankErr n bankB with
    | some e => some e
    | none => if 25000000 < (s.setFld (tapsFld bankB) n 0 t).procLoad (n / 4) then some 540 else none

def workFilterTaps (o : Origin) (n : Fin 16) (bankB : Bool) (taps : Nat) (s : State) : Work :=
  { permit := s.hasAuth o (s.chanStn n)
    stn := min (s.chanStn n) 4
    chk := s.tapsErr n bankB taps
    run := fun _ s =>
      match s.tapsErr n bankB taps with
      | some e => .fail e s
      | none => .done (s.setFld (tapsFld bankB) n 0 taps) }

def execFilterTaps (o : Origin) (n : Fin 16) (bankB : Bool) (taps : Nat) (s : State) : Host.Outcome State Fault Refusal :=
  .next (s.offer o (.filterTaps o n bankB taps) (workFilterTaps o n bankB taps s))

/-- A coefficient: a multiple of 2⁻²² that 24 bits hold. -/
def coefCode (v : Decimal) : Option Int :=
  match decTimes v (2 ^ 22) with
  | some c => if -(2 ^ 23 : Nat) ≤ c ∧ c ≤ (2 ^ 23 : Nat) - 1 then some c else none
  | none => none

def coefFld (bankB : Bool) : Fld := if bankB then .FCH_COEFB_C else .FCH_COEFA_C

def State.coefErr (s : State) (n : Nat) (bankB : Bool) (i : Nat) (vs : List Decimal) : Option Nat :=
  if 384 < i + vs.length ∨ (vs.any fun v => (coefCode v).isNone) = true then some 511 else s.bankErr n bankB

def State.putCoefs (s : State) (f : Fld) (n i : Nat) : List Decimal → State
  | [] => s
  | v :: l => (s.setFldInt f n i ((coefCode v).getD 0)).putCoefs f n (i + 1) l

def workFilterCoef (o : Origin) (n : Fin 16) (bankB : Bool) (i : Nat) (vs : List Decimal) (s : State) : Work :=
  { pre := if 1 ≤ vs.length ∧ vs.length ≤ 8 then none else some 109
    permit := s.hasAuth o (s.chanStn n)
    stn := min (s.chanStn n) 4
    chk := s.coefErr n bankB i vs
    run := fun _ s =>
      match s.coefErr n bankB i vs with
      | some e => .fail e s
      | none => .done (s.putCoefs (coefFld bankB) n i vs) }

def execFilterCoef (o : Origin) (n : Fin 16) (bankB : Bool) (i : Nat) (vs : List Decimal) (s : State) :
    Host.Outcome State Fault Refusal :=
  .next (s.offer o (.filterCoef o n bankB i vs) (workFilterCoef o n bankB i vs s))

def State.requestBank (s : State) (n : Nat) : State := s.setFlag .FCH_TAPS_PEND n 0 true

def workFilterSwap (o : Origin) (n : Fin 16) (s : State) : Work :=
  { permit := s.hasAuth o (s.chanStn n)
    stn := min (s.chanStn n) 4
    run := fun _ s => .done (s.requestBank n) }

def execFilterSwap (o : Origin) (n : Fin 16) (s : State) : Host.Outcome State Fault Refusal :=
  .next (s.offer o (.filterSwap o n) (workFilterSwap o n s))

/-- R381: the next FIR output sample of a CUSTOM channel after PEND was set. -/
def execFirBankSwap (n : Fin 16) (s : State) : Host.Outcome State Fault Refusal :=
  if s.flag .FCH_TAPS_PEND n && s.fld .FCH_CFG_MODE n == 2 then
    .next ((s.setFlag .FCH_TAPS_PEND n 0 false).setFlag .FCH_TAPS_ACTB n 0 (!s.flag .FCH_TAPS_ACTB n))
  else .next s

/-! ## Resolver pairs (R387 to R389) -/

def trkCode (hz : Nat) : Option Nat :=
  match hz with
  | 50 => some 0
  | 100 => some 1
  | 200 => some 2
  | 400 => some 3
  | 800 => some 4
  | _ => none

def State.resolverErr (s : State) (n : Nat) (trk : Nat) (l : List TickWrite) : Option Nat :=
  match trkCode trk with
  | none => some 511
  | some _ =>
    if n % 2 = 1 then some 513
    else if s.chanBusy n || s.chanBusy (n + 1) then some 274
    else (s.withWrites l).chainErr n

def workFilterResolver (o : Origin) (n : Fin 16) (trk : Nat) (exc : Option (Fin 4)) (s : State) : Work :=
  let l : List TickWrite := [⟨.FCH_CFG_MODE, n, 0, modeResolver⟩, ⟨.FCH_CFG_MODE, n + 1, 0, modeResolver⟩,
    ⟨.FCH_RES_TRK, n, 0, (trkCode trk).getD 0⟩] ++ (match exc with
      | some e => [⟨.FCH_RES_EXC, n, 0, e⟩]
      | none => [])
  workStruct o n l (fun s => s.resolverErr n trk l) s

def execFilterResolver (o : Origin) (n : Fin 16) (trk : Nat) (exc : Option (Fin 4)) (s : State) :
    Host.Outcome State Fault Refusal :=
  .next (s.offer o (.filterResolver o n trk exc) (workFilterResolver o n trk exc s))

def State.resphaseErr (s : State) (n : Nat) : Option Nat :=
  if s.chanAsleep n then some 287
  else if s.chanBusy n then some 274
  else if s.fld .FCH_CFG_MODE n ≠ modeResolver ∨ n % 2 = 1 ∨ s.fld .FCH_RAMP_A n < 400
      ∨ s.flag .EXC_STAT_RAMPING (s.pairExc n) then some 275
  else none

/-- R389: PHADJ takes the phase of the carrier as measured, in 1/4096 cycle. -/
def workFilterResphase (o : Origin) (n : Fin 16) (phase : Int) (s : State) : Work :=
  { permit := s.hasAuth o (s.chanStn n)
    stn := min (s.chanStn n) 4
    chk := s.resphaseErr n
    run := fun _ s =>
      match s.resphaseErr n with
      | some e => .fail e s
      | none =>
        .done { s with tickSet := s.tickSet ++ [⟨.FCH_RES_PHADJ, n, 0, ofSigned 12 (max (-1024) (min 1024 phase))⟩] } }

def execFilterResphase (o : Origin) (n : Fin 16) (phase : Int) (s : State) : Host.Outcome State Fault Refusal :=
  .next (s.offer o (.filterResphase o n phase) (workFilterResphase o n phase s))

def filterModeName (m : Nat) : String :=
  match m with
  | 0 => "OFF"
  | 1 => "PRESET"
  | 2 => "CUSTOM"
  | 3 => "SETTLE-FIRST"
  | _ => "RESOLVER"

def execFilterQuery (o : Origin) (n : Fin 16) (s : State) : Host.Outcome State Fault Refusal :=
  .next (s.askPure o none (s.hasAuth o (s.chanStn n)) fun s =>
    let m := s.fld .FCH_CFG_MODE n
    let k := n.val / 2 * 2
    (0, [[.s "FILTER", .s (chanName n), .s "MODE", .s (filterModeName m), .s "RATE", .n (s.fchRate n), .s "DLY",
        .n (s.fchDly n), .s "VALID", .n (s.fld .ADC_PSTAT_VALID n), .s "BANK",
        .s (if s.flag .FCH_TAPS_ACTB n then "B" else "A"), .s "PEND", .n (s.fld .FCH_TAPS_PEND n)]]
      ++ (if m = modeResolver then
          [[.s "RES", .s "ANG", .n (s.fld .FCH_ANG_ANGLE k), .s "AMP", .n (s.fld .FCH_RAMP_A k), .s "PHADJ",
            .n (s.fldInt .FCH_RES_PHADJ k), .s "TRK", .n (trkHz (s.fld .FCH_RES_TRK k))]]
        else [])))

/-! ## Settle-first (R384 to R386) and the tick (R366, R377, R51) -/

/-- The SETTLE-FIRST conversion of channel `n` has lasted its period, undisturbed. -/
def State.sfOver (s : State) (n : Fin 16) : Bool :=
  let x := s.conv.chan[(⟨n.val, by omega⟩ : Fin 24)]
  s.fld .FCH_CFG_MODE n == 3 && x.sfGood && s.chRuns n
    && decide (x.sfAt + presetPeriod (s.fld .FCH_CFG_PRESET n) ≤ s.clk.now)

/-- R384: a conversion ends; its result is presented from the next tick. One that was discarded gives none. -/
def execSfConversionDone (n : Fin 16) (v : Int) (s : State) : Host.Outcome State Fault Refusal :=
  let c : Fin 24 := ⟨n.val, by omega⟩
  if s.sfOver n then
    let w : Int := max (-8388607) (min 8388607 v)
    let s := s.setChan c fun x => { x with sfGood := false }
    .next { s with tickSet := s.tickSet ++ [⟨.ADC_PDATA_VALUE, n, 0, ofSigned 32 w⟩, ⟨.ADC_PSTAT_STALE, n, 0, 0⟩,
      ⟨.ADC_PSTAT_VALID, n, 0, b2n (!s.ainBlocked n)⟩, ⟨.ADC_PSTAT_CLIP, n, 0, b2n (w != v)⟩] }
  else .next s

/-- R384: conversions start on ticks, every N. -/
def State.sfTick (s : State) : State :=
  forAll (List.finRange 16) s fun s (n : Fin 16) =>
    let c : Fin 24 := ⟨n.val, by omega⟩
    if s.fld .FCH_CFG_MODE n ≠ 3 then s
    else if (s.conv.chan[c]).sfAge + 1 ≥ s.fld .FCH_SF_N n then
      s.setChan c fun x => { x with sfAge := 0, sfGood := true, sfAt := s.clk.now }
    else s.setChan c fun x => { x with sfAge := x.sfAge + 1 }

/-- R385: a rate change discards the conversions in progress. -/
def State.sfRestart (s : State) : State :=
  forAll (List.finRange 16) s fun s (n : Fin 16) =>
    if s.fld .FCH_CFG_MODE n = 3 then
      (s.setFlag .ADC_PSTAT_STALE n 0 true).setChan ⟨n.val, by omega⟩ fun x =>
        { x with sfAge := s.fld .FCH_SF_N n, sfGood := false }
    else s

/-- A value presented by a channel: an input beyond the span gives the end code, CLIP and OVR (R366). -/
def State.present (s : State) (c : Fin 24) (v : Int) : State :=
  let m : Int := if c.val < 16 then (2 ^ 23 : Nat) - 1 else 32767
  let w := max (-m) (min m v)
  if !s.chRuns c || (decide (c.val < 16) && (s.fld .FCH_CFG_MODE c == 0 || s.fld .FCH_CFG_MODE c == 3)) then s
  else
    let s := s.setChan c fun x => { x with last := if c.val < 16 then s.fldInt .ADC_PDATA_VALUE c else 0 }
    let s := s.setCh .ADC_PDATA_VALUE .ADC_FDATA_VALUE c (ofSigned 32 w)
    let s := s.setCh .ADC_PSTAT_CLIP .ADC_FSTAT_CLIP c (b2n (w != v))
    if w != v then s.setCh .ADC_PSTAT_OVR .ADC_FSTAT_OVR c 1 else s

/-- The samples of a tick. A late resampler output is extrapolated by its last difference (R51). -/
def State.converterTick (s : State) (obs : TickObs) : State :=
  let s := forAll (List.finRange 16) s fun s (n : Fin 16) =>
    let c : Fin 24 := ⟨n.val, by omega⟩
    let v := s.fldInt .ADC_PDATA_VALUE n
    if s.lat.begun && obs.lateCh.contains n then s.present c (2 * v - (s.conv.chan[c]).last)
    else match obs.pa.find? fun e => e.1 == n with
      | some e => s.present c e.2
      | none => s.setChan c fun x => { x with last := v }
  let s := forAll obs.fa s fun s (k, v) => s.present ⟨16 + k.val, by omega⟩ v
  let s := forAll obs.res s fun s (n, ang, a) =>
    if s.fld .FCH_CFG_MODE n = modeResolver ∧ n.val % 2 = 0 then
      (s.setFld .FCH_ANG_ANGLE n 0 (ang % 2 ^ 24)).setFld .FCH_RAMP_A n 0 (min a 65535)
    else s
  s.sfTick

end Sys2Proof.Machine
end

