-- ==== Sys2Proof/Machine/Panel.lean ====
section
/-! DEFINITION. The operator panel: keys, panel actions, display, character port (spec/16_operator_panel.md). The two key
combinations are in Power.lean. -/
namespace Sys2Proof.Machine
open Sys2Proof

def State.setPanel (s : State) (f : PanelSt → PanelSt) : State := { s with panel := f s.panel }

/-! ## Keys (R424 to R427) -/

/-- The kinds of entries in the key queue. -/
def kqPress : Nat := 1
def kqRelease : Nat := 2
def kqRepeat : Nat := 3
def kqLong : Nat := 4

/-- The matrix holds the key. -/
def State.keyScanned (s : State) (key : Nat) : Bool :=
  s.powered && decide (key / 16 < s.fld .PNL_SCAN_NCOL) && decide (key % 16 < s.fld .PNL_SCAN_NROW)

/-- R427: an entry joins the key queue, or is dropped. -/
def State.kqPut (s : State) (key kind : Nat) : State :=
  if s.panel.kq.length ≥ 32 then (s.setFlag .PNL_KSTAT_QOVR 0 0 true).raise .attn Cause.KEYQ_OVERFLOW 4
  else
    let s := s.setPanel fun p => { p with kq := p.kq ++ [(key, kind)] }
    s.setFld .PNL_KSTAT_QCOUNT 0 0 s.panel.kq.length

/-- The entries bound to a key on an edge: 0 press, 1 long press. -/
def State.bound (s : State) (key edge : Nat) : List Nat :=
  (List.range 16).filter fun i => s.fld .PNL_KACT_KEY i == key && s.fld .PNL_KACT_EDGE i == edge && s.fld .PNL_KACT_ACT i != 0

/-- R428: the actions of a key event wait to be offered, in ascending entry order. -/
def State.actKey (s : State) (key edge : Nat) : State :=
  let l := (s.bound key edge).map fun i => (⟨i, key, s.clk.now⟩ : PanelAct)
  s.setPanel fun p => { p with acts := p.acts ++ l }

/-- A key event that reaches machine logic: not while the calculator owns the panel (R286). -/
def State.keyEvent (s : State) (key kind : Nat) : State :=
  if s.calcOwns then s
  else
    let s := s.kqPut key kind
    if kind = kqPress then s.actKey key 0 else if kind = kqLong then s.actKey key 1 else s

/-- R430: combination `n` is enabled with two different keys of the matrix, and has not fired in this hold. -/
def State.comboReady (s : State) (n : Nat) : Bool :=
  let a := s.fld .PNL_COMBO_KA n
  let b := s.fld .PNL_COMBO_KB n
  s.flag .PNL_COMBO_EN n && a != b && s.keyScanned a && s.keyScanned b
    && !s.flag (if n = 0 then .PNL_KSTAT_C0ACT else .PNL_KSTAT_C1ACT)

/-- R430: a key of a combination has read up, so the combination can fire again. -/
def State.comboUp (s : State) (key : Nat) : State :=
  let of (s : State) (n : Nat) : Bool := s.fld .PNL_COMBO_KA n == key || s.fld .PNL_COMBO_KB n == key
  let s := if of s 0 then s.setFlag .PNL_KSTAT_C0ACT 0 0 false else s
  if of s 1 then s.setFlag .PNL_KSTAT_C1ACT 0 0 false else s

/-- R425: a change of a key's state has been read for DEB scans. Under lockout no press is accepted while a key is down. A
key outside the matrix reads up. -/
def execKeyAccepted (key : Fin 256) (down : Bool) (s : State) : Host.Outcome State Fault Refusal :=
  let isDown := s.panel.down.contains key.val
  let s := if down then s else s.comboUp key
  if !s.powered || isDown == down
      || (down && (!s.keyScanned key || (!s.flag .PNL_SCAN_NKEY && !s.panel.down.isEmpty))) then .next s
  else
    let s := s.setPanel fun p =>
      { p with down := if down then p.down ++ [key.val] else p.down.filter (· != key.val)
               holds := if down then p.holds ++ [⟨key, s.clk.now, s.clk.now + s.fld .PNL_RPT_RPTD * 10 * msCounts, false⟩]
                 else p.holds.filter (·.key != key.val) }
    .next (s.keyEvent key (if down then kqPress else kqRelease))

/-- The press of a key that is accepted down, where a repeat of it is due (R427). -/
def State.repeatDue (s : State) (key : Nat) : Bool :=
  (s.panel.holds.any fun h => h.key == key && decide (h.next ≤ s.clk.now))
    && s.fld .PNL_KRPT_RPT (key / 32) / 2 ^ (key % 32) % 2 == 1

/-- The same where its long press is due. -/
def State.longDue (s : State) (key : Nat) : Bool :=
  s.panel.holds.any fun h => h.key == key && !h.long && decide (h.at_ + s.fld .PNL_RPT_LONGT * 50 * msCounts ≤ s.clk.now)

def State.setHold (s : State) (key : Nat) (f : KeyHold → KeyHold) : State :=
  s.setPanel fun p => { p with holds := p.holds.map fun h => if h.key = key then f h else h }

/-- R427: RPTD after its press, and then RATE times a second. -/
def execKeyRepeat (key : Fin 256) (s : State) : Host.Outcome State Fault Refusal :=
  if s.repeatDue key then
    .next ((s.setHold key fun h => { h with next := h.next + 1000 * msCounts / max 1 (s.fld .PNL_RPT_RATE) }).keyEvent key kqRepeat)
  else .next s

/-- R427: LONGT after its press, once. -/
def execKeyLongPress (key : Fin 256) (s : State) : Host.Outcome State Fault Refusal :=
  if s.longDue key then .next ((s.setHold key fun h => { h with long := true }).keyEvent key kqLong) else .next s

/-- The oldest entry leaves the key queue. -/
def State.kqPop (s : State) : State :=
  let s := s.setPanel fun p => { p with kq := p.kq.drop 1 }
  s.setFld .PNL_KSTAT_QCOUNT 0 0 s.panel.kq.length

/-- PNL_KQ as a read shows it. -/
def State.kqWord (s : State) : Nat :=
  match s.panel.kq with
  | [] => 0
  | (k, d) :: _ => 2 ^ 31 + d * 256 + k

/-- R427: any requester with authority over a station in KSTN may read the queue. -/
def State.kqMay (s : State) (a : Auth) : Bool :=
  a.brd || (List.range 4).any fun k => s.fld .PNL_OWN_KSTN / 2 ^ k % 2 == 1 && a.over k

/-- A read of PNL_KQ removes the entry that it returns. -/
def execPnlKqRead (q : Requester) (s : State) : Host.Outcome State Fault Refusal :=
  if s.kqMay (s.reqAuth q) then .next s.kqPop else .next s

/-- R426: accepted key states appear in the images of KSTN on a tick; every KEY bit reads 0 while the calculator owns the
panel. -/
def State.keyTick (s : State) : State :=
  forAll (List.finRange 4) s fun s k =>
    let want : List Nat := if s.fld .PNL_OWN_KSTN / 2 ^ k.val % 2 = 1 ∧ !s.calcOwns then s.panel.down else []
    let have_ := ((s.img[k]).dev.filter fun e => 0x1100 ≤ e.1 && e.1 < 0x1200).map fun e => e.1 - 0x1100
    let s := forAll (have_.filter fun b => !want.contains b) s fun s b => s.imgLatch k (0x1100 + b) false
    forAll (want.filter fun b => !have_.contains b) s fun s b => s.imgLatch k (0x1100 + b) true

/-! ## Panel actions (R428, R429) -/

/-- The command of an action. -/
def actCmd (act : Nat) (k : Fin 4) : Option Instr :=
  match act with
  | 1 => some (.hold .panel (some k) none)
  | 2 => some (.stop .panel (some k))
  | 3 => some (.resume .panel (some k))
  | 4 => some (.mfin .panel (some k))
  | _ => none

def State.actWork (s : State) (act : Nat) (k : Fin 4) : Option Work :=
  match act with
  | 1 => some (workHold .panel (some k) none s)
  | 2 => some (workStop .panel (some k) s)
  | 3 => some (workResume .panel (some k) s)
  | 4 => some (workMfin .panel (some k) s)
  | _ => none

/-- The action of an entry is offered, up to 1 s after its key event. One that is answered BUSY waits for the next scan. -/
def execPanelActionOffer (i : Fin 16) (s : State) : Host.Outcome State Fault Refusal :=
  match s.panel.acts.find? fun a => a.entry == i.val && decide (s.clk.now < a.at_ + 1000 * msCounts) with
  | none => .next s
  | some a =>
    if s.calcOwns then .next s
    else
      let drop (s : State) : State := s.setPanel fun p => { p with acts := p.acts.erase a }
      let k : Fin 4 := ⟨s.fld .PNL_KACT_STN i % 4, by omega⟩
      let act := s.fld .PNL_KACT_ACT i
      match actCmd act k, s.actWork act k with
      | some c, some w =>
        let t := s.offer .panel c w
        let accepted := t.lastOf 4 != s.lastOf 4
        if accepted || w.pre.isSome then .next (drop t) else .next t
      | _, _ => .next (drop s)

/-- R429: an action that has not been accepted 1 s after its key event. -/
def execPanelBusy (i : Fin 16) (s : State) : Host.Outcome State Fault Refusal :=
  match s.panel.acts.find? fun a => a.entry == i.val && decide (a.at_ + 1000 * msCounts ≤ s.clk.now) with
  | none => .next s
  | some a =>
    .next ((s.setPanel fun p => { p with acts := p.acts.erase a }).raise .attn Cause.PANEL_BUSY (s.fld .PNL_KACT_STN i) a.key)

/-! ## The display (R434 to R437) -/

/-- Authority over a station in DSTN, or the board flag. -/
def State.dispMay (s : State) (a : Auth) : Bool :=
  a.brd || (List.range 4).any fun k => s.fld .PNL_OWN_DSTN / 2 ^ k % 2 == 1 && a.over k

def State.segw (s : State) : Nat := if s.flag .PNL_DCFG_FONT then 16 else 8

/-- The pattern of a character in the font that PNL_DCFG selects. -/
def State.glyph (s : State) (c : Char) : Nat :=
  let x := c.toNat - 0x20
  if s.flag .PNL_DCFG_FONT then s.fld .PNL_FONT_P14 x else s.fld .PNL_FONT_P7 x

/-- The bit of a point or comma: DP, or CM where the font has one. -/
def State.pointBit (s : State) (c : Char) : Nat :=
  if s.flag .PNL_DCFG_FONT then (if c = ',' then 2 ^ 15 else 2 ^ 14) else 2 ^ 7

/-- The patterns of a text, one a grid. `open_` says that a point may join the last grid. -/
def State.glyphs (s : State) : List Char → List Nat → Bool → List Nat
  | [], acc, _ => acc.reverse
  | c :: l, acc, open_ =>
    if c = '.' ∨ c = ',' then
      match open_, acc with
      | true, g :: r => s.glyphs l ((g ||| s.pointBit c) :: r) false
      | _, acc => s.glyphs l (s.pointBit c :: acc) false
    else s.glyphs l (s.glyph c :: acc) true

/-- The words of text written at a row and grid, into a buffer. -/
def State.putGlyphs (s : State) (f : Fld) (row : Nat) : Nat → List Nat → State
  | _, [] => s
  | g, p :: l =>
    let w := s.segw
    let old := s.fld f g
    let field := old / 2 ^ (w * row) % 2 ^ w
    (s.setFld f g 0 (old - field * 2 ^ (w * row) + p % 2 ^ w * 2 ^ (w * row))).putGlyphs f row (g + 1) l

def State.dispErr (s : State) (row pos : Nat) (text : String) : Option Nat :=
  let n := (s.glyphs text.toList [] false).length
  if s.segw * (row + 1) ≤ 32 ∧ (n = 0 ∨ pos + n ≤ s.fld .PNL_DCFG_NGRID) then none else some 511

def workText (o : Origin) (f : Fld) (row pos : Nat) (text : String) (s : State) : Work :=
  { permit := s.dispMay (s.originAuth o)
    chk := s.dispErr row pos text
    run := fun _ s =>
      match s.dispErr row pos text with
      | some e => .fail e s
      | none => .done (s.putGlyphs f row pos (s.glyphs text.toList [] false)) }

def workDisp (o : Origin) (row pos : Nat) (text : String) (s : State) : Work := workText o .PNL_DRAW_SEG row pos text s

def execDisp (o : Origin) (row pos : Nat) (text : String) (s : State) : Host.Outcome State Fault Refusal :=
  .next (s.offer o (.disp o row pos text) (workDisp o row pos text s))

def workDispFault (o : Origin) (row pos : Nat) (text : String) (s : State) : Work := workText o .PNL_DFLT_SEG row pos text s

def execDispFault (o : Origin) (row pos : Nat) (text : String) (s : State) : Host.Outcome State Fault Refusal :=
  .next (s.offer o (.dispFault o row pos text) (workDispFault o row pos text s))

def workDispClear (o : Origin) (fault : Bool) (s : State) : Work :=
  { permit := s.dispMay (s.originAuth o)
    run := fun _ s => .done (forAll (List.range 24) s fun s g =>
      s.setFld (if fault then .PNL_DFLT_SEG else .PNL_DRAW_SEG) g 0 0) }

def execDispClear (o : Origin) (fault : Bool) (s : State) : Host.Outcome State Fault Refusal :=
  .next (s.offer o (.dispClear o fault) (workDispClear o fault s))

/-- R435: the fault buffer is to be shown. -/
def State.faultShown (s : State) : Bool :=
  !s.calcOwns && (s.ev.tripIn || (List.finRange 4).any fun (k : Fin 4) =>
    s.fld .PNL_OWN_DSTN / 2 ^ k.val % 2 == 1 && s.stnState k == stTripped)

/-- The patterns of the calculator's text that stand on the grids: the part that FUNC 42 and 43 have scrolled to, with the point
of an end grid lit where more lies beyond it (R291). -/
def State.calcGlyphs (s : State) : List Nat :=
  let l := s.glyphs s.calcText.toList [] false
  let n := s.fld .PNL_DCFG_NGRID
  let o := min s.calcu.scroll (l.length - n)
  let dot := s.pointBit '.'
  let w := (l.drop o).take n
  w.zipIdx.map fun (p, i) =>
    if (i = 0 ∧ 0 < o) ∨ (i + 1 = n ∧ o + n < l.length) then p ||| dot else p

/-- R435: the word that grid `g` shows: the calculator's on the first row, else the fault buffer's, else the display buffer's. -/
def State.shownWord (s : State) (g : Nat) : Nat :=
  if s.calcOwns then (s.calcGlyphs).getD g 0
  else if s.faultShown then s.fld .PNL_DFLT_SEG g
  else s.fld .PNL_DRAW_SEG g

/-- R434, R435: the level of segment line DSGn while grid `g` is lit; with no grid, every line is inactive. -/
def State.segLine (s : State) (g n : Nat) : Bool :=
  (decide (g < s.fld .PNL_DCFG_NGRID) && s.shownWord g / 2 ^ n % 2 == 1) == s.flag .PNL_DCFG_SEGPOL

/-- R434: a grid slot and its lit part, in 1/64 ns, of the present settings. -/
def State.gridSlot (s : State) : Nat × Nat :=
  let slot := 64000000000 / (s.fld .PNL_DCFG_REFR * s.fld .PNL_DCFG_NGRID)
  (slot, (slot - 64000 * s.fld .PNL_DCFG_GAP) * (s.fld .PNL_DBRT_BRT + 1) / 64)

/-! ## The character port (R438, R439) -/

/-- A byte that comes to the head of an empty queue begins its cycle. -/
def State.chrStart (s : State) (idle : Bool) : State :=
  if idle then s.setPanel fun p => { p with chrAt := s.clk.now } else s

/-- Table 16.5: the least counts of a byte's cycle, from its start to that of the next. -/
def State.chrCounts (s : State) (b : ChrByte) : Nat :=
  let ew := s.fld .PNL_CHCFG_EW
  if s.fld .PNL_CHCFG_CHMODE = 1 then
    2 + ew + (if !b.rs && decide (1 ≤ b.byte) && decide (b.byte ≤ 3) then s.fld .PNL_CHCFG_LONGD * msCounts
      else (s.fld .PNL_CHCFG_DLY * msCounts + 999) / 1000)
  else 4 + ew

/-- Waiting bytes move into the queue while it has room. -/
def State.chrFill (s : State) : State :=
  let n := 64 - s.panel.chq.length
  let s := s.chrStart s.panel.chq.isEmpty
  let s := s.setPanel fun p => { p with chq := p.chq ++ p.chWait.take n, chWait := p.chWait.drop n }
  s.setFld .PNL_CHSTAT_FILL 0 0 s.panel.chq.length

/-- The bytes of an item; the last one ends it. -/
def chrBytes (key : Key) (rs : Bool) : List Nat → List ChrByte
  | [] => []
  | [b] => [⟨b % 256, rs, some key, true⟩]
  | b :: l => ⟨b % 256, rs, some key, false⟩ :: chrBytes key rs l

def workChr (o : Origin) (rs : Bool) (bytes : List Nat) (chk : Option Nat) (s : State) : Work :=
  { permit := s.dispMay (s.originAuth o)
    chk := chk
    run := fun key s =>
      match chk with
      | some e => .fail e s
      | none =>
        if bytes.isEmpty then .done s
        else .running ((s.setPanel fun p => { p with chWait := p.chWait ++ chrBytes key rs bytes }).chrFill) }

def workDispChr (o : Origin) (text : String) (s : State) : Work := workChr o true (charCodes text) none s

def execDispChr (o : Origin) (text : String) (s : State) : Host.Outcome State Fault Refusal :=
  .next (s.offer o (.dispChr o text) (workDispChr o text s))

def workDispChrCmd (o : Origin) (h : Nat) (s : State) : Work :=
  workChr o false [h] (if h < 256 then none else some 511) s

def execDispChrCmd (o : Origin) (h : Nat) (s : State) : Host.Outcome State Fault Refusal :=
  .next (s.offer o (.dispChrCmd o h) (workDispChrCmd o h s))

/-- A write to PNL_CHQ. -/
def State.chqWrite (s : State) (v : Nat) : State :=
  if s.panel.chq.length ≥ 64 then s.setFlag .PNL_CHSTAT_CHOVF 0 0 true
  else
    let s := s.chrStart s.panel.chq.isEmpty
    let s := s.setPanel fun p => { p with chq := p.chq ++ [⟨v % 256, v / 256 % 2 == 1, none, true⟩] }
    s.setFld .PNL_CHSTAT_FILL 0 0 s.panel.chq.length

/-- The cycle of the byte at the head of the queue has ended. -/
def execChrByteDone (s : State) : Host.Outcome State Fault Refusal :=
  match s.panel.chq with
  | [] => .next s
  | b :: l =>
    let due := s.panel.chrAt + s.chrCounts b
    if s.fld .PNL_CHCFG_CHMODE = 0 ∨ s.clk.now < due then .next s
    else
      let s := (s.setPanel fun p => { p with chq := l, chrAt := due }).chrFill
      match b.key, b.last with
      | some k, true => .next (s.workDone k)
      | _, _ => .next s

/-- R439: in mode 2 the busy flag has stayed set for 20 ms. -/
def execChrTimeout (s : State) : Host.Outcome State Fault Refusal :=
  if s.fld .PNL_CHCFG_CHMODE ≠ 2 ∨ s.panel.chq.isEmpty ∨ s.clk.now < s.panel.chrAt + 20 * msCounts then .next s
  else
    let keys := (s.panel.chq.filterMap fun b => b.key).eraseDups
    let s := s.setPanel fun p => { p with chq := [], chWait := p.chWait.filter fun b => match b.key with
      | some k => !keys.contains k
      | none => true }
    let s := forAll keys s fun s k => s.workFailed k 434
    .next ((s.chrFill.setFlag .PNL_CHSTAT_TMO 0 0 true).raise .fault Cause.CHR_TIMEOUT 4)

/-! ## Settings (R440) -/

/-- The combinations that R428, R434 and R440 forbid, of the settings as they stand in `s`. -/
def State.panelCombErr (s : State) (r : Reg) (i : Nat) : Option Nat :=
  match r with
  | .PNL_COMBO => if s.flag .PNL_COMBO_EN i && s.fld .PNL_COMBO_KA i == s.fld .PNL_COMBO_KB i then some 513 else none
  | .PNL_KACT =>
    if s.fld .PNL_KACT_ACT i ≠ 0 ∧ s.fld .PNL_OWN_KSTN / 2 ^ s.fld .PNL_KACT_STN i % 2 = 0 then some 513 else none
  | .PNL_DCFG =>
    if 1000000 < (s.fld .PNL_DCFG_GAP + 20) * s.fld .PNL_DCFG_REFR * s.fld .PNL_DCFG_NGRID then some 513 else none
  | _ => none

/-- The error of field settings of register instance `i`: a value out of range, or a forbidden combination. -/
def State.setsErr (s : State) (i : Nat) (sets : List FieldSet) (comb : State → Option Nat) : Option Nat :=
  if sets.any fun e => (fldBits e.fld e.val).isNone then some 511
  else comb (forAll sets s fun s e => s.setFld e.fld i 0 ((fldBits e.fld e.val).getD 0))

def State.putSets (s : State) (i : Nat) (sets : List FieldSet) : State :=
  forAll sets s fun s e => s.setFld e.fld i 0 ((fldBits e.fld e.val).getD 0)

def workPanelSets (i : Nat) (sets : List FieldSet) (comb : State → Option Nat) (permit : Bool) (s : State) : Work :=
  { permit := permit
    chk := s.setsErr i sets comb
    run := fun _ s =>
      match s.setsErr i sets comb with
      | some e => .fail e s
      | none => .done (s.putSets i sets) }

def workPanelScan (o : Origin) (sets : List FieldSet) (s : State) : Work :=
  workPanelSets 0 sets (fun _ => none) (s.originAuth o).brd s

def execPanelScan (o : Origin) (sets : List FieldSet) (s : State) : Host.Outcome State Fault Refusal :=
  .next (s.offer o (.panelScan o sets) (workPanelScan o sets s))

def workPanelRepeat (o : Origin) (sets : List FieldSet) (s : State) : Work :=
  workPanelSets 0 sets (fun _ => none) (s.originAuth o).brd s

def execPanelRepeat (o : Origin) (sets : List FieldSet) (s : State) : Host.Outcome State Fault Refusal :=
  .next (s.offer o (.panelRepeat o sets) (workPanelRepeat o sets s))

def workPanelKey (o : Origin) (k : Nat) (on : Bool) (s : State) : Work :=
  { permit := (s.originAuth o).brd
    chk := if k < 256 then none else some 511
    run := fun _ s =>
      if k < 256 then .done (s.setFld .PNL_KRPT_RPT (k / 32) 0 (bitTo (s.fld .PNL_KRPT_RPT (k / 32)) (k % 32) on))
      else .fail 511 s }

def execPanelKey (o : Origin) (k : Nat) (on : Bool) (s : State) : Host.Outcome State Fault Refusal :=
  .next (s.offer o (.panelKey o k on) (workPanelKey o k on s))

def workPanelCombo (o : Origin) (n : Fin 2) (sets : List FieldSet) (s : State) : Work :=
  workPanelSets n sets (fun t => if t.fld .PNL_COMBO_KA n = t.fld .PNL_COMBO_KB n then some 513 else none)
    (s.originAuth o).brd s

def execPanelCombo (o : Origin) (n : Fin 2) (sets : List FieldSet) (s : State) : Host.Outcome State Fault Refusal :=
  .next (s.offer o (.panelCombo o n sets) (workPanelCombo o n sets s))

def workPanelAction (o : Origin) (i : Fin 16) (sets : List FieldSet) (s : State) : Work :=
  workPanelSets i sets (fun t => t.panelCombErr .PNL_KACT i) (s.originAuth o).brd s

def execPanelAction (o : Origin) (i : Fin 16) (sets : List FieldSet) (s : State) : Host.Outcome State Fault Refusal :=
  .next (s.offer o (.panelAction o i sets) (workPanelAction o i sets s))

def workPanelOwner (o : Origin) (sets : List FieldSet) (s : State) : Work :=
  workPanelSets 0 sets (fun _ => none) (s.originAuth o).brd s

def execPanelOwner (o : Origin) (sets : List FieldSet) (s : State) : Host.Outcome State Fault Refusal :=
  .next (s.offer o (.panelOwner o sets) (workPanelOwner o sets s))

/-- The form with BRIGHT alone needs only authority over a station in DSTN. -/
def workPanelDisplay (o : Origin) (sets : List FieldSet) (s : State) : Work :=
  let bright := sets.all fun e => decide (e.fld = .PNL_DBRT_BRT)
  workPanelSets 0 sets (fun t => t.panelCombErr .PNL_DCFG 0)
    ((s.originAuth o).brd || (bright && s.dispMay (s.originAuth o))) s

def execPanelDisplay (o : Origin) (sets : List FieldSet) (s : State) : Host.Outcome State Fault Refusal :=
  .next (s.offer o (.panelDisplay o sets) (workPanelDisplay o sets s))

def workPanelFont (o : Origin) (x : Char) (sets : List FieldSet) (s : State) : Work :=
  workPanelSets (x.toNat - 0x20) sets (fun _ => if 0x20 ≤ x.toNat ∧ x.toNat ≤ 0x7E then none else some 511)
    (s.originAuth o).brd s

def execPanelFont (o : Origin) (x : Char) (sets : List FieldSet) (s : State) : Host.Outcome State Fault Refusal :=
  .next (s.offer o (.panelFont o x sets) (workPanelFont o x sets s))

def workPanelChar (o : Origin) (sets : List FieldSet) (s : State) : Work :=
  workPanelSets 0 sets (fun _ => none) (s.originAuth o).brd s

def execPanelChar (o : Origin) (sets : List FieldSet) (s : State) : Host.Outcome State Fault Refusal :=
  .next (s.offer o (.panelChar o sets) (workPanelChar o sets s))

def kindName (n : Nat) : String :=
  match n with
  | 1 => "PRESS"
  | 2 => "RELEASE"
  | 3 => "REPEAT"
  | _ => "LONG"

def panelScanLine (s : State) : List Fd :=
  [.s "SCAN", .s "COLS", .n (s.fld .PNL_SCAN_NCOL), .s "ROWS", .n (s.fld .PNL_SCAN_NROW), .s "COLT",
    .n (8 * s.fld .PNL_SCAN_COLT), .s "DEB", .n (s.fld .PNL_SCAN_DEB), .s "MODE",
    .s (if s.flag .PNL_SCAN_NKEY then "NKEY" else "LOCKOUT")]

def panelDisplayLine (s : State) : List Fd :=
  [.s "DISPLAY", .s "GRIDS", .n (s.fld .PNL_DCFG_NGRID), .s "RATE", .n (s.fld .PNL_DCFG_REFR), .s "GAP",
    .n (s.fld .PNL_DCFG_GAP), .s "FONT", .n (if s.flag .PNL_DCFG_FONT then 14 else 7), .s "BRIGHT", .n (s.fld .PNL_DBRT_BRT),
    .s "SEGPOL", .s (if s.flag .PNL_DCFG_SEGPOL then "HI" else "LO"), .s "GRDPOL",
    .s (if s.flag .PNL_DCFG_GRDPOL then "HI" else "LO"), .s "FAULT", .n (b2n s.faultShown)]

def panelCharLine (s : State) : List Fd :=
  [.s "CHAR", .s "MODE", .s (match s.fld .PNL_CHCFG_CHMODE with
    | 0 => "OFF"
    | 1 => "TIMED"
    | _ => "BUSY"), .s "EW", .n (s.fld .PNL_CHCFG_EW), .s "DLY", .n (s.fld .PNL_CHCFG_DLY), .s "LONGD",
    .n (s.fld .PNL_CHCFG_LONGD), .s "FILL", .n (s.fld .PNL_CHSTAT_FILL), .s "CHOVF", .n (s.fld .PNL_CHSTAT_CHOVF),
    .s "TMO", .n (s.fld .PNL_CHSTAT_TMO)]

/-- R427, R440: PANEL?. The form QUEUE removes the entries it returns. -/
def execPanelQuery (o : Origin) (p : PanelPart) (s : State) : Host.Outcome State Fault Refusal :=
  .next (s.ask o none (s.originAuth o).any fun s =>
    let keys : List Fd := .s "KEYS" :: s.panel.down.map fun (k : Nat) => .n k
    match p with
    | .scan => (0, [panelScanLine s], s)
    | .keys => (0, [keys], s)
    | .queue =>
      (0, s.panel.kq.map fun (e : Nat × Nat) => [.s "KQ", .n e.1, .s (kindName e.2)],
        (s.setPanel fun p => { p with kq := [] }).setFld .PNL_KSTAT_QCOUNT 0 0 0)
    | .display => (0, [panelDisplayLine s], s)
    | .char => (0, [panelCharLine s], s)
    | .all => (0, [panelScanLine s, keys, panelDisplayLine s, panelCharLine s], s))

end Sys2Proof.Machine
end

