-- ==== Sys2Proof/Machine/FieldIo.lean ====
section
/-! DEFINITION. The field pins, their group supplies and wiring conditions, and the analogue input pins
(spec/17_field_io.md). -/
namespace Sys2Proof.Machine
open Sys2Proof

def State.setFio (s : State) (f : FioSt → FioSt) : State := { s with fio := f s.fio }

def State.setPin (s : State) (n : Fin 64) (f : PinSt → PinSt) : State :=
  s.setFio fun x => { x with pin := x.pin.set n (f x.pin[n]) }

/-! ## What a pin is (R443 to R445, R453) -/

def State.pinStn (s : State) (n : Nat) : Nat := s.fld .FIO_CFG_STN n

/-- The function of a pin; a pin assigned to nothing behaves as OFF (R444). -/
def State.pinFn (s : State) (n : Nat) : Nat := if s.pinStn n = 7 then 0 else s.fld .FIO_CFG_FN n

def State.pinPol (s : State) (n : Nat) : Nat := s.fld .FIO_CFG_POL n

def State.isOut (s : State) (n : Nat) : Bool := s.pinFn n == 5

def State.isInput (s : State) (n : Nat) : Bool := 1 ≤ s.pinFn n && s.pinFn n ≤ 4

/-- A drive enable of a station. -/
def State.isEnable (s : State) (n : Nat) : Bool := s.isOut n && s.fld .FIO_CFG_ENAX n != 15

/-- The station whose drive enable the pin is. -/
def State.enableStn (s : State) (n : Nat) : Option (Fin 4) :=
  if h : s.pinStn n < 4 then (if s.isEnable n then some ⟨s.pinStn n, h⟩ else none) else none

def State.groupState (s : State) (g : Nat) : Nat := s.fld .FIO_GSTAT_STATE g
def State.groupOk (s : State) (n : Nat) : Bool := s.groupState (n / 8) == 0

/-- The field pins run: from the commit of the image on, until a reset or the close-down of a brown-out. Through a warm
reset and its close-down they run on, but for what its step 4 turns off (R461). -/
def State.fieldLive (s : State) : Bool :=
  s.committed && (s.phase != .closing || (match s.pwr.closing with
    | some (.warm, _) => true
    | _ => false))

def State.pinBit (s : State) (f : Fld) (n : Nat) : Bool := s.flag f n

def State.condBit (s : State) (n c : Nat) : Bool := s.fld .FIO_STAT_COND n / 2 ^ c % 2 == 1

def State.setCond (s : State) (n c : Nat) (b : Bool) : State :=
  s.setFld .FIO_STAT_COND n 0 (bitTo (s.fld .FIO_STAT_COND n) c b)

/-! ## The switch of an output (R447, R453, R454, R457, R459) -/

/-- Off by a trip, a reset or the group (FIO_STAT.FORCED). An output of a group that has returned to OK follows its command again
from the next tick (R447). -/
def State.pinForced (s : State) (n : Nat) : Bool :=
  let trip :=
    if h : s.pinStn n < 4 then
      s.stnState ⟨s.pinStn n, h⟩ == stTripped && (s.isEnable n || s.flag .FIO_CFG_TRIPOFF n)
    else s.pinStn n == 4 && s.flag .FIO_CFG_TRIPOFF n && s.ev.tripIn
  let waits := if h : n < 64 then (s.fio.pin[n]).stale else false
  s.isOut n && (trip || !s.fieldLive || !s.groupOk n || waits)

/-- The command of an output: DRVON of its station for an enable pin, and the transferred FOUT bit for any other. -/
def State.pinCommand (s : State) (n : Nat) : Bool :=
  if s.isEnable n then (if h : s.pinStn n < 4 then s.flag .MOT_STATE_DRVON (s.pinStn n) else false)
  else bitFind s.fio.foutDev n

/-- The switch is on (FIO_DRV). A pin in thermal shutdown is off (Table 17.5). -/
def State.pinOn (s : State) (n : Nat) : Bool :=
  s.isOut n && !s.pinForced n && !s.condBit n 2
    && (!s.flag .FIO_STAT_LATCHOFF n || (if h : n < 64 then (s.fio.pin[n]).retrying else false))
    && !(s.flag .FIO_STAT_FAILED n && (s.isEnable n || s.pinPol n == 2))
    && s.pinCommand n

/-! ## Group supplies (R446, R447) -/

def groupCause (st : Nat) : Nat :=
  match st with
  | 1 => Cause.VFG_LOSS
  | 2 => Cause.VFG_OVER
  | _ => Cause.VFG_REVERSED

/-- R447, R458, R459: a station trips by a field pin or group: its TRIP record goes beside the FAULT record. -/
def State.fieldTrip (s : State) (k : Fin 4) (cause inst : Nat) : State :=
  (s.tripStation k).raise .trip cause k inst

/-- R447: the FAULT of a group that is not OK, and the trip of every station with a drive enable in it whose drives are
on. -/
def State.groupEvent (s : State) (g : Fin 8) : State :=
  let cause := groupCause (s.groupState g)
  let s := s.raise .fault cause 4 g.val
  forAll (List.finRange 4) s fun s (k : Fin 4) =>
    if s.flag .MOT_STATE_DRVON k && (List.range 8).any fun (j : Nat) => s.enableStn (8 * g.val + j) == some k then
      s.fieldTrip k cause g.val
    else s

/-- A retry ends without counting (R460). -/
def State.dropRetry (s : State) (n : Fin 64) : State :=
  if (s.fio.pin[n]).retrying then s.setPin n fun p => { p with retrying := false, offAt := s.clk.now } else s

/-- R446: a group supply enters a state. REV is left for OK alone, or for OV, and OK comes at least 100 ms after any other state was
entered. -/
def execVfgStateChange (g : Fin 8) (st : Fin 4) (s : State) : Host.Outcome State Fault Refusal :=
  let old := s.groupState g
  let early := st.val = 0 ∧ s.fio.firstUv[g] = false ∧ s.clk.now < s.fio.leftAt[g] + 100 * msCounts
  if old = st.val ∨ (old = 3 ∧ st.val = 1) ∨ early then .next s
  else
    let s := s.setFld .FIO_GSTAT_STATE g 0 st
    let s := s.setFio fun x => { x with firstUv := x.firstUv.set g false, leftAt := x.leftAt.set g s.clk.now }
    let pins := (List.finRange 64).filter fun (n : Fin 64) => n.val / 8 == g.val
    if st.val = 0 then
      .next (forAll pins s fun s n => s.setPin n fun p =>
        { p with stale := true, offAt := if s.flag .FIO_STAT_LATCHOFF n then s.clk.now else p.offAt })
    else
      let s := if old = 0 then s.setFlag .FIO_GSTAT_LOSSEEN g 0 true else s
      let s := forAll pins s fun s n => s.dropRetry n
      .next (if s.fieldLive then s.groupEvent g else s)

/-- R446: 100 ms after commit, a group still in its initial UV raises VFG_LOSS. -/
def State.firstUvTick (s : State) : State :=
  match s.fio.commitAt with
  | none => s
  | some t =>
    if s.clk.now < t + 100 * msCounts then s
    else
      let l := (List.finRange 8).filter fun (g : Fin 8) => s.fio.firstUv[g] && s.groupState g == 1
      let s := s.setFio fun x => { x with commitAt := none, firstUv := Vector.replicate 8 false }
      forAll l s fun s g => s.groupEvent g

/-! ## Inputs (R447 to R450, R456, R459) -/

def State.inBit (s : State) (n : Nat) : Bool :=
  if n < 32 then s.fld .FIO_IN_LO_IN / 2 ^ n % 2 == 1 else s.fld .FIO_IN_HI_IN / 2 ^ (n - 32) % 2 == 1

def State.setInBit (s : State) (n : Nat) (b : Bool) : State :=
  if n < 32 then s.setFld .FIO_IN_LO_IN 0 0 (bitTo (s.fld .FIO_IN_LO_IN) n b)
  else s.setFld .FIO_IN_HI_IN 0 0 (bitTo (s.fld .FIO_IN_HI_IN) (n - 32) b)

/-- R450: a level that every sample has read for the filter time is taken. -/
def execFioInputChange (n : Fin 64) (v : Bool) (s : State) : Host.Outcome State Fault Refusal :=
  if s.pinFn n = 0 ∨ (s.isInput n && !s.groupOk n) then .next s
  else .next ((s.setInBit n v).setPin n fun p => { p with stale := false })

/-- The conditions that act on an input under ADAPT: BREAK, NSHORT and REV. -/
def State.inputCond (s : State) (n : Nat) : Bool := s.condBit n 4 || s.condBit n 5 || s.condBit n 6

/-- FIN of an input does not show the taken level: under ADAPT it reads FAILV. -/
def State.inputBad (s : State) (n : Fin 64) : Bool :=
  s.isInput n && s.pinPol n == 2
    && (!s.groupOk n || (s.fio.pin[n]).stale || s.flag .FIO_STAT_FAILED n || s.inputCond n)

/-- R309: FIN of a pin is latched. -/
def State.finPin (s : State) (n : Fin 64) : State :=
  let put (s : State) (b : Bool) : State := s.setFio fun x => { x with fin := bitPut x.fin n b }
  if s.isInput n then
    if s.inputBad n then
      let s := if s.fio.bad.contains n.val then s
        else s.setFio fun x => { x with bad := n.val :: x.bad, kept := bitPut x.kept n (bitFind x.fin n) }
      match s.fld .FIO_CFG_FAILV n with
      | 0 => put s false
      | 1 => put s true
      | _ => put s (bitFind s.fio.kept n)
    else
      let s := s.setFio fun x => { x with bad := x.bad.filter (· != n.val) }
      put s (s.groupOk n && !(s.fio.pin[n]).stale && s.inBit n)
  else put s (s.isOut n && s.inBit n)

/-- FFLT (Table 17.8, R447). -/
def State.pinFault (s : State) (n : Nat) : Bool :=
  !s.groupOk n || (s.pinPol n != 0
    && (s.fld .FIO_STAT_COND n != 0 || s.flag .FIO_STAT_LATCHOFF n || s.flag .FIO_STAT_FAILED n))

/-! ## Wiring conditions (R455 to R460) -/

def condCause (c : Nat) : Nat :=
  match c with
  | 0 => Cause.FIO_SHORT
  | 1 => Cause.FIO_OPEN
  | 2 => Cause.FIO_OVERTEMP
  | 3 => Cause.FIO_STUCK
  | 4 => Cause.FIO_BREAK
  | 5 => Cause.FIO_NSHORT
  | _ => Cause.FIO_REVERSED

/-- The condition is one that the pin, as it is set, detects (Table 17.7). -/
def State.condOf (s : State) (n c : Nat) : Bool :=
  let fn := s.pinFn n
  match c with
  | 0 | 1 | 2 | 3 => fn == 5
  | 4 => fn == 4 || ((fn == 1 || fn == 2) && s.flag .FIO_CFG_WB n)
  | 5 => fn == 4
  | _ => 1 ≤ fn && fn ≤ 4

/-- The detection can happen now: a short needs the switch on, and STUCK the switch off. -/
def State.condNow (s : State) (n c : Nat) : Bool :=
  s.condOf n c && (match c with
    | 0 => s.pinOn n
    | 3 => !s.pinOn n
    | _ => true)

/-- R457 step 1. -/
def State.latchPin (s : State) (n : Fin 64) (c : Nat) : State :=
  ((s.setFlag .FIO_STAT_LATCHOFF n 0 true).setFld .FIO_STAT_RETRY n 0 0).setPin n fun p =>
    { p with offAt := s.clk.now, retrying := false, cond := c }

/-- R457 steps 4 and 5: a retry finds the condition present. -/
def State.retryFail (s : State) (n : Fin 64) : State :=
  let s := s.setPin n fun p => { p with retrying := false, offAt := s.clk.now }
  let s := s.setFld .FIO_STAT_RETRY n 0 (min (s.fld .FIO_STAT_RETRY n + 1) 8)
  if s.fld .FIO_STAT_RETRY n = 8 then
    s.raise .fault (condCause (s.fio.pin[n]).cond) (evStn (s.pinStn n)) n.val 8
  else s

/-- The event and the action of a detected condition, by policy (Table 17.8, R458). -/
def State.actCond (s : State) (n : Fin 64) (c : Nat) : State :=
  let pol := s.pinPol n
  let ev (s : State) : State := if pol = 0 then s else s.raise .fault (condCause c) (evStn (s.pinStn n)) n.val
  let trip (s : State) : State :=
    match s.enableStn n with
    | some k => s.fieldTrip k (condCause c) n.val
    | none => s
  if (s.fio.pin[n]).retrying && (s.fio.pin[n]).cond == c then s.retryFail n
  else
    match c with
    | 0 => if pol = 2 then trip ((ev s).latchPin n 0) else ev s
    | 2 =>
      let s := ev s
      let recent := (s.fio.pin[n]).shuts.filter fun (t : Nat) => decide (s.clk.now < t + 10000 * msCounts)
      if pol = 2 ∧ recent.length ≥ 8 ∧ !s.flag .FIO_STAT_LATCHOFF n then s.latchPin n 2 else s
    | 3 => trip (ev s)
    | _ => ev s

/-- R455: a condition is detected or cleared, from commit on and while the group is OK. -/
def execFioCondition (n : Fin 64) (c : Fin 7) (on : Bool) (s : State) : Host.Outcome State Fault Refusal :=
  if !s.fieldLive || !s.groupOk n || on == s.condBit n c || (on && !s.condNow n c) then .next s
  else if on then
    let s := s.setCond n c true
    let s := s.setFld .FIO_STAT_SEEN n 0 (bitTo (s.fld .FIO_STAT_SEEN n) c true)
    let s := if c.val = 2 then s.setPin n fun p =>
        { p with shuts := (p.shuts.filter fun (t : Nat) => decide (s.clk.now < t + 10000 * msCounts)) ++ [s.clk.now] }
      else s
    .next (s.actCond n c)
  else .next (s.setCond n c false)

/-- R457 step 2: a retry begins on a tick on which the pin qualifies. -/
def execFioRetry (n : Fin 64) (s : State) : Host.Outcome State Fault Refusal :=
  let p := s.fio.pin[n]
  if s.flag .FIO_STAT_LATCHOFF n && !p.retrying && !s.isEnable n && s.pinPol n == 2 && s.fld .FIO_STAT_RETRY n != 8
      && !s.pinForced n && s.isOut n && bitFind s.fio.foutDev n && decide (p.offAt + 1000 * msCounts ≤ s.clk.tick) then
    .next (s.setPin n fun p => { p with retrying := true, retryAt := s.clk.now })
  else .next s

/-- R457 steps 3 and 4: the 10 ms of a retry end; `found` says that the condition was present. -/
def execFioRetryEnd (n : Fin 64) (found : Bool) (s : State) : Host.Outcome State Fault Refusal :=
  if !(s.fio.pin[n]).retrying then .next s
  else if s.pinForced n then .next (s.dropRetry n)
  else if !found && decide (s.clk.now < (s.fio.pin[n]).retryAt + 10 * msCounts) then .next s
  else if found then .next (s.retryFail n)
  else
    let s := s.setCond n (s.fio.pin[n]).cond false
    let s := (s.setFlag .FIO_STAT_LATCHOFF n 0 false).setFld .FIO_STAT_RETRY n 0 0
    .next (s.setPin n fun p => { p with retrying := false })

/-- R459: the pin is marked failed. -/
def execFioPin (n : Fin 64) (s : State) : Host.Outcome State Fault Refusal :=
  if s.flag .FIO_STAT_FAILED n || s.pinFn n == 0 then .next s
  else
    let s := (s.setFlag .FIO_STAT_FAILED n 0 true).raise .fault Cause.FIO_PIN (evStn (s.pinStn n)) n.val
    match s.enableStn n with
    | some k => .next (s.fieldTrip k Cause.FIO_PIN n.val)
    | none => .next s

/-! ## The tick (R309, R445, R452, R460) -/

/-- One pin on a tick: its FOUT bit is transferred, a latch that ADAPT no longer holds clears, and FIN and FFLT are
latched. -/
def State.fioPinTick (s : State) (n : Fin 64) : State :=
  let s := s.setFio fun x => { x with foutDev := bitPut x.foutDev n (bitFind x.fout n) }
  let s := if s.flag .FIO_STAT_LATCHOFF n && s.pinPol n != 2 then
      ((s.setFlag .FIO_STAT_LATCHOFF n 0 false).setFld .FIO_STAT_RETRY n 0 0).setPin n fun p => { p with retrying := false }
    else s
  let s := if s.isOut n && (s.fio.pin[n]).stale && s.groupOk n then s.setPin n fun p => { p with stale := false } else s
  let s := if (s.fio.pin[n]).retrying && s.pinForced n then s.dropRetry n else s
  let s := s.finPin n
  s.setFio fun x => { x with flt := bitPut x.flt n (s.pinFault n) }

/-- Only the pins whose bits can differ from their present values need the work of a tick. -/
def State.fioTick (s : State) : State :=
  forAll (List.finRange 64) s.firstUvTick fun s n => s.fioPinTick n

/-- The registers of a pin have changed on a tick: conditions that it no longer detects go, and a pin that is no output
loses its latch and its FOUT bit. -/
def State.fioCfgApplied (s : State) (n : Fin 64) : State :=
  let s := forAll (List.range 7) s fun s c => if s.condOf n c then s else s.setCond n c false
  if s.isOut n then s
  else
    let s := (s.setFlag .FIO_STAT_LATCHOFF n 0 false).setFld .FIO_STAT_RETRY n 0 0
    (s.setPin n fun p => { p with retrying := false }).setFio fun x =>
      { x with fout := bitPut x.fout n false, foutDev := bitPut x.foutDev n false }

/-- R461: a warm reset turns TRIPOFF outputs off and clears their FOUT bits. -/
def State.fioWarm (s : State) : State :=
  forAll (List.finRange 64) s fun s (n : Fin 64) =>
    let s := s.dropRetry n
    if s.isOut n && s.flag .FIO_CFG_TRIPOFF n then
      s.setFio fun x => { x with fout := bitPut x.fout n false, foutDev := bitPut x.foutDev n false }
    else s

/-! ## FOUT as logic reaches it (Table 11.3) -/

/-- A write of FOUT bit `n` by logic of an owner: a station's, or the board's for 4. -/
def State.foutWrite (s : State) (own n : Nat) (b : Bool) : State :=
  if n < 64 && s.pinStn n == own && s.isOut n && !s.isEnable n then
    s.setFio fun x => { x with fout := bitPut x.fout n b }
  else s

/-! ## Analogue input pins (R462 to R464) -/

/-- R463: a test burst begins. Policy OFF makes none. -/
def execAinTestBurst (i : Fin 32) (s : State) : Host.Outcome State Fault Refusal :=
  if s.fieldLive && s.flag .FIO_ACFG_OWEN i && s.fld .FIO_ACFG_POL i != 0
      && ((s.ainChans i).isEmpty || (s.ainChans i).any fun (c : Fin 24) => !s.chanAsleep c)
      && decide (s.fio.burst[i] + s.fld .FIO_ACFG_TPER i * 10 * msCounts ≤ s.clk.tick) then
    .next (s.setFio fun x => { x with burst := x.burst.set i s.clk.tick })
  else .next s

def ainCause (c : Nat) : Nat :=
  match c with
  | 0 => Cause.AIN_OPEN
  | 1 => Cause.AIN_OVER
  | _ => Cause.AIN_REVERSED

/-- Channels whose pin has changed its wiring condition: their VALID is judged again. -/
def State.ainJudge (s : State) (i : Nat) : State :=
  forAll (s.ainChans i) s fun s c =>
    if s.ainBlocked c then s.setValid c false
    else if c.val < 16 then s.disturb c
    else s.setValid c (s.chRuns c)

/-- R463, R464: an AIN pin detects or clears OPEN, OVER or REV. -/
def execAinCondition (i : Fin 32) (c : Fin 3) (on : Bool) (s : State) : Host.Outcome State Fault Refusal :=
  let now := s.fld .FIO_ASTAT_COND i / 2 ^ c.val % 2 == 1
  let able : Bool := match c with
    | 0 => s.flag .FIO_ACFG_OWEN i && s.fld .FIO_ACFG_POL i != 0
    | 1 => true
    | 2 => s.flag .FIO_ACFG_UNI i
  if !s.fieldLive || now == on || (on && !able) then .next s
  else
    let s := s.setFld .FIO_ASTAT_COND i 0 (bitTo (s.fld .FIO_ASTAT_COND i) c on)
    let pol := s.fld .FIO_ACFG_POL i
    if on then
      let s := s.setFld .FIO_ASTAT_SEEN i 0 (bitTo (s.fld .FIO_ASTAT_SEEN i) c true)
      let s := if pol = 0 then s else s.raise .fault (ainCause c) (evStn (s.ainStn i)) i.val
      .next (if pol = 2 then s.ainJudge i else s)
    else .next (if pol = 2 then s.ainJudge i else s)

/-- The registers of an AIN pin have changed: a test that is off detects nothing, and bursts count from its setting. -/
def State.ainCfgApplied (s : State) (i : Fin 32) (was : Bool) : State :=
  let s := if s.flag .FIO_ACFG_OWEN i && !was then s.setFio fun x => { x with burst := x.burst.set i s.clk.tick } else s
  let c := s.fld .FIO_ASTAT_COND i
  let c := if s.flag .FIO_ACFG_OWEN i then c else bitTo c 0 false
  let c := if s.flag .FIO_ACFG_UNI i then c else bitTo c 2 false
  if c = s.fld .FIO_ASTAT_COND i then s else (s.setFld .FIO_ASTAT_COND i 0 c).ainJudge i

/-! ## Commands (R465 to R467) -/

/-- Every station of the pin is IDLE: its own, or every one for a board pin (R445). -/
def State.pinIdle (s : State) (n : Nat) : Bool :=
  if h : s.pinStn n < 4 then s.stnState ⟨s.pinStn n, h⟩ == stIdle
  else if s.pinStn n = 4 then (List.finRange 4).all fun (k : Fin 4) => s.stnState k == stIdle
  else true

/-- The state checks of a change of a pin's registers from `s` to `t` (R444, R445, R453, R455). -/
def State.pinCfgErr (s t : State) (n : Nat) : Option Nat :=
  let ch (f : Fld) : Bool := s.fld f n != t.fld f n
  match s.assignErr (s.pinStn n) (t.pinStn n) with
  | some e => some e
  | none =>
    if (ch .FIO_CFG_FN || ch .FIO_CFG_ENAX || ch .FIO_CFG_TRIPOFF || ch .FIO_CFG_WB || ch .FIO_CFG_LIM) && !s.pinIdle n then
      some 284
    else
      let fn := t.fld .FIO_CFG_FN n
      let ax := t.fld .FIO_CFG_ENAX n
      if (t.flag .FIO_CFG_WB n && fn != 1 && fn != 2) || (t.flag .FIO_CFG_LIM n && fn != 5)
          || (ax != 15 && (fn != 5 || 4 ≤ t.pinStn n || s.axisCode ax != t.pinStn n)) then some 513
      else none

def pinRange (n m : Nat) : List Nat := (List.range (m + 1)).filter fun k => n ≤ k

def State.fioErr (s : State) (n m : Nat) (sets : List FieldSet) : Option Nat :=
  if sets.any fun e => (fldBits e.fld e.val).isNone then some 511
  else
    let l := pinRange n m
    let t := forAll l s fun s k => s.putSets k sets
    l.findSome? fun (k : Nat) => s.pinCfgErr t k

/-- The station code that items about pins `n` to `m` belong to. -/
def State.pinsStn (s : State) (l : List Nat) : Nat :=
  match (l.map fun (k : Nat) => evStn (s.pinStn k)).eraseDups with
  | [k] => k
  | _ => 4

/-- Field settings of register instance `i` for the next tick. -/
def State.nextTickSets (s : State) (i : Nat) (sets : List FieldSet) : State :=
  let ws := sets.map fun e => (⟨e.fld, i, 0, (fldBits e.fld e.val).getD 0⟩ : TickWrite)
  { s with tickSet := s.tickSet ++ ws }

/-- R465: every named pin changes on one tick, or none. -/
def workFio (o : Origin) (n m : Nat) (sets : List FieldSet) (s : State) : Work :=
  let a := s.originAuth o
  let l := pinRange n m
  { pre := if 63 < m then some 301 else if m < n then some 109 else none
    permit := (a.brd || !sets.any fun e => e.fld == .FIO_CFG_STN)
      && (sets.all (fun e => e.fld == .FIO_CFG_STN) || l.all fun (k : Nat) => a.over (s.pinStn k))
    stn := s.pinsStn l
    chk := s.fioErr n m sets
    run := fun _ s =>
      match s.fioErr n m sets with
      | some e => .fail e s
      | none => .done (l.foldl (fun t k => t.nextTickSets k sets) s) }

def execFio (o : Origin) (n m : Nat) (sets : List FieldSet) (s : State) : Host.Outcome State Fault Refusal :=
  .next (s.offer o (.fio o n m sets) (workFio o n m sets s))

def State.fioOutErr (s : State) (n : Nat) : Option Nat := if s.isOut n && !s.isEnable n then none else some 285

/-- R466: the pending FOUT bit is written as logic writes it. -/
def workFioOut (o : Origin) (n : Nat) (on : Bool) (s : State) : Work :=
  { pre := if n < 64 then none else some 301
    permit := s.hasAuth o (s.pinStn n)
    stn := evStn (s.pinStn n)
    chk := s.fioOutErr n
    run := fun _ s =>
      match s.fioOutErr n with
      | some e => .fail e s
      | none => .done (s.foutWrite (s.pinStn n) n on) }

def execFioOut (o : Origin) (n : Nat) (on : Bool) (s : State) : Host.Outcome State Fault Refusal :=
  .next (s.offer o (.fioOut o n on) (workFioOut o n on s))

/-- The self-test of a failed pin: whether the disagreement shows now is not given, so it is free (log entry 1). A pin
that is not marked passes. -/
def State.selfTestErr (s : State) (n : Nat) : Option Nat :=
  if s.flag .FIO_STAT_FAILED n ∧ Config.freeValue s.freeCtr % 2 = 1 then some 286 else none

/-- R457, R459, R460: the latch, RETRY, the mark and a present SHORT go. -/
def State.clearPin (s : State) (n : Fin 64) : State :=
  let s := (s.setFlag .FIO_STAT_FAILED n 0 false).setFlag .FIO_STAT_LATCHOFF n 0 false
  ((s.setFld .FIO_STAT_RETRY n 0 0).setCond n 0 false).setPin n fun p => { p with retrying := false }

def State.clearPinChecked (s : State) (n : Nat) : Option Nat × State :=
  match s.selfTestErr n with
  | some e => (some e, { s with freeCtr := s.freeCtr + 1 })
  | none =>
    let s := { s with freeCtr := s.freeCtr + 1 }
    (none, if h : n < 64 then s.clearPin ⟨n, h⟩ else s)

def workFioClear (o : Origin) (n : Nat) (s : State) : Work :=
  { pre := if n < 64 then none else some 301
    permit := s.hasAuth o (s.pinStn n)
    stn := evStn (s.pinStn n)
    chk := s.selfTestErr n
    run := fun _ s =>
      match s.clearPinChecked n with
      | (some e, t) => .fail e t
      | (none, t) => .done t }

def execFioClear (o : Origin) (n : Nat) (s : State) : Host.Outcome State Fault Refusal :=
  .next (s.offer o (.fioClear o n) (workFioClear o n s))

/-- FIO_ACFG of a pin takes field settings. -/
def State.ainApply (s : State) (i : Nat) (sets : List FieldSet) : State :=
  let was := s.flag .FIO_ACFG_OWEN i
  let t := s.putSets i sets
  if h : i < 32 then t.ainCfgApplied ⟨i, h⟩ was else t

def workFioAin (o : Origin) (i : Nat) (sets : List FieldSet) (s : State) : Work :=
  { pre := if i < 32 then none else some 301
    permit := s.ainMay (s.originAuth o) i
    stn := evStn (s.ainStn i)
    chk := s.setsErr i sets (fun _ => none)
    run := fun _ s =>
      match s.setsErr i sets (fun _ => none) with
      | some e => .fail e s
      | none => .done (s.ainApply i sets) }

def execFioAin (o : Origin) (i : Nat) (sets : List FieldSet) (s : State) : Host.Outcome State Fault Refusal :=
  .next (s.offer o (.fioAin o i sets) (workFioAin o i sets s))

def pinFnName (n : Nat) : String :=
  match n with
  | 0 => "OFF"
  | 1 => "IN1"
  | 2 => "IN3"
  | 3 => "INSRC"
  | 4 => "NAMUR"
  | _ => "OUT"

def groupStateName (n : Nat) : String :=
  match n with
  | 0 => "OK"
  | 1 => "UV"
  | 2 => "OV"
  | _ => "REV"

/-- The words of a list of flags, or NONE. -/
def flagWords (l : List (String × Bool)) : List Fd :=
  match (l.filter (·.2)).map (·.1) with
  | [] => [.s "NONE"]
  | ws => ws.map .s

def fioLine (s : State) (n : Nat) : List Fd :=
  let names := ["SHORT", "OPEN", "OVT", "STUCK", "BREAK", "NSHORT", "REV"]
  [.s "FIO", .n n, .s "STN", .s (stnName (s.pinStn n)), .s "FN", .s (pinFnName (s.fld .FIO_CFG_FN n)), .s "IN",
    .n (b2n (bitFind s.fio.fin n)), .s "OUT", .n (b2n (s.pinOn n)), .s "CUR", .n (s.fld .FIO_CUR_IOUT n), .s "FLT"]
    ++ flagWords ((names.zipIdx.map fun (e : String × Nat) => (e.1, s.condBit n e.2)) ++
      [("FAILED", s.flag .FIO_STAT_FAILED n), ("LATCHOFF", s.flag .FIO_STAT_LATCHOFF n), ("GROUP", !s.groupOk n)])

def ainLine (s : State) (i : Nat) : List Fd :=
  let c := s.fld .FIO_ASTAT_COND i
  [.s "AIN", .n i, .s "OW", .n (s.fld .FIO_ACFG_OWEN i), .s "TPER", .n (10 * s.fld .FIO_ACFG_TPER i), .s "UNI",
    .n (s.fld .FIO_ACFG_UNI i), .s "FLT"]
    ++ flagWords [("OPEN", c % 2 == 1), ("OVER", c / 2 % 2 == 1), ("REV", c / 4 == 1)]

def groupLine (s : State) (g : Nat) : List Fd :=
  let v := s.fldInt .FIO_GSTAT_V g
  [.s "VFG", .n g, .s "V", .d ⟨v < 0, v.natAbs, -2⟩, .s "STATE", .s (groupStateName (s.groupState g)), .s "I",
    .n (s.fld .FIO_GCUR_I g)]

/-- R467. -/
def execFioQuery (o : Origin) (p : FioPart) (s : State) : Host.Outcome State Fault Refusal :=
  let a := s.originAuth o
  let see (n : Nat) : Bool := if s.pinStn n = 7 then a.any else a.over (s.pinStn n)
  match p with
  | .pins (some (n, m)) =>
    .next (s.askPure o (if 63 < m then some 301 else if m < n then some 109 else none) ((pinRange n m).all see) fun s =>
      (0, (pinRange n m).map (fioLine s)))
  | .pins none => .next (s.askPure o none true fun s => (0, ((List.range 64).filter see).map (fioLine s)))
  | .ain i =>
    .next (s.askPure o (if i < 32 then none else some 301) (s.ainMay a i) fun s => (0, [ainLine s i]))
  | .group g => .next (s.askPure o (if g < 8 then none else some 301) a.any fun s => (0, [groupLine s g]))

end Sys2Proof.Machine
end

