-- ==== Sys2Proof/Machine/Noc.lean ====
section
/-! DEFINITION. The Boardwalk: its nodes and routes (R20, R21), and its packets and flits (R18, R19). -/
namespace Sys2Proof

/-! ## Nodes (Table 1.4) -/

def nodeOf : NocUnit → Fin 16
  | .serial | .tape | .panel => 0
  | .core c => if c.val < 2 then 1 else if c.val < 4 then 2 else 9
  | .ohmid => 3
  | .sram 0 | .rings => 4
  | .sram 1 => 7
  | .decimal => 5
  | .planner _ => 6
  | .flash | .loader => 8
  | .servo a => if a.val < 6 then 10 else 11
  | .journal | .events | .timeCounter | .lattice | .power => 12
  | .converters | .chains => 13
  | .dacs | .excitation | .encoders => 14
  | .field | .reedbed | .fabric | .obsPort => 15

/-- The block that serves register block `n` of Table 25.1, at its node of Table 1.4. -/
def blockUnit (n : Nat) : NocUnit :=
  match n with
  | 0 => .core 4
  | 1 => .power
  | 2 => .lattice
  | 3 => .journal
  | 4 => .flash
  | 5 => .rings
  | 6 => .events
  | 7 => .timeCounter
  | 8 => .decimal
  | 9 => .planner 0
  | 10 => .servo 0
  | 11 => .encoders
  | 12 => .reedbed
  | 13 => .fabric
  | 14 => .converters
  | 15 => .chains
  | 16 => .dacs
  | 17 => .excitation
  | 18 => .field
  | 19 => .panel
  | 20 => .ohmid
  | 21 => .serial
  | 22 => .loader
  | _ => .obsPort

/-- The block that serves an address of Table 1.5; none for an unmapped one. -/
def addrUnit (a : Nat) : Option NocUnit :=
  if a < 0x200000 then some (.sram 0)
  else if a < 0x400000 then some (.sram 1)
  else if 0x10000000 ≤ a ∧ a < 0x10400000 then some .flash
  else if 0x20000000 ≤ a ∧ a < 0x20040000 then some .journal
  else if 0x40000000 ≤ a ∧ a < 0x40190000 then some (blockUnit ((a - 0x40000000) / 0x10000))
  else none

/-- R20, R21: the routers that a packet crosses: along the row to the destination's column, then along that column. -/
def routersOf (src dst : Nat) : List Nat :=
  let across := (List.range 4).filter fun (x : Nat) => min (src % 4) (dst % 4) ≤ x && x ≤ max (src % 4) (dst % 4)
  let along := (List.range 4).filter fun (y : Nat) =>
    min (src / 4) (dst / 4) ≤ y && y ≤ max (src / 4) (dst / 4) && y != src / 4
  across.map (fun (x : Nat) => 4 * (src / 4) + x) ++ along.map (fun (y : Nat) => 4 * y + dst % 4)

/-! ## Packets (R18, R19) -/

/-- The KIND of Table 1.3. -/
def PktBody.kind : PktBody → Fin 8
  | .regRead _ => 0
  | .regWrite .. => 1
  | .response .. => 2
  | .memRead _ => 3
  | .memWrite .. => 4
  | .ringEntry .. => 5
  | .decimal _ => 6
  | .event .. => 7

/-- The address that a register or memory packet carries. -/
def PktBody.addr? : PktBody → Option Nat
  | .regRead a | .regWrite a _ | .memRead a | .memWrite a _ => some a.toNat
  | _ => none

def PktBody.isRead (b : PktBody) : Bool := b.kind == 0 || b.kind == 3
def PktBody.isWrite (b : PktBody) : Bool := b.kind == 1 || b.kind == 4

/-- The data of a register write; 0 for every other packet. -/
def PktBody.word : PktBody → Nat
  | .regWrite _ v => v.toNat
  | _ => 0

/-- The payloads of a packet's flits: the address lies in bits 31:0 of the first, a register write's data in bits 63:32, and
the rest of that flit is 0. -/
def PktBody.payloads : PktBody → List (BitVec 128)
  | .regRead a | .memRead a => [a.setWidth 128]
  | .regWrite a v => [(v ++ a).setWidth 128]
  | .memWrite a l => a.setWidth 128 :: l
  | .response x l | .event x l => x :: l
  | .ringEntry lo hi => [lo, hi]
  | .decimal v => [v]

def PktObs.src (p : PktObs) : Fin 16 := nodeOf p.source

def PktObs.dst (p : PktObs) : Fin 16 := nodeOf ((p.body.addr?.bind addrUnit).getD p.dest)

/-- Responses travel on a virtual channel of their own (R20). -/
def PktObs.vc (p : PktObs) : Bool := p.body.kind == 2

/-- Flits after the first. -/
def PktObs.len (p : PktObs) : Nat := p.body.payloads.length - 1

/-- A packet is 1 to 16 flits. -/
def PktObs.whole (p : PktObs) : Bool := p.len < 16

/-- The packet header of Table 1.3. -/
def PktObs.header (p : PktObs) : Word :=
  p.tag ++ BitVec.ofNat 4 p.len ++ BitVec.ofBool p.vc ++ BitVec.ofBool p.stn.isNone
    ++ BitVec.ofNat 2 ((p.stn.map (·.val)).getD 0) ++ BitVec.ofNat 3 p.body.kind ++ BitVec.ofNat 4 p.src ++ BitVec.ofNat 4 p.dst

/-- The header of every following flit repeats DST, SRC and TAG, with all other bits 0. -/
def PktObs.contHeader (p : PktObs) : Word := p.tag ++ 0#11 ++ BitVec.ofNat 4 p.src ++ BitVec.ofNat 4 p.dst

/-- A flit: a 32-bit header and a 128-bit payload. -/
structure Flit where
  header : Word
  payload : BitVec 128
deriving DecidableEq, Repr

def PktObs.flits (p : PktObs) : List Flit :=
  p.body.payloads.zipIdx.map fun e => ⟨if e.2 = 0 then p.header else p.contHeader, e.1⟩

/-- The station code of the packet's authority: 0 to 3, or 4 for the board. -/
def PktObs.own (p : PktObs) : Nat := (p.stn.map (·.val)).getD 4

end Sys2Proof
end

