-- ==== Sys2Proof/Machine/Observation.lean ====
section
/-! DEFINITION. Observation: engine counters, snapshots, probes, watchpoints, skims, freezes and trace
(spec/22_observation.md). -/
namespace Sys2Proof.Machine
open Sys2Proof

def State.setObs (s : State) (f : ObsSt → ObsSt) : State := { s with obs := f s.obs }

def State.frozen (s : State) : Bool := s.flag .OBS_STAT_FROZEN

/-- R583: every observation line fails while OBS is off. -/
def State.obsErr (s : State) : Option Nat := if s.obsOn then none else some 288

/-! ## Engines (R584 to R587) -/

def engCore (e : Nat) : Option Nat := if e < 6 then some e else none

/-- The owner of an engine: a station, or 4 for the board (Table 22.1). -/
def State.engOwner (s : State) (e : Nat) : Nat :=
  if e < 6 then evStn (s.fld .SYS_CASN_STN e)
  else if e < 10 then e - 6
  else if e < 22 then evStn (s.axisCode (e - 10))
  else 4

def engName (e : Nat) : String :=
  if e < 6 then "T" ++ natText e
  else if e < 10 then "MP" ++ natText (e - 6)
  else if e < 22 then "SA" ++ natText (e - 10)
  else if e < 26 then "FC" ++ natText (e - 22)
  else match e with
    | 26 => "DEC"
    | 27 => "JRN"
    | 28 => "RING"
    | 29 => "LDR"
    | 30 => "OLT"
    | 31 => "LP0"
    | _ => "LP1"

def stallName (r : Nat) : String :=
  match r with
  | 0 => "WAIT_RING_EMPTY"
  | 1 => "WAIT_RING_FULL"
  | 2 => "WAIT_DECIMAL"
  | 3 => "WAIT_MEMORY"
  | 4 => "WAIT_LINK_CREDIT"
  | 5 => "WAIT_LATTICE"
  | 6 => "WAIT_LOCK"
  | _ => "HELD"

def engStateName (n : Nat) : String :=
  match n with
  | 0 => "BUSY"
  | 1 => "STALLED"
  | _ => "IDLE"

def zeroCount : EngCount := ⟨0, 0, Vector.replicate 8 0⟩

def State.setEng (s : State) (e : Fin 33) (f : EngCount → EngCount) : State :=
  s.setObs fun x => { x with eng := x.eng.set e (f x.eng[e]) }

/-- Counts spent in a state. -/
def EngCount.add (c : EngCount) (state : Nat) (reason : Fin 8) (n : Nat) : EngCount :=
  match state with
  | 0 => { c with busy := c.busy + n }
  | 1 => { c with stall := c.stall.set reason (c.stall[reason] + n) }
  | _ => { c with idle := c.idle + n }

def natFin8 (n : Nat) : Fin 8 := ⟨n % 8, by omega⟩

/-- The owner of a decimal requester (Table 10.3). -/
def State.decOwner (s : State) (m : Nat) : Nat :=
  if m < 4 then m
  else if m < 10 then s.engOwner (m - 4)
  else evStn (s.axisCode (m - 10))

/-- R597: the station of the tags that an engine carries: of its block, of the requester that the decimal engine serves, or of the
item whose record the journal takes. -/
def State.tagStn (s : State) (e : Nat) : Nat :=
  if e = 26 then (s.dec.busy.map fun r => s.decOwner r.req).getD 4
  else if e = 27 then (s.jrn.queue.findSome? fun q => match q with
    | .item r _ => some r.stn
    | .copy _ => none).getD 4
  else s.engOwner e

/-- R585: the counts of an engine since the last tick, `n` of them in all, and its state now. -/
def State.engTick (s : State) (n : Nat) (o : EngObs) : State :=
  let was := s.fld .OBS_ENOW_STATE o.e
  let s' := ((s.setFld .OBS_ENOW_STATE o.e 0 o.state).setFld .OBS_ENOW_REASON o.e 0 (if o.state = 1 then o.reason else 0)).setFld
    .OBS_ENOW_ON o.e 0 (if o.state = 1 then o.on else 0)
  let named := o.busy + o.idle + (o.stalls.map (·.2)).foldl (· + ·) 0
  let s' := if s.frozen || !s.obsOn || decide (n < named) then s'
    else s'.setEng o.e fun c =>
      let c := (c.add 0 0 o.busy).add 2 0 o.idle
      let c := o.stalls.foldl (fun c e => c.add 1 e.1 e.2) c
      c.add o.state o.reason (n - named)
  if was ≠ 1 ∧ o.state = 1 then s'.traceRec 8 (s.tagStn o.e) o.e (1 + 256 * (o.reason + 256 * (o.on % 65536)))
  else if was = 1 ∧ o.state ≠ 1 then
    s'.traceRec 8 (s.tagStn o.e) o.e (256 * (s.fld .OBS_ENOW_REASON o.e + 256 * s.fld .OBS_ENOW_ON o.e))
  else s'

/-- An engine that nothing is said of stays in its state. -/
def State.engStay (s : State) (n : Nat) (e : Fin 33) : State :=
  if s.frozen || !s.obsOn then s
  else s.setEng e fun c => c.add (s.fld .OBS_ENOW_STATE e) (natFin8 (s.fld .OBS_ENOW_REASON e)) n

/-- What the state itself says of a core: idle with no work or at WAITL without TICK, else what it waits for (R585, Table 22.2). -/
def State.coreSaid (s : State) (c : Fin 6) : Option (Fin 3 × Nat × Nat) :=
  match s.fld .SYS_CSTAT_STATE c, (s.core[c]).wait with
  | 0, _ | 4, _ | 5, _ => some (2, 0, 0)
  | 2, _ => some (if s.flag .SYS_CCTL_TICK c then (1, 5, 0) else (2, 0, 0))
  | _, .chkpt _ => some (1, 3, 3)
  | _, .dpop _ => some (1, 2, 4 + c.val)
  | _, _ => none

/-- Of a planner: its station is held with work, or it finds the block ring empty with a path to go on (R152). -/
def State.plannerSaid (s : State) (k : Fin 4) : Option (Fin 3 × Nat × Nat) :=
  if s.stnState k = stHeld ∧ (s.stnItems k).any (·.st == .held) then some (1, 7, k.val)
  else if (s.mot[k]).starved then some (1, 0, 4 + k.val) else none

/-- Of the Ohmid transaction layer: a port with frames to send has no credit, or is paused. -/
def State.linkSaid (s : State) : Option (Fin 3 × Nat × Nat) :=
  (([0, 1] : List (Fin 2)).find? fun p =>
    let q := s.lnk.port[p]
    !(q.queue.isEmpty && q.fwd.isEmpty) && (decide (8 ≤ q.win.length) || q.pauseQ != 0)).map fun p => (1, 4, p.val)

/-- R585: from the start of a warm reset's close-down to its end, every engine of the CORE domain counts as idle. -/
def State.coreIdles (s : State) : Bool :=
  match s.phase, s.pwr.closing with
  | .closing, some (.warm, _) => true
  | .replaying, _ => s.fld .PWR_STAT_LAST == 2
  | _, _ => false

/-- What the state says of an engine: its state, its reason and ON. -/
def State.engKnown (s : State) (e : Fin 33) : Option (Fin 3 × Nat × Nat) :=
  if s.coreIdles && decide (e.val < 30) then some (2, 0, 0)
  else if h : e.val < 6 then s.coreSaid ⟨e.val, h⟩
  else if h : e.val - 6 < 4 then s.plannerSaid ⟨e.val - 6, h⟩
  else if e.val = 30 then s.linkSaid else none

/-- What is said of an engine on a tick; what the state itself shows stands. -/
def State.engSaid (s : State) (e : Fin 33) (o : Option EngObs) : Option EngObs :=
  match s.engKnown e with
  | some (st, r, on) => some { o.getD ⟨e, 0, 0, [], st, natFin8 r, on⟩ with state := st, reason := natFin8 r, on := on }
  | none => o

def State.enginesTick (s : State) (n : Nat) (l : List EngObs) : State :=
  forAll (List.finRange 33) s fun s e =>
    match s.engSaid e (l.find? fun o => o.e == e) with
    | some o => s.engTick n o
    | none => s.engStay n e

/-- The engines that a scope names: all, or those of an owner. -/
def State.scopeEngs (s : State) (sc : ObsScope) : List (Fin 33) :=
  match sc with
  | .all => List.finRange 33
  | .owner .board => (List.finRange 33).filter fun (e : Fin 33) => s.engOwner e == 4
  | .owner (.stn k) => (List.finRange 33).filter fun (e : Fin 33) => s.engOwner e == k.val

def State.clearProbe (s : State) (n : Nat) : State :=
  ((s.setFld .NOC_PPKT_N n 0 0).setFld .NOC_PFLIT_N n 0 0).setFld .NOC_PBLK_N n 0 0

/-- R587. -/
def State.obsClear (s : State) (sc : ObsScope) : State :=
  let s := forAll (s.scopeEngs sc) s fun s e =>
    let s := s.setEng e fun _ => zeroCount
    if e.val < 6 then s.setFld .OBS_RSVOP_N e 0 0 else s
  match sc with
  | .owner (.stn _) => s
  | _ => forAll (List.range 16) s fun s n => s.clearProbe n

def workObsClear (o : Origin) (sc : Option ObsScope) (s : State) : Work :=
  let sc := sc.getD (.owner (.stn (s.defStn o)))
  let a := s.originAuth o
  { permit := match sc with
      | .owner (.stn k) => a.over k
      | _ => a.brd
    stn := match sc with
      | .owner (.stn k) => k
      | _ => 4
    chk := s.obsErr
    run := fun _ s => match s.obsErr with
      | some e => .fail e s
      | none => .done (s.obsClear sc) }

def execObsClear (o : Origin) (sc : Option ObsScope) (s : State) : Host.Outcome State Fault Refusal :=
  .next (s.offer o (.obsClear o sc) (workObsClear o sc s))

/-- The query forms: 288 while OBS is off (R583). -/
def State.obsAsk (s : State) (o : Origin) (pre : Option Nat) (permit : Bool) (f : State → List (List Fd)) : State :=
  s.askPure o pre permit fun s =>
    match s.obsErr with
    | some e => (e, [])
    | none => (0, f s)

def engLine (s : State) (e : Fin 33) : List Fd :=
  let c := s.obs.eng[e]
  [.s "ENG", .n e.val, .s "NAME", .s (engName e), .s "BUSY", .n c.busy, .s "STALL", .n (c.stall.toList.foldl (· + ·) 0 : Nat),
    .s "IDLE", .n c.idle, .s "NOW", .s (engStateName (s.fld .OBS_ENOW_STATE e))]

def engReasons (s : State) (e : Fin 33) : List (List Fd) :=
  (s.obs.eng[e]).stall.toList.zipIdx.map fun (p : Nat × Nat) => [.s "ENG", .n e.val, .s (stallName p.2), .n p.1]

/-- R603. -/
def execObsEngQuery (o : Origin) (e : Option Nat) (k : Option (Fin 4)) (reasons : Bool) (s : State) :
    Host.Outcome State Fault Refusal :=
  let a := s.originAuth o
  let bad := match e with
    | some n => if n < 33 then none else some 109
    | none => none
  .next (s.obsAsk o bad a.any fun s =>
    let l := (List.finRange 33).filter fun (x : Fin 33) => a.over (s.engOwner x)
      && (match e with
        | some n => x.val == n
        | none => true)
      && (match k with
        | some k => s.engOwner x == k.val
        | none => true)
    l.flatMap fun (x : Fin 33) => engLine s x :: (if reasons then engReasons s x else []))

def execObsRsvopQuery (o : Origin) (s : State) : Host.Outcome State Fault Refusal :=
  let a := s.originAuth o
  .next (s.obsAsk o none a.any fun s =>
    ((List.range 6).filter fun (c : Nat) => a.over (s.engOwner c)).map fun (c : Nat) =>
      [.s "RSVOP", .n c, .n (s.fld .OBS_RSVOP_N c)])

/-- R586: a reserved encoding has been executed. -/
def State.countRsvop (s : State) (c : Fin 6) (pc enc : Nat) : State :=
  let s := if s.frozen || !s.obsOn then s else s.bump .OBS_RSVOP_N c 0 1
  s.traceRec 7 (s.engOwner c) c (pc % 65536 + 65536 * (enc % 2 ^ 32))

/-! ## Snapshots (R588, R589) -/

/-- The engines stalled on a ring, as a mask: `reason` 1 as producers, 0 as consumers. -/
def State.stalledOn (s : State) (reason r : Nat) : Nat :=
  (List.range 33).foldl (fun m e =>
    if s.fld .OBS_ENOW_STATE e = 1 ∧ s.fld .OBS_ENOW_REASON e = reason ∧ s.fld .OBS_ENOW_ON e = r then m + 2 ^ e else m) 0

def hexMask (n : Nat) : String := "0x" ++ String.ofList (Nat.toDigits 16 n)

/-- The lines of Table 22.3 as they hold now. Every packet of this model is delivered whole, so no router port holds
flits. -/
def State.snapLines (s : State) : List SnapLine :=
  let eng := (List.range 33).map fun (e : Nat) =>
    let st := s.fld .OBS_ENOW_STATE e
    (⟨s.engOwner e, [.s "ENG", .n e, .s "STATE", .s (engStateName st)] ++ (if st = 1 then
      [.s "REASON", .s (stallName (s.fld .OBS_ENOW_REASON e)), .s "ON", .n (s.fld .OBS_ENOW_ON e)] else [])⟩ : SnapLine)
  let ring := (List.range 16).map fun (r : Nat) =>
    (⟨if 4 ≤ r ∧ r ≤ 7 then r - 4 else 4, [.s "RING", .n r, .s "PUT", .n (s.fld .RING_PTR_PUT r), .s "GET",
      .n (s.fld .RING_PTR_GET r), .s "FILL", .n (s.ringFill r), .s "WAITP", .s (hexMask (s.stalledOn 1 r)), .s "WAITC",
      .s (hexMask (s.stalledOn 0 r))]⟩ : SnapLine)
  let mbx (m : Nat) : Nat := if h : 4 ≤ m ∧ m < 10 then (s.dec.mbx[m - 4]).length else 0
  let dec := ((List.range 22).filter fun (m : Nat) => s.fld .DEC_OUT_OUT m != 0 || mbx m != 0).map fun (m : Nat) =>
    (⟨s.decOwner m, [.s "DEC", .n m, .s "OUT", .n (s.fld .DEC_OUT_OUT m), .s "MBX", .n (mbx m)]⟩ : SnapLine)
  let jrn : List SnapLine := [⟨4, [.s "JRN", .s "QUEUE", .n (s.jrn.queue.filter QEnt.isRec).length, .s "LIVE", .n (s.fld .JRN_LIVE_BYTES)]⟩]
  let ol := (List.finRange 2).map fun (p : Fin 2) =>
    let q := s.lnk.port[p]
    (⟨4, [.s "OL", .n p.val, .s "AWAIT", .n (q.win.filter (·.out)).length, .s "CREDIT", .n (8 - q.win.length : Nat), .s "PAUSE",
      .n q.pauseQ, .s "FWD", .n q.fwd.length]⟩ : SnapLine)
  [⟨5, [.s "SNAP T", .h64 s.clk.now]⟩] ++ eng ++ ring ++ dec ++ jrn ++ ol

def State.takeSnap (s : State) : State :=
  let s := s.setObs fun x => { x with snap := some s.snapLines }
  (s.setFld .OBS_SNAPT_LO_T 0 0 (s.clk.now % 2 ^ 32)).setFld .OBS_SNAPT_HI_T 0 0 (s.clk.now / 2 ^ 32)

def execSnapQuery (o : Origin) (new : Bool) (s : State) : Host.Outcome State Fault Refusal :=
  let a := s.originAuth o
  .next (s.ask o none a.any fun s =>
    match s.obsErr with
    | some e => (e, [], s)
    | none =>
      let s := if new then s.takeSnap else s
      match s.obs.snap with
      | none => (0, [[.s "SNAP NONE"]], s)
      | some l => (0, (l.filter fun e => e.own == 5 || a.over e.own).map (·.line), s))

/-! ## Freeze (R595, R596) -/

/-- A FREEZE frame leaves both ports that are up (R496). -/
def State.sendFreeze (s : State) (ports : List (Fin 2)) : State :=
  forAll ports s fun s p =>
    if s.fld .OLK_PSTAT_STATE p = 2 then
      { s with lnk := { s.lnk with port := s.lnk.port.set p { s.lnk.port[p] with ctl := (s.lnk.port[p]).ctl ++ [.freeze] } } }
    else s

/-- R595: a trigger: 1 the pin, 2 a command, 3 a watchpoint, 4 an Ohmid frame. -/
def State.obsFreeze (s : State) (cause wp : Nat) : State :=
  if s.frozen || !s.obsOn then s
  else
    let s := s.capture { s.boardRec 9 (cause + 256 * wp + 2 ^ 64 * s.clk.now) with stn := 4 }
    let s := (s.setFlag .OBS_STAT_FROZEN 0 0 true).setFld .OBS_STAT_FCAUSE 0 0 cause
    let s := if cause = 3 then s.setFld .OBS_STAT_FWP 0 0 wp else s
    let s := (s.setFld .OBS_FRZT_LO_F 0 0 (s.clk.now % 2 ^ 32)).setFld .OBS_FRZT_HI_F 0 0 (s.clk.now / 2 ^ 32)
    let s := s.setObs fun x => { x with postLeft := some (s.fld .OBS_TRCFG_POST) }
    let s := if s.flag .OBS_FRZ_SNAP then s.takeSnap else s
    if cause ≠ 4 ∧ s.flag .OLK_FRZ_OUT then
      -- R493: the devices reached are those of the TOPO state, this one apart.
      let all := s.fld .OLK_STAT_PRESENT
      let own := 2 ^ s.fld .OLK_STAT_ADDR
      (s.setFld .OLK_INFO_FRZ 0 0 (if all / own % 2 = 1 then all - own else all)).sendFreeze [0, 1]
    else s

/-- R596: the release restarts every count and the capture of trace records. -/
def State.obsRelease (s : State) : State :=
  if s.frozen then
    let s := (s.setFlag .OBS_STAT_FROZEN 0 0 false).setObs fun x => { x with postLeft := none }
    s.capture (s.boardRec 0 s.clk.now)
  else s

def workFreeze (o : Origin) (s : State) : Work :=
  { permit := (s.originAuth o).any
    chk := s.obsErr
    run := fun _ s => match s.obsErr with
      | some e => .fail e s
      | none => .done (s.obsFreeze 2 0) }

def execFreeze (o : Origin) (s : State) : Host.Outcome State Fault Refusal := .next (s.offer o (.freeze o) (workFreeze o s))

def workFreezeOff (o : Origin) (s : State) : Work :=
  { permit := (s.originAuth o).brd
    chk := s.obsErr
    run := fun _ s => match s.obsErr with
      | some e => .fail e s
      | none => .done s.obsRelease }

def execFreezeOff (o : Origin) (s : State) : Host.Outcome State Fault Refusal :=
  .next (s.offer o (.freezeOff o) (workFreezeOff o s))

def execFrzPin (s : State) : Host.Outcome State Fault Refusal :=
  .next (if s.flag .OBS_FRZ_PINEN then s.obsFreeze 1 0 else s)

/-! ## Probes and watchpoints (R590, R591) -/

def State.probeMatch (s : State) (n : Nat) (p : PktObs) : Bool :=
  s.fld .NOC_PCFG_KIND n / 2 ^ p.body.kind.val % 2 == 1 && s.fld .NOC_PCFG_VC n / 2 ^ (b2n p.vc) % 2 == 1
    && (match p.stn with
      | none => s.flag .NOC_PCFG_BRD n
      | some k => s.fld .NOC_PCFG_STN n / 2 ^ k.val % 2 == 1)
    && (s.flag .NOC_PCFG_SRCANY n || s.fld .NOC_PCFG_SRC n == p.src.val)
    && (s.flag .NOC_PCFG_DSTANY n || s.fld .NOC_PCFG_DST n == p.dst.val)
    && (match p.body.addr? with
      | some a => decide (s.fld .NOC_PALO_LO n ≤ a) && decide (a ≤ s.fld .NOC_PAHI_HI n)
      | none => true)

/-- R590: the probe of each router that the packet crosses counts it and its flits, and traces it. A packet is 1 to 16
flits (R18). -/
def State.probePkt (s : State) (p : PktObs) : State :=
  forAll (routersOf p.src p.dst) s fun s n =>
    if s.probeMatch n p then
      let s := if s.frozen then s else (s.bump .NOC_PPKT_N n 0 1).bump .NOC_PFLIT_N n 0 p.flits.length
      if s.flag .NOC_PCFG_TRACE n then
        s.traceRec 5 p.own 0xFF (p.header.toNat + 2 ^ 32 * (p.body.addr?.getD 0 + 2 ^ 32 * (p.body.word + 2 ^ 32 * n)))
      else s
    else s

def State.watchMatch (s : State) (w : Nat) (p : PktObs) : Bool :=
  (match p.body.addr? with
    | some a => decide (s.fld .OBS_WPLO_ADDR w ≤ a) && decide (a ≤ s.fld .OBS_WPHI_ADDR w)
    | none => false)
    && ((p.body.isRead && s.flag .OBS_WPCFG_RD w) || (p.body.isWrite && s.flag .OBS_WPCFG_WR w))
    && (match p.stn with
      | none => s.flag .OBS_WPCFG_BRD w
      | some k => s.fld .OBS_WPCFG_STN w / 2 ^ k.val % 2 == 1)

def State.watchPkt (s : State) (p : PktObs) : State :=
  forAll (List.range 8) s fun s w =>
    if s.watchMatch w p then
      let s := if s.frozen then s else
        ((s.bump .OBS_WPCNT_COUNT w 0 1).setFld .OBS_WPT_LO_LASTT w 0 (s.clk.now % 2 ^ 32)).setFld .OBS_WPT_HI_LASTT w 0
          (s.clk.now / 2 ^ 32)
      let s := if s.flag .OBS_WPCFG_TRACE w then
          s.traceRec 6 p.own 0xFF (p.body.addr?.getD 0 + 2 ^ 32 * (p.body.word
            + 2 ^ 32 * (w + 256 * (b2n p.body.isWrite + 2 * b2n p.refused))))
        else s
      if s.flag .OBS_WPCFG_FREEZE w then s.obsFreeze 3 w else s
    else s

/-- Fields set for register instance `i`, with LO above HI refused for a watchpoint. -/
def workObsSets (permit : Bool) (pre : Option Nat) (i : Nat) (sets : List FieldSet) (comb : State → Option Nat)
    (s : State) : Work :=
  let err (s : State) : Option Nat := (s.obsErr).or (s.setsErr i sets comb)
  { pre := pre
    permit := permit
    chk := err s
    run := fun _ s => match err s with
      | some e => .fail e s
      | none => .done (s.putSets i sets) }

def workObsProbe (o : Origin) (n : Nat) (sets : List FieldSet) (s : State) : Work :=
  workObsSets (s.originAuth o).brd (if n < 16 then none else some 109) n sets (fun _ => none) s

def execObsProbe (o : Origin) (n : Nat) (sets : List FieldSet) (s : State) : Host.Outcome State Fault Refusal :=
  .next (s.offer o (.obsProbe o n sets) (workObsProbe o n sets s))

def workObsWatch (o : Origin) (w : Nat) (sets : List FieldSet) (s : State) : Work :=
  workObsSets (s.originAuth o).brd (if w < 8 then none else some 109) w sets
    (fun t => if t.fld .OBS_WPHI_ADDR w < t.fld .OBS_WPLO_ADDR w then some 513 else none) s

def execObsWatch (o : Origin) (w : Nat) (sets : List FieldSet) (s : State) : Host.Outcome State Fault Refusal :=
  .next (s.offer o (.obsWatch o w sets) (workObsWatch o w sets s))

def onOffFd (b : Bool) : Fd := .s (onOff b)

def probeLine (s : State) (n : Nat) : List Fd :=
  [.s "PROBE", .n n, .s "KIND", .n (s.fld .NOC_PCFG_KIND n), .s "VC", .n (s.fld .NOC_PCFG_VC n), .s "STN",
    .n (s.fld .NOC_PCFG_STN n), .s "BRD", .n (s.fld .NOC_PCFG_BRD n), .s "LO", .h32 (s.fld .NOC_PALO_LO n), .s "HI",
    .h32 (s.fld .NOC_PAHI_HI n), .s "TRACE", onOffFd (s.flag .NOC_PCFG_TRACE n), .s "PKT", .n (s.fld .NOC_PPKT_N n), .s "FLIT",
    .n (s.fld .NOC_PFLIT_N n), .s "BLK", .n (s.fld .NOC_PBLK_N n)]

def watchLine (s : State) (w : Nat) : List Fd :=
  [.s "WATCH", .n w, .s "LO", .h32 (s.fld .OBS_WPLO_ADDR w), .s "HI", .h32 (s.fld .OBS_WPHI_ADDR w), .s "RD",
    onOffFd (s.flag .OBS_WPCFG_RD w), .s "WR", onOffFd (s.flag .OBS_WPCFG_WR w), .s "STN", .n (s.fld .OBS_WPCFG_STN w), .s "BRD",
    onOffFd (s.flag .OBS_WPCFG_BRD w), .s "TRACE", onOffFd (s.flag .OBS_WPCFG_TRACE w), .s "FREEZE",
    onOffFd (s.flag .OBS_WPCFG_FREEZE w), .s "COUNT", .n (s.fld .OBS_WPCNT_COUNT w), .s "LAST",
    .h64 (s.fld .OBS_WPT_LO_LASTT w + 2 ^ 32 * s.fld .OBS_WPT_HI_LASTT w)]

def execObsProbeQuery (o : Origin) (n : Option Nat) (s : State) : Host.Outcome State Fault Refusal :=
  let l := match n with
    | some n => [n]
    | none => List.range 16
  .next (s.obsAsk o (if l.all (· < 16) then none else some 109) (s.originAuth o).brd fun s => l.map (probeLine s))

def execObsWatchQuery (o : Origin) (w : Option Nat) (s : State) : Host.Outcome State Fault Refusal :=
  let l := match w with
    | some w => [w]
    | none => List.range 8
  .next (s.obsAsk o (if l.all (· < 8) then none else some 109) (s.originAuth o).brd fun s => l.map (watchLine s))

/-! ## Skims (R592 to R594) -/

/-- A skim source: its owner's station code, and the instances it has (Table 22.4). -/
def State.skimOwner (s : State) (kind inst : Nat) : Option Nat :=
  match kind with
  | 0 => some 4
  | 1 => if inst < 16 then some (s.chanStn inst) else none
  | 2 => if inst < 8 then some (s.chanStn (16 + inst)) else none
  | 3 => if inst < 16 then some (s.dacStn inst) else none
  | 4 | 5 | 6 => if inst < 12 then some (s.axisCode inst) else none
  | 7 => if inst < 12 then some (s.encStn inst) else none
  | 8 => if inst < 16 ∧ inst % 2 = 0 then some (s.chanStn inst) else none
  | 9 => if inst = 0 then some 4 else none
  | _ => none

/-- The 32-bit value of a source now. -/
def State.skimValue (s : State) (kind inst : Nat) : Int :=
  let ax (f : AxisSt → Int) : Int := if h : inst < 12 then toSigned 32 (ofSigned 32 (f s.axis[inst])) else 0
  match kind with
  | 1 => s.fldInt .ADC_PDATA_VALUE inst
  | 2 => s.fldInt .ADC_FDATA_VALUE inst
  | 3 => if s.flag .DAC_OUT_SAFE inst then 0 else spanCode (s.fld .DAC_CFG_SPAN inst) (s.fld .DAC_OUT_CODE inst)
  | 4 => ax (·.sp)
  | 5 => ax (·.pos)
  | 6 => s.fldInt .SRV_FE_FE inst
  | 7 => toSigned 32 (s.fld .ENC_CNT_CNT inst)
  | 8 => s.fld .FCH_ANG_ANGLE inst
  | 9 => s.fld .LAT_SLACK_LAST
  | _ => 0

/-- INV: the source's channel reads VALID 0, or its station is TRIPPED. -/
def State.skimInvalid (s : State) (kind inst own : Nat) : Bool :=
  let chan := match kind with
    | 1 | 8 => !s.flag .ADC_PSTAT_VALID inst
    | 2 => !s.flag .ADC_FSTAT_VALID inst
    | _ => false
  chan || (if h : own < 4 then s.stnState ⟨own, h⟩ == stTripped else false)

def State.clearSkim (s : State) (k : Nat) : State :=
  let s := (s.setFld .OBS_SKN_N k 0 0).setFld .OBS_SKINV_INV k 0 0
  let s := (s.setFld .OBS_SKMIN_V k 0 0).setFld .OBS_SKMAX_V k 0 0
  ((s.setFld .OBS_SKSUM_LO_SUM k 0 0).setFld .OBS_SKSUM_HI_SUM k 0 0).setFld .OBS_SKCRC_CRC k 0 0

def State.skimSum (s : State) (k : Nat) : Int := toSigned 64 (s.fld .OBS_SKSUM_LO_SUM k + 2 ^ 32 * s.fld .OBS_SKSUM_HI_SUM k)

/-- One sample of a slot. -/
def State.skimSample (s : State) (k : Nat) : State :=
  let kind := s.fld .OBS_SKCFG_KIND k
  let inst := s.fld .OBS_SKCFG_INST k
  let v := s.skimValue kind inst
  let n := s.fld .OBS_SKN_N k
  let s := s.setFld .OBS_SKN_N k 0 ((n + 1) % 2 ^ 32)
  let s := s.setFldInt .OBS_SKMIN_V k 0 (if n = 0 then v else min v (s.fldInt .OBS_SKMIN_V k))
  let s := s.setFldInt .OBS_SKMAX_V k 0 (if n = 0 then v else max v (s.fldInt .OBS_SKMAX_V k))
  let sum := ofSigned 64 (s.skimSum k + v)
  let s := (s.setFld .OBS_SKSUM_LO_SUM k 0 (sum % 2 ^ 32)).setFld .OBS_SKSUM_HI_SUM k 0 (sum / 2 ^ 32)
  let s := s.setFld .OBS_SKCRC_CRC k 0 (crc32More (s.fld .OBS_SKCRC_CRC k) (ofSigned 32 v))
  if s.skimInvalid kind inst ((s.skimOwner kind inst).getD 7) then s.setFld .OBS_SKINV_INV k 0 ((s.fld .OBS_SKINV_INV k + 1) % 2 ^ 32)
  else s

def State.skimRuns (s : State) (k : Nat) : Bool := s.flag .OBS_SKCFG_RUN k

def State.skimFull (s : State) (k : Fin 16) : Bool :=
  match s.obs.skNt[k] with
  | some n => decide (n ≤ s.fld .OBS_SKN_N k)
  | none => false

/-- R592, R594, on a tick: slots start, stop with their source's owner, and sample. -/
def State.skimTick (s : State) : State :=
  let s := forAll s.obs.skStart s fun s k => (s.clearSkim k).setFlag .OBS_SKCFG_RUN k 0 true
  let s := s.setObs fun x => { x with skStart := [] }
  forAll (List.finRange 16) s fun s (k : Fin 16) =>
    if !s.skimRuns k then s
    else if s.skimOwner (s.fld .OBS_SKCFG_KIND k) (s.fld .OBS_SKCFG_INST k) != some (s.obs.skOwn[k]) then
      s.setFlag .OBS_SKCFG_RUN k 0 false
    else if s.frozen || !s.obsOn || s.skimFull k || s.fld .OBS_SKCFG_KIND k == 0 then s
    else s.skimSample k

/-- R594: the slot has taken its samples. -/
def execSkimCountDone (k : Fin 16) (s : State) : Host.Outcome State Fault Refusal :=
  .next (if s.skimRuns k && s.skimFull k then s.setFlag .OBS_SKCFG_RUN k 0 false else s)

/-- The owner of what a slot samples; a slot without a source belongs to anyone. -/
def State.slotMay (s : State) (a : Auth) (k : Nat) : Bool :=
  if s.fld .OBS_SKCFG_KIND k = 0 then a.any
  else match s.skimOwner (s.fld .OBS_SKCFG_KIND k) (s.fld .OBS_SKCFG_INST k) with
    | some c => a.over c
    | none => a.brd

def State.skimErr (s : State) (a : Auth) (k kind inst : Nat) : Option Nat :=
  match s.skimOwner kind inst with
  | none => some 511
  | some c =>
    if s.skimRuns k then some 289
    else if kind ≠ 0 ∧ !a.over c then some 513
    else none

def State.skimSet (s : State) (k : Nat) (kind inst : Nat) : State :=
  let s := (s.setFld .OBS_SKCFG_KIND k 0 kind).setFld .OBS_SKCFG_INST k 0 inst
  let own := (s.skimOwner kind inst).getD 7
  s.setObs fun x => { x with skOwn := if h : k < 16 then x.skOwn.set k own else x.skOwn }

def workSkim (o : Origin) (k : Nat) (kind inst : Option Nat) (s : State) : Work :=
  let a := s.originAuth o
  let kd (s : State) : Nat := kind.getD (s.fld .OBS_SKCFG_KIND k)
  let it (s : State) : Nat := inst.getD (s.fld .OBS_SKCFG_INST k)
  { pre := if k < 16 then none else some 109
    permit := s.slotMay a k
    stn := evStn ((s.skimOwner (kd s) (it s)).getD 4)
    chk := (s.obsErr).or (s.skimErr a k (kd s) (it s))
    run := fun _ s => match (s.obsErr).or (s.skimErr (s.originAuth o) k (kd s) (it s)) with
      | some e => .fail e s
      | none => .done (s.skimSet k (kd s) (it s)) }

def execSkim (o : Origin) (k : Nat) (kind inst : Option Nat) (s : State) : Host.Outcome State Fault Refusal :=
  .next (s.offer o (.skim o k kind inst) (workSkim o k kind inst s))

def slotsPre (l : List Nat) : Option Nat := if l.isEmpty || !l.all (· < 16) then some 109 else none

def workSkimStart (o : Origin) (nt : Option Nat) (slots : List Nat) (s : State) : Work :=
  let bad := match nt with
    | some n => !(1 ≤ n && n ≤ 4294967295)
    | none => false
  let err (s : State) : Option Nat := (s.obsErr).or (if bad then some 511 else none)
  { pre := slotsPre slots
    permit := slots.all fun (k : Nat) => s.slotMay (s.originAuth o) k
    chk := err s
    run := fun _ s => match err s with
      | some e => .fail e s
      | none => .done (s.setObs fun x =>
          { x with skStart := (x.skStart.filter fun k => !slots.contains k) ++ slots
                   skNt := Vector.ofFn fun (k : Fin 16) => if slots.contains k.val then nt else x.skNt[k] }) }

def execSkimStart (o : Origin) (nt : Option Nat) (slots : List Nat) (s : State) : Host.Outcome State Fault Refusal :=
  .next (s.offer o (.skimStart o nt slots) (workSkimStart o nt slots s))

def workSkimStop (o : Origin) (slots : List Nat) (s : State) : Work :=
  { pre := slotsPre slots
    permit := slots.all fun (k : Nat) => s.slotMay (s.originAuth o) k
    chk := s.obsErr
    run := fun _ s => match s.obsErr with
      | some e => .fail e s
      | none =>
        let s := s.setObs fun x => { x with skStart := x.skStart.filter fun k => !slots.contains k }
        .done (forAll slots s fun s k => s.setFlag .OBS_SKCFG_RUN k 0 false) }

def execSkimStop (o : Origin) (slots : List Nat) (s : State) : Host.Outcome State Fault Refusal :=
  .next (s.offer o (.skimStop o slots) (workSkimStop o slots s))

/-- MEAN: SUM / N as a decimal number; nothing sampled reads 0. -/
def State.skimMean (s : State) (k : Nat) : Decimal :=
  let v := s.skimSum k
  if s.fld .OBS_SKN_N k = 0 then ⟨false, 0, 0⟩ else roundDigits 34 (v < 0) v.natAbs (s.fld .OBS_SKN_N k) 0

def skimLine (s : State) (k : Nat) : List Fd :=
  [.s "SKIM", .n k, .s "KIND", .n (s.fld .OBS_SKCFG_KIND k), .s "INST", .n (s.fld .OBS_SKCFG_INST k), .s "RUN",
    .n (s.fld .OBS_SKCFG_RUN k), .s "N", .n (s.fld .OBS_SKN_N k), .s "MIN", .n (s.fldInt .OBS_SKMIN_V k), .s "MAX",
    .n (s.fldInt .OBS_SKMAX_V k), .s "MEAN", .d (s.skimMean k), .s "CRC", .h32 (s.fld .OBS_SKCRC_CRC k), .s "INV",
    .n (s.fld .OBS_SKINV_INV k)]

def execSkimQuery (o : Origin) (k : Option Nat) (s : State) : Host.Outcome State Fault Refusal :=
  let a := s.originAuth o
  match k with
  | some k =>
    .next (s.obsAsk o (if k < 16 then none else some 109) (s.slotMay a k) fun s => [skimLine s k])
  | none =>
    .next (s.obsAsk o none a.any fun s => ((List.range 16).filter fun (k : Nat) => s.slotMay a k).map (skimLine s))

/-! ## Trace (R599 to R601, R603) -/

/-- The 32 bytes of a record. -/
def TraceRec.bytes (s : State) (r : TraceRec) : List Byte :=
  leBytes 4 r.t ++ [BitVec.ofNat 8 r.kind, BitVec.ofNat 8 (r.stn + 8 * s.fld .OLK_STAT_ADDR + 64 * b2n r.unsync)]
    ++ leBytes 2 r.prog ++ leBytes 4 r.blk ++ [BitVec.ofNat 8 r.sub, BitVec.ofNat 8 r.eng] ++ leBytes 2 r.optag
    ++ leBytes 16 r.data

def bytesHex (l : List Byte) : String := String.join (l.map fun b => String.ofList (hexDigits 2 b.toNat))

/-- Settings of tracing; records start to be captured with a TIME record. -/
def State.traceApply (s : State) (sets : List FieldSet) : State :=
  let was := s.flag .OBS_TRCFG_PORTEN || s.flag .OBS_TRCFG_BUFEN
  let t := s.putSets 0 sets
  let now := t.flag .OBS_TRCFG_PORTEN || t.flag .OBS_TRCFG_BUFEN
  if now && !was then t.capture (t.boardRec 0 t.clk.now) else t

def workTrace (o : Origin) (sets : List FieldSet) (s : State) : Work :=
  let err (s : State) : Option Nat := (s.obsErr).or (s.setsErr 0 sets fun _ => none)
  { permit := (s.originAuth o).brd
    chk := err s
    run := fun _ s => match err s with
      | some e => .fail e s
      | none => .done (s.traceApply sets) }

def execTrace (o : Origin) (sets : List FieldSet) (s : State) : Host.Outcome State Fault Refusal :=
  .next (s.offer o (.trace o sets) (workTrace o sets s))

def traceRate (n : Nat) : Nat :=
  match n with
  | 0 => 98
  | 1 => 49
  | 2 => 24
  | _ => 12

def execTraceQuery (o : Origin) (s : State) : Host.Outcome State Fault Refusal :=
  .next (s.obsAsk o none (s.originAuth o).any fun s =>
    [[.s "TRACE", .s "PORT", onOffFd (s.flag .OBS_TRCFG_PORTEN), .s "BUF", onOffFd (s.flag .OBS_TRCFG_BUFEN), .s "RATE",
      .n (traceRate (s.fld .OBS_TRCFG_DIV)), .s "POST", .n (s.fld .OBS_TRCFG_POST), .s "KINDS",
      .s (hexMask (s.fld .OBS_TRKIND_KINDS)), .s "STN", .n (s.fld .OBS_TRCFG_STN), .s "BRD", onOffFd (s.flag .OBS_TRCFG_BRD),
      .s "ENG", .s (hexMask (s.fld .OBS_TRENG_LO_ENG + 2 ^ 32 * s.fld .OBS_TRENG_HI_ENG)), .s "AXES",
      .s (hexMask (s.fld .OBS_TRSET_AXES)), .s "FILL", .n (s.fld .OBS_TRSTAT_FILL), .s "LOST", .n (s.fld .OBS_TRSTAT_LOST)]])

/-- The first `n` records that `p` selects, and the others, in their order. -/
def takeVisible (p : TraceRec → Bool) : Nat → List TraceRec → List TraceRec × List TraceRec
  | _, [] => ([], [])
  | n, r :: l =>
    if n ≠ 0 ∧ p r then
      let (a, b) := takeVisible p (n - 1) l
      (r :: a, b)
    else
      let (a, b) := takeVisible p n l
      (a, r :: b)

/-- R600: visible records leave the buffer, oldest first. -/
def execTraceRead (o : Origin) (n : Nat) (s : State) : Host.Outcome State Fault Refusal :=
  let a := s.originAuth o
  .next (s.ask o (if 1 ≤ n ∧ n ≤ 32 then none else some 109) a.any fun s =>
    match s.obsErr with
    | some e => (e, [], s)
    | none =>
      let (out, left) := takeVisible (fun r => a.over r.stn) n s.obs.tb
      (0, out.map (fun r => [.s "TR", .s (bytesHex (r.bytes s))]),
        (s.setObs fun x => { x with tb := left }).setFld .OBS_TRSTAT_FILL 0 0 left.length))

/-- The engine that a requester's write comes from: a core, or the line processor of a port. -/
def requesterEng : Requester → Nat
  | .core c => c
  | .line (.framed p _) | .line (.typed p) => 31 + p.val
  | _ => 0xFF

/-- A write to OBS_TRMARK posts a MARK record. -/
def State.trMark (s : State) (q : Requester) (v : Nat) : State :=
  let stn := match q with
    | .core c => s.engOwner c
    | _ => 4
  s.traceRec 10 stn (requesterEng q) (v % 2 ^ 32)

/-- R601: a record on the trace port: 0x7E, its bytes, and their CRC-8. -/
def TraceRec.sent (s : State) (r : TraceRec) : List Byte :=
  let b := r.bytes s
  (0x7E : Byte) :: b ++ [BitVec.ofNat 8 (crc8 (b.map (·.toNat)))]

/-- Records that the trace port has time to send leave the queue: 34 periods each, 17·2^DIV half counts (R601). -/
def State.portTick (s : State) (elapsed : Nat) : State :=
  if !s.flag .OBS_TRCFG_PORTEN then
    /- With the port off, what is left in the queue goes to the buffer. -/
    let s := s.setObs fun x => { x with port := [] }
    if s.obs.tq.isEmpty then s
    else
      let l := s.obs.tq
      forAll l (s.setObs fun x => { x with tq := [] }) fun s r => s.pushTrace r
  else
    let t := s.obs.portTime + 2 * elapsed
    let per := 17 * 2 ^ s.fld .OBS_TRCFG_DIV
    let n := min (t / per) s.obs.tq.length
    let out := s.obs.tq.take n
    let tb := if s.flag .OBS_TRCFG_BUFEN then s.obs.tb ++ out else s.obs.tb
    let tb := tb.drop (tb.length - 512)
    let left := if s.obs.tq.length = n then 0 else t - n * per
    let sent := out.flatMap fun r => r.sent s
    ((s.setObs fun x => { x with tq := x.tq.drop n, tb := tb, portTime := left, port := sent }).setFld .OBS_TRSTAT_FILL 0 0 tb.length)

/-- SETPT records of a tick. -/
def State.setptTick (s : State) : State :=
  forAll (List.finRange 12) s fun s (a : Fin 12) =>
    if s.fld .OBS_TRSET_AXES / 2 ^ a.val % 2 = 1 then
      let x := s.axis[a]
      let d := s.fld .SRV_MODE_DAC a
      let code := if d < 16 then s.fld .DAC_OUT_CODE d else 0
      s.traceRec 3 (evStn (s.axisCode a)) (10 + a.val)
        (ofSigned 32 x.sp + 2 ^ 32 * (ofSigned 32 x.pos + 2 ^ 32 * (code + 2 ^ 32 * a.val)))
    else s

/-- TIME whenever T[23:0] passes 0. -/
def State.timeTick (s : State) : State :=
  let e := s.clk.now / 2 ^ 24
  if e = s.obs.epoch then s
  else (s.capture (s.boardRec 0 s.clk.now)).setObs fun x => { x with epoch := e }

/-- The observation block on a lattice tick, `n` counts after the last one. -/
def State.obsTick (s : State) (n : Nat) (o : TickObs) : State :=
  if !s.obsOn then s
  else
    let s := s.timeTick.enginesTick n o.eng
    let s := forAll (o.pkts.filter PktObs.whole) s fun s p => (s.probePkt p).watchPkt p
    let s := forAll o.blocked s fun s e => if s.frozen then s else s.bump .NOC_PBLK_N e.1 0 e.2
    (s.setptTick.skimTick).portTick n

/-- OBS comes up: every counter, digest, snapshot and buffer is empty, and every setting has its reset value (R583). -/
def obsFresh (now : Nat) : ObsSt :=
  ⟨Vector.replicate 33 zeroCount, none, Vector.replicate 16 none, Vector.replicate 16 4, [], [], [], 0, none, 0, now / 2 ^ 24, []⟩

/-- The registers of the OBS and NOC blocks go to their reset values. -/
def State.obsRegsReset (s : State) : State :=
  { s with regs := s.regs.filter fun e => !(decide (0x40170000 ≤ e.1) && decide (e.1 < 0x40190000)) }

def State.obsUp (s : State) : State :=
  let s := (s.obsRegsReset.setObs fun _ => obsFresh s.clk.now).setFld .PWR_DOM_ON 0 0 (bitTo (s.fld .PWR_DOM_ON) 7 true)
  s.capture (s.boardRec 0 s.clk.now)

def State.obsDown (s : State) : State :=
  (s.obsRegsReset.setObs fun _ => obsFresh s.clk.now).setFld .PWR_DOM_ON 0 0 (bitTo (s.fld .PWR_DOM_ON) 7 false)

end Sys2Proof.Machine
end

