-- ==== Sys2Proof/Machine/Link.lean ====
section
/-! DEFINITION. The Ohmid link up to its frames: ports, routes, hops, pauses, time, and the commands that set them
(spec/18_ohmid_link.md). Transactions stand in Peer.lean. -/
namespace Sys2Proof.Machine
open Sys2Proof

/-! ## Ports -/

/-- The link runs: its power domain is on (R562). -/
def State.linkOn (s : State) : Bool := s.fld .PWR_DOM_ON / 64 % 2 == 1

def State.ownAddr (s : State) : Nat := s.fld .OLK_STAT_ADDR

def State.setLnk (s : State) (f : LinkSt → LinkSt) : State := { s with lnk := f s.lnk }

def State.setLPort (s : State) (p : Fin 2) (f : LinkPort → LinkPort) : State :=
  s.setLnk fun l => { l with port := l.port.set p (f l.port[p]) }

/-- The port is up (R471). -/
def State.portUp (s : State) (p : Fin 2) : Bool := s.fld .OLK_PSTAT_STATE p == 2

def otherPort (p : Fin 2) : Fin 2 := if p = 0 then 1 else 0

/-- A control frame leaves port `p` (R478). -/
def State.sendCtl (s : State) (p : Fin 2) (c : LinkCtl) : State := s.setLPort p fun q => { q with ctl := q.ctl ++ [c] }

/-! ## Ring and routes (R473 to R475) -/

def State.topoOf (s : State) (d : Nat) : Option TopoInfo := (s.lnk.topo.find? fun e => e.addr.val == d).map (·.info)

/-- The neighbour of device `d` on its port `p`, over a segment that is up. -/
def State.nbrOf (s : State) (d : Nat) (p : Fin 2) : Option Nat :=
  if d = s.ownAddr then
    if s.portUp p then (s.lnk.port[p]).nbr.map (·.val) else none
  else
    match s.topoOf d with
    | some i => if p = 0 then (if i.up0 then i.n0.map (·.val) else none) else (if i.up1 then i.n1.map (·.val) else none)
    | none => none

/-- The devices met from `d` in the direction of port `p`, until the walk ends or comes back. -/
def State.walk (s : State) (p : Fin 2) : Nat → Nat → List Nat
  | 0, _ => []
  | n + 1, d =>
    match s.nbrOf d p with
    | some e => if e = s.ownAddr then [] else e :: State.walk s p n e
    | none => []

def State.along (s : State) (p : Fin 2) : List Nat := s.walk p 7 s.ownAddr

/-- The ring closes: the walk over OL0 comes back to this device. -/
def State.ringClosed (s : State) : Bool :=
  let l := s.along 0
  s.nbrOf (l.getLastD s.ownAddr) 0 == some s.ownAddr

/-- The set of devices present, this one included, as a mask. -/
def State.presentMask (s : State) : Nat :=
  (s.along 0 ++ s.along 1).foldl (fun m d => m ||| 2 ^ d) (2 ^ s.ownAddr)

def maskBits (m : Nat) : List Nat := (List.range 8).filter fun d => m / 2 ^ d % 2 == 1

/-- A device of the ring, this one included (R488). -/
def State.devPresent (s : State) (d : Nat) : Bool := d == s.ownAddr || s.fld .OLK_STAT_PRESENT / 2 ^ d % 2 == 1

/-- R474: the port that leads to `d` in fewer hops, OL0 for equal ones. -/
def State.route (s : State) (d : Nat) : Option (Fin 2) :=
  let i0 := (s.along 0).findIdx? (· == d)
  let i1 := (s.along 1).findIdx? (· == d)
  match i0, i1 with
  | some a, some b => some (if a ≤ b then 0 else 1)
  | some _, none => some 0
  | none, some _ => some 1
  | none, none => none

/-- Table 18.4: PRESENT, N, MASTER and BROKEN follow the TOPO state. -/
def State.ringView (s : State) : State :=
  let m := s.presentMask
  let l := maskBits m
  let s := (s.setFld .OLK_STAT_PRESENT 0 0 m).setFld .OLK_STAT_N 0 0 l.length
  let s := s.setFld .OLK_STAT_MASTER 0 0 (l.headD 0)
  s.setFlag .OLK_STAT_BROKEN 0 0 (decide (l.length > 1) && !s.ringClosed)

/-- This device is the master (R473). -/
def State.isMaster (s : State) : Bool := s.fld .OLK_STAT_MASTER == s.ownAddr

/-! ## Frames (R476) -/

def crc16Step : Nat → Nat → Nat
  | 0, c => c
  | k + 1, c => crc16Step k (if c ≥ 2 ^ 15 then (c * 2 % 2 ^ 16) ^^^ 0x1021 else c * 2)

/-- Table 18.1: CRC-16, polynomial 0x1021, initial value 0xFFFF. -/
def crc16 (l : List Byte) : Nat := l.foldl (fun c b => crc16Step 8 (c ^^^ (b.toNat * 256))) 0xFFFF

def byteAt (l : List Byte) (i : Nat) : Nat := (l.getD i 0).toNat

/-- `n` bytes of `l` from byte `i`, least significant first. -/
def leAt (l : List Byte) (i n : Nat) : Nat := leNat ((l.drop i).take n)

/-- Table 18.1: the header of a frame that goes out under `lseq`, without its check. -/
def LinkFrame.head (f : LinkFrame) (lseq : Nat) : List Byte :=
  leBytes 1 f.dmask ++ leBytes 1 (f.src % 8) ++ leBytes 1 f.typ ++ leBytes 1 (f.hops % 8 + 8 * b2n f.mc + 16 * b2n f.q)
    ++ leBytes 2 lseq ++ leBytes 4 f.wsn ++ leBytes 2 f.payload.length ++ leBytes 2 f.txn

/-- R476: the bytes of a data frame: header, HCRC, payload, CRC. -/
def LinkFrame.bytes (f : LinkFrame) (lseq : Nat) : List Byte :=
  let h := f.head lseq
  let b := h ++ leBytes 2 (crc16 h) ++ f.payload
  b ++ leBytes 4 (crc32 b)

/-- R476: a data frame on the wire, 22 + LEN symbols. -/
def LinkFrame.syms (f : LinkFrame) (lseq : Nat) : List LinkSym := .k27 :: (f.bytes lseq).map .byte ++ [.k29]

/-- The frame that bytes spell, with its LSEQ; none where a check of R476 fails. -/
def parseFrame (l : List Byte) : Option (LinkFrame × Nat) :=
  let n := leAt l 10 2
  let body := l.take (16 + n)
  if l.length ≠ 20 + n ∨ n > 256 then none
  else if crc16 (l.take 14) ≠ leAt l 14 2 then none
  else if crc32 body ≠ leAt l (16 + n) 4 then none
  else if byteAt l 1 ≥ 8 ∨ byteAt l 3 ≥ 32 then none
  else
    some (⟨byteAt l 0, byteAt l 1, byteAt l 2, byteAt l 3 % 8, byteAt l 3 / 8 % 2 == 1, byteAt l 3 / 16 % 2 == 1,
      leAt l 6 4, leAt l 12 2, body.drop 16⟩, leAt l 4 2)

/-- Entries of ring 12 or 13 that a frame takes. -/
def LinkFrame.entries (f : LinkFrame) : Nat := (16 + f.payload.length + 31) / 32

def typLine : Nat := 1
def typAnswer : Nat := 2
def typResult : Nat := 3
def typStatusq : Nat := 4
def typStatusa : Nat := 5
def typPrepare : Nat := 6
def typVote : Nat := 7
def typCommit : Nat := 8
def typAbort : Nat := 9
def typTopo : Nat := 10
def typHello : Nat := 11
def typSeries : Nat := 12
def typMirror : Nat := 13

/-- R473, R499: this device originates and accepts frames of the type. TOPO and HELLO belong to the ring itself. -/
def State.linkOpen (s : State) (typ : Nat) : Bool :=
  typ == typTopo || typ == typHello || (s.flag .OLK_CFG_TXEN && !s.flag .OLK_STAT_ADDRDUP)

/-! ## Sending (R479 to R482) -/

/-- The frame goes onto the wire of its port. -/
def State.wireOut (s : State) (p : Fin 2) (f : LinkFrame) (lseq : Nat) : State :=
  s.setLPort p fun q => { q with wire := q.wire ++ [f.syms lseq] }

/-- The port numbers one frame, a forwarded one first, or sends again what waits. -/
def State.pumpStep (s : State) (p : Fin 2) : State :=
  let q := s.lnk.port[p]
  if !s.portUp p || q.pauseQ ≠ 0 then s
  else if q.win.any fun e => !e.out && !e.full then
    let again := q.win.filter fun e => !e.out && !e.full
    let s := forAll again s fun s e => s.wireOut p e.f e.lseq
    s.setLPort p fun q => { q with win := q.win.map fun e => if !e.out && !e.full then { e with out := true, tries := e.tries + 1 } else e }
  else if q.win.length ≥ 8 then s
  else
    match q.fwd, q.queue with
    | f :: l, _ =>
      (s.wireOut p f q.next).setLPort p fun q => { q with fwd := l, win := q.win ++ [⟨f, q.next, 1, true, false, true⟩], next := (q.next + 1) % 65536 }
    | [], f :: l =>
      ((s.ringGet 12 f.entries).wireOut p f q.next).setLPort p fun q =>
        { q with queue := l, win := q.win ++ [⟨f, q.next, 1, true, false, false⟩], next := (q.next + 1) % 65536 }
    | [], [] => s

/-- The copies of a frame, by port: a port carries the bits of the devices it leads to (R474). -/
def State.copies (s : State) (f : LinkFrame) : List (Fin 2 × LinkFrame) :=
  ([0, 1] : List (Fin 2)).filterMap fun p =>
    let m := if f.typ = typTopo ∨ f.typ = typHello then (if s.portUp p then f.dmask else 0)
      else ((maskBits f.dmask).filter fun d => s.route d == some p).foldl (fun m d => m + 2 ^ d) 0
    if m = 0 then none else some (p, { f with dmask := m })

/-- A frame enters LNK_TX, where its copies find room; a frame without a route is lost (R475). -/
def State.enterTx (s : State) (f : LinkFrame) : Option State :=
  let l := s.copies f
  let n := l.foldl (fun t c => t + c.2.entries) 0
  if s.ringFree 12 < n || s.ringHeld 12 then none
  else some (forAll l s fun s c => (s.ringPut 12 c.2.entries).setLPort c.1 fun q => { q with queue := q.queue ++ [c.2] })

/-- Waiting frames enter in their order, as far as there is room. -/
def State.drainTx : Nat → State → State
  | 0, s => s
  | n + 1, s =>
    match s.lnk.txWait with
    | [] => s
    | f :: l =>
      match s.enterTx f with
      | some t => State.drainTx n (t.setLnk fun k => { k with txWait := l })
      | none => s

/-- The ports take what they can. -/
def State.pump (s : State) : State :=
  let s := (List.range 9).foldl (fun s _ => (s.pumpStep 0).pumpStep 1) s
  let s := s.drainTx s.lnk.txWait.length
  (List.range 9).foldl (fun s _ => (s.pumpStep 0).pumpStep 1) s

/-- The transaction layer sends a frame. HOPS is 7 at its origin. -/
def State.linkSend (s : State) (f : LinkFrame) : State :=
  if !s.linkOn || !s.linkOpen f.typ then s
  else
    let f := { f with src := s.ownAddr, hops := 7 }
    (s.setLnk fun l => { l with txWait := l.txWait ++ [f] }).pump

/-- What this device says of itself (R473, R494). -/
def State.ownInfo (s : State) : TopoInfo :=
  let idle := (List.finRange 4).all fun k => s.stnState k == stIdle
  let others := s.lnk.topo.map (·.info)
  { up0 := s.portUp 0, up1 := s.portUp 1, n0 := (s.lnk.port[0]).nbr, n1 := (s.lnk.port[1]).nbr
    delays := if s.isMaster then (List.range 8).map fun d => ((s.along 0).findIdx? (· == d)).elim 0 fun i => (i + 1) * s.fld .OLK_PDLY_DLY 0
      else []
    count := some (if s.isMaster then others.foldl (fun m i => max m (i.count.getD 0)) s.clk.now else s.clk.now)
    idle := idle && (!s.isMaster || others.all (·.idle)) }

def State.sendTopo (s : State) : State :=
  s.linkSend ⟨0xFF, 0, typTopo, 7, true, false, 0, 0, (Config.topoBytes s.ownInfo).map fun b => BitVec.ofNat 8 b⟩

/-- R487: series and last WSN sent, for each device. -/
def State.sendHello (s : State) : State :=
  s.linkSend ⟨0xFF - 2 ^ s.ownAddr, 0, typHello, 7, true, false, 0, 0,
    (List.finRange 8).flatMap fun (d : Fin 8) => leBytes 2 (s.lnk.oser[d]) ++ leBytes 4 (s.fld .OLK_OWSN_WSN d)⟩

/-! ## Ports come and go (R471, R472, R475) -/

/-- A segment is lost: frames that wait move to the other port, numbered ones are lost, and the ring heals. -/
def State.segmentDown (s : State) (p : Fin 2) (st : Nat) : State :=
  let wasUp := s.portUp p
  let q := s.lnk.port[p]
  let s := (s.setFld .OLK_PSTAT_STATE p 0 st).setFlag .OLK_PSTAT_PAUSED p 0 false
  let s := s.setLPort p fun q =>
    { q with nbr := none, queue := [], fwd := [], win := [], seen := none, pauseQ := 0, pausing := false, exhaust := []
             downAt := some s.clk.now, errAt := [] }
  let s := s.setLPort (otherPort p) fun o => { o with queue := o.queue ++ q.queue, fwd := o.fwd ++ q.fwd }
  if wasUp then ((s.ringView.raise .attn Cause.LINK_HEALED 4 (inst := p.val)).sendTopo).pump else s

/-- R471: training succeeds, and the port is up. A failed port stays down until LINK CLEAR has begun its training. -/
def execPortTrained (p : Fin 2) (low : Bool) (nbr : Fin 8) (dly : Nat) (s : State) : Host.Outcome State Fault Refusal :=
  if !s.linkOn || s.portUp p || s.fld .OLK_PSTAT_STATE p == 3 then .next s
  else
    let s := ((s.setFld .OLK_PSTAT_STATE p 0 2).setFlag .OLK_PSTAT_LOW p 0 low).setFld .OLK_PDLY_DLY p 0 (min dly 65535)
    let s := s.setLPort p fun q => { q with nbr := some nbr, seen := none, bad := false }
    .next (s.ringView.sendTopo.sendHello.pump)

/-- R471, R472: the port loses symbol lock, or its training fails. -/
def execPortDown (p : Fin 2) (s : State) : Host.Outcome State Fault Refusal :=
  if s.fld .OLK_PSTAT_STATE p = 2 ∨ s.fld .OLK_PSTAT_STATE p = 1 then
    .next (s.segmentDown p (if (s.lnk.port[p]).bad then 3 else 0))
  else .next s

/-- R471: a port that has been down for 100 ms retrains, and one that has not trained since the reset at once. -/
def execPortRetrain (p : Fin 2) (s : State) : Host.Outcome State Fault Refusal :=
  let due := ((s.lnk.port[p]).downAt.map fun t => decide (t + 100 * msCounts ≤ s.clk.now)).getD true
  if s.linkOn && s.fld .OLK_PSTAT_STATE p == 0 && due then .next (s.setFld .OLK_PSTAT_STATE p 0 1) else .next s

/-- R472: what the policy `LINK` does once 8 symbol errors have been counted within 1 s at 250 Mbit/s. -/
def State.rateAct (s : State) (p : Fin 2) : State :=
  let s := s.setLPort p fun q => { q with errAt := [] }
  match s.fld .OLK_PCTL_POL p with
  | 0 => s
  | 1 => s.raise .attn Cause.LINK_RATE 4 (inst := p.val)
  | _ => ((s.raise .attn Cause.LINK_RATE 4 (inst := p.val)).setFlag .OLK_PSTAT_LOW p 0 true).segmentDown p 1

/-- R472: `n` symbol errors are counted. -/
def State.symErrs (s : State) (p : Fin 2) (n : Nat) : State :=
  let s := s.bump .OLK_PCNT_ERRS p 0 n
  let near := (s.lnk.port[p]).errAt.filter fun t => decide (s.clk.now < t + 1000 * msCounts)
  let l := near ++ List.replicate n s.clk.now
  let s := s.setLPort p fun q => { q with errAt := l }
  if 8 ≤ l.length ∧ !s.flag .OLK_PSTAT_LOW p ∧ s.portUp p then s.rateAct p else s

/-- R472: 8 symbol errors within 1 s at 250 Mbit/s. Those that no failed frame check has counted are code violations and disparity
errors, which no other row shows. -/
def execLinkRate (p : Fin 2) (s : State) : Host.Outcome State Fault Refusal :=
  if !s.portUp p || s.flag .OLK_PSTAT_LOW p then .next s
  else
    let near := (s.lnk.port[p]).errAt.filter fun t => decide (s.clk.now < t + 1000 * msCounts)
    .next (s.symErrs p (8 - near.length))

/-- R472, R479: a frame has exhausted its attempts on the hop; the third within 100 ms fails the port. -/
def State.discardFrame (s : State) (p : Fin 2) (lseq : Nat) : State :=
  let q := s.lnk.port[p]
  let keep := q.win.filter fun e => e.lseq != lseq
  let first := (q.win.head?.map (·.lseq)).getD lseq
  let n := keep.length
  let win := keep.zipIdx.map fun (e, i) => { e with lseq := (first + i) % 65536, out := false }
  let recent := (q.exhaust ++ [s.clk.now]).filter fun t => decide (s.clk.now < t + 100 * msCounts)
  let s := s.setLPort p fun q =>
    { q with win := win, next := (first + n) % 65536, discards := q.discards + 1, exhaust := recent }
  if recent.length ≥ 3 then
    let s := (s.setLPort p fun q => { q with bad := true }).raise .fault Cause.LINK_PORT 4 (inst := p.val)
    s.segmentDown p 3
  else s.pump

/-- R479: an attempt of the frame has failed: it and every later frame are sent again, or it is discarded. -/
def State.attemptFailed (s : State) (p : Fin 2) (lseq : Nat) : State :=
  let q := s.lnk.port[p]
  match q.win.findIdx? fun e => e.lseq == lseq && e.out with
  | none => s
  | some i =>
    if (q.win.drop i).head?.any fun e => e.tries ≥ s.fld .OLK_CFG_RETRY + 1 then s.discardFrame p lseq
    else
      let s := s.bump .OLK_PCNT_RETRIES p 0 (q.win.length - i)
      (s.setLPort p fun q => { q with win := q.win.zipIdx.map fun (e, j) => if j ≥ i then { e with out := false } else e }).pump

def execAttemptTimeout (p : Fin 2) (lseq : Nat) (s : State) : Host.Outcome State Fault Refusal :=
  .next (s.attemptFailed p lseq)

/-- R479: the neighbour has taken the frame whole. -/
def execAck (p : Fin 2) (lseq : Nat) (s : State) : Host.Outcome State Fault Refusal :=
  .next (s.setLPort p fun q => { q with win := q.win.filter fun e => e.lseq != lseq }).pump

/-- R479, R480: a failed attempt, or, for FULL, none: the frame waits for the end of the pause or for 8 µs. -/
def execNak (p : Fin 2) (lseq : Nat) (full : Bool) (s : State) : Host.Outcome State Fault Refusal :=
  if full then
    .next (s.setLPort p fun q =>
      { q with win := q.win.map fun e => if e.lseq = lseq ∧ e.out then { e with out := false, full := true, tries := e.tries - 1 } else e })
  else .next (s.attemptFailed p lseq)

/-- Frames refused with FULL, and every later one, are due again. -/
def State.fullAgain (s : State) (p : Fin 2) (which : LinkSent → Bool) : State :=
  match (s.lnk.port[p]).win.findIdx? fun e => e.full && which e with
  | none => s.pump
  | some i =>
    (s.setLPort p fun q =>
      { q with win := q.win.zipIdx.map fun (e, j) => if j ≥ i then { e with full := false, out := false } else e }).pump

def execNakFullResend (p : Fin 2) (lseq : Nat) (s : State) : Host.Outcome State Fault Refusal :=
  if (s.lnk.port[p]).pauseQ ≠ 0 then .next s else .next (s.fullAgain p fun e => e.lseq == lseq)

/-! ## PAUSE (R481, R482) -/

/-- R481: a count replaces what is left of the pause in force; a count of 0 ends it. -/
def execPause (p : Fin 2) (quanta : Nat) (s : State) : Host.Outcome State Fault Refusal :=
  let n := quanta % 65536
  let s := (s.setLPort p fun q => { q with pauseQ := n }).setFlag .OLK_PSTAT_PAUSED p 0 (n != 0)
  .next (if n = 0 then s.fullAgain p fun _ => true else s)

def execPauseExpiry (p : Fin 2) (s : State) : Host.Outcome State Fault Refusal :=
  if (s.lnk.port[p]).pauseQ = 0 then .next s
  else .next (((s.setLPort p fun q => { q with pauseQ := 0 }).setFlag .OLK_PSTAT_PAUSED p 0 false).fullAgain p fun _ => true)

/-- R481: LNK_RX, or the forwarding buffer behind port `p`, has room for fewer than 2 frames. -/
def State.congested (s : State) (p : Fin 2) : Bool :=
  decide (s.ringFree 13 < 18) || s.ringHeld 13 || decide ((s.lnk.port[otherPort p]).fwd.length > 6)

/-- A PAUSE leaves when the condition begins, and a PAUSE 0 once it clears. -/
def State.pauseUpdate (s : State) : State :=
  forAll [(0 : Fin 2), 1] s fun s p =>
    if !s.portUp p then s
    else if s.congested p then
      if (s.lnk.port[p]).pausing then s
      else (s.sendCtl p (.pause (s.fld .OLK_CFG2_PQ))).setLPort p fun q => { q with pausing := true }
    else if (s.lnk.port[p]).pausing then (s.sendCtl p (.pause 0)).setLPort p fun q => { q with pausing := false }
    else s

def execPauseRefresh (p : Fin 2) (s : State) : Host.Outcome State Fault Refusal :=
  if s.portUp p && (s.lnk.port[p]).pausing && s.congested p then .next (s.sendCtl p (.pause (s.fld .OLK_CFG2_PQ)))
  else .next s.pauseUpdate

/-! ## Arrival of a data frame (R474, R476, R479, R480) -/

/-- A refusal: NAK, and for FULL a PAUSE with it. -/
def State.nakFrame (s : State) (p : Fin 2) (lseq : Nat) (full : Bool) : State :=
  let s := s.sendCtl p (.nak lseq full)
  if full then (s.sendCtl p (.pause (s.fld .OLK_CFG2_PQ))).setLPort p fun q => { q with pausing := true } else s

/-- The port that a frame from port `p` goes on through: the next one, or the only one that is up. -/
def State.onward (s : State) (p : Fin 2) : Option (Fin 2) :=
  if s.portUp (otherPort p) then some (otherPort p) else none

/-- LNK_RX has no room for the frame. -/
def State.rxFull (s : State) (f : LinkFrame) : Bool := s.ringHeld 13 || decide (s.ringFree 13 < f.entries)

/-- A frame that has passed its checks and comes in turn is taken, delivered and forwarded. -/
def State.takeFrame (s : State) (p : Fin 2) (f : LinkFrame) (lseq : Nat) : State :=
  let me := f.dmask / 2 ^ s.ownAddr % 2 == 1
  let rest := if me then f.dmask - 2 ^ s.ownAddr else f.dmask
  let known := 1 ≤ f.typ && f.typ ≤ 13
  let deliver := me && known && s.linkOpen f.typ
  let go := if rest ≠ 0 ∧ f.hops > 0 ∧ f.src ≠ s.ownAddr then s.onward p else none
  if deliver && s.rxFull f then (s.ringFull 13).nakFrame p lseq true
  else if go.any fun o => (s.lnk.port[o]).fwd.length ≥ 8 then s.nakFrame p lseq true
  else
    let s := (s.sendCtl p (.ack lseq)).setLPort p fun q => { q with seen := some lseq }
    let s := if me && !known then s.setLPort p fun q => { q with discards := q.discards + 1 } else s
    let s := if deliver then (s.ringPut 13 f.entries).setLnk fun l => { l with rx := l.rx ++ [⟨f, none⟩] } else s
    let s := match go with
      | some o => s.setLPort o fun q => { q with fwd := q.fwd ++ [{ f with dmask := rest, hops := f.hops - 1 }] }
      | none => s
    s.pump.pauseUpdate

/-- R476, R479: the checks of a data frame. Behind the last LSEQ taken it is acknowledged again; ahead of the next one it
is NAKed, so that frames keep their order. -/
def execDataFrameReceived (p : Fin 2) (bytes : List Byte) (s : State) : Host.Outcome State Fault Refusal :=
  if !s.linkOn || !s.portUp p then .next s
  else
    match parseFrame bytes with
    | none => .next ((s.nakFrame p (leAt bytes 4 2) false).symErrs p 1)
    | some (f, lseq) =>
      if f.hops = 0 ∧ f.dmask / 2 ^ s.ownAddr % 2 = 0 then .next ((s.nakFrame p lseq false).symErrs p 1)
      else
        match (s.lnk.port[p]).seen with
        | none => .next (s.takeFrame p f lseq)
        | some n =>
          if lseq = (n + 1) % 65536 then .next (s.takeFrame p f lseq)
          else if (n + 65536 - lseq) % 65536 < 32768 then .next (s.sendCtl p (.ack lseq))
          else .next (s.nakFrame p lseq false)

/-- The transaction layer takes the frame at the head of LNK_RX, if it is of the type. -/
def State.takeRx (s : State) (typ : Nat) : Option (LinkRx × State) :=
  match s.lnk.rx with
  | [] => none
  | r :: l =>
    if r.f.typ ≠ typ then none
    else
      let s := s.setLnk fun k => { k with rx := l }
      let s := if r.auth.isNone then (s.ringGet 13 r.f.entries).pauseUpdate else s
      some (r, s)

/-! ## TOPO and time (R473, R494, R495) -/

/-- R494: a counter steps forward while no station of any device moves, or before the commit. -/
def State.alignTo (s : State) (c : Nat) (idle master : Bool) : State :=
  let own := (List.finRange 4).all fun k => s.stnState k == stIdle
  let early := s.phase != .running && s.phase != .closing
  if early || (idle && own) then 
    (if c > s.clk.now then
      -- R129: the seconds of the real-time clock go on from where they stand.
      { s with clk := { s.clk with now := c }, rtc := s.rtc.map fun e => (e.1, e.2 + (c - s.clk.now)) }
    else s)
  else if master ∧ (c > s.clk.now + 1024 ∨ s.clk.now > c + 1024) then
    (s.setFlag .TC_STATUS_SYNCED 0 0 false).raise .attn Cause.SYNC_LOST 4
  else s

/-- R473: ring order, routes and the address check. A frame from this device's own address that does not say what this
device says comes from another device. -/
def execTopo (s : State) : Host.Outcome State Fault Refusal :=
  match s.takeRx typTopo with
  | none => .next s
  | some (r, s) =>
    match Config.topoPayload (r.f.payload.map (·.toNat)) with
    | none => .next s
    | some i =>
      if r.f.src = s.ownAddr then
        if i = s.ownInfo ∨ s.flag .OLK_STAT_ADDRDUP then .next s
        else .next ((s.setFlag .OLK_STAT_ADDRDUP 0 0 true).raise .fault Cause.LINK_ADDR 4)
      else if h : r.f.src < 8 then
        let s := s.setLnk fun l =>
          { l with topo := l.topo.filter (fun (e : TopoEnt) => e.addr.val != r.f.src) ++ [⟨⟨r.f.src, h⟩, i⟩] }
        let s := s.ringView
        let master := s.fld .OLK_STAT_MASTER == r.f.src
        let s := if master then s.setLnk fun l => { l with pathDly := i.delays.getD s.ownAddr 0 } else s
        .next (match i.count with
          | some c => s.alignTo c i.idle master
          | none => s)
      else .next s

/-- R495: one more SYNC within ±2 counts, or one beyond. Differences are in 1/16 count. -/
def State.syncSeen (s : State) (diff : Int) : State :=
  let s := s.setFldInt .OLK_SYNC_OFS 0 0 (max (-32768) (min 32767 diff))
  let s := s.setLnk fun l => { l with lastSync := some s.clk.now, corr := diff.tdiv 16 }
  if -32 ≤ diff ∧ diff ≤ 32 then
    let s := s.setLnk fun l => { l with good := min (l.good + 1) 8 }
    if s.lnk.good ≥ 8 && s.flag .TC_STATUS_REFOK then s.setFlag .TC_STATUS_SYNCED 0 0 true else s
  else
    let was := s.flag .TC_STATUS_SYNCED
    let s := (s.setLnk fun l => { l with good := 0 }).setFlag .TC_STATUS_SYNCED 0 0 false
    if was then s.raise .attn Cause.SYNC_LOST 4 else s

/-- R478, R495: a SYNC is forwarded and compared. `diff` is its value with the path delay less this device's counter. -/
def execSync (p : Fin 2) (v : Nat) (diff : Int) (s : State) : Host.Outcome State Fault Refusal :=
  if !s.portUp p || s.isMaster then .next s
  else
    let s := if s.portUp (otherPort p) then s.sendCtl (otherPort p) (.sync (v % 2 ^ 48)) else s
    .next (s.syncSeen diff)

/-- The devices of the ring other than this one. -/
def State.othersMask (s : State) : Nat := s.presentMask - 2 ^ s.ownAddr

/-- R495: the master sends SYNC 1 ms after the one before, and its own counter agrees with it. -/
def execSyncSend (s : State) : Host.Outcome State Fault Refusal :=
  let due := (s.lnk.lastSync.map fun t => decide (t + msCounts ≤ s.clk.now)).getD true
  if !s.isMaster || !(s.portUp 0 || s.portUp 1) || !due then .next s
  else
    let s := forAll [(0 : Fin 2), 1] s fun s p => if s.portUp p then s.sendCtl p (.sync (s.clk.now % 2 ^ 48)) else s
    .next ((s.setFld .OLK_INFO_SYNC 0 0 s.othersMask).syncSeen 0)

/-- R495: 10 ms without a SYNC. -/
def execSyncLost (s : State) : Host.Outcome State Fault Refusal :=
  if (s.lnk.lastSync.map fun t => decide (s.clk.now < t + 10 * msCounts)).getD false then .next s
  else if s.flag .TC_STATUS_SYNCED then
    .next (((s.setLnk fun l => { l with good := 0 }).setFlag .TC_STATUS_SYNCED 0 0 false).raise .attn Cause.SYNC_LOST 4)
  else .next (s.setLnk fun l => { l with good := 0 })

/-- R496: FREEZE is forwarded and applied. -/
def execFreezeFrame (p : Fin 2) (s : State) : Host.Outcome State Fault Refusal :=
  if !s.portUp p then .next s else .next ((s.sendFreeze [otherPort p]).obsFreeze 4 0)

/-! ## MIRROR (R493) -/

/-- R493: a change of PNL_DRAW is sent to OLK_MIRROR.OUT. -/
def State.mirrorSend (s : State) : State :=
  let now := (List.range 24).map fun g => s.reg .PNL_DRAW g 0
  if now = s.lnk.lastDraw then s
  else
    let s := s.setLnk fun l => { l with lastDraw := now }
    let out := s.fld .OLK_MIRROR_OUT
    let m := (maskBits out).foldl (fun m d => if d = s.ownAddr then m else m + 2 ^ d) 0
    if m = 0 || !s.linkOpen typMirror then s
    else
      let s := s.setFld .OLK_INFO_MIR 0 0 (m &&& s.othersMask)
      s.linkSend ⟨m, 0, typMirror, 7, true, false, 0, 0, now.flatMap fun w => leBytes 4 w.toNat⟩

/-- R493: the frame of the chosen source is written into PNL_DRAW. -/
def execMirror (s : State) : Host.Outcome State Fault Refusal :=
  match s.takeRx typMirror with
  | none => .next s
  | some (r, s) =>
    if s.flag .OLK_MIRROR_INEN && s.fld .OLK_MIRROR_IN == r.f.src && r.f.payload.length == 96 then
      .next (forAll (List.range 24) s fun s g => s.setFld .PNL_DRAW_SEG g 0 (leAt r.f.payload (4 * g) 4))
    else .next s

/-! ## Commands (R498) -/

/-- R78, R492: the time in µs that a timeout and LEAD must exceed. -/
def linkFloor (retry : Nat) : Nat := (retry + 1) * 8 * 7 + 50

/-- R78, R492: the combination that results. -/
def State.linkTimingErr (s : State) : Option Nat :=
  let m := linkFloor (s.fld .OLK_CFG_RETRY)
  if s.fld .OLK_CFG_TMO > m ∧ s.fld .OLK_CFG2_LEAD > m then none else some 704

def workLinkCfg (o : Origin) (sets : List FieldSet) (s : State) : Work :=
  workPanelSets 0 sets (fun t => t.linkTimingErr) (s.originAuth o).brd s

def execLinkCfg (o : Origin) (sets : List FieldSet) (s : State) : Host.Outcome State Fault Refusal :=
  .next (s.offer o (.linkCfg o sets) (workLinkCfg o sets s))

/-- R472: a failed port retrains. -/
def workLinkClear (o : Origin) (p : Fin 2) (s : State) : Work :=
  { permit := (s.originAuth o).brd
    run := fun _ s => .done (if s.fld .OLK_PSTAT_STATE p = 3 then s.setFld .OLK_PSTAT_STATE p 0 1 else s) }

def execLinkClear (o : Origin) (p : Fin 2) (s : State) : Host.Outcome State Fault Refusal :=
  .next (s.offer o (.linkClear o p) (workLinkClear o p s))

/-- R498: the port retrains at the named rate. -/
def workLinkPortRate (o : Origin) (p : Fin 2) (low : Bool) (s : State) : Work :=
  { permit := (s.originAuth o).brd
    run := fun _ s =>
      let s := s.setFlag .OLK_PSTAT_LOW p 0 low
      .done (if s.fld .OLK_PSTAT_STATE p = 3 then s else s.segmentDown p 1) }

def execLinkPortRate (o : Origin) (p : Fin 2) (low : Bool) (s : State) : Host.Outcome State Fault Refusal :=
  .next (s.offer o (.linkPortRate o p low) (workLinkPortRate o p low s))

def workLinkAuth (o : Origin) (d : Fin 8) (stn : Nat) (brd : Bool) (s : State) : Work :=
  { permit := (s.originAuth o).brd
    chk := if stn < 16 then none else some 511
    run := fun _ s => .done ((s.setFld .OLK_PAUTH_STN d 0 stn).setFlag .OLK_PAUTH_BRD d 0 brd) }

def execLinkAuth (o : Origin) (d : Fin 8) (stn : Nat) (brd : Bool) (s : State) : Host.Outcome State Fault Refusal :=
  .next (s.offer o (.linkAuth o d stn brd) (workLinkAuth o d stn brd s))

def workLinkMirror (o : Origin) (out : Nat) (inp : Option Nat) (s : State) : Work :=
  { permit := (s.originAuth o).brd
    chk := if out < 256 ∧ inp.getD 0 < 8 then none else some 511
    run := fun _ s =>
      let s := (s.setFld .OLK_MIRROR_OUT 0 0 out).setFlag .OLK_MIRROR_INEN 0 0 inp.isSome
      .done (match inp with
        | some d => s.setFld .OLK_MIRROR_IN 0 0 d
        | none => s) }

def execLinkMirror (o : Origin) (out : Nat) (inp : Option Nat) (s : State) : Host.Outcome State Fault Refusal :=
  .next (s.offer o (.linkMirror o out inp) (workLinkMirror o out inp s))

def portName (n : Nat) : String :=
  match n with
  | 0 => "DOWN"
  | 1 => "TRAINING"
  | 2 => "UP"
  | _ => "FAILED"

/-- R498: LINK?. -/
def execLinkQuery (o : Origin) (s : State) : Host.Outcome State Fault Refusal :=
  .next (s.askPure o none (s.originAuth o).any fun s =>
    (0, [.s "LINK", .s "ADDR", .n s.ownAddr, .s "MASTER", .n (s.fld .OLK_STAT_MASTER), .s "N", .n (s.fld .OLK_STAT_N),
        .s "PRESENT", .s (hexText 2 (s.fld .OLK_STAT_PRESENT)), .s "SYNCED", .n (s.fld .TC_STATUS_SYNCED), .s "OFS",
        .n (s.fldInt .OLK_SYNC_OFS)]
      :: ((List.range 2).map fun p =>
        [.s ("OL" ++ natText p), .s "STATE", .s (portName (s.fld .OLK_PSTAT_STATE p)), .s "RATE",
          .n (if s.flag .OLK_PSTAT_LOW p then 125 else 250), .s "PAUSED", .n (s.fld .OLK_PSTAT_PAUSED p), .s "RETRIES",
          .n (s.fld .OLK_PCNT_RETRIES p), .s "ERRS", .n (s.fld .OLK_PCNT_ERRS p)])))

end Sys2Proof.Machine
end

