-- ==== Sys2Proof/Machine/RegRead.lean ====
section
/-! DEFINITION. What a register reads as, and who may read and write it (R7 to R9, R28, R37, R133, Table 5.2). -/
namespace Sys2Proof.Machine
open Sys2Proof

/-! ## Owners (Table 5.2) -/

/-- Needs beside a station's code and 4, the board flag: any station or the board flag, and no authority at all. -/
def needAny : Nat := 9
def needNone : Nat := 8

def Auth.meets (a : Auth) (n : Nat) : Bool := if n = needNone then true else if n = needAny then a.any else a.over n

def State.coreStn (s : State) (c : Nat) : Nat := evStn (s.fld .SYS_CASN_STN c)

/-- The owner of a register where it is an instance assigned to a station, a planner's entry or a core's own; else 4. -/
def State.regOwner (s : State) (r : Reg) (i : Nat) : Nat :=
  match r with
  | .SYS_CASN | .SYS_CCTL | .SYS_CSTAT | .SYS_CENTRY | .SYS_CBANK | .SYS_CBSEL | .SYS_CWSN | .SYS_CPC | .SYS_CCHK
  | .EVT_IMASK | .EVT_SEEN | .OBS_CTAG => s.coreStn i
  | .PWR_IDLE => i
  | .RING_CFG | .RING_PTR | .RING_STAT | .RING_CLR => if 4 ≤ i ∧ i < 8 then i - 4 else 4
  | .DEC_SFLAGS | .DEC_OUT => s.decOwner i
  | .DEC_MBX => s.decOwner (i + 4)
  | .MOT_STATE | .MOT_SCFG | .MOT_HOLDT | .MOT_RTOL | .MOT_APPF | .MOT_CDV | .MOT_OVR | .MOT_LOOK | .MOT_PGM | .MOT_AXL
  | .MOT_MFT | .MOT_HS | .MOT_XSLOT | .MOT_XWSN | .MOT_XCTL | .MOT_CODE => i
  | .MOT_VMAX | .MOT_VRAP | .MOT_AMAX | .MOT_JMAX | .MOT_JOGF | .MOT_SLO | .MOT_SHI | .MOT_AXCTL | .SRV_MODE | .SRV_FB
  | .SRV_FBNUM | .SRV_FBDEN | .SRV_KP | .SRV_KI | .SRV_KVF | .SRV_KAF | .SRV_VFS | .SRV_OUTLIM | .SRV_OUTOFS | .SRV_KVP
  | .SRV_KVI | .SRV_TACH | .SRV_TACHFS | .SRV_TACHTOL | .SRV_FEWARN | .SRV_FETRIP | .SRV_APPLY | .SRV_STAT | .SRV_FE
  | .SRV_RESNOM | .SRV_COMP | .SRV_BKL | .SRV_CSTART | .SRV_CSTEP | .SRV_CPT => evStn (s.axisCode i)
  | .ENC_CFG | .ENC_CNT | .ENC_ZCAP | .ENC_STAT | .ENC_ERRS => evStn (s.encStn i)
  | .ENC_HWCFG | .ENC_HWCNT | .ENC_HWSTAT => evStn (s.fld .ENC_HWCFG_STN i)
  | .REB_CMODE | .REB_CPAR | .REB_CHOFF | .REB_CSTAT => evStn (s.rgnStn (i / 8))
  | .REB_RGN | .REB_RSER | .REB_RLOAD | .LGF_CLK | .LGF_HMODE | .LGF_HVAL | .LGF_HMODE2 | .LGF_HVAL2 | .LGF_OUT
  | .LGF_OUT2 | .LGF_CRC => evStn (s.rgnStn i)
  | .REB_XPT => evStn (s.sinkOwner i)
  | .ADC_PCFG | .ADC_PDATA | .ADC_PSTAT | .ADC_PCALT | .FCH_CFG | .FCH_PHD | .FCH_SF | .FCH_TAPS | .FCH_SWAP | .FCH_DLY
  | .FCH_RATE | .FCH_RES | .FCH_ANG | .FCH_RAMP | .FCH_COEFA | .FCH_COEFB => evStn (s.chanStn i)
  | .ADC_FCFG | .ADC_FDATA | .ADC_FSTAT | .ADC_FCALT => evStn (s.chanStn (16 + i))
  | .DAC_CFG | .DAC_HOLD | .DAC_OUT | .DAC_MAJOR | .DAC_RTGT | .DAC_RTCK | .DAC_STAT => evStn (s.dacStn i)
  | .EXC_CFG | .EXC_INC | .EXC_AMP | .EXC_PHASE | .EXC_RATE | .EXC_NOW | .EXC_NINC | .EXC_STAT | .EXC_TSWAP | .EXC_TAB =>
    evStn (s.excStn i)
  | .FIO_CFG | .FIO_STAT | .FIO_CUR | .FIO_CLR => evStn (s.pinStn i)
  | .FIO_ACFG | .FIO_ASTAT => evStn (s.ainStn i)
  | .OBS_EBUSY_LO | .OBS_EBUSY_HI | .OBS_EIDLE_LO | .OBS_EIDLE_HI | .OBS_ESTALL_LO | .OBS_ESTALL_HI | .OBS_ENOW =>
    s.engOwner i
  | .OBS_SKCFG | .OBS_SKN | .OBS_SKMIN | .OBS_SKMAX | .OBS_SKSUM_LO | .OBS_SKSUM_HI | .OBS_SKCRC | .OBS_SKINV =>
    if s.fld .OBS_SKCFG_KIND i = 0 then needAny
    else evStn ((s.skimOwner (s.fld .OBS_SKCFG_KIND i) (s.fld .OBS_SKCFG_INST i)).getD 4)
  | _ => 4

/-- The owner of a register as the station code of its work items. -/
def State.regStn (s : State) (r : Reg) (i : Nat) : Nat := min (s.regOwner r i) 4

/-- The blocks that any station may read: SYS memory registers and ISA, PWR, LAT, JRN, FLS, TC, DEC, CFG (their owning
chapters' register rules), and the summary registers of the field pins. -/
def readByAny (r : Reg) : Bool :=
  match r with
  | .SYS_ISA | .SYS_SPG | .SYS_SRAM | .SYS_SECC | .SYS_SADDR | .SYS_SCLR => true
  | .PWR_STAT | .PWR_VIN | .PWR_VBAT | .PWR_VHOLD | .PWR_HOLDC | .PWR_DOM | .PWR_WDT | .PWR_WDTLEFT | .PWR_IDLE
  | .PWR_RCNT => true
  | .LAT_CTRL | .LAT_VPOL | .LAT_VCORE | .LAT_SLACK | .LAT_SLACKLOW | .LAT_STAGE | .LAT_CLR | .LAT_OVR => true
  | .JRN_STAT | .JRN_LSN | .JRN_QUEUE | .JRN_LIVE | .JRN_WEAR | .JRN_CTIME | .JRN_CFG | .JRN_CLR | .JRN_REPAIR => true
  | .FLS_STAT | .FLS_CTL | .FLS_ARCH | .FLS_POISON | .FLS_SECT | .FLS_ECNT => true
  | .TC_NOW_LO | .TC_NOW_HI | .TC_TICK_LO | .TC_TICK_HI | .TC_STATUS | .TC_REFSEL => true
  | .DEC_STAT | .DEC_ISSUED | .DEC_CHKS | .DEC_CLR | .DEC_OUT => true
  | .CFG_STAT | .CFG_SERIAL | .CFG_POLICY | .CFG_TRY | .CFG_KEY | .CFG_KFP | .CFG_STG | .CFG_STGSER | .CFG_STGINF => true
  | .FIO_GSTAT | .FIO_GCUR | .DAC_LOAD => true
  | _ => false

/-- R133: authority to read a register. PNL_KQ may be read with authority over a station in KSTN (R427). -/
def State.mayRead (s : State) (a : Auth) (r : Reg) (i : Nat) : Bool :=
  if readByAny r then a.any
  else if r = .PNL_KQ then s.kqMay a
  else a.meets (s.regOwner r i)

/-! ## Read values -/

def lowWord (n : Nat) : Nat := n % 2 ^ 32
def highWord (n : Nat) : Nat := n / 2 ^ 32 % 2 ^ 32

/-- A counter of an engine, as a read of its low word latches it (R604). -/
def State.latchCount (s : State) (hi : Fld) (i j n : Nat) : Nat × State := (lowWord n, s.setFld hi i j (highWord n))

def State.engOf (s : State) (e : Nat) : EngCount := if h : e < 33 then s.obs.eng[e] else zeroCount

/-- A word of a mailbox (Table 10.6). -/
def State.mbxWord (s : State) (c j : Nat) : Nat :=
  if h : c < 6 then
    match s.dec.mbx[c] with
    | [] => 0
    | r :: _ =>
      if j < 4 then r.value / 2 ^ (32 * j) % 2 ^ 32 else if j = 4 then r.tag + r.flags * 2 ^ 16 + 2 ^ 31 else 0
  else 0

/-- FIO_DRV: the switches that are on. -/
def State.drvWord (s : State) (hi : Bool) : Nat :=
  (List.finRange 32).foldl (fun (t : Nat) (n : Fin 32) =>
    let k : Fin 64 := if hi then ⟨n.val + 32, by omega⟩ else ⟨n.val, by omega⟩
    t + (b2n (s.pinOn k)) * 2 ^ n.val) 0

/-- SYS_CPC is valid while the core is halted or failed; else it is a free value. -/
def State.cpcWord (s : State) (c : Nat) : Nat × State :=
  if h : c < 6 then
    let st := s.fld .SYS_CSTAT_STATE c
    if st = 0 ∨ st = 4 then ((s.core[c]).pc.toNat + (s.core[c]).sp.toNat * 2 ^ 16, s) else s.fresh 32
  else (0, s)

/-- SYS_CSTAT.STATE as it reads: the named spare shows 5 while it is idle (Table 11.4). -/
def State.coreShown (s : State) (c : Nat) : Nat :=
  let st := s.fld .SYS_CSTAT_STATE c
  if st = 0 ∧ s.fld .SYS_CFG_SPARE = c then 5 else st

/-- The held items of a station (MOT_STATE.NHELD). -/
def State.nHeld (s : State) (k : Nat) : Nat := if h : k < 4 then min 255 (s.heldItems ⟨k, h⟩).length else 0

/-- Milliseconds left of the watchdog period. -/
def State.wdtLeft (s : State) : Nat := ((s.pwr.wdt.map fun t => (t - s.clk.now) / msCounts).getD 0) % 65536

/-- A word with one field replaced. -/
def wordWith (w : Word) (f : Fld) (v : Nat) : Nat := (fldPut w f v).toNat

/-- R30: a register of the observation block. -/
def isObs (r : Reg) : Bool := 23 ≤ (regPlace r).blk

/-- What a read of a register returns while its block is up, and what the read does: a read of a LO word latches its HI word, and a read of
PNL_KQ takes the entry. WO and RSV bits read 0. -/
def State.regShown (s : State) (r : Reg) (i j : Nat) : Nat × State :=
  let w := s.reg r i j
  match r with
  | .TC_NOW_LO => (lowWord s.clk.now, { s with clk := { s.clk with nowHi := highWord s.clk.now } })
  | .TC_NOW_HI => (s.clk.nowHi, s)
  | .TC_TICK_LO => (lowWord s.clk.tick, { s with clk := { s.clk with tickHi := highWord s.clk.tick } })
  | .TC_TICK_HI => (s.clk.tickHi, s)
  | .REB_EPOCH_LO => (lowWord s.clk.epoch, { s with clk := { s.clk with epochHi := highWord s.clk.epoch } })
  | .REB_EPOCH_HI => (s.clk.epochHi, s)
  | .OBS_EBUSY_LO => s.latchCount .OBS_EBUSY_HI_BUSY i 0 (s.engOf i).busy
  | .OBS_EIDLE_LO => s.latchCount .OBS_EIDLE_HI_IDLE i 0 (s.engOf i).idle
  | .OBS_ESTALL_LO => s.latchCount .OBS_ESTALL_HI_STALL i j ((s.engOf i).stall[natFin8 j])
  | .MOT_STATE => (wordWith w .MOT_STATE_NHELD (s.nHeld i), s)
  | .FCH_DLY => (s.fchDly i, s)
  | .FCH_RATE => (s.fchRate i, s)
  | .FCH_PLOAD => (s.fchLoad i % 65536, s)
  | .DEC_MBX => (s.mbxWord i j, s)
  | .PNL_KQ => (s.kqWord, s.kqPop)
  | .PNL_CALC => (wordWith w .PNL_CALC_ACTIVE (b2n s.calcOwns), s)
  | .PNL_DSTAT => (b2n s.faultShown, s)
  | .FIO_DRV_LO => (s.drvWord false, s)
  | .FIO_DRV_HI => (s.drvWord true, s)
  | .FIO_STAT => (wordWith w .FIO_STAT_FORCED (b2n (s.pinForced i)), s)
  | .JRN_QUEUE => (min 8191 (s.jrn.queue.filter QEnt.isRec).length, s)
  | .SYS_CPC => s.cpcWord i
  | .SYS_CSTAT => (wordWith w .SYS_CSTAT_STATE (s.coreShown i), s)
  | .PWR_WDTLEFT => (s.wdtLeft, s)
  | .FLS_SECT =>
    if i % 2 = 0 then (w.toNat, s)
    else (List.range 16).foldl (fun (p : Nat × State) (k : Nat) =>
      let (v, _, t) := p.2.sectShown (16 * i + k)
      (p.1 + v * 4 ^ k, t)) (0, s)
  | .FLS_ECNT => if imageSect i then (w.toNat, s) else let (_, v, t) := s.sectShown i; (v, t)
  | _ => (w.toNat, s)

/-- What a read of a register returns. With OBS off, its registers read 0 (R30). -/
def State.regRead (s : State) (r : Reg) (i j : Nat) : Nat × State :=
  if isObs r && !s.obsOn then (0, s) else s.regShown r i j

/-- A read of a word address inside the register blocks; an offset with no register reads 0 (R28). -/
def State.addrRead (s : State) (a : Nat) : Nat × State :=
  match regAt a with
  | some (r, i, j) => s.regRead r i j
  | none => (0, s)

/-- R37: a read of a LO word latches HI. -/
def latchReg : LatchPair → Reg × Nat × Nat
  | .now => (.TC_NOW_LO, 0, 0)
  | .tick => (.TC_TICK_LO, 0, 0)
  | .epoch => (.REB_EPOCH_LO, 0, 0)
  | .busy e => (.OBS_EBUSY_LO, e, 0)
  | .idle e => (.OBS_EIDLE_LO, e, 0)
  | .stall e r => (.OBS_ESTALL_LO, e, r)

def execTcCounterReadLatch (w : LatchPair) (s : State) : Host.Outcome State Fault Refusal :=
  let (r, i, j) := latchReg w
  .next (s.regRead r i j).2

end Sys2Proof.Machine
end

