-- ==== Sys2Proof/Machine/RegWrite.lean ====
section
/-! DEFINITION. Register writes (R24, R130 to R133, and the register rules of every chapter): what a write may not do, and
what it does. A write names the RW fields with their values, the W1C bits and the WO fields that it sets. -/
namespace Sys2Proof.Machine
open Sys2Proof

/-- A register write. -/
structure RegWr where
  r : Reg
  i : Nat
  j : Nat
  sets : List FieldSet
  w1c : List (Fld × Nat)
  wo : List (Fld × Nat)
  /-- One field is written, and not the whole register (R132, R133). -/
  field : Bool

/-- The value of a field in a word, signed where the field is. -/
def fldIn (v : Nat) (f : Fld) : Int :=
  let b := v / 2 ^ f.lo % 2 ^ f.wd
  if f.sgn then toSigned f.wd b else b

/-- The writes of fields of one register. RO fields are ignored (R8). -/
def fieldWrites (r : Reg) (i j : Nat) (l : List (Fld × Int)) (field : Bool := true) : RegWr :=
  let bits (e : Fld × Int) : Fld × Nat := (e.1, ofSigned e.1.wd e.2)
  ⟨r, i, j, (l.filter fun e => e.1.kind == .rw).map fun e => ⟨e.1, e.2⟩, (l.filter fun e => e.1.kind == .w1c).map bits,
    (l.filter fun e => e.1.kind == .wo).map bits, field⟩

/-- A write of a whole register. POP of a mailbox is the one field that Table 10.6 gives its last word. -/
def wholeWrite (r : Reg) (i j v : Nat) : RegWr := fieldWrites r i j ((regFields r).map fun e => (e.2, fldIn v e.2)) false

/-- The value a write gives to a field. -/
def RegWr.get (w : RegWr) (f : Fld) : Option Int := (w.sets.find? fun e => e.fld == f).map (·.val)

/-- The value, as a number, of a field that the write names. -/
def RegWr.nat (w : RegWr) (f : Fld) : Option Nat := (w.get f).map fun v => ofSigned f.wd v

def RegWr.woOf (w : RegWr) (f : Fld) : Nat := ((w.wo.find? fun e => e.1 == f).map (·.2)).getD 0

def RegWr.strobes (w : RegWr) (f : Fld) : Bool := w.woOf f != 0

/-- The state with the RW fields of the write in place. -/
def State.putWr (s : State) (w : RegWr) : State :=
  w.sets.foldl (fun s e => s.setFld e.fld w.i w.j (ofSigned e.fld.wd e.val)) s

/-- A field that the write changes. -/
def State.changes (s : State) (w : RegWr) (f : Fld) : Bool :=
  match w.nat f with
  | some v => s.fld f w.i w.j != v
  | none => false

/-- Fields that assign a resource (R23): they need the board flag. -/
def isAssign (f : Fld) : Bool :=
  [Fld.DAC_CFG_STN, .EXC_CFG_STN, .FIO_CFG_STN, .ADC_PCFG_STN, .ADC_FCFG_STN, .REB_RGN_STN, .ENC_HWCFG_STN].contains f

/-! ## Authority (R133, Table 5.2) -/

/-- The authority that a write needs beyond an assignment field: an owner's station code, the board, or any. -/
def State.writeNeed (s : State) (r : Reg) (i : Nat) : Nat :=
  match r with
  | .SYS_CASN | .SYS_CCTL | .SYS_CSTAT | .SYS_CENTRY | .SYS_CBANK | .SYS_CBSEL | .SYS_CWSN | .SYS_CPC | .SYS_CCHK
  | .EVT_IMASK | .EVT_SEEN | .RING_CFG | .RING_PTR | .RING_STAT | .DEC_OUT => 4
  | .EVT_ACK => needNone
  | r => s.regOwner r i

/-- R54, R168, R401, R595: the requester may make the write. -/
def State.mayWrite (s : State) (q : Requester) (w : RegWr) : Bool :=
  let a := s.reqAuth q
  match w.r with
  | .LAT_CLR =>
    let m := w.woOf .LAT_CLR_CLR_OVR
    a.any && (a.brd || !w.strobes .LAT_CLR_CLR_LOW) && (List.range 4).all fun k => m / 2 ^ k % 2 == 0 || a.over k
  | .DAC_LOAD =>
    let m := w.woOf .DAC_LOAD_G
    a.any && (List.range 4).all fun g => m / 2 ^ g % 2 == 0 || s.groupPermit a g
  | .EVT_SEEN => a.brd || q == .core ⟨w.i % 6, by omega⟩
  | .OBS_FRZ =>
    a.brd || (a.any && !w.strobes .OBS_FRZ_RELEASE && !w.sets.any fun e => s.changes w e.fld)
  | .MOT_XWSN | .MOT_XCTL => true
  | r =>
    -- R133: a whole-register write needs the board flag only where it changes the assignment.
    let asn := w.sets.any fun e => isAssign e.fld && (w.field || s.changes w e.fld)
    (a.brd || !asn) && a.meets (s.writeNeed r w.i)

/-! ## Refusals -/

/-- R294: the spare core. -/
def State.spareErr (s : State) (v : Nat) : Option Nat :=
  if v = 7 then none
  else if v ≤ 5 ∧ s.fld .SYS_CASN_STN v = 7 ∧ s.fld .SYS_CSTAT_STATE v ≠ 4 ∧ s.fld .SYS_CSTAT_TASK v = v then none
  else some 513

/-- R40, R385: the rate. -/
def State.rateErr (s : State) (v : Nat) : Option Nat :=
  if v = s.fld .LAT_CTRL_RATE then none
  else if (List.finRange 4).any fun (k : Fin 4) => s.configured k && s.stnState k != stIdle then some 222
  else if (List.range 16).any fun (n : Nat) => s.fld .FCH_CFG_MODE n == 3
      && decide (s.fld .FCH_SF_N n * rateDivisor v < presetPeriod (s.fld .FCH_CFG_PRESET n)) then some 513
  else none

/-- Table 7.1: a letter used twice or given to the spindle axis, and entries of the code table that may not stand. -/
def State.axlBad (s : State) (k : Nat) : Bool :=
  ((List.range 6).any fun i => (List.range i).any fun j =>
    s.fld .MOT_AXL_LETTER k i != 0 && s.fld .MOT_AXL_LETTER k i == s.fld .MOT_AXL_LETTER k j)
  || ((List.finRange 12).any fun (a : Fin 12) => s.fld .MOT_PGM_SPAX k == a.val && s.axisCode a == k && (match s.axisStation a with
    | some q => ((s.axisSlot q a).map fun i => s.fld .MOT_AXL_LETTER k i != 0) == some true
    | none => false))

def State.codeBad (s : State) (k i : Nat) : Bool :=
  let g := s.flag .MOT_CODE_GM k i
  let c := s.fld .MOT_CODE_CODE k i
  let act := s.fld .MOT_CODE_ACT k i
  let spin := s.fld .MOT_PGM_SPAX k != 15
  (g && (act == 1 || act == 2)) || (act == 3 && (if g then interpretedG.contains c
    else c ≤ 2 || c == 30 || (spin && (c == 3 || c == 4 || c == 5))))

/-- R90: combinations of SER_MODE and SER_BAUD that may not stand. -/
def State.serBad (s : State) (p : Nat) : Bool :=
  let phy := s.fld .SER_MODE_PHY p
  let flow := s.fld .SER_MODE_FLOW p
  (phy == 0 && decide (1000000 < s.fld .SER_BAUD_BAUD p)) || (flow == 2 && phy != 0) || (flow != 0 && phy == 2)

/-- R245, R248: ENC_CFG of a receiver, changed from `s` to `t`. -/
def State.encCfgErr (s t : State) (w : RegWr) : Option Nat :=
  let str := w.sets.any fun e => isStructure e.fld && s.changes w e.fld
  if str && s.busyCode (s.encStn w.i) then some 270
  else if w.nat .ENC_CFG_ZARM = some 1 ∧ s.fld .ENC_CFG_ZARM w.i = 0 ∧ (!t.flag .ENC_CFG_ZEN w.i || t.zRefused w.i) then
    some 271
  else none

/-- The DAC settings that a write of DAC_CFG names. -/
def RegWr.dacSet (w : RegWr) : DacSet :=
  ⟨w.nat .DAC_CFG_STN, w.nat .DAC_CFG_SPAN, (w.nat .DAC_CFG_LDG).map fun n => ⟨n % 4, by omega⟩,
    (w.nat .DAC_CFG_DGEN).map (· == 1), none⟩

def State.tickWrites (w : RegWr) : List TickWrite := w.sets.map fun e => ⟨e.fld, w.i, w.j, ofSigned e.fld.wd e.val⟩

/-- The first change of a page's assignment that R25 refuses. -/
def State.spgErr (s : State) (w : RegWr) : Option Nat :=
  w.sets.findSome? fun e => s.assignErr (s.fld e.fld w.i) (ofSigned e.fld.wd e.val)

/-- What refuses a write, beyond authority: a value out of range (511), then the rule of the register's chapter. -/
def State.wrErr (s : State) (w : RegWr) : Option Nat :=
  let t := s.putWr w
  let i := w.i
  if w.sets.any fun e => (fldBits e.fld e.val).isNone then some 511
  else match w.r with
  | .SYS_CFG => (w.nat .SYS_CFG_SPARE).bind s.spareErr
  | .SYS_CASN => (w.nat .SYS_CASN_STN).bind fun v => s.assignErr (s.fld .SYS_CASN_STN i) v
  | .SYS_CENTRY | .SYS_CBANK | .SYS_CBSEL => if s.flag .SYS_CCTL_RUN i then some 280 else none
  | .SYS_SPG => s.spgErr w
  | .LAT_CTRL => (w.nat .LAT_CTRL_RATE).bind s.rateErr
  | .RING_CFG =>
    if s.changes w .RING_CFG_DEPTH || s.changes w .RING_CFG_BANK then
      s.ringDepthErr i (t.fld .RING_CFG_DEPTH i) (t.fld .RING_CFG_BANK i)
    else none
  | .EVT_ACK => if seqLe (w.woOf .EVT_ACK_SEQ) (s.fld .EVT_SEQ_SEQ i) then none else some 304
  | .MOT_PGM | .MOT_AXL | .MOT_CODE =>
    if h : i < 4 then
      if s.stnState ⟨i, h⟩ ≠ stIdle then some 223
      else if w.r ≠ .MOT_CODE ∧ t.axlBad i then some 513
      else if w.r = .MOT_CODE ∧ t.codeBad i w.j then some 513
      else none
    else none
  | .MOT_RTOL =>
    if h : i < 4 then if s.changes w .MOT_RTOL_RTOL && s.limitsLocked ⟨i, h⟩ then some 265 else none else none
  | .MOT_SLO | .MOT_SHI | .MOT_AXCTL =>
    match s.axisStation i with
    | some k =>
      if (w.sets.any fun e => s.changes w e.fld) && s.limitsLocked k then some 265
      else if t.fldInt .MOT_SHI_HI i < t.fldInt .MOT_SLO_LO i then some 513
      else none
    | none => none
  | .SRV_MODE | .SRV_FB | .SRV_FBNUM | .SRV_FBDEN | .SRV_KP | .SRV_KI | .SRV_KVF | .SRV_KAF | .SRV_VFS | .SRV_OUTLIM
  | .SRV_OUTOFS | .SRV_KVP | .SRV_KVI | .SRV_TACH | .SRV_TACHFS | .SRV_TACHTOL | .SRV_FEWARN | .SRV_FETRIP | .SRV_COMP
  | .SRV_BKL | .SRV_CSTART | .SRV_CSTEP => if (s.axisStation i).isSome then s.servoErr i w.sets else none
  | .SRV_CPT =>
    match s.axisStation i with
    | some k => if s.changes w .SRV_CPT_V && s.stnState k != stIdle then some 270 else none
    | none => none
  | .ENC_CFG => s.encCfgErr t w
  | .ENC_HWCFG =>
    match s.assignErr (s.fld .ENC_HWCFG_STN i) (t.fld .ENC_HWCFG_STN i) with
    | some e => some e
    | none =>
      if (w.sets.any fun e => e.fld != .ENC_HWCFG_STN && s.changes w e.fld) && s.busyCode (s.fld .ENC_HWCFG_STN i) then some 270
      else none
  | .REB_CHOFF => if s.rgnLoading (i / 8) then some 537 else none
  | .LGF_HMODE | .LGF_HVAL | .LGF_HMODE2 | .LGF_HVAL2 => if s.rgnLoading i then some 537 else none
  | .REB_RGN =>
    if s.changes w .REB_RGN_STN && s.rgnLoading i then some 537
    else (w.nat .REB_RGN_STN).bind fun v => s.assignErr (s.rgnStn i) v
  | .REB_XPT => (w.nat .REB_XPT_SRC).bind fun v => s.xptErr [(i, v)]
  | .ADC_PCFG => (w.nat .ADC_PCFG_STN).bind fun v => s.adcAssignErr i v
  | .ADC_FCFG => (w.nat .ADC_FCFG_STN).bind fun v => s.adcAssignErr (16 + i) v
  | .FCH_CFG | .FCH_PHD | .FCH_SF | .FCH_RES => s.structErr i (State.tickWrites w)
  | .FCH_TAPS =>
    let one (b : Bool) : Option Nat :=
      if s.changes w (tapsFld b) then s.tapsErr i b (t.fld (tapsFld b) i) else none
    (one false).or (one true)
  | .FCH_COEFA => s.bankErr i false
  | .FCH_COEFB => s.bankErr i true
  | .DAC_CFG => s.dacCfgErr i w.dacSet
  | .DAC_HOLD => if s.servoDriven i || s.flag .DAC_STAT_SPANCH i then some 278 else none
  | .DAC_LDG => (w.nat .DAC_LDG_TRIG).bind fun v => s.trigErr i v
  | .EXC_CFG => (w.nat .EXC_CFG_STN).bind fun v => s.assignErr (s.excStn i) v
  | .EXC_INC => (w.nat .EXC_INC_INC).bind fun v => if s.excTooSlow i v then some 513 else none
  | .EXC_TAB => if s.flag .EXC_STAT_TPEND i then some 279 else none
  | .EXC_TSWAP => if w.strobes .EXC_TSWAP_SINE && s.flag .EXC_STAT_TPEND i then some 279 else none
  | .FIO_CFG => s.pinCfgErr t i
  | .FIO_CLR => if w.strobes .FIO_CLR_CLEAR then s.selfTestErr i else none
  | .PNL_COMBO | .PNL_KACT | .PNL_DCFG => t.panelCombErr w.r i
  | .OLK_CFG | .OLK_CFG2 => t.linkTimingErr
  | .SER_MODE | .SER_BAUD => if t.serBad i then some 513 else none
  | .SER_CTRL =>
    if t.flag .SER_CTRL_ENABLE i && !s.flag .SER_CTRL_ENABLE i
        && (decide (s.ringDepth (8 + i) < 64) || decide (s.ringDepth (10 + i) < 64)) then some 512
    else none
  | .OBS_SKCFG =>
    if s.skimRuns i then some 289
    else if (s.skimOwner (t.fld .OBS_SKCFG_KIND i) (t.fld .OBS_SKCFG_INST i)).isNone then some 511
    else none
  | _ => none

/-! ## Effects -/

/-- R642: fields whose every write is journalled. -/
def isJournalled (f : Fld) : Bool :=
  match f.reg with
  | .SRV_COMP | .SRV_BKL | .SRV_CSTART | .SRV_CSTEP | .SRV_CPT | .REB_CHOFF | .REB_RC | .LGF_HMODE | .LGF_HVAL
  | .LGF_HMODE2 | .LGF_HVAL2 | .PWR_IDLE | .CFG_POLICY | .RING_CFG | .OLK_OWSN => true
  | _ => [Fld.FIO_CFG_POL, .FIO_ACFG_POL, .DAC_CFG_POL, .ENC_CFG_POL, .SRV_FB_RESPOL, .ADC_REF_POL, .LAT_VPOL_POL,
      .OLK_PCTL_POL, .PWR_WDT_EN, .PWR_WDT_PER, .PWR_HOLDC_HOLDMIN, .PWR_DOM_OBSEN].contains f

/-- A SETTING record for each journalled field that the write names. -/
def State.noteWr (s : State) (w : RegWr) : State :=
  w.sets.foldl (fun s e => if isJournalled e.fld && e.fld.kind == .rw then s.note e.fld w.i w.j else s) s

/-- R142: policy fields of the link, the encoders and the like change at once when written as registers; W1C bits that are
written 1 clear. -/
def State.clearBits (s : State) (w : RegWr) : State :=
  w.w1c.foldl (fun s e => s.setFld e.1 w.i w.j (s.fld e.1 w.i w.j &&& (2 ^ e.1.wd - 1 - e.2))) s

/-- Fields of the write that take effect on the next lattice tick. -/
def State.onTick (s : State) (w : RegWr) (p : Fld → Bool) : State :=
  { s with tickSet := s.tickSet ++ (State.tickWrites w).filter fun e => p e.fld }

/-- The RW fields of the write that satisfy `p` take their values at once. -/
def State.putNow (s : State) (w : RegWr) (p : Fld → Bool) : State := s.putWr { w with sets := w.sets.filter fun e => p e.fld }

/-- R40: a rate is requested. A request of the rate in force withdraws what waits. -/
def State.rateRequest (s : State) (v : Nat) : State :=
  let s := (s.setFld .LAT_CTRL_NEXT 0 0 v).setFlag .LAT_CTRL_PEND 0 0 (v != s.fld .LAT_CTRL_RATE)
  { s with lat := { s.lat with rateAt := (s.clk.now / 6144 + 1) * 6144 } }

/-- A core runs or halts (R295, R321). A running core halts at once; one that is to run starts on a tick. -/
def State.setRun (s : State) (c : Nat) (b : Bool) : State :=
  let s := s.setFlag .SYS_CCTL_RUN c 0 b
  let st := s.fld .SYS_CSTAT_STATE c
  if !b && 1 ≤ st && st ≤ 3 then s.setFld .SYS_CSTAT_STATE c 0 0 else s

/-- The port whose line makes a write. -/
def ownPort (q : Requester) : Option (Fin 2) :=
  match q with
  | .line o => sessionPort o
  | _ => none

/-- R91, R92: SER_MODE, SER_BAUD and a clear of ENABLE wait for their moment; a port that is enabled runs at once. -/
def State.serWrite (s : State) (q : Requester) (w : RegWr) : State :=
  let far := w.r != .SER_CTRL && (s.putWr w).reg w.r w.i w.j != s.reg w.r w.i w.j && (ownPort q).map (·.val) != some w.i
  let s := s.putWr w
  if h : w.i < 2 then
    let on := s.flag .SER_CTRL_ENABLE w.i
    s.setPort ⟨w.i, h⟩ fun x => { x with farChange := x.farChange || far, on := x.on || on }
  else s

/-- R91: the item of a line of the port itself, whose status line its change waits for. -/
def State.serOwn (s : State) (o : Origin) (w : RegWr) (k : Key) : State :=
  match w.r, sessionPort o with
  | .SER_MODE, some p | .SER_BAUD, some p | .SER_CTRL, some p =>
    if p.val = w.i then s.setPort p fun x => { x with ownChange := some k } else s
  | _, _ => s

/-- R54: CLR_LOW starts SLACKLOW again from its largest value, and CLR_OVR clears the overrun counters. -/
def State.latClear (s : State) (low : Bool) (ovr : Nat) : State :=
  let s := if low then s.setFld .LAT_SLACKLOW_LOW 0 0 1000 else s
  (List.range 4).foldl (fun s k => if ovr / 2 ^ k % 2 = 1 then s.setFld .LAT_OVR_COUNT k 0 0 else s) s

def outState (s : State) : Host.Outcome State Fault Refusal → State
  | .next t => t
  | _ => s

/-- R195, R310: a write of MOT_XCTL. From any requester but XCORE or a board core it is ignored, with WRITE_DENIED. -/
def State.xctlWrite (s : State) (q : Requester) (k : Fin 4) (op err : Nat) : State :=
  match q with
  | .core c =>
    match op with
    | 1 => outState s (execXctlSubmit c k s)
    | 2 => outState s (execXctlEnd c k s)
    | 3 => outState s (execXctlReject c k err s)
    | _ => if s.xctlAllowed c k then s else s.xctlDenied k
  | .line _ => s.xctlDenied k

/-- R567: a kick of 0x5A restarts the watchdog. -/
def State.wdtStart (s : State) : State :=
  { s with pwr := { s.pwr with wdt := if s.flag .PWR_WDT_EN then some (s.clk.now + s.fld .PWR_WDT_PER * 10 * msCounts) else none } }

/-- R559: HOLDOK compares the capacitance with HOLDMIN. -/
def State.holdShown (s : State) : State :=
  s.setFlag .PWR_STAT_HOLDOK 0 0 (decide (s.fld .PWR_HOLDC_HOLDMIN ≤ s.fld .PWR_HOLDC_C))

def State.wdtKickWr (s : State) (v : Nat) : State := if v = 0x5A ∧ s.pwr.wdt.isSome then s.wdtStart else s

/-- The probe's counts clear (NOC_PCLR). -/
def State.probeClear (s : State) (n : Nat) : State := s.clearProbe n

/-- What a write that nothing refuses does. With OBS off, its registers are not there to take one (R30, R583). -/
def State.wrApply (s : State) (q : Requester) (w : RegWr) : State :=
  let i := w.i
  if isObs w.r && !s.obsOn then s else
  let s := s.clearBits w
  let plain (s : State) : State := (s.putWr w).noteWr w
  match w.r with
  | .SYS_CASN | .SYS_SPG | .REB_RGN | .REB_RC | .ADC_PCFG | .ADC_FCFG | .EXC_CFG | .FIO_CFG | .FCH_CFG | .FCH_PHD | .FCH_SF
  | .FCH_RES | .PWR_DOM => s.onTick w fun _ => true
  | .ENC_HWCFG => (s.onTick w (· == .ENC_HWCFG_STN)).putNow w (· != .ENC_HWCFG_STN)
  | .SYS_CCTL =>
    let t := s.putNow w (· != .SYS_CCTL_RUN)
    match w.nat .SYS_CCTL_RUN with
    | some v => t.setRun i (v == 1)
    | none => t
  | .SYS_SCLR => if w.strobes .SYS_SCLR_CLR then (s.setFld .SYS_SECC_CORR 0 0 0).setFld .SYS_SECC_UNCORR 0 0 0 else s
  | .PWR_WDT =>
    let was := s.pwr.wdt.isSome && s.fld .PWR_WDT_PER == (s.putWr w).fld .PWR_WDT_PER
    let t := plain s
    let t := if t.flag .PWR_WDT_EN then (if was || t.phase != .running then t else t.wdtStart)
      else { t with pwr := { t.pwr with wdt := none } }
    t.wdtKickWr (w.woOf .PWR_WDT_KICK)
  | .PWR_HOLDC => (plain s).holdShown
  | .LAT_CTRL =>
    match w.nat .LAT_CTRL_RATE with
    | some v => s.rateRequest v
    | none => s
  | .LAT_VPOL => (plain s).vcoreFix
  | .LAT_CLR => s.latClear (w.strobes .LAT_CLR_CLR_LOW) (w.woOf .LAT_CLR_CLR_OVR)
  | .JRN_CLR => if w.strobes .JRN_CLR_CLR then s.setFld .JRN_CTIME_NS 0 0 0 else s
  | .FLS_CTL =>
    let t := if w.strobes .FLS_CTL_SUSPEND then s.flashSuspend else s
    if w.strobes .FLS_CTL_RESUME then t.flashResumeOp else t
  | .RING_CFG =>
    let t := s.putWr w
    if s.changes w .RING_CFG_DEPTH || s.changes w .RING_CFG_BANK then
      s.ringChange i (t.fld .RING_CFG_DEPTH i) (t.fld .RING_CFG_BANK i)
    else s
  | .RING_CLR => if w.strobes .RING_CLR_CLR then s.ringClear i else s
  | .EVT_ACK => if h : i < 4 then s.ackUpTo (s.reqAuth q) ⟨i, h⟩ (w.woOf .EVT_ACK_SEQ) else s
  | .DEC_CLR => if w.strobes .DEC_CLR_CLR then s.decClear else s
  | .MOT_XWSN =>
    if h : i < 4 then
      match q with
      | .core c => if s.xctlAllowed c ⟨i, h⟩ then plain s else s.raise .fault Cause.WRITE_DENIED i (det := regAddr .MOT_XWSN i 0)
      | .line _ => s.raise .fault Cause.WRITE_DENIED i (det := regAddr .MOT_XWSN i 0)
    else s
  | .MOT_XCTL => if h : i < 4 then s.xctlWrite q ⟨i, h⟩ (w.woOf .MOT_XCTL_OP) (w.woOf .MOT_XCTL_ERR) else s
  | .SRV_MODE => s.modeOff (plain s) i
  | .SRV_KP | .SRV_KI | .SRV_KVF | .SRV_KAF | .SRV_KVP | .SRV_KVI | .SRV_OUTLIM | .SRV_OUTOFS | .SRV_TACHTOL | .SRV_FEWARN
  | .SRV_FETRIP => if h : i < 12 then (plain s).pendTick ⟨i, h⟩ else plain s
  | .SRV_APPLY => if h : i < 12 then if w.strobes .SRV_APPLY_APPLY then s.applyGains ⟨i, h⟩ else s else s
  | .REB_XPT =>
    match w.nat .REB_XPT_SRC with
    | some v => s.xptApply [(i, v)]
    | none => s
  | .FCH_SWAP => if w.strobes .FCH_SWAP_SWAP then s.requestBank i else s
  | .DAC_CFG =>
    if h : i < 16 then
      let t := (s.dacApply ⟨i, h⟩ w.dacSet).putNow w (· == .DAC_CFG_POL)
      let t := t.noteWr { w with sets := w.sets.filter fun e => e.fld == .DAC_CFG_POL }
      match w.nat .DAC_CFG_SPAN with
      | some p => if p = s.fld .DAC_CFG_SPAN i then t else t.startSpan ⟨i, h⟩ p none
      | none => t
    else s
  | .DAC_HOLD => if h : i < 16 then (s.endRamp ⟨i, h⟩).putWr w else s
  | .DAC_LOAD => (List.range 4).foldl (fun s g => if w.woOf .DAC_LOAD_G / 2 ^ g % 2 = 1 then s.loadGroup g else s) s
  | .EXC_INC | .EXC_AMP | .EXC_PHASE =>
    if h : i < 4 then
      (w.sets.foldl (fun s e => s.excTarget ⟨i, h⟩ e.fld (ofSigned e.fld.wd e.val)) s).excReplaced ⟨i, h⟩
    else s
  | .EXC_TSWAP =>
    let t := if w.strobes .EXC_TSWAP_SINE then s.sineShadow i else s
    if w.strobes .EXC_TSWAP_SWAP then t.requestSwap i else t
  | .FIO_CLR => if w.strobes .FIO_CLR_CLEAR then (s.clearPinChecked i).2 else s
  | .FIO_ACFG => (s.ainApply i w.sets).noteWr w
  | .PNL_CHQ => s.chqWrite (w.woOf .PNL_CHQ_BYTE + 256 * w.woOf .PNL_CHQ_RS)
  | .SER_MODE | .SER_BAUD => s.serWrite q w
  | .SER_CTRL => s.serWrite q w
  | .SER_TAPE => (s.putWr w).tapeEnabled (s.flag .SER_TAPE_ENABLE)
  | .SER_CLR =>
    if h : i < 2 then
      let t := if w.strobes .SER_CLR_CLR_REJ then s.clrRej ⟨i, h⟩ else s
      if w.strobes .SER_CLR_CLR_ALOST then t.clrAlost ⟨i, h⟩ else t
    else s
  | .NOC_PCLR => if w.strobes .NOC_PCLR_CLR then s.probeClear i else s
  | .OBS_FRZ =>
    let t := s.putWr w
    let t := if w.strobes .OBS_FRZ_FREEZE then t.obsFreeze 2 0 else t
    if w.strobes .OBS_FRZ_RELEASE then t.obsRelease else t
  | .OBS_TRCFG => s.traceApply w.sets
  | .OBS_TRMARK => s.trMark q (w.woOf .OBS_TRMARK_V)
  | .OBS_SKCFG =>
    let t := s.putWr w
    s.skimSet i (t.fld .OBS_SKCFG_KIND i) (t.fld .OBS_SKCFG_INST i)
  | _ => plain s

/-! ## Writes by a core (R24, R28) -/

/-- What the part does beside leaving the register as it is when it refuses a core's write. -/
def State.coreRefused (s : State) (c : Fin 6) (w : RegWr) : State :=
  match w.r with
  | .LAT_CTRL => s.raise .attn Cause.RATE_REFUSED 4
  | .SER_MODE | .SER_BAUD | .SER_CTRL | .SER_ASYNC | .SER_TAPE => s.raise .attn Cause.SER_REFUSED 4 (inst := w.i)
  | .DAC_HOLD => if s.servoDriven w.i then
      s.raise .fault Cause.WRITE_DENIED (s.coreStn c) (det := regAddr w.r w.i w.j) else s
  | _ => s

/-- Fields out of range drop out of a core's write to the LAT and TC blocks (R54). -/
def coreTrim (w : RegWr) : RegWr :=
  match w.r with
  | .LAT_CTRL | .LAT_VPOL | .TC_REFSEL => { w with sets := w.sets.filter fun e => (fldBits e.fld e.val).isSome }
  | _ => w

/-- R24, R310: a 32-bit write of a register by a core's packet. -/
def State.coreRegWrite (s : State) (c : Fin 6) (r : Reg) (i j v : Nat) : State :=
  let w := coreTrim (wholeWrite r i j v)
  let stn := s.coreStn c
  if r = .CFG_POLICY then s.raise .fault Cause.WRITE_DENIED stn (det := regAddr r i j)
  else if !s.mayWrite (.core c) w then s.raise .fault Cause.STN_DENIED stn (det := regAddr r i j)
  else if r = .DEC_MBX then
    if h : i < 6 then if j = 5 ∧ v % 2 = 1 then s.mbxPop ⟨i, h⟩ else s else s
  else match s.wrErr w with
  | some _ => s.coreRefused c w
  | none => s.wrApply (.core c) w

/-- A word address inside the register blocks. -/
def inRegBlocks (a : Nat) : Bool := 0x40000000 ≤ a && a < 0x40190000

/-- A 32-bit write to a word address of the register blocks; an offset with no register ignores it (R28). -/
def State.coreAddrWrite (s : State) (c : Fin 6) (a v : Nat) : State :=
  match regAt a with
  | some (r, i, j) => s.coreRegWrite c r i j v
  | none => s

/-- A 32-bit read by a core's packet, refused with 0 where it lacks authority (R24). -/
def State.coreAddrRead (s : State) (c : Fin 6) (a : Nat) : Nat × State :=
  match regAt a with
  | some (r, i, j) =>
    if s.mayRead (s.coreAuth c) r i then s.regRead r i j
    else (0, s.raise .fault Cause.STN_DENIED (s.coreStn c) (det := a))
  | none => (0, s)

/-- The write of a register by a core (R132): at any other address, by R28. -/
def execRegisterWrite (c : Fin 6) (a v : Nat) (s : State) : Host.Outcome State Fault Refusal :=
  .next (if a % 4 = 0 ∧ inRegBlocks a then s.coreAddrWrite c a (v % 2 ^ 32)
    else s.raise .fault Cause.ADDR_UNMAPPED (s.coreStn c) (det := a))

/-! ## Lines (R130 to R134) -/

/-- Where a target lies: a register with its indices, an offset with none, or nothing (error 301). A field names its
register too. -/
inductive RegPl where
  | reg (r : Reg) (i j : Nat) (f : Option Fld)
  | hole (a : Nat)
  | none

def regPl (t : RegTarget) : RegPl :=
  match t with
  | .addr a =>
    if a % 4 = 0 ∧ inRegBlocks a then
      match regAt a with
      | some (r, i, j) => .reg r i j Option.none
      | Option.none => .hole a
    else .none
  | .reg r i j => if regExists r i j then .reg r i j Option.none else .none
  | .field f i j => if regExists f.reg i j then .reg f.reg i j (some f) else .none

/-- R131: a value of a whole register. -/
def wordOf (v : Int) : Option Nat := if -2147483648 ≤ v ∧ v < 2 ^ 32 then some (ofSigned 32 v) else none

/-- R131: the write that a value makes, or the error of the value. -/
def lineWrite (r : Reg) (i j : Nat) (f : Option Fld) (v : Int) : Except Nat RegWr :=
  match f with
  | none => match wordOf v with
    | some n => .ok (wholeWrite r i j n)
    | none => .error 511
  | some f =>
    if f.kind = .ro then .error 511
    else
      let n : Option Int := if 0 ≤ v ∧ v < 2 ^ f.wd then some (if f.sgn then toSigned f.wd v.toNat else v)
        else if f.sgn ∧ -(2 ^ (f.wd - 1) : Nat) ≤ v ∧ v < 0 then some v else none
      match n with
      | some n => .ok (fieldWrites r i j [(f, n)])
      | none => .error 511

/-- A write by a line: EVT_ACK and MOT_XCTL act on its session. -/
def State.lineErr (s : State) (r : Reg) (i j : Nat) (f : Option Fld) (v : Int) : Option Nat :=
  match lineWrite r i j f v with
  | .error e => some e
  | .ok w => s.wrErr w

def State.linePermit (s : State) (o : Origin) (r : Reg) (i j : Nat) (f : Option Fld) (v : Int) : Bool :=
  -- R124: authority comes first, whatever the value.
  s.mayWrite (.line o) (match f with
    | some f => fieldWrites r i j [(f, v)]
    | none => wholeWrite r i j (ofSigned 32 v))

/-- A `REG` item whose effect lasts: a span change is done at step 4 of Table 15.2 (R400), and a new target of a generator when it
is reached (R414). Every other one is done at once. -/
def State.regBegun (s t : State) (r : Reg) (i : Nat) (key : Key) : Res :=
  match r with
  | .DAC_CFG =>
    if h : i < 16 then
      if !s.flag .DAC_STAT_SPANCH i && t.flag .DAC_STAT_SPANCH i then
        .running (t.setDac ⟨i, h⟩ fun d => { d with spanKey := some key })
      else .done t
    else .done t
  | .EXC_INC | .EXC_AMP | .EXC_PHASE =>
    if h : i < 4 then
      if t.excSettled ⟨i, h⟩ then .done t else .running (t.setExc ⟨i, h⟩ fun x => { x with key := some key })
    else .done t
  | _ => .done t

/-- R130: `REG target value`. -/
def workReg (o : Origin) (t : RegTarget) (v : Int) (s : State) : Work :=
  match regPl t with
  | .none => { pre := some 301, run := fun _ s => .done s }
  | .hole _ =>
    { chk := if (wordOf v).isSome then Option.none else some 511
      run := fun _ s => .done s }
  | .reg r i j f =>
    { permit := s.linePermit o r i j f v
      stn := s.regStn r i
      chk := s.lineErr r i j f v
      run := fun k s =>
        match lineWrite r i j f v with
        | .error e => .fail e s
        | .ok w =>
          match s.wrErr w with
          | some e => .fail e (if r = .FIO_CLR then (s.clearPinChecked i).2 else s)
          | Option.none =>
            if r = .DEC_MBX then
              if h : i < 6 then .done (if j = 5 ∧ v % 2 = 1 then s.mbxPop ⟨i, h⟩ else s) else .done s
            else s.regBegun ((s.wrApply (.line o) w).serOwn o w k) r i k }

def execReg (o : Origin) (t : RegTarget) (v : Int) (s : State) : Host.Outcome State Fault Refusal :=
  .next (s.offer o (.reg o t v) (workReg o t v s))

/-- The name of a register with its indices (R7). -/
def regText (r : Reg) (i j : Nat) : String :=
  let p := regPlace r
  regName r ++ (if p.n = 1 then "" else "[" ++ natText i ++ "]") ++ (if p.m = 1 then "" else "[" ++ natText j ++ "]")

def fldText' (f : Fld) : String := ((regFields f.reg).find? fun e => e.2 == f).map (·.1) |>.getD ""

def State.wordLine (s : State) (a : Nat) : List Fd × State :=
  let (v, t) := s.addrRead a
  ([.s (match regAt a with
    | some (r, i, j) => regText r i j
    | none => hexText 8 a), .h32 v], t)

/-- The lines of `n` words from an address on. -/
def State.wordLines (s : State) (a : Nat) : Nat → List (List Fd) × State
  | 0 => ([], s)
  | n + 1 =>
    let (l, t) := s.wordLine a
    let (ls, t) := t.wordLines (a + 4) n
    (l :: ls, t)

def State.mayReadAt (s : State) (a : Auth) (ad : Nat) : Bool :=
  match regAt ad with
  | some (r, i, _) => s.mayRead a r i
  | none => true

/-- R130, R134: the answer to `REG? target [N=n]`. -/
def regAnswer (o : Origin) (t : RegTarget) (n : Nat) (s : State) : Host.Outcome State Fault Refusal :=
  let a := s.originAuth o
  match regPl t with
  | .none => .next (s.ask o (some 301) true fun s => (301, [], s))
  | .reg r i j (some f) =>
    .next (s.ask o (if n = 1 then Option.none else some 109) (s.mayRead a r i) fun s =>
      let (v, t) := s.regRead r i j
      (0, [[.s (regText r i j ++ "." ++ fldText' f), .n (fldIn v f)]], t))
  | .reg r i j Option.none =>
    let ad := regAddr r i j
    let pre := if n < 1 ∨ 16 < n then some 109 else if 0x40190000 < ad + 4 * n then some 301 else Option.none
    .next (s.ask o pre ((List.range (min n 16)).all fun k => s.mayReadAt a (ad + 4 * k)) fun s =>
      let (ls, t) := s.wordLines ad n
      (0, ls, t))
  | .hole ad =>
    let pre := if n < 1 ∨ 16 < n then some 109 else if 0x40190000 < ad + 4 * n then some 301 else Option.none
    .next (s.ask o pre ((List.range (min n 16)).all fun k => s.mayReadAt a (ad + 4 * k)) fun s =>
      let (ls, t) := s.wordLines ad n
      (0, ls, t))

end Sys2Proof.Machine
end

