-- ==== Sys2Proof/Machine/RegRows.lean ====
section
/-! DEFINITION. The register writes that the command table lists as commands of their own. Each is the write of its field
by a requester: a core's packet or the session of a Puarn line. -/
namespace Sys2Proof.Machine
open Sys2Proof

/-- A write of the one field, with what its refusal does: a core without authority raises STN_DENIED (R24). -/
def State.rowWrite (s : State) (q : Requester) (r : Reg) (i j : Nat) (f : Fld) (v : Nat) : State :=
  let w := fieldWrites r i j [(f, v)]
  if !s.mayWrite q w then
    match q with
    | .core c => s.raise .fault Cause.STN_DENIED (s.coreStn c) (det := regAddr r i j)
    | .line _ => s
  else match s.wrErr w with
  | some _ =>
    match q with
    | .core c => s.coreRefused c w
    | .line _ => s
  | none => s.wrApply q w

/-- R168: HWM and FULL of a ring clear. -/
def execRingClr (q : Requester) (r : Fin 16) (s : State) : Host.Outcome State Fault Refusal :=
  .next (s.rowWrite q .RING_CLR r 0 .RING_CLR_CLR 1)

/-- R245: the shadow gains of an axis become active on the next tick. -/
def execServoApply (q : Requester) (a : Fin 12) (s : State) : Host.Outcome State Fault Refusal :=
  .next (s.rowWrite q .SRV_APPLY a 0 .SRV_APPLY_APPLY 1)

/-- R279: the head result of a core's mailbox is removed. -/
def execDecMbxPop (q : Requester) (c : Fin 6) (s : State) : Host.Outcome State Fault Refusal :=
  .next (if s.mayWrite q (fieldWrites .DEC_MBX c 5 []) then s.mbxPop c
    else match q with
    | .core k => s.raise .fault Cause.STN_DENIED (s.coreStn k) (det := regAddr .DEC_MBX c 5)
    | .line _ => s)

/-- R282: HWM, RETRY and CHKFAIL clear. -/
def execDecClr (q : Requester) (s : State) : Host.Outcome State Fault Refusal :=
  .next (s.rowWrite q .DEC_CLR 0 0 .DEC_CLR_CLR 1)

/-- R439: a byte, with RS in bit 8, enters the queue of the character port, or CHOVF is set. -/
def execPnlChqWrite (q : Requester) (v : Nat) (s : State) : Host.Outcome State Fault Refusal :=
  let w := fieldWrites .PNL_CHQ 0 0 [(.PNL_CHQ_BYTE, v % 256), (.PNL_CHQ_RS, v / 256 % 2)]
  .next (if s.mayWrite q w then s.wrApply q w
    else match q with
    | .core c => s.raise .fault Cause.STN_DENIED (s.coreStn c) (det := regAddr .PNL_CHQ 0 0)
    | .line _ => s)

/-- R567: writing 0x5A restarts the watchdog period; another value has no effect. -/
def execWdtKick (q : Requester) (v : Nat) (s : State) : Host.Outcome State Fault Refusal :=
  .next (s.rowWrite q .PWR_WDT 0 0 .PWR_WDT_KICK (v % 256))

/-- R598: a MARK record is posted. -/
def execObsTrmark (q : Requester) (v : Nat) (s : State) : Host.Outcome State Fault Refusal :=
  .next (s.rowWrite q .OBS_TRMARK 0 0 .OBS_TRMARK_V (v % 2 ^ 32))

/-- R54: LAT_SLACKLOW becomes 1000. -/
def execLatClrLow (q : Requester) (s : State) : Host.Outcome State Fault Refusal :=
  .next (s.rowWrite q .LAT_CLR 0 0 .LAT_CLR_CLR_LOW 1)

/-- R54: the overrun count of a station clears. -/
def execLatClrOvr (q : Requester) (k : Fin 4) (s : State) : Host.Outcome State Fault Refusal :=
  .next (s.rowWrite q .LAT_CLR 0 0 .LAT_CLR_CLR_OVR (2 ^ k.val))

/-- R117: REJ of a port clears. -/
def execSerClrRej (q : Requester) (p : Fin 2) (s : State) : Host.Outcome State Fault Refusal :=
  .next (s.rowWrite q .SER_CLR p 0 .SER_CLR_CLR_REJ 1)

/-- R117: ALOST of a port clears. -/
def execSerClrAlost (q : Requester) (p : Fin 2) (s : State) : Host.Outcome State Fault Refusal :=
  .next (s.rowWrite q .SER_CLR p 0 .SER_CLR_CLR_ALOST 1)

/-- R529: the ECC counters clear. -/
def execSysSclr (q : Requester) (s : State) : Host.Outcome State Fault Refusal :=
  .next (s.rowWrite q .SYS_SCLR 0 0 .SYS_SCLR_CLR 1)

/-- R529: CTIME clears. -/
def execJrnClr (q : Requester) (s : State) : Host.Outcome State Fault Refusal :=
  .next (s.rowWrite q .JRN_CLR 0 0 .JRN_CLR_CLR 1)

/-- R604: the counts of a probe clear. -/
def execNocPclr (q : Requester) (n : Fin 16) (s : State) : Host.Outcome State Fault Refusal :=
  .next (s.rowWrite q .NOC_PCLR n 0 .NOC_PCLR_CLR 1)

end Sys2Proof.Machine
end

