-- ==== Sys2Proof/Machine/RingView.lean ====
section
/-! DEFINITION. What the entries of the rings hold, byte by byte (spec/06_rings_and_events.md, Tables 6.2 and 6.4; R187, R188, R275,
R522). A ring's content is its queue; the bytes that a read of the ring area finds are computed from it. Bytes whose layout no rule
gives, and entries that hold nothing at present, are unknown (log entry 55). -/
namespace Sys2Proof.Machine
open Sys2Proof

/-- Entries all of whose bytes are known. -/
def known (l : List (List Byte)) : List (List (Option Byte)) := l.map fun e => e.map some

/-! ## Events (Table 6.4) -/

def EvRec.entry (k : Fin 4) (r : EvRec) : List Byte :=
  leBytes 8 r.t ++ leBytes 4 r.seq ++ leBytes 1 k.val ++ leBytes 1 r.stn ++ leBytes 2 r.cause ++ leBytes 2 r.inst ++ leBytes 1 r.src
    ++ leBytes 1 (b2n r.ack + 2 * b2n r.ovf) ++ leBytes 4 r.wsn ++ leBytes 4 r.det ++ leBytes 2 r.rep ++ leBytes 2 0

/-! ## Lines (Table 6.2) -/

def charEntry (first last : Bool) (l : List Byte) : List Byte :=
  leBytes 1 (l.length + 64 * b2n first + 128 * b2n last) ++ l ++ List.replicate (31 - l.length) 0

/-- A line in `n` entries, its terminator implied. -/
def charEntries (first : Bool) : Nat → List Byte → List (List Byte)
  | 0, _ => []
  | n + 1, l => charEntry first (n == 0) (l.take 31) :: charEntries false n (l.drop 31)

/-! ## Blocks (R187, R188) -/

def decimalBytes (d : Decimal) : List Byte := leBytes 16 (encodeDec (.fin d.neg d.coef d.exp))

/-- An exact position in the base unit as a decimal number of at most 34 digits. -/
def positionDecimal (u : Int) : Decimal := roundDigits 34 (u < 0) u.natAbs 254 (-7)

/-- Two values to an entry; the last half is zero when their number is odd. -/
def pairUp : List (List Byte) → List (List Byte)
  | a :: b :: l => (a ++ b) :: pairUp l
  | [a] => [a ++ List.replicate 16 0]
  | [] => []

/-- The values of a block of station `k`, in the order of R188. -/
def State.blockValues (s : State) (k : Fin 4) (b : MBlock) : List Decimal :=
  (b.tgt.map fun t => (⟨t.2 < 0, t.2.natAbs, -(s.slotQ k t.1 : Int)⟩ : Decimal))
    ++ (match b.centre with
      | some (x, y) => [positionDecimal x, positionDecimal y]
      | none => [])
    ++ b.feed.toList ++ b.speed.toList ++ b.dwell.toList

def State.blockEntries (s : State) (k : Fin 4) (b : MBlock) : List (List Byte) :=
  b.header :: pairUp ((s.blockValues k b).map decimalBytes)

/-! ## Requests of the decimal engine (Table 10.4) -/

def reqEntries (r : DecReq) : List (List Byte) :=
  [leBytes 1 r.op ++ leBytes 1 (r.rm + 8 * b2n r.deg) ++ leBytes 1 (bitsNat [r.asrc, r.bsrc, r.csrc, r.dsten])
      ++ leBytes 1 r.dst ++ leBytes 1 r.areg ++ leBytes 1 r.breg ++ leBytes 1 r.creg ++ leBytes 1 r.req ++ leBytes 2 r.tag
      ++ leBytes 6 0 ++ leBytes 16 r.a,
    leBytes 16 r.b ++ leBytes 16 r.c]

/-! ## Journal records (R522) -/

/-- The header of a record; its LSN is given where the record is written. -/
def recHeader (typ flags len : Nat) (lsn : Option Nat) (k : Key) : List (Option Byte) :=
  (leBytes 1 typ ++ leBytes 1 flags ++ leBytes 2 len).map some
    ++ (match lsn with
      | some n => (leBytes 4 n).map some
      | none => List.replicate 4 none)
    ++ (leBytes 1 k.src ++ leBytes 1 0 ++ leBytes 2 k.ser ++ leBytes 4 k.wsn).map some

/-- Bytes cut into entries. -/
def cutEntries {α : Type} : Nat → List (Option α) → List (List (Option α))
  | 0, _ => []
  | n + 1, l => (l.take 32 ++ List.replicate (32 - l.length) none) :: cutEntries n (l.drop 32)

/-- The entries of an ACCEPT record that waits: the layout of its payload no rule gives. -/
def acceptEntries (r : CommitRec) (n : Nat) : List (List (Option Byte)) :=
  cutEntries n (recHeader 1 0 (8 + r.len) none r.key)

/-! ## The rings -/

/-- The entries of ring `r` from its get index on. -/
def State.ringContent (s : State) (r : Nat) : List (List (Option Byte)) :=
  if h : r < 4 then known ((s.ev.q[r]).map (EvRec.entry ⟨r, h⟩))
  else if h : r - 4 < 4 then known (((s.mot[r - 4]).ring).flatMap (s.blockEntries ⟨r - 4, h⟩))
  else if h : r - 8 < 2 then known (((s.port[r - 8]).waiting).flatMap fun w => charEntries true w.entries w.text)
  else if h : r - 10 < 2 then
    known (((s.port[r - 10]).rsp).flatMap fun l => charEntries true l.entries (textBytes (sentText l.crc l.line)))
  else if r = 14 then known (s.dec.ring.flatMap reqEntries)
  else if r = 15 then s.jrn.queue.flatMap fun e => match e with
    | .item c n => acceptEntries c n
    | .copy _ => []
  else []

/-- The byte of entry `e` of the ring area of a bank, where a ring holds an entry there at present (R148, R149). -/
def State.ringByte (s : State) (bank e i : Nat) : Option Byte :=
  match (List.finRange 16).find? fun (r : Fin 16) =>
      s.bankOf (s.fld .RING_CFG_BANK r) == bank && s.ringBase[r] ≤ e && e < s.ringBase[r] + s.ringDepth r with
  | none => none
  | some r =>
    let d := s.ringDepth r
    let j := (e - s.ringBase[r] + d - s.fld .RING_PTR_GET r % d) % d
    if j < s.ringFill r then ((s.ringContent r)[j]?).bind fun l => (l[i]?).join else none

/-- A byte of the fixed areas of Table 19.1, where a rule says what it holds. -/
def State.fixedByte (s : State) (a : Nat) : Option Byte :=
  let o := a % 0x200000
  if o < 0x180000 then none else s.ringByte (a / 0x200000) ((o - 0x180000) / 32) (o % 32)

/-- A read of `n` bytes of the fixed areas. -/
def State.fixedRead (s : State) (a n : Nat) : Nat × State := s.readKnown ((List.range n).map fun i => s.fixedByte (a + i))

end Sys2Proof.Machine
end

