-- ==== Sys2Proof/Machine/Cores.lean ====
section
/-! DEFINITION. The Trelfieno cores beside their instructions: registers, the byte window and far accesses, the bit space,
starts, supervision, takeover and the CORE commands (spec/11_trelfieno_model.md). -/
namespace Sys2Proof.Machine
open Sys2Proof

/-! ## Registers (R296, R297) -/

def wLo (n : Fin 8) : Fin 16 := ⟨2 * n.val, by omega⟩
def wHi (n : Fin 8) : Fin 16 := ⟨2 * n.val + 1, by omega⟩

def CoreSt.getW (k : CoreSt) (d : Fin 16) : Byte := k.w[d]

/-- Xn = W(2n+1):W(2n). -/
def CoreSt.getX (k : CoreSt) (n : Fin 8) : Half := BitVec.ofNat 16 ((k.w[wLo n]).toNat + 256 * (k.w[wHi n]).toNat)

/-- An instruction writes a register. -/
def CoreSt.setW (k : CoreSt) (d : Fin 16) (v : Byte) : CoreSt := { k with w := k.w.set d v, wrote := d :: k.wrote }

def CoreSt.setX (k : CoreSt) (n : Fin 8) (v : Half) : CoreSt :=
  (k.setW (wLo n) (BitVec.ofNat 8 v.toNat)).setW (wHi n) (BitVec.ofNat 8 (v.toNat / 256))

/-- Qq, with W(4q) as the least significant byte. -/
def qW (q : Fin 4) (i : Fin 4) : Fin 16 := ⟨4 * q.val + i.val, by omega⟩

def CoreSt.setQ (k : CoreSt) (q : Fin 4) (v : Nat) : CoreSt :=
  (List.finRange 4).foldl (fun k (i : Fin 4) => k.setW (qW q i) (BitVec.ofNat 8 (v / 256 ^ i.val))) k

def CoreSt.getQ (k : CoreSt) (q : Fin 4) : Nat :=
  (List.finRange 4).foldl (fun n (i : Fin 4) => n + (k.w[qW q i]).toNat * 256 ^ i.val) 0

/-- Bits of FL (Table 11.2). -/
def flC : Nat := 0
def flZ : Nat := 1
def flN : Nat := 2
def flV : Nat := 3
def flBF : Nat := 4
def flIE : Nat := 5

def CoreSt.fb (k : CoreSt) (n : Nat) : Bool := k.fl.getLsbD n

def bytePut (v : Byte) (n : Nat) (b : Bool) : Byte :=
  if b then v ||| BitVec.ofNat 8 (2 ^ n) else v &&& ~~~ BitVec.ofNat 8 (2 ^ n)

def CoreSt.setFb (k : CoreSt) (n : Nat) (b : Bool) : CoreSt := { k with fl := bytePut k.fl n b }

/-- The bits that Table 11.2 leaves undefined read 0 and ignore writes, in FL and in AM alike. -/
def flMask (v : Nat) : Byte := BitVec.ofNat 8 (v % 64)

def State.setCore (s : State) (c : Fin 6) (f : CoreSt → CoreSt) : State := { s with core := s.core.set c (f s.core[c]) }

def State.ilv (s : State) (c : Fin 6) : Nat := s.fld .SYS_CSTAT_ILV c

def State.setCoreState (s : State) (c : Fin 6) (n : Nat) : State := s.setFld .SYS_CSTAT_STATE c 0 n

def State.task (s : State) (c : Fin 6) : Nat := s.fld .SYS_CSTAT_TASK c

def State.isBoardCore (s : State) (c : Fin 6) : Bool := s.fld .SYS_CASN_STN c == 4

/-- The stations of a core: its own, or every configured station for a board core. -/
def State.coreStations (s : State) (c : Fin 6) : List (Fin 4) :=
  (List.finRange 4).filter fun (k : Fin 4) => s.fld .SYS_CASN_STN c == k.val || (s.isBoardCore c && s.configured k)

/-! ## Accesses over the Boardwalk (R24, R27, R28, R299, R310, R502, R503) -/

def State.pageOwner (s : State) (i : Nat) : Nat := fldOf (s.reg .SYS_SPG (i / 8) 0) ⟨.SYS_SPG, 4 * (i % 8), 3, .rw, false, []⟩

/-- A core may reach general page `i`. Through the window, a board core reaches the pages of the board (R299); by far
access, every page that is assigned (R24). -/
def State.pageOk (s : State) (c : Fin 6) (win : Bool) (i : Nat) : Bool :=
  let own := s.pageOwner i
  if s.isBoardCore c then (if win then own == 4 else own ≤ 4) else own == s.fld .SYS_CASN_STN c && own < 4

/-- Where a general page lies (R508): moved to a reserve page, lost, or in its own place. -/
def State.pageAddr (s : State) (i a : Nat) : Option Nat :=
  if s.sram.lost.contains i then none
  else match s.sram.reloc.find? fun e => e.1 == i with
    | some e => some ((if e.2 < 80 then e.2 else e.2 + 48) * 0x4000 + a % 0x4000)
    | none => some a

/-- The station whose extension slot holds the address (R503). -/
def State.slotAt (s : State) (a : Nat) : Option (Fin 4) :=
  (List.finRange 4).find? fun (k : Fin 4) => s.xslot k ≤ a && a < s.xslot k + 512

def inSram (a : Nat) : Bool := a < 0x400000
def inJournal (a : Nat) : Bool := 0x20000000 ≤ a && a < 0x20040000

/-- A sector of the outcome archive (Table 19.2). -/
def archSect (n : Nat) : Bool := (16 ≤ n && n < 28) || (48 ≤ n && n < 60)

def State.denied (s : State) (c : Fin 6) (a : Nat) : State :=
  s.raise .fault Cause.STN_DENIED (s.coreStn c) (det := a)

def State.unmapped (s : State) (c : Fin 6) (a : Nat) : State :=
  s.raise .fault Cause.ADDR_UNMAPPED (s.coreStn c) (det := a)

def State.notWritten (s : State) (c : Fin 6) (a : Nat) : State :=
  s.raise .fault Cause.WRITE_DENIED (s.coreStn c) (det := a)

/-- A packet that reads `n` bytes within 16 bytes of memory, or within one register. -/
def State.packetRead (s : State) (c : Fin 6) (win : Bool) (a n : Nat) : Nat × State :=
  if inSram a then
    match generalPage a with
    | some i =>
      if !s.pageOk c win i then (0, s.denied c a)
      else match s.pageAddr i a with
        | some b => (leNat (s.memBytes b n), s)
        | none => s.fresh (8 * n)
    | none =>
      match s.slotAt a with
      | some k => if (s.coreAuth c).over k then (leNat (s.memBytes a n), s) else (0, s.denied c a)
      | none => if s.isBoardCore c then s.fixedRead a n else (0, s.denied c a)
  else if inFlash a then
    if archSect (sectOf a) && !s.isBoardCore c then (0, s.denied c a) else s.flashRead a n
  else if inJournal a then s.fresh (8 * n)
  else if inRegBlocks a then
    let (v, s) := s.coreAddrRead c (a / 4 * 4)
    (v / 256 ^ (a % 4) % 256 ^ n, s)
  else (0, s.unmapped c a)

/-- R338: a read of `n` bytes travels as packets in address order, with fuel. -/
def State.busRead (s : State) (c : Fin 6) (win : Bool) : Nat → Nat → Nat → Nat × State
  | 0, _, _ => (0, s)
  | f + 1, a, n =>
    if n = 0 then (0, s)
    else
      let a := a % 2 ^ 32
      let m := min n (if inRegBlocks a then 4 - a % 4 else 16 - a % 16)
      let (v, s) := s.packetRead c win a m
      let (u, s) := s.busRead c win f (a + m) (n - m)
      (v + u * 256 ^ m, s)

/-- A packet that writes bytes within 16 bytes of memory. -/
def State.packetWrite (s : State) (c : Fin 6) (win : Bool) (a : Nat) (l : List Byte) : State :=
  if inSram a then
    match generalPage a with
    | some i =>
      if !s.pageOk c win i then s.denied c a
      else match s.pageAddr i a with
        | some b => s.memPut b l
        | none => s
    | none =>
      match s.slotAt a with
      | some k => if (s.coreAuth c).over k && decide (256 ≤ a - s.xslot k) then s.memPut a l else s.notWritten c a
      | none => s.notWritten c a
  else if inFlash a || inJournal a then s.notWritten c a
  else if inRegBlocks a then
    if a % 4 = 0 ∧ l.length = 4 then s.coreAddrWrite c a (leNat l) else s.unmapped c a
  else s.unmapped c a

def State.busWrite (s : State) (c : Fin 6) (win : Bool) : Nat → Nat → List Byte → State
  | 0, _, _ => s
  | f + 1, a, l =>
    if l.isEmpty then s
    else
      let a := a % 2 ^ 32
      let m := if inRegBlocks a then l.length else 16 - a % 16
      (s.packetWrite c win a (l.take m)).busWrite c win f (a + m) (l.drop m)

/-- R298: the Boardwalk address of a window address. -/
def CoreSt.winAddr (k : CoreSt) (a : Nat) : Nat :=
  let b := k.bank[(a / 0x4000 % 4 : Nat)]'(by omega)
  b / 256 % 2 * 0x10000000 + b % 256 * 0x4000 + a % 0x4000

/-- A read of `n` bytes at a window address. Each page is mapped separately, and addresses wrap (R300). -/
def State.winRead (s : State) (c : Fin 6) (a : Half) (n : Nat) : Nat × State :=
  let m := min n (0x4000 - a.toNat % 0x4000)
  let (v, s) := s.busRead c true 40 ((s.core[c]).winAddr a.toNat) m
  if m = n then (v, s)
  else
    let b := a + BitVec.ofNat 16 m
    let (u, s) := s.busRead c true 40 ((s.core[c]).winAddr b.toNat) (n - m)
    (v + u * 256 ^ m, s)

def State.winWrite (s : State) (c : Fin 6) (a : Half) (l : List Byte) : State :=
  let m := 0x4000 - a.toNat % 0x4000
  let s := s.busWrite c true 40 ((s.core[c]).winAddr a.toNat) (l.take m)
  s.busWrite c true 40 ((s.core[c]).winAddr (a + BitVec.ofNat 16 m).toNat) (l.drop m)

/-- An instruction fetch at a window address is denied (R299). -/
def State.fetchDenied (s : State) (c : Fin 6) (a : Half) : Bool :=
  let b := (s.core[c]).winAddr a.toNat
  if inSram b then
    match generalPage b with
    | some i => !s.pageOk c true i
    | none =>
      match s.slotAt b with
      | some k => !(s.coreAuth c).over k
      | none => !s.isBoardCore c
  else inFlash b && archSect (sectOf b) && !s.isBoardCore c

/-! ## The bit space (R307, R308) -/

/-- The station whose image a core sees. -/
def State.imageOf (s : State) (c : Fin 6) : Fin 4 :=
  let n := s.fld .SYS_CASN_STN c
  if h : n < 4 then ⟨n, h⟩ else ⟨s.fld .SYS_CCTL_IOSTN c % 4, by omega⟩

/-- Image bits that logic writes (Tables 11.3, 8.7 and 7.7), beside FOUT and the fabric's bits. -/
def logicBit (a : Nat) : Bool :=
  (0x1600 ≤ a && a < 0x1780) || (0x1780 ≤ a && a ≤ 0x1799) || (0x17A0 ≤ a && a ≤ 0x17A5) || (0x17A8 ≤ a && a ≤ 0x17AD)
    || a == 0x17D1 || a == 0x17D4 || a == 0x17D5

/-- A read of an image bit by a core of the station. Bits not listed read 0. -/
def State.imageRead (s : State) (k : Fin 4) (a : Nat) : Bool :=
  let pin (l : List (Nat × Bool)) (n : Nat) : Bool := s.pinStn n == k.val && bitFind l n
  if a < 0x1040 then pin s.fio.fin (a - 0x1000)
  else if a < 0x1080 then pin s.fio.fout (a - 0x1040)
  else if a < 0x10C0 then pin s.fio.flt (a - 0x1080)
  else if 0x1400 ≤ a ∧ a < 0x1600 then (s.rgnImages (a % 0x100 / 32)).contains k && s.imgBit k a
  else s.imgBit k a

def State.imageWrite (s : State) (k : Fin 4) (a : Nat) (b : Bool) : State :=
  if 0x1040 ≤ a ∧ a < 0x1080 then s.foutWrite k (a - 0x1040) b
  else if 0x1500 ≤ a ∧ a < 0x1600 then (if (s.rgnImages (a % 0x100 / 32)).contains k then s.imgSet k a b else s)
  else if logicBit a then s.imgSet k a b
  else s

/-- R307: a core may read, or write, a bit. -/
def State.bitOk (s : State) (c : Fin 6) (a : Nat) (write : Bool) : Bool :=
  if a < 0x1800 then true
  else if s.isBoardCore c then true
  else if 0x1C00 ≤ a then !write
  else (a - 0x1800) / 0x100 == s.fld .SYS_CASN_STN c

def State.bitGet (s : State) (c : Fin 6) (a : Nat) : Bool :=
  if a < 0x1000 then bitFind (s.core[c]).bits a
  else if a < 0x1800 then s.imageRead (s.imageOf c) a
  else bitFind s.flags a

/-- The value that logic last gave an image bit, as it waits for its transfer. -/
def State.imagePending (s : State) (k : Fin 4) (a : Nat) : Bool :=
  if 0x1040 ≤ a ∧ a < 0x1080 then bitFind s.fio.fout (a - 0x1040) else s.imgBit k a

/-- A core writes an image bit. A tick section keeps what it needs to take the write back, and a late one writes nothing (R51);
the last of several writers of a bit has it (R309). -/
def State.imageByCore (s : State) (c : Fin 6) (a : Nat) (b : Bool) : State :=
  let k := s.imageOf c
  let x := s.core[c]
  if x.late then s
  else
    let old := (a, s.imagePending k a)
    let s := forAll (List.finRange 6) s fun s d =>
      if d != c && s.imageOf d == k then s.setCore d fun y => { y with undo := y.undo.filter fun e => e.1 != a } else s
    let s := if x.sect && !(x.undo.any fun e => e.1 == a) then s.setCore c fun y => { y with undo := y.undo ++ [old] } else s
    s.imageWrite k a b

def State.bitSet (s : State) (c : Fin 6) (a : Nat) (b : Bool) : State :=
  if a < 0x1000 then s.setCore c fun k => { k with bits := bitPut k.bits a b }
  else if a < 0x1800 then s.imageByCore c a b
  else { s with flags := bitPut s.flags a b }

/-- R313: the core is in a tick section, so the section is late at a tick. -/
def State.sectionLate (s : State) (c : Fin 6) : Bool :=
  let st := s.fld .SYS_CSTAT_STATE c
  (s.core[c]).sect && s.flag .SYS_CCTL_TICK c && decide (1 ≤ st) && decide (st ≤ 3)

/-- R51, on the tick: the image bits that a late section has written go back to their values, and what it still writes is
discarded. A section on time has its bits transferred. -/
def State.sectionTick (s : State) (c : Fin 6) : State :=
  let l := (s.core[c]).undo
  if l.isEmpty && !(s.core[c]).sect then s
  else
    let late := s.lat.begun && s.sectionLate c
    let s := if late then forAll l s fun s e => s.imageWrite (s.imageOf c) e.1 e.2 else s
    s.setCore c fun x => { x with undo := [], late := x.late || late }

/-- A bit as a core reads it; a denied read returns 0 and raises FAULT STN_DENIED. -/
def State.bitRead (s : State) (c : Fin 6) (a : Nat) : Bool × State :=
  if s.bitOk c a false then (s.bitGet c a, s) else (false, s.denied c a)

def State.bitWrite (s : State) (c : Fin 6) (a : Nat) (b : Bool) : State :=
  if s.bitOk c a true then s.bitSet c a b else s.denied c a

/-! ## Checkpoints and starts (R295, R314, R315) -/

/-- The decimal registers of a task that do not hold +0. -/
def State.taskDec (s : State) (t : Nat) : List (Nat × Nat) :=
  ((List.range 8).filter fun (h : Nat) => s.decReg (8 * t + h) != decZero).map fun h => (h, s.decReg (8 * t + h))

def State.setTaskDec (s : State) (t : Nat) (l : List (Nat × Nat)) : State :=
  (List.range 8).foldl (fun s h => s.setDecReg (8 * t + h) ((sparseFind l h).getD decZero)) s

/-- What CHKPT saves (R314). -/
def State.checkpointOf (s : State) (c : Fin 6) : Checkpoint :=
  let k := s.core[c]
  { w := k.w, sp := k.sp, pc := k.pc, fl := k.fl, am := k.am, cnt := k.cnt, src := k.src, dst := k.dst, modb := k.modb
    modl := k.modl, bank := k.bank, ser := k.ser, wc := s.fld .SYS_CWSN_WC c, bits := k.bits, dec := s.taskDec (s.task c)
    imask := s.fld .EVT_IMASK_MASK c
    seen := Vector.ofFn fun (n : Fin 4) => s.fld .EVT_SEEN_SEEN c n
    image := s.conf.serial }

def entryBank (s : State) (t : Nat) : Vector Nat 4 :=
  Vector.ofFn fun (p : Fin 4) =>
    (s.reg .SYS_CBANK t 0).toNat / 256 ^ p.val % 256 + 256 * (s.fld .SYS_CBSEL_FLASH t / 2 ^ p.val % 2)

/-- A core at the entry of task `t`. -/
def State.entryCore (s : State) (t : Nat) : CoreSt :=
  { w := Vector.replicate 16 0, sp := 0, pc := BitVec.ofNat 16 (s.fld .SYS_CENTRY_ENTRY t), fl := 0, am := 0, cnt := 0
    src := 0, dst := 0, modb := 0, modl := 0, bank := entryBank s t
    ser := (if h : 8 + t < 24 then (s.jrn.src[8 + t]).ser else 1)
    vec := Vector.replicate 4 0, bits := [], load := [], wrote := [], wait := .none, wl := [], sup := s.clk.tick
    sect := false, late := false, undo := [] }

/-- The usable checkpoint of a task: its newest, where it carries the serial of the running image. -/
def State.usable (s : State) (t : Nat) : Option Checkpoint :=
  if h : t < 6 then (s.jrn.chk[t]).filter fun r => r.image == s.conf.serial else none

/-- A core takes up its task and runs. -/
def State.coreStart (s : State) (c : Fin 6) (takeover : Bool) : State :=
  let t := s.task c
  let e := s.entryCore t
  let s :=
    match s.usable t with
    | some r =>
      let s := s.setCore c fun _ =>
        { e with w := r.w, sp := r.sp, pc := r.pc, fl := r.fl, am := r.am, cnt := r.cnt, src := r.src, dst := r.dst
                 modb := r.modb, modl := r.modl, bank := r.bank, ser := r.ser, bits := r.bits }
      let s := (s.setFld .SYS_CWSN_WC c 0 r.wc).setFld .SYS_CSTAT_ORIGIN c 0 (if takeover then 2 else 1)
      let s := (s.setFld .EVT_IMASK_MASK c 0 r.imask).setTaskDec t r.dec
      forAll (List.finRange 4) s fun s n => s.setFld .EVT_SEEN_SEEN c n (r.seen[n])
    | none =>
      let wc := if h : 8 + t < 24 then (s.jrn.src[8 + t]).last else 0
      let s := (s.setCore c fun _ => e).setFld .SYS_CWSN_WC c 0 wc
      (s.setFld .SYS_CSTAT_ORIGIN c 0 0).setTaskDec t []
  let s := (s.setFld .SYS_CSTAT_ILV c 0 7).setCoreState c 1
  -- R331: the four vectors are read now.
  let base := s.fld .SYS_CENTRY_VBASE t
  (List.finRange 4).foldl (fun s (n : Fin 4) =>
    let (v, s) := s.winRead c (BitVec.ofNat 16 (base + 2 * n.val)) 2
    s.setCore c fun k => { k with vec := k.vec.set n (BitVec.ofNat 16 v) }) s

/-- The task's bank registers map a page that R508 lost. -/
def State.mapsLost (s : State) (t : Nat) : Bool :=
  let b := match s.usable t with
    | some r => r.bank
    | none => entryBank s t
  (List.finRange 4).any fun (p : Fin 4) =>
    b[p] < 256 && ((generalPage (b[p] * 0x4000)).map fun i => s.sram.lost.contains i) == some true

/-- On a tick: every core that is to run and does not yet starts (R295). -/
def State.coreStarts (s : State) : State :=
  if !(s.phase == .running) then s
  else forAll (List.finRange 6) s fun s c =>
    if s.flag .SYS_CCTL_RUN c && s.fld .SYS_CASN_STN c != 7 && s.fld .SYS_CSTAT_STATE c == 0 && !s.mapsLost (s.task c) then
      s.coreStart c ((s.take.map fun t => t.spare == c) == some true)
    else s

/-! ## Supervision and takeover (R75, R77, R316 to R318) -/

/-- R77: no core takes the task over. -/
def State.noSpare (s : State) (c : Fin 6) : State :=
  let s := forAll (s.coreStations c) s fun s k => s.beginStop k false none ((s.mot[k]).lim.holdt) true 3
  let s := s.raise .attn Cause.NO_SPARE (s.coreStn c) (inst := c.val)
  forAll (s.jrn.items.filter fun i => i.key.src == 8 + s.task c && (i.st == .pending || i.st == .running)) s
    fun s i => s.setItem i.key .held

/-- R75, R316: a core fails. Its task, station and start registers pass to the spare, which begins on the next tick. -/
def execCoreFailed (c : Fin 6) (s : State) : Host.Outcome State Fault Refusal :=
  if s.fld .SYS_CSTAT_STATE c = 4 then .next s
  else
    let s := (s.setCoreState c 4).setCore c fun k => { k with wait := .none, load := [] }
    let s := s.commitRec.raise .fault Cause.CORE_FAILED (s.coreStn c) (inst := c.val)
    let sp := s.fld .SYS_CFG_SPARE
    if h : sp < 6 then
      if sp = c.val ∨ s.fld .SYS_CSTAT_STATE sp = 4 then .next (s.noSpare c)
      else if s.fld .SYS_CASN_STN c = 7 then .next s
      else
        let k : Fin 6 := ⟨sp, h⟩
        let s := (s.setFld .SYS_CFG_SPARE 0 0 7).setFld .SYS_CASN_STN k 0 (s.fld .SYS_CASN_STN c)
        let s := s.setFld .SYS_CSTAT_TASK k 0 (s.task c)
        let s := (s.setFld .SYS_CCTL_TICK k 0 (s.fld .SYS_CCTL_TICK c)).setFld .SYS_CCTL_IOSTN k 0 (s.fld .SYS_CCTL_IOSTN c)
        let s := (s.setFld .SYS_CCTL_SUPT k 0 (s.fld .SYS_CCTL_SUPT c)).setFlag .SYS_CCTL_RUN k 0 (s.flag .SYS_CCTL_RUN c)
        .next { s with take := some ⟨c, k, s.clk.now, false⟩ }
    else .next (s.noSpare c)

/-- R317: 8 ticks after detection the spare has not reached its first WAITL. -/
def execTakeoverLate (s : State) : Host.Outcome State Fault Refusal :=
  match s.take with
  | some t =>
    if t.late ∨ s.clk.tick < t.at_ + 8 * s.divisor then .next s
    else
      let s : State := { s with take := some { t with late := true } }
      let s := s.raise .fault Cause.TAKEOVER_LATE (s.coreStn t.spare) (inst := t.spare.val)
      .next (forAll (s.coreStations t.spare) s fun s k => s.deviceStop k)
  | none => .next s

/-- R318: SUPT ticks have passed without WAITL or CHKPT. -/
def execCoreLate (c : Fin 6) (s : State) : Host.Outcome State Fault Refusal :=
  let n := s.fld .SYS_CCTL_SUPT c
  let st := s.fld .SYS_CSTAT_STATE c
  if n = 0 ∨ (st ≠ 1 ∧ st ≠ 2 ∧ st ≠ 3) ∨ s.clk.tick < (s.core[c]).sup + n * s.divisor then .next s
  else .next ((s.setCore c fun k => { k with sup := s.clk.tick }).raise .attn Cause.CORE_LATE (s.coreStn c) (inst := c.val))

/-! ## Commands (R321) -/

/-- A core argument above 5 is no valid operand. -/
def corePre (c : Nat) : Option Nat := if c < 6 then none else some 109

def State.coreFailedErr (s : State) (c : Nat) : Option Nat := if s.fld .SYS_CSTAT_STATE c = 4 then some 281 else none

/-- HALT and START: the core's station, or every station for a board core, is IDLE or HELD. -/
def State.coreBusyErr (s : State) (c : Nat) : Option Nat :=
  if h : c < 6 then
    if (s.coreStations ⟨c, h⟩).any fun k => s.stnState k != stIdle && s.stnState k != stHeld then some 280 else none
  else none

def State.coreItem (s : State) (c : Nat) (chk : State → Option Nat) (f : State → State) : Work :=
  { pre := corePre c
    permit := true
    chk := chk s
    stn := min (s.fld .SYS_CASN_STN c) 4
    run := fun _ s => match chk s with
      | some e => .fail e s
      | none => .done (f s) }

def workCoreAssign (o : Origin) (c : Nat) (stn : StnCode) (s : State) : Work :=
  { s.coreItem c (fun s => (s.coreFailedErr c).or (s.assignErr (s.fld .SYS_CASN_STN c) stn))
      (fun s => { s with tickSet := s.tickSet ++ [⟨.SYS_CASN_STN, c, 0, stn⟩] }) with permit := (s.originAuth o).brd }

def execCoreAssign (o : Origin) (c : Nat) (stn : StnCode) (s : State) : Host.Outcome State Fault Refusal :=
  .next (s.offer o (.coreAssign o c stn) (workCoreAssign o c stn s))

def workCoreSpare (o : Origin) (c : Option Nat) (s : State) : Work :=
  let v := c.getD 7
  let err (s : State) : Option Nat := (c.bind s.coreFailedErr).or (s.spareErr v)
  { pre := c.bind corePre
    permit := (s.originAuth o).brd
    chk := err s
    run := fun _ s => match err s with
      | some e => .fail e s
      | none => .done (s.setFld .SYS_CFG_SPARE 0 0 v) }

def execCoreSpare (o : Origin) (c : Option Nat) (s : State) : Host.Outcome State Fault Refusal :=
  .next (s.offer o (.coreSpare o c) (workCoreSpare o c s))

def workCoreHalt (o : Origin) (c : Nat) (s : State) : Work :=
  { s.coreItem c (fun s => (s.coreFailedErr c).or (s.coreBusyErr c)) (fun s => s.setRun c false) with
    permit := (s.originAuth o).brd }

def execCoreHalt (o : Origin) (c : Nat) (s : State) : Host.Outcome State Fault Refusal :=
  .next (s.offer o (.coreHalt o c) (workCoreHalt o c s))

def workCoreStart (o : Origin) (c : Nat) (s : State) : Work :=
  { s.coreItem c (fun s => (s.coreFailedErr c).or (s.coreBusyErr c)) (fun s => s.setRun c true) with
    permit := (s.originAuth o).brd }

def execCoreStart (o : Origin) (c : Nat) (s : State) : Host.Outcome State Fault Refusal :=
  .next (s.offer o (.coreStart o c) (workCoreStart o c s))

/-- CLEAR runs the self-test, whose outcome nothing in the state decides. -/
def workCoreClear (o : Origin) (c : Nat) (s : State) : Work :=
  { pre := corePre c
    permit := (s.originAuth o).brd
    chk := s.assignErr (s.fld .SYS_CASN_STN c) 7
    stn := min (s.fld .SYS_CASN_STN c) 4
    run := fun _ s =>
      match s.assignErr (s.fld .SYS_CASN_STN c) 7 with
      | some e => .fail e s
      | none =>
        let (r, s) := s.fresh 1
        if r = 0 then .fail 281 s
        else
          let s := if s.fld .SYS_CSTAT_STATE c = 4 then (s.setFld .SYS_CSTAT_STATE c 0 0).commitRec else s
          .done { s with tickSet := s.tickSet ++ [⟨.SYS_CASN_STN, c, 0, 7⟩] } }

def execCoreClear (o : Origin) (c : Nat) (s : State) : Host.Outcome State Fault Refusal :=
  .next (s.offer o (.coreClear o c) (workCoreClear o c s))

def coreStateName (n : Nat) : String :=
  match n with
  | 0 => "HALTED"
  | 1 => "RUNNING"
  | 2 => "WAITTICK"
  | 3 => "STALLED"
  | 4 => "FAILED"
  | _ => "SPARE"

/-- One line of `CORE?`. The percentage of the last 64 ticks is measured, and not part of the state: a free value. -/
def State.coreLine (s : State) (c : Nat) : List Fd × State :=
  let (p, s) := s.fresh 32
  ([.s "CORE", .n c, .s "STATE", .s (coreStateName (s.coreShown c)), .s "STN", .s (stnName (s.fld .SYS_CASN_STN c)),
    .s "TASK", .n (s.fld .SYS_CSTAT_TASK c), .s "ORIGIN", .n (s.fld .SYS_CSTAT_ORIGIN c), .s "LOAD", .n (p % 101 : Nat),
    .s "WSN", .n (s.fld .SYS_CWSN_WC c), .s "CHK", .n (s.fld .SYS_CCHK_CHKN c)], s)

def execCoreQuery (o : Origin) (c : Option Nat) (s : State) : Host.Outcome State Fault Refusal :=
  .next (s.ask o (c.bind corePre) (s.originAuth o).any fun s =>
    let l := match c with
      | some c => [c]
      | none => List.range 6
    let (ls, s) := l.foldl (fun (p : List (List Fd) × State) c =>
      let (x, s) := p.2.coreLine c
      (p.1 ++ [x], s)) ([], s)
    (0, ls, s))

end Sys2Proof.Machine
end

