-- ==== Sys2Proof/Machine/CoreOps.lean ====
section
/-! DEFINITION. How a Trelfieno core executes an instruction: readiness, the program counter, the load delay, operand forms
and flags (spec/11_trelfieno_model.md, spec/12_trelfieno_instructions.md). -/
namespace Sys2Proof.Machine
open Sys2Proof

/-! ## Execution (R299, R301, R327) -/

/-- The core executes instructions: it runs, and waits for nothing in the middle of one. -/
def State.coreReady (s : State) (c : Fin 6) : Bool :=
  let st := s.fld .SYS_CSTAT_STATE c
  (st == 1 || st == 3) && (s.core[c]).wait == .none

/-- R301: the loads before this instruction reach their registers, but for those that it has written itself. -/
def CoreSt.settle (k : CoreSt) (l : List (Fin 16 × Byte)) : CoreSt :=
  { k with w := l.foldl (fun w e => if k.wrote.contains e.1 then w else w.set e.1 e.2) k.w }

/-- An instruction of `words` words at PC: an instruction in a denied page changes nothing but PC, and raises FAULT
STN_DENIED; any other has its effect `f`, with PC already past it. -/
def State.instr (s : State) (c : Fin 6) (words : Nat) (f : State → State) : State :=
  if !s.coreReady c then s
  else
    let k := s.core[c]
    let next (n : Nat) (s : State) : State :=
      (s.setCoreState c 1).setCore c fun k => { k with load := [], wrote := [], pc := k.pc + BitVec.ofNat 16 (2 * n) }
    let t :=
      if s.fetchDenied c k.pc then next 1 (s.denied c (k.winAddr k.pc.toNat))
      else if words = 2 ∧ s.fetchDenied c (k.pc + 2) then next 2 (s.denied c (k.winAddr (k.pc + 2).toNat))
      else f (next words s)
    t.setCore c (·.settle k.load)

/-- An instruction that touches only the core's registers. -/
def State.regInstr (s : State) (c : Fin 6) (words : Nat) (f : CoreSt → CoreSt) : State :=
  s.instr c words fun s => s.setCore c f

/-- A load: its bytes reach registers `d`, `d` + 1, ... one instruction late. -/
def State.loadBytes (s : State) (c : Fin 6) (l : List (Fin 16 × Nat)) : State :=
  s.setCore c fun k => { k with load := k.load ++ l.map fun e => (e.1, BitVec.ofNat 8 e.2) }

def State.loadW (s : State) (c : Fin 6) (d : Fin 16) (v : Nat) : State := s.loadBytes c [(d, v)]

def State.loadX (s : State) (c : Fin 6) (d : Fin 8) (v : Nat) : State := s.loadBytes c [(wLo d, v), (wHi d, v / 256)]

def State.loadQ (s : State) (c : Fin 6) (q : Fin 4) (v : Nat) : State :=
  s.loadBytes c ((List.finRange 4).map fun (i : Fin 4) => (qW q i, v / 256 ^ i.val))

/-! ## The stack -/

/-- A push decrements SP, then writes. -/
def State.pushByte (s : State) (c : Fin 6) (v : Byte) : State :=
  let s := s.setCore c fun k => { k with sp := k.sp - 1 }
  s.winWrite c (s.core[c]).sp [v]

/-- PC low, then PC high. -/
def State.pushPc (s : State) (c : Fin 6) : State :=
  let pc := (s.core[c]).pc.toNat
  (s.pushByte c (BitVec.ofNat 8 pc)).pushByte c (BitVec.ofNat 8 (pc / 256))

def State.popByte (s : State) (c : Fin 6) : Nat × State :=
  let (v, s) := s.winRead c (s.core[c]).sp 1
  (v, s.setCore c fun k => { k with sp := k.sp + 1 })

/-- PC high, then PC low. -/
def State.popPc (s : State) (c : Fin 6) : State :=
  let (h, s) := s.popByte c
  let (l, s) := s.popByte c
  s.setCore c fun k => { k with pc := BitVec.ofNat 16 (l + 256 * h) }

/-- R305: ILV. -/
def State.setIlv (s : State) (c : Fin 6) (n : Nat) : State := s.setFld .SYS_CSTAT_ILV c 0 n

/-! ## Flags (R332, R333, R338) -/

/-- Z and N of a result of `n` bits. -/
def CoreSt.setZN (k : CoreSt) (n v : Nat) : CoreSt :=
  (k.setFb flZ (v % 2 ^ n == 0)).setFb flN (v / 2 ^ (n - 1) % 2 == 1)

/-- Signed overflow of a sum of `n` bits with result `r`. -/
def addOvf (n a b r : Nat) : Bool :=
  let top (v : Nat) : Bool := v / 2 ^ (n - 1) % 2 == 1
  top a == top b && top r != top a

def subOvf (n a b r : Nat) : Bool :=
  let top (v : Nat) : Bool := v / 2 ^ (n - 1) % 2 == 1
  top a != top b && top r != top a

/-- A sum of `n` bits with carry in: its value and C Z N V. -/
def CoreSt.addFlags (k : CoreSt) (n a b cin : Nat) : Nat × CoreSt :=
  let r := (a + b + cin) % 2 ^ n
  (r, ((k.setZN n r).setFb flC (decide (2 ^ n ≤ a + b + cin))).setFb flV (addOvf n a b r))

/-- A difference of `n` bits with borrow in: its value and C Z N V. C is the borrow. -/
def CoreSt.subFlags (k : CoreSt) (n a b bin : Nat) : Nat × CoreSt :=
  let r := (a + 2 ^ (n + 1) - b - bin) % 2 ^ n
  (r, ((k.setZN n r).setFb flC (decide (a < b + bin))).setFb flV (subOvf n a b r))

/-- A logical result of 8 bits: Z and N, and V cleared. -/
def CoreSt.logicFlags (k : CoreSt) (r : Nat) : CoreSt := (k.setZN 8 r).setFb flV false

/-- A shift result, with C the bit shifted out. -/
def CoreSt.shiftFlags (k : CoreSt) (r : Nat) (c : Bool) : CoreSt := (k.logicFlags r).setFb flC c

def CoreSt.carry (k : CoreSt) : Nat := b2n (k.fb flC)

def CoreSt.putW (k : CoreSt) (d : Fin 16) (v : Nat) : CoreSt := k.setW d (BitVec.ofNat 8 v)
def CoreSt.putX (k : CoreSt) (d : Fin 8) (v : Nat) : CoreSt := k.setX d (BitVec.ofNat 16 v)

/-- Wd of an 8-bit operation with `b`. -/
def CoreSt.addW (k : CoreSt) (d : Fin 16) (b cin : Nat) : CoreSt :=
  let (r, k) := k.addFlags 8 (k.getW d).toNat b cin
  k.putW d r

def CoreSt.subW (k : CoreSt) (d : Fin 16) (b bin : Nat) (keep : Bool) : CoreSt :=
  let (r, k) := k.subFlags 8 (k.getW d).toNat b bin
  if keep then k.putW d r else k

def CoreSt.addXv (k : CoreSt) (d : Fin 8) (b : Nat) : CoreSt :=
  let (r, k) := k.addFlags 16 (k.getX d).toNat b 0
  k.putX d r

def CoreSt.subXv (k : CoreSt) (d : Fin 8) (b : Nat) (keep : Bool) : CoreSt :=
  let (r, k) := k.subFlags 16 (k.getX d).toNat b 0
  if keep then k.putX d r else k

/-- A logical operation on Wd with `b`; TST keeps Wd. -/
def CoreSt.logicW (k : CoreSt) (d : Fin 16) (b : Byte) (f : Byte → Byte → Byte) (keep : Bool) : CoreSt :=
  let r := f (k.getW d) b
  let k := k.logicFlags r.toNat
  if keep then k.setW d r else k

/-! ## Window operands (R302, R303, R335) -/

/-- R302: X6 after a step, wrapped once into the modulo range. -/
def moduloStep (modb modl : Nat) (v : Int) : Int :=
  if v ≥ (modb + modl : Nat) then v - modl else if v < modb then v + modl else v

/-- The low `n` bits of a number in reversed order. -/
def revBits : Nat → Nat → Nat
  | 0, _ => 0
  | n + 1, v => v % 2 * 2 ^ n + revBits n (v / 2)

/-- R303: the bits below BRN incremented in reversed order. -/
def revStep (brn v : Nat) : Nat := v / 2 ^ brn * 2 ^ brn + revBits brn ((revBits brn v + 1) % 2 ^ brn)

def CoreSt.moden (k : CoreSt) : Bool := k.am.getLsbD 4
def CoreSt.bren (k : CoreSt) : Bool :=
  let n := k.am.toNat % 16
  k.am.getLsbD 5 && 1 ≤ n && n ≤ 14

/-- Xn after an update of an addressing mode by `step`. -/
def CoreSt.stepX (k : CoreSt) (x : Fin 8) (step : Int) : Half :=
  let v := (k.getX x).toNat
  if x = 6 ∧ k.moden then BitVec.ofInt 16 (moduloStep k.modb.toNat k.modl.toNat (v + step))
  else if x = 7 ∧ k.bren ∧ 0 < step then BitVec.ofNat 16 (revStep (k.am.toNat % 16) v)
  else BitVec.ofInt 16 (v + step)

/-- Table 12.6: the address of a window access of `n` bytes, and the core with Xn updated. -/
def CoreSt.winOp (k : CoreSt) (m : WinMode) (x : Fin 8) (n : Nat) : Half × CoreSt :=
  match m with
  | .at_ => (k.getX x, k)
  | .inc => (k.getX x, k.setX x (k.stepX x n))
  | .dec => let a := k.stepX x (-(n : Int)); (a, k.setX x a)
  | .off v => (k.getX x + v, k)

/-- Words of a window access: two with an offset. -/
def winWords : WinMode → Nat
  | .off _ => 2
  | _ => 1

/-- A window load of `n` bytes, delivered by `g`. -/
def State.winLoad (s : State) (c : Fin 6) (m : WinMode) (x : Fin 8) (n : Nat) (g : State → Nat → State) : State :=
  s.instr c (winWords m) fun s =>
    let r := (s.setCore c fun k => (k.winOp m x n).2).winRead c ((s.core[c]).winOp m x n).1 n
    g r.2 r.1

/-- A window store of the bytes that the register held at issue. -/
def State.winStore (s : State) (c : Fin 6) (m : WinMode) (x : Fin 8) (n : Nat) (v : CoreSt → Nat) : State :=
  s.instr c (winWords m) fun s =>
    (s.setCore c fun k => (k.winOp m x n).2).winWrite c ((s.core[c]).winOp m x n).1 (leBytes n (v s.core[c]))

/-! ## Far operands (R338) -/

def CoreSt.farAddr (k : CoreSt) (p : Fin 4) (off : Half) : Nat := (k.getQ p + off.toNat) % 2 ^ 32

def State.farLoad (s : State) (c : Fin 6) (p : Fin 4) (off : Half) (n : Nat) (g : State → Nat → State) : State :=
  s.instr c 2 fun s =>
    let r := s.busRead c false 4 ((s.core[c]).farAddr p off) n
    g r.2 r.1

def State.farStore (s : State) (c : Fin 6) (p : Fin 4) (off : Half) (n : Nat) (v : CoreSt → Nat) : State :=
  s.instr c 2 fun s => s.busWrite c false 4 ((s.core[c]).farAddr p off) (leBytes n (v s.core[c]))

/-! ## Branches (R324, R336) -/

/-- PC plus an offset in words from the address after the branch. -/
def CoreSt.branch (k : CoreSt) (off : Int) : CoreSt := { k with pc := k.pc + BitVec.ofInt 16 (2 * off) }

/-- Table 12.7. -/
def CoreSt.cond (k : CoreSt) (cc : Nat) : Bool :=
  let c := k.fb flC
  let z := k.fb flZ
  let n := k.fb flN
  let v := k.fb flV
  match cc with
  | 0 => z
  | 1 => !z
  | 2 => c
  | 3 => !c
  | 4 => n
  | 5 => !n
  | 6 => v
  | 7 => !v
  | 8 => k.fb flBF
  | 9 => !k.fb flBF
  | 10 => !c && !z
  | 11 => c || z
  | 12 => n == v
  | 13 => n != v
  | 14 => !z && n == v
  | _ => z || n != v

/-! ## Bit operands (R337) -/

/-- A bit operation that reads the bit into BF by `f bf bit`. -/
def State.bitLoad (s : State) (c : Fin 6) (a : BitVec 13) (f : Bool → Bool → Bool) : State :=
  s.instr c 2 fun s =>
    let r := s.bitRead c a.toNat
    r.2.setCore c fun k => k.setFb flBF (f (k.fb flBF) r.1)

/-- A bit operation that writes the bit where `on` holds of BF. -/
def State.bitStore (s : State) (c : Fin 6) (a : BitVec 13) (on v : Bool → Bool) : State :=
  s.instr c 2 fun s =>
    let bf := (s.core[c]).fb flBF
    if on bf then s.bitWrite c a.toNat (v bf) else s

/-- A bit operation that reads the bit and writes it in one action: a denied read leaves 0, and one FAULT is raised. -/
def State.bitModify (s : State) (c : Fin 6) (a : BitVec 13) (toBf : Bool) (v : Bool → Bool) : State :=
  s.instr c 2 fun s =>
    let rd := s.bitOk c a.toNat false
    let b := rd && s.bitGet c a.toNat
    let s := if rd && s.bitOk c a.toNat true then s.bitSet c a.toNat (v b) else s.denied c a.toNat
    if toBf then s.setCore c fun k => k.setFb flBF b else s

/-! ## Block repeat (R304) -/

/-- SRC and DST after an element. -/
def dirStep (a : Half) (dec : Bool) : Half := if dec then a - 1 else a + 1

def CoreSt.element (k : CoreSt) (src dst sdec ddec : Bool) : CoreSt :=
  { k with cnt := k.cnt - 1, src := if src then dirStep k.src sdec else k.src
           dst := if dst then dirStep k.dst ddec else k.dst }

def State.movsLoop (s : State) (c : Fin 6) (sdec ddec : Bool) : Nat → State
  | 0 => s
  | n + 1 =>
    let (v, s) := s.winRead c (s.core[c]).src 1
    let s := s.winWrite c (s.core[c]).dst [BitVec.ofNat 8 v]
    (s.setCore c fun k => k.element true true sdec ddec).movsLoop c sdec ddec n

def State.filsLoop (s : State) (c : Fin 6) (ddec : Bool) (v : Byte) : Nat → State
  | 0 => s
  | n + 1 =>
    let s := s.winWrite c (s.core[c]).dst [v]
    (s.setCore c fun k => k.element false true false ddec).filsLoop c ddec v n

/-- CMPS: the last comparison decides C and N, and Z is 1 where no element differs. -/
def State.cmpsLoop (s : State) (c : Fin 6) (sdec ddec : Bool) : Nat → State
  | 0 => s.setCore c fun k => k.setFb flZ true
  | n + 1 =>
    let (a, s) := s.winRead c (s.core[c]).src 1
    let (b, s) := s.winRead c (s.core[c]).dst 1
    let s := s.setCore c fun k =>
      let f := (k.subFlags 8 a b 0).2
      ((k.element true true sdec ddec).setFb flC (f.fb flC)).setFb flN (f.fb flN)
    if a ≠ b then s.setCore c fun k => k.setFb flZ false else s.cmpsLoop c sdec ddec n

/-- SCNS: Z is 1 where the value was found. -/
def State.scnsLoop (s : State) (c : Fin 6) (sdec : Bool) (v : Nat) : Nat → State
  | 0 => s.setCore c fun k => k.setFb flZ false
  | n + 1 =>
    let (a, s) := s.winRead c (s.core[c]).src 1
    let s := s.setCore c fun k => k.element true false sdec false
    if a = v then s.setCore c fun k => k.setFb flZ true else s.scnsLoop c sdec v n

/-- An interrupt may fall between two elements of core `c`'s block repeat: no load is awaiting the instruction, IE is 1, and ILV
leaves a level above it. -/
def State.mayBreak (s : State) (c : Fin 6) : Bool :=
  (s.core[c]).load.isEmpty && (s.core[c]).fb flIE && s.ilv c != 0

/-- A block repeat that an interrupt may break after any of its elements: `f` processes that many, and where elements are left
and none was the deciding one, PC stays on the instruction. -/
def State.repeatPart (s : State) (c : Fin 6) (decided : CoreSt → Bool) (f : State → Nat → State) : State :=
  let k := s.core[c]
  let (j, s) := s.fresh 16
  let s := f s (1 + j % k.cnt.toNat)
  if (s.core[c]).cnt = 0 || decided s.core[c] then s
  else s.setCore c fun t => { t with pc := t.pc - 2, fl := k.fl }

/-- With CNT at 0 a block repeat does nothing. An interrupt may fall between any two elements: the one after which it falls is a
free value. -/
def State.repeat_ (s : State) (c : Fin 6) (decided : CoreSt → Bool) (f : State → Nat → State) : State :=
  let breaks := s.mayBreak c
  s.instr c 1 fun s =>
    let n := (s.core[c]).cnt.toNat
    if n = 0 then s
    else if breaks then s.repeatPart c decided f
    else f s n

/-! ## Reserved encodings (R319, R329) -/

/-- The encoding that two words give is one that Tables 12.1 to 12.9 do not define. -/
def isReserved (w0 w1 : Nat) : Bool :=
  let sub := w0 / 256 % 16
  let hi := w0 / 16 % 16
  let lo := w0 % 16
  match w0 / 4096 with
  | 0x0 =>
    match sub with
    | 0 | 1 | 2 | 3 | 4 | 5 | 6 => w0 % 256 != 0
    | 7 => !(1 ≤ w0 % 256 && w0 % 256 ≤ 5)
    | 8 | 9 => 8 ≤ lo
    | 10 | 11 => lo != 0
    | 12 => 2 ≤ hi || 8 ≤ lo
    | 13 => 64 ≤ w0 % 256
    | _ => true
  | 0x1 => 10 ≤ sub && lo != 0
  | 0x2 | 0x3 | 0x4 | 0x8 | 0x9 => false
  | 0x5 =>
    match sub with
    | 0 | 1 | 2 | 3 => 8 ≤ hi || 8 ≤ lo
    | 4 | 5 => 8 ≤ hi || lo != 0
    | 6 => 8 ≤ hi || lo == 15
    | 7 => 12 ≤ hi || 8 ≤ lo
    | 8 => 8 ≤ hi
    | _ => true
  | 0x6 => 8 ≤ lo || (sub % 2 == 1 && 8 ≤ hi)
  | 0xB => w0 % 256 != 0 || 0x2000 ≤ w1
  | 0xC =>
    4 ≤ lo || (match sub with
    | 0 | 4 => false
    | 1 | 5 => 8 ≤ hi
    | 2 | 6 => 4 ≤ hi
    | _ => true)
  | 0xD => lo != 0 || (sub / 4 ≤ 1 && hi != 0)
  | 0xE => 4 ≤ sub || 8 ≤ w0 % 256 || (sub == 3 && 4 ≤ w0 % 256)
  | 0xF =>
    lo != 0 || (match sub with
    | 0 | 1 => false
    | 2 | 3 | 4 | 5 | 6 => 8 ≤ hi
    | 7 | 8 | 9 | 10 => 256 ≤ w1
    | 11 | 12 => hi != 0
    | _ => true)
  | _ => true

/-- The bits of a 4096-bit number that are 1. -/
def bitsOf (v : Nat) : List (Nat × Bool) :=
  ((List.range 4096).filter fun (a : Nat) => v / 2 ^ a % 2 == 1).map fun a => (a, true)

/-- Free stores through the window, of free bytes. -/
def State.freeStores (s : State) (c : Fin 6) : Nat → State
  | 0 => s
  | n + 1 =>
    let (on, s) := s.fresh 1
    let (a, s) := s.fresh 16
    let (v, s) := s.fresh 8
    (if on = 1 then s.winWrite c (BitVec.ofNat 16 a) [BitVec.ofNat 8 v] else s).freeStores c n

/-- R319: whatever a reserved opcode may change holds a free value after it. Its 64 stages leave time for 16 stores at most,
as the shortest store takes 4. -/
def State.reservedEffect (s : State) (c : Fin 6) : State :=
  let s := s.freeStores c 16
  let (ws, s) := s.fresh 128
  let (rs, s) := s.fresh 112
  let (fl, s) := s.fresh 6
  let (am, s) := s.fresh 6
  let (bits, s) := s.fresh 4096
  let half (n : Nat) : Half := BitVec.ofNat 16 (rs / 2 ^ (16 * n))
  s.setCore c fun k =>
    { k with w := Vector.ofFn fun (i : Fin 16) => BitVec.ofNat 8 (ws / 256 ^ i.val)
             sp := half 0, pc := half 1, cnt := half 2, src := half 3, dst := half 4, modb := half 5, modl := half 6
             fl := flMask fl, am := flMask am, bits := bitsOf bits
             wrote := List.finRange 16 }

end Sys2Proof.Machine
end

