-- ==== Sys2Proof/Machine/Live.lean ====
section
/-! DEFINITION. The live bytes of the journal and its fill (spec/19_storage_and_journal.md, R522, R526, Table 19.3). -/
namespace Sys2Proof.Machine
open Sys2Proof

/-- R522: what a record with `n` payload bytes occupies: header, payload and CRC, in whole granules. -/
def recBytes (n : Nat) : Nat := (16 + n + 4 + 15) / 16 * 16

def sumBytes {α : Type} (l : List α) (f : α → Nat) : Nat := (l.map f).foldl (· + ·) 0

/-- The outcome's archive record has been written (R512). -/
def State.isArchived (s : State) (i : Item) : Bool := s.flash.arch.any fun e => e.1 == i.key

/-- The item is the newest acceptance of its source. -/
def State.isNewest (s : State) (i : Item) : Bool :=
  if h : i.key.src < 24 then s.jrn.src[i.key.src] == ⟨i.key.ser, i.key.wsn⟩ else false

/-- ACCEPT, live until archived and followed, and STATE, live until archived. -/
def State.itemBytes (s : State) (i : Item) : Nat :=
  (if s.isArchived i && !s.isNewest i then 0 else recBytes (8 + i.len))
    + (if s.isArchived i || i.st == .pending || i.chk != 0 then 0 else recBytes 24)

/-- SETTING records (R642): one for a scale table, and one for every other setting. -/
def State.settingBytes (s : State) : Nat :=
  let inTable (a : Nat) (e : Nat × Nat) : Bool :=
    regAddr .SRV_CPT a 0 ≤ e.1 / 32 && e.1 / 32 < regAddr .SRV_CPT a 0 + 512
  let axes := (List.range 12).filter fun a => s.jrn.set.any (inTable a)
  let plain := s.jrn.set.filter fun e => !(axes.any fun a => inTable a e)
  let exact (m : StnMot) : List (Int × Bool) := (m.ofs.toList.flatMap Vector.toList ++ m.tools.toList).filter fun v => v != (0, false)
  plain.length * recBytes 12 + sumBytes axes (fun a => recBytes (8 + 4 * s.fld .SRV_COMP_N a))
    + sumBytes s.mot.toList fun m => (exact m).length * recBytes 24

/-- Marks of failed parts: cores, converter paths and chains, the references, pins and link ports. -/
def State.markCount (s : State) : Nat :=
  (List.range 6).countP (fun c => s.fld .SYS_CSTAT_STATE c == 4) + (List.range 16).countP (fun n => s.flag .ADC_PSTAT_FAILED n)
    + (List.range 8).countP (fun n => s.flag .ADC_FSTAT_FAILED n) + b2n (s.flag .ADC_REF_FAILA) + b2n (s.flag .ADC_REF_FAILB)
    + (List.range 64).countP (fun n => s.flag .FIO_STAT_FAILED n) + s.lnk.port.toList.countP (·.bad)

/-- R526: the bytes of every live record. -/
def State.liveBytes (s : State) : Nat :=
  sumBytes s.jrn.items s.itemBytes
    + sumBytes (s.mot.toList.flatMap (·.ring)) (fun b => recBytes (64 + 32 * b.entries))
    + (s.mot.toList.countP fun m => m.lastRec.at_ != 0 || m.lastRec.key.isSome) * recBytes 128
    + (s.jrn.chk.toList.countP Option.isSome) * recBytes 768
    + (b2n (!s.flash.ops.isEmpty) + s.flash.lost.length) * recBytes 24
    + (s.jrn.src.toList.countP fun e => e.ser != 1) * recBytes 8
    + s.settingBytes
    + s.markCount * recBytes 8
    + sumBytes (s.lnk.mcs.filter fun m => m.legs.any fun e => !e.acked) (fun m => recBytes (16 + 8 * m.legs.length))
    + b2n s.pwr.closed * recBytes 16
    + b2n (!s.flash.arch.isEmpty) * recBytes 16

/-- The bytes of the log of a half (R521). -/
def logBytes : Nat := 126976

/-- JRN_LIVE and FILL follow; the event when FILL rises past its limit. -/
def State.liveUpdate (s : State) : State :=
  let was := decide (s.fld .JRN_STAT_FILL ≤ s.fld .JRN_CFG_FILLWARN)
  let n := min s.liveBytes logBytes
  let s := (s.setFld .JRN_LIVE_BYTES 0 0 n).setFld .JRN_STAT_FILL 0 0 (n * 100 / logBytes)
  if was && decide (s.fld .JRN_CFG_FILLWARN < s.fld .JRN_STAT_FILL) then s.raise .attn Cause.JRN_FILL 4 else s

end Sys2Proof.Machine
end

