-- ==== Sys2Proof/Machine/CoreInstr.lean ====
section
/-! DEFINITION. The instructions of a Trelfieno core (spec/12_trelfieno_instructions.md). An instruction that needs the
command language, `REQ`, stands with the lines. -/
namespace Sys2Proof.Machine
open Sys2Proof

/-! ## System group (R330, R331) -/

/-- Table 12.2: nothing. -/
def execNop (c : Fin 6) (s : State) : Host.Outcome State Fault Refusal :=
  .next (s.instr c 1 id)

/-- Table 12.2: the core waits for the first tick after its issue. A WAITL that an interrupt suspended keeps its issue, so that a
tick of the meantime satisfies it. The spare's first WAITL ends a takeover (R317). -/
def execWaitl (c : Fin 6) (s : State) : Host.Outcome State Fault Refusal :=
  .next (s.instr c 1 fun s =>
    let k := s.core[c]
    let at_ := k.pc - 2
    let lv := s.ilv c
    let old := k.wl.head?.filter fun e => e.1 == lv && e.2.1 == at_
    let wl := match old with
      | some _ => k.wl
      | none => (lv, at_, s.clk.now) :: k.wl.filter fun e => e.1 != lv
    let s := s.setCore c fun k => { k with pc := at_, wait := .tick, wl := wl, sup := s.clk.tick, sect := false, late := false }
    let s : State := if (s.take.map (·.spare)) == some c then { s with take := none } else s
    s.setCoreState c 2)

/-- R330, R313: the tick has come, and no station of the core's tick section is suspended (R52). -/
def execWaitlTickRelease (c : Fin 6) (s : State) : Host.Outcome State Fault Refusal :=
  .next (match (s.core[c]).wait, (s.core[c]).wl with
    | .tick, w :: l =>
      if s.clk.tick ≤ w.2.2 || (s.flag .SYS_CCTL_TICK c && (s.coreStations c).any fun k => s.lat.suspended[k]) then s
      else (s.setCore c fun k => { k with wait := .none, wl := l, pc := w.2.1 + 2, sect := true }).setCoreState c 1
    | _, _ => s)

/-- R306, R314: at base level V clears and the checkpoint goes to the journal, with what loads have left in the registers; in a
handler V is set. -/
def execChkpt (c : Fin 6) (s : State) : Host.Outcome State Fault Refusal :=
  .next (let ld := (s.core[c]).load
    s.instr c 1 fun s =>
      if s.ilv c ≠ 7 then s.setCore c fun k => k.setFb flV true
      else
        let s := s.setCore c fun k => { (k.setFb flV false).settle ld with sup := s.clk.tick }
        (s.setCore c fun k => { k with wait := .chkpt (s.checkpointOf c) }).setCoreState c 3)

/-- R314: the checkpoint commits, once the journal has room, and the core goes on. -/
def execChkptCommitted (c : Fin 6) (s : State) : Host.Outcome State Fault Refusal :=
  .next (match (s.core[c]).wait with
    | .chkpt r =>
      if s.liveBytes + recBytes 768 > 118784 then s
      else
        let t := s.task c
        let chk := if h : t < 6 then s.jrn.chk.set t (some r) else s.jrn.chk
        let s : State := { s with jrn := { s.jrn with chk := chk } }
        let s := (s.commitRec.bumpWrap .SYS_CCHK_CHKN c 0 1).setCore c fun k => { k with wait := .none }
        s.setCoreState c 1
    | _ => s)

/-- Table 12.2: ILV, FL, PC high and PC low come from the stack. -/
def execReti (c : Fin 6) (s : State) : Host.Outcome State Fault Refusal :=
  .next (s.instr c 1 fun s =>
    let p := s.popByte c
    let q := p.2.popByte c
    ((q.2.setIlv c (p.1 % 8)).setCore c fun k => { k with fl := flMask q.1 }).popPc c)

/-- Table 12.2. -/
def execRet (c : Fin 6) (s : State) : Host.Outcome State Fault Refusal :=
  .next (s.instr c 1 fun s => s.popPc c)

/-- Table 12.2: IE ← 1. -/
def execEi (c : Fin 6) (s : State) : Host.Outcome State Fault Refusal :=
  .next (s.regInstr c 1 fun k => k.setFb flIE true)

/-- Table 12.2: IE ← 0. -/
def execDi (c : Fin 6) (s : State) : Host.Outcome State Fault Refusal :=
  .next (s.regInstr c 1 fun k => k.setFb flIE false)

/-- Table 12.2: BF ← 1. -/
def execBfset (c : Fin 6) (s : State) : Host.Outcome State Fault Refusal :=
  .next (s.regInstr c 1 fun k => k.setFb flBF true)

/-- Table 12.2: BF ← 0. -/
def execBfclr (c : Fin 6) (s : State) : Host.Outcome State Fault Refusal :=
  .next (s.regInstr c 1 fun k => k.setFb flBF false)

/-- Table 12.2: BF ← not BF. -/
def execBfnot (c : Fin 6) (s : State) : Host.Outcome State Fault Refusal :=
  .next (s.regInstr c 1 fun k => k.setFb flBF (!k.fb flBF))

/-- Table 12.2: BF ← C. -/
def execBfc (c : Fin 6) (s : State) : Host.Outcome State Fault Refusal :=
  .next (s.regInstr c 1 fun k => k.setFb flBF (k.fb flC))

/-- Table 12.2: C ← BF. -/
def execCbf (c : Fin 6) (s : State) : Host.Outcome State Fault Refusal :=
  .next (s.regInstr c 1 fun k => k.setFb flC (k.fb flBF))

/-- Table 12.2: BF ← bit b of Wd. -/
def execBldw (c : Fin 6) (d : Fin 16) (b : Fin 8) (s : State) : Host.Outcome State Fault Refusal :=
  .next (s.regInstr c 1 fun k => k.setFb flBF ((k.getW d).getLsbD b))

/-- Table 12.2: bit b of Wd ← BF. -/
def execBstw (c : Fin 6) (d : Fin 16) (b : Fin 8) (s : State) : Host.Outcome State Fault Refusal :=
  .next (s.regInstr c 1 fun k => k.setW d (bytePut (k.getW d) b (k.fb flBF)))

/-- Table 12.2: SP ← SP − 1, then [SP] ← Wd. -/
def execPush (c : Fin 6) (d : Fin 16) (s : State) : Host.Outcome State Fault Refusal :=
  .next (s.instr c 1 fun s => s.pushByte c ((s.core[c]).getW d))

/-- Table 12.2: Wd ← [SP], then SP ← SP + 1, as a load. -/
def execPop (c : Fin 6) (d : Fin 16) (s : State) : Host.Outcome State Fault Refusal :=
  .next (s.instr c 1 fun s =>
    let p := s.popByte c
    p.2.loadW c d p.1)

/-- Table 12.2: PC ← Xn. -/
def execJmp (c : Fin 6) (x : Fin 8) (s : State) : Host.Outcome State Fault Refusal :=
  .next (s.regInstr c 1 fun k => { k with pc := k.getX x })

/-- Table 12.2: PC is pushed, and PC ← Xn. -/
def execCall (c : Fin 6) (x : Fin 8) (s : State) : Host.Outcome State Fault Refusal :=
  .next (s.instr c 1 fun s => (s.pushPc c).setCore c fun k => { k with pc := k.getX x })

/-- Table 12.2: AM ← imm8, whose upper two bits are 0. -/
def execSetam (c : Fin 6) (v : BitVec 6) (s : State) : Host.Outcome State Fault Refusal :=
  .next (s.regInstr c 1 fun k => { k with am := flMask v.toNat })

/-! ## Interrupts (R305) -/

/-- R305: at a boundary, the pending level of highest priority above ILV is taken. A WAITL, or a DPOP that waits, is such a
boundary, and runs again after the return. -/
def execInterruptEntry (c : Fin 6) (s : State) : Host.Outcome State Fault Refusal :=
  .next (let k := s.core[c]
    let lv := (List.finRange 4).find? fun (n : Fin 4) => n.val < s.ilv c && s.levelPending c n
    let st := s.fld .SYS_CSTAT_STATE c
    let boundary := match k.wait with
      | .none => st == 1
      | .tick | .dpop _ => true
      | _ => false
    match lv with
    | none => s
    | some n =>
      if !boundary || !k.fb flIE || !k.load.isEmpty || st == 0 || st == 4 then s
      else
        let s := s.setCore c fun k => { k with wait := .none }
        let s := ((s.pushPc c).pushByte c k.fl).pushByte c (BitVec.ofNat 8 (s.ilv c))
        ((s.setIlv c n).setCore c fun k => { k with pc := k.vec[n] }).setCoreState c 1)

/-! ## 8-bit arithmetic (R332) -/

/-- Table 12.3: Wd ← Ws. -/
def execMov (c : Fin 6) (d s_ : Fin 16) (s : State) : Host.Outcome State Fault Refusal :=
  .next (s.regInstr c 1 fun k => k.setW d (k.getW s_))

/-- Table 12.3: Wd ← Wd + Ws. -/
def execAdd (c : Fin 6) (d s_ : Fin 16) (s : State) : Host.Outcome State Fault Refusal :=
  .next (s.regInstr c 1 fun k => k.addW d (k.getW s_).toNat 0)

/-- Table 12.3: Wd ← Wd + Ws + C. -/
def execAdc (c : Fin 6) (d s_ : Fin 16) (s : State) : Host.Outcome State Fault Refusal :=
  .next (s.regInstr c 1 fun k => k.addW d (k.getW s_).toNat k.carry)

/-- Table 12.3: Wd ← Wd − Ws. -/
def execSub (c : Fin 6) (d s_ : Fin 16) (s : State) : Host.Outcome State Fault Refusal :=
  .next (s.regInstr c 1 fun k => k.subW d (k.getW s_).toNat 0 true)

/-- Table 12.3: Wd ← Wd − Ws − C. -/
def execSbc (c : Fin 6) (d s_ : Fin 16) (s : State) : Host.Outcome State Fault Refusal :=
  .next (s.regInstr c 1 fun k => k.subW d (k.getW s_).toNat k.carry true)

/-- Table 12.3: Wd − Ws, flags alone. -/
def execCmp (c : Fin 6) (d s_ : Fin 16) (s : State) : Host.Outcome State Fault Refusal :=
  .next (s.regInstr c 1 fun k => k.subW d (k.getW s_).toNat 0 false)

/-- Table 12.3: Wd ← Wd AND Ws. -/
def execAnd (c : Fin 6) (d s_ : Fin 16) (s : State) : Host.Outcome State Fault Refusal :=
  .next (s.regInstr c 1 fun k => k.logicW d (k.getW s_) (· &&& ·) true)

/-- Table 12.3: Wd ← Wd OR Ws. -/
def execOr (c : Fin 6) (d s_ : Fin 16) (s : State) : Host.Outcome State Fault Refusal :=
  .next (s.regInstr c 1 fun k => k.logicW d (k.getW s_) (· ||| ·) true)

/-- Table 12.3: Wd ← Wd XOR Ws. -/
def execXor (c : Fin 6) (d s_ : Fin 16) (s : State) : Host.Outcome State Fault Refusal :=
  .next (s.regInstr c 1 fun k => k.logicW d (k.getW s_) (· ^^^ ·) true)

/-- Table 12.3: Wd AND Ws, flags alone. -/
def execTst (c : Fin 6) (d s_ : Fin 16) (s : State) : Host.Outcome State Fault Refusal :=
  .next (s.regInstr c 1 fun k => k.logicW d (k.getW s_) (· &&& ·) false)

/-- Table 12.3: Wd ← not Wd. -/
def execNot (c : Fin 6) (d : Fin 16) (s : State) : Host.Outcome State Fault Refusal :=
  .next (s.regInstr c 1 fun k => k.logicW d 0 (fun (a _ : Byte) => ~~~ a) true)

/-- Table 12.3: Wd ← 0 − Wd. -/
def execNeg (c : Fin 6) (d : Fin 16) (s : State) : Host.Outcome State Fault Refusal :=
  .next (s.regInstr c 1 fun k =>
    let (r, k) := k.subFlags 8 0 (k.getW d).toNat 0
    k.putW d r)

/-- Table 12.3: C ← bit 7, shift left, 0 in. -/
def execShl (c : Fin 6) (d : Fin 16) (s : State) : Host.Outcome State Fault Refusal :=
  .next (s.regInstr c 1 fun k =>
    let v := (k.getW d).toNat
    let r := v * 2 % 256
    (k.shiftFlags r (decide (128 ≤ v))).putW d r)

/-- Table 12.3: C ← bit 0, shift right, 0 in. -/
def execShr (c : Fin 6) (d : Fin 16) (s : State) : Host.Outcome State Fault Refusal :=
  .next (s.regInstr c 1 fun k =>
    let v := (k.getW d).toNat
    let r := v / 2
    (k.shiftFlags r (v % 2 == 1)).putW d r)

/-- Table 12.3: C ← bit 0, shift right, bit 7 kept. -/
def execAsr (c : Fin 6) (d : Fin 16) (s : State) : Host.Outcome State Fault Refusal :=
  .next (s.regInstr c 1 fun k =>
    let v := (k.getW d).toNat
    let r := v / 2 + v / 128 * 128
    (k.shiftFlags r (v % 2 == 1)).putW d r)

/-- Table 12.3: rotate right through C. -/
def execRoc (c : Fin 6) (d : Fin 16) (s : State) : Host.Outcome State Fault Refusal :=
  .next (s.regInstr c 1 fun k =>
    let v := (k.getW d).toNat
    let r := v / 2 + k.carry * 128
    (k.shiftFlags r (v % 2 == 1)).putW d r)

/-- R332: Wd ← imm8. -/
def execMovi (c : Fin 6) (d : Fin 16) (v : Byte) (s : State) : Host.Outcome State Fault Refusal :=
  .next (s.regInstr c 1 fun k => k.setW d v)

/-- R332: the sign-extended simm8 is added, with the flags of ADD. -/
def execAddi (c : Fin 6) (d : Fin 16) (v : Byte) (s : State) : Host.Outcome State Fault Refusal :=
  .next (s.regInstr c 1 fun k => k.addW d v.toNat 0)

/-- R332: a comparison with imm8, as CMP. -/
def execCmpi (c : Fin 6) (d : Fin 16) (v : Byte) (s : State) : Host.Outcome State Fault Refusal :=
  .next (s.regInstr c 1 fun k => k.subW d v.toNat 0 false)

/-! ## 16-bit and special registers (R333, R334) -/

/-- Table 12.4: Xd ← Xs. -/
def execMovx (c : Fin 6) (d s_ : Fin 8) (s : State) : Host.Outcome State Fault Refusal :=
  .next (s.regInstr c 1 fun k => k.setX d (k.getX s_))

/-- Table 12.4: Xd ← Xd + Xs. -/
def execAddx (c : Fin 6) (d s_ : Fin 8) (s : State) : Host.Outcome State Fault Refusal :=
  .next (s.regInstr c 1 fun k => k.addXv d (k.getX s_).toNat)

/-- Table 12.4: Xd ← Xd − Xs. -/
def execSubx (c : Fin 6) (d s_ : Fin 8) (s : State) : Host.Outcome State Fault Refusal :=
  .next (s.regInstr c 1 fun k => k.subXv d (k.getX s_).toNat true)

/-- Table 12.4: Xd − Xs, flags alone. -/
def execCmpx (c : Fin 6) (d s_ : Fin 8) (s : State) : Host.Outcome State Fault Refusal :=
  .next (s.regInstr c 1 fun k => k.subXv d (k.getX s_).toNat false)

/-- Table 12.4: Xd ← Xd + 1, with Z and N. -/
def execIncx (c : Fin 6) (d : Fin 8) (s : State) : Host.Outcome State Fault Refusal :=
  .next (s.regInstr c 1 fun k => (k.setZN 16 ((k.getX d).toNat + 1)).putX d ((k.getX d).toNat + 1))

/-- Table 12.4: Xd ← Xd − 1, with Z and N. -/
def execDecx (c : Fin 6) (d : Fin 8) (s : State) : Host.Outcome State Fault Refusal :=
  .next (s.regInstr c 1 fun k => (k.setZN 16 ((k.getX d).toNat + 65535)).putX d ((k.getX d).toNat + 65535))

/-- A special register (Table 12.5); bits that it lacks read 0. -/
def State.special (s : State) (c : Fin 6) (r : Nat) : Nat :=
  let k := s.core[c]
  match r with
  | 0 => k.sp.toNat
  | 1 => k.cnt.toNat
  | 2 => k.src.toNat
  | 3 => k.dst.toNat
  | 4 => k.modb.toNat
  | 5 => k.modl.toNat
  | 6 => k.bank[0]
  | 7 => k.bank[1]
  | 8 => k.bank[2]
  | 9 => k.bank[3]
  | 10 => k.fl.toNat
  | 11 => k.am.toNat
  | 12 => s.ilv c
  | 13 => s.fld .SYS_CWSN_WC c % 65536
  | _ => s.fld .SYS_CWSN_WC c / 65536

/-- A write of a special register (Table 12.5); bits that it lacks are ignored. -/
def CoreSt.setSpecial (k : CoreSt) (r : Nat) (v : Half) : CoreSt :=
  match r with
  | 0 => { k with sp := v }
  | 1 => { k with cnt := v }
  | 2 => { k with src := v }
  | 3 => { k with dst := v }
  | 4 => { k with modb := v }
  | 5 => { k with modl := v }
  | 6 => { k with bank := k.bank.set 0 (v.toNat % 512) }
  | 7 => { k with bank := k.bank.set 1 (v.toNat % 512) }
  | 8 => { k with bank := k.bank.set 2 (v.toNat % 512) }
  | 9 => { k with bank := k.bank.set 3 (v.toNat % 512) }
  | 10 => { k with fl := flMask v.toNat }
  | _ => { k with am := flMask v.toNat }

/-- Table 12.4: Xd ← special register. -/
def execRds (c : Fin 6) (d : Fin 8) (r : Fin 15) (s : State) : Host.Outcome State Fault Refusal :=
  .next (s.instr c 1 fun s => s.setCore c fun k => k.putX d (s.special c r))

/-- Table 12.4, R334: special register ← Xs. -/
def execWrs (c : Fin 6) (r : Fin 12) (s_ : Fin 8) (s : State) : Host.Outcome State Fault Refusal :=
  .next (s.regInstr c 1 fun k => k.setSpecial r (k.getX s_))

/-- Table 12.4: Xd ← low byte of Xd × Ws, with Z and N. -/
def execMulu (c : Fin 6) (d : Fin 8) (s_ : Fin 16) (s : State) : Host.Outcome State Fault Refusal :=
  .next (s.regInstr c 1 fun k =>
    let r := (k.getX d).toNat % 256 * (k.getW s_).toNat
    (k.setZN 16 r).putX d r)

/-! ## Window access (R335) -/

/-- Table 12.6: a byte load. -/
def execLd (c : Fin 6) (m : WinMode) (r : Fin 16) (x : Fin 8) (s : State) : Host.Outcome State Fault Refusal :=
  .next (s.winLoad c m x 1 fun s v => s.loadW c r v)

/-- Table 12.6: a byte store. -/
def execSt (c : Fin 6) (m : WinMode) (r : Fin 16) (x : Fin 8) (s : State) : Host.Outcome State Fault Refusal :=
  .next (s.winStore c m x 1 fun k => (k.getW r).toNat)

/-- Table 12.6: a 16-bit load. -/
def execLdx (c : Fin 6) (m : WinMode) (r : Fin 8) (x : Fin 8) (s : State) : Host.Outcome State Fault Refusal :=
  .next (s.winLoad c m x 2 fun s v => s.loadX c r v)

/-- Table 12.6: a 16-bit store. -/
def execStx (c : Fin 6) (m : WinMode) (r : Fin 8) (x : Fin 8) (s : State) : Host.Outcome State Fault Refusal :=
  .next (s.winStore c m x 2 fun k => (k.getX r).toNat)

/-! ## Branches (R336) -/

/-- R336: a branch where the condition of Table 12.7 holds. -/
def execBcc (c : Fin 6) (cc : Fin 16) (v : Byte) (s : State) : Host.Outcome State Fault Refusal :=
  .next (s.regInstr c 1 fun k => if k.cond cc then k.branch v.toInt else k)

/-- R336: a branch. -/
def execBra (c : Fin 6) (v : BitVec 11) (s : State) : Host.Outcome State Fault Refusal :=
  .next (s.regInstr c 1 fun k => k.branch v.toInt)

/-- R336: PC is pushed, and a branch. -/
def execBsr (c : Fin 6) (v : BitVec 11) (s : State) : Host.Outcome State Fault Refusal :=
  .next (s.instr c 1 fun s => (s.pushPc c).setCore c fun k => k.branch v.toInt)

/-! ## Bit operations (R337, Table 12.8) -/

/-- Table 12.8: BF ← bit. -/
def execLdb (c : Fin 6) (a : BitVec 13) (s : State) : Host.Outcome State Fault Refusal :=
  .next (s.bitLoad c a fun _ b => b)

/-- Table 12.8: BF ← not bit. -/
def execLdbn (c : Fin 6) (a : BitVec 13) (s : State) : Host.Outcome State Fault Refusal :=
  .next (s.bitLoad c a fun _ b => !b)

/-- Table 12.8: BF ← BF and bit. -/
def execAndb (c : Fin 6) (a : BitVec 13) (s : State) : Host.Outcome State Fault Refusal :=
  .next (s.bitLoad c a fun f b => f && b)

/-- Table 12.8: BF ← BF and not bit. -/
def execAndbn (c : Fin 6) (a : BitVec 13) (s : State) : Host.Outcome State Fault Refusal :=
  .next (s.bitLoad c a fun f b => f && !b)

/-- Table 12.8: BF ← BF or bit. -/
def execOrb (c : Fin 6) (a : BitVec 13) (s : State) : Host.Outcome State Fault Refusal :=
  .next (s.bitLoad c a fun f b => f || b)

/-- Table 12.8: BF ← BF or not bit. -/
def execOrbn (c : Fin 6) (a : BitVec 13) (s : State) : Host.Outcome State Fault Refusal :=
  .next (s.bitLoad c a fun f b => f || !b)

/-- Table 12.8: BF ← BF xor bit. -/
def execXorb (c : Fin 6) (a : BitVec 13) (s : State) : Host.Outcome State Fault Refusal :=
  .next (s.bitLoad c a fun f b => f != b)

/-- Table 12.8: bit ← BF. -/
def execStb (c : Fin 6) (a : BitVec 13) (s : State) : Host.Outcome State Fault Refusal :=
  .next (s.bitStore c a (fun _ => true) id)

/-- Table 12.8: bit ← not BF. -/
def execStbn (c : Fin 6) (a : BitVec 13) (s : State) : Host.Outcome State Fault Refusal :=
  .next (s.bitStore c a (fun _ => true) not)

/-- Table 12.8: bit ← 1. -/
def execSetb (c : Fin 6) (a : BitVec 13) (s : State) : Host.Outcome State Fault Refusal :=
  .next (s.bitStore c a (fun _ => true) fun _ => true)

/-- Table 12.8: bit ← 0. -/
def execClrb (c : Fin 6) (a : BitVec 13) (s : State) : Host.Outcome State Fault Refusal :=
  .next (s.bitStore c a (fun _ => true) fun _ => false)

/-- Table 12.8: bit ← not bit. -/
def execTglb (c : Fin 6) (a : BitVec 13) (s : State) : Host.Outcome State Fault Refusal :=
  .next (s.bitModify c a false not)

/-- Table 12.8: BF ← bit, then bit ← 1. -/
def execTsetb (c : Fin 6) (a : BitVec 13) (s : State) : Host.Outcome State Fault Refusal :=
  .next (s.bitModify c a true fun _ => true)

/-- Table 12.8: BF ← bit, then bit ← 0. -/
def execTclrb (c : Fin 6) (a : BitVec 13) (s : State) : Host.Outcome State Fault Refusal :=
  .next (s.bitModify c a true fun _ => false)

/-- Table 12.8: where BF is 1, bit ← 1. -/
def execSetbc (c : Fin 6) (a : BitVec 13) (s : State) : Host.Outcome State Fault Refusal :=
  .next (s.bitStore c a id fun _ => true)

/-- Table 12.8: where BF is 1, bit ← 0. -/
def execClrbc (c : Fin 6) (a : BitVec 13) (s : State) : Host.Outcome State Fault Refusal :=
  .next (s.bitStore c a id fun _ => false)

/-! ## Far access (R338) -/

/-- Table 12.9: a far byte load. -/
def execLdf8 (c : Fin 6) (d : Fin 16) (k : Fin 4) (off : Half) (s : State) : Host.Outcome State Fault Refusal :=
  .next (s.farLoad c k off 1 fun s v => s.loadW c d v)

/-- Table 12.9: a far byte store. -/
def execStf8 (c : Fin 6) (d : Fin 16) (k : Fin 4) (off : Half) (s : State) : Host.Outcome State Fault Refusal :=
  .next (s.farStore c k off 1 fun t => (t.getW d).toNat)

/-- Table 12.9: a far 16-bit load. -/
def execLdf16 (c : Fin 6) (d : Fin 8) (k : Fin 4) (off : Half) (s : State) : Host.Outcome State Fault Refusal :=
  .next (s.farLoad c k off 2 fun s v => s.loadX c d v)

/-- Table 12.9: a far 16-bit store. -/
def execStf16 (c : Fin 6) (d : Fin 8) (k : Fin 4) (off : Half) (s : State) : Host.Outcome State Fault Refusal :=
  .next (s.farStore c k off 2 fun t => (t.getX d).toNat)

/-- Table 12.9: a far 32-bit load. -/
def execLdf32 (c : Fin 6) (q : Fin 4) (k : Fin 4) (off : Half) (s : State) : Host.Outcome State Fault Refusal :=
  .next (s.farLoad c k off 4 fun s v => s.loadQ c q v)

/-- Table 12.9: a far 32-bit store. -/
def execStf32 (c : Fin 6) (q : Fin 4) (k : Fin 4) (off : Half) (s : State) : Host.Outcome State Fault Refusal :=
  .next (s.farStore c k off 4 fun t => t.getQ q)

/-! ## Block repeat (R304) -/

/-- Table 12.9: [DST] ← [SRC], CNT times. -/
def execMovs (c : Fin 6) (sdec ddec : Bool) (s : State) : Host.Outcome State Fault Refusal :=
  .next (s.repeat_ c (fun _ => false) fun s n => s.movsLoop c sdec ddec n)

/-- Table 12.9: [SRC] and [DST] are compared up to the first mismatch. -/
def execCmps (c : Fin 6) (sdec ddec : Bool) (s : State) : Host.Outcome State Fault Refusal :=
  .next (s.repeat_ c (fun k => !k.fb flZ) fun s n => s.cmpsLoop c sdec ddec n)

/-- Table 12.9: [DST] ← Wv, CNT times. SDEC steps no register here. -/
def execFils (c : Fin 6) (sdec ddec : Bool) (v : Fin 16) (s : State) : Host.Outcome State Fault Refusal :=
  .next (let _ := sdec; s.repeat_ c (fun _ => false) fun s n => s.filsLoop c ddec ((s.core[c]).getW v) n)

/-- Table 12.9: [SRC] is compared with Wv up to the first match. DDEC steps no register here. -/
def execScns (c : Fin 6) (sdec ddec : Bool) (v : Fin 16) (s : State) : Host.Outcome State Fault Refusal :=
  .next (let _ := ddec; s.repeat_ c (fun k => k.fb flZ) fun s n => s.scnsLoop c sdec ((s.core[c]).getW v).toNat n)

/-! ## Decimal requests and work items (R339, Table 12.9) -/

/-- R339: the 64 bytes of Table 10.4 as a request of core `c`. A register byte that is brought into use and names no DH is
no register of the task. -/
def State.dreqOf (s : State) (c : Fin 6) (v : Nat) : DecReq :=
  let b (n : Nat) : Nat := v / 256 ^ n % 256
  let reg (n : Nat) : Nat := if b n < 8 then 8 * s.task c + b n else 255
  let f (n : Nat) : Bool := b 2 / 2 ^ n % 2 == 1
  { req := c.val + 4, op := b 0, rm := b 1 % 8, deg := b 1 / 8 % 2 == 1, asrc := f 0, bsrc := f 1, csrc := f 2, dsten := f 3
    dst := reg 3, areg := reg 4, breg := reg 5, creg := reg 6, tag := v / 256 ^ 8 % 65536, a := v / 256 ^ 16 % 2 ^ 128
    b := v / 256 ^ 32 % 2 ^ 128, c := v / 256 ^ 48 % 2 ^ 128, conv := false }

/-- R339: a decimal request. At the outstanding limit the core stalls, and issues it later. -/
def execDreq (c : Fin 6) (x : Fin 8) (s : State) : Host.Outcome State Fault Refusal :=
  .next (if s.coreReady c && s.decStalls (c.val + 4) then s.setCoreState c 3
    else s.instr c 1 fun s =>
      let p := s.winRead c ((s.core[c]).getX x) 64
      p.2.decEnqueue (p.2.dreqOf c p.1))

/-- R339: the head result is written at `a`, and Z is cleared. -/
def State.dpopTake (s : State) (c : Fin 6) (a : Half) : State :=
  match s.dec.mbx[c] with
  | [] => s
  | r :: _ =>
    let s := (s.mbxPop c).winWrite c a (leBytes 16 r.value ++ leBytes 2 r.tag ++ leBytes 1 r.flags ++ leBytes 1 0)
    s.setCore c fun k => k.setFb flZ false

/-- R339: the head decimal result. With none outstanding, Z is set; with none yet, DPOP waits. -/
def execDpop (c : Fin 6) (x : Fin 8) (s : State) : Host.Outcome State Fault Refusal :=
  .next (s.instr c 1 fun s =>
    let a := (s.core[c]).getX x
    if s.fld .DEC_OUT_OUT (c.val + 4) = 0 then s.setCore c fun k => k.setFb flZ true
    else if (s.dec.mbx[c]).isEmpty then
      (s.setCore c fun k => { k with wait := .dpop a, pc := k.pc - 2 }).setCoreState c 3
    else s.dpopTake c a)

/-- R339: the result that a DPOP waits for has come. -/
def execDpopResult (c : Fin 6) (s : State) : Host.Outcome State Fault Refusal :=
  .next (match (s.core[c]).wait with
    | .dpop a =>
      if (s.dec.mbx[c]).isEmpty then s
      else
        let s := (s.dpopTake c a).setCore c fun k => { k with wait := .none, pc := k.pc + 2 }
        s.setCoreState c 1
    | _ => s)

/-- R643: the source counter of a core advances. -/
def State.nextWc (s : State) (c : Fin 6) : State :=
  let k := nextKey 0 ⟨(s.core[c]).ser, s.fld .SYS_CWSN_WC c⟩
  (s.setCore c fun t => { t with ser := k.ser }).setFld .SYS_CWSN_WC c 0 k.wsn

/-- Table 12.9, R311: WC ← WC + 1, then Qq ← WC. -/
def execTake (c : Fin 6) (q : Fin 4) (s : State) : Host.Outcome State Fault Refusal :=
  .next (s.instr c 1 fun s =>
    let s := s.nextWc c
    s.setCore c fun k => k.setQ q (s.fld .SYS_CWSN_WC c))

/-! ## Extended forms (R338) -/

/-- Table 12.9: the byte at imm16. -/
def execLda (c : Fin 6) (d : Fin 16) (a : Half) (s : State) : Host.Outcome State Fault Refusal :=
  .next (s.instr c 2 fun s =>
    let p := s.winRead c a 1
    p.2.loadW c d p.1)

/-- Table 12.9: the byte at imm16 ← Wd. -/
def execSta (c : Fin 6) (d : Fin 16) (a : Half) (s : State) : Host.Outcome State Fault Refusal :=
  .next (s.instr c 2 fun s => s.winWrite c a [(s.core[c]).getW d])

/-- Table 12.9: 16 bits at imm16. -/
def execLdax (c : Fin 6) (d : Fin 8) (a : Half) (s : State) : Host.Outcome State Fault Refusal :=
  .next (s.instr c 2 fun s =>
    let p := s.winRead c a 2
    p.2.loadX c d p.1)

/-- Table 12.9: 16 bits at imm16 ← Xd. -/
def execStax (c : Fin 6) (d : Fin 8) (a : Half) (s : State) : Host.Outcome State Fault Refusal :=
  .next (s.instr c 2 fun s => s.winWrite c a (leBytes 2 ((s.core[c]).getX d).toNat))

/-- Table 12.9: Xd ← imm16. -/
def execMovxi (c : Fin 6) (d : Fin 8) (v : Half) (s : State) : Host.Outcome State Fault Refusal :=
  .next (s.regInstr c 2 fun k => k.setX d v)

/-- Table 12.9: as ADDX with imm16. -/
def execAddxi (c : Fin 6) (d : Fin 8) (v : Half) (s : State) : Host.Outcome State Fault Refusal :=
  .next (s.regInstr c 2 fun k => k.addXv d v.toNat)

/-- Table 12.9: as CMPX with imm16. -/
def execCmpxi (c : Fin 6) (d : Fin 8) (v : Half) (s : State) : Host.Outcome State Fault Refusal :=
  .next (s.regInstr c 2 fun k => k.subXv d v.toNat false)

/-- Table 12.9: AND with imm8. -/
def execAndi (c : Fin 6) (d : Fin 16) (v : Byte) (s : State) : Host.Outcome State Fault Refusal :=
  .next (s.regInstr c 2 fun k => k.logicW d v (· &&& ·) true)

/-- Table 12.9: OR with imm8. -/
def execOri (c : Fin 6) (d : Fin 16) (v : Byte) (s : State) : Host.Outcome State Fault Refusal :=
  .next (s.regInstr c 2 fun k => k.logicW d v (· ||| ·) true)

/-- Table 12.9: XOR with imm8. -/
def execXori (c : Fin 6) (d : Fin 16) (v : Byte) (s : State) : Host.Outcome State Fault Refusal :=
  .next (s.regInstr c 2 fun k => k.logicW d v (· ^^^ ·) true)

/-- Table 12.9: TST with imm8. -/
def execTsti (c : Fin 6) (d : Fin 16) (v : Byte) (s : State) : Host.Outcome State Fault Refusal :=
  .next (s.regInstr c 2 fun k => k.logicW d v (· &&& ·) false)

/-- Table 12.9: PC ← imm16. -/
def execJmpImm (c : Fin 6) (a : Half) (s : State) : Host.Outcome State Fault Refusal :=
  .next (s.regInstr c 2 fun k => { k with pc := a })

/-- Table 12.9: PC is pushed, and PC ← imm16. -/
def execCallImm (c : Fin 6) (a : Half) (s : State) : Host.Outcome State Fault Refusal :=
  .next (s.instr c 2 fun s => (s.pushPc c).setCore c fun k => { k with pc := a })

/-! ## Reserved encodings and loads (R301, R319) -/

/-- R319: a reserved encoding has its confined effect and is counted (R586). Words that are defined have no such effect. -/
def execReservedOpcode (c : Fin 6) (w0 w1 : Half) (s : State) : Host.Outcome State Fault Refusal :=
  .next (if !s.coreReady c || !isReserved w0.toNat w1.toNat then s
    else
      let pc := (s.core[c]).pc.toNat
      s.instr c 1 fun s => (s.reservedEffect c).countRsvop c pc (w0.toNat + 65536 * w1.toNat))

/-- R327: the data of a load arrive; a core that stalled on them goes on. -/
def execLoadDataArrival (c : Fin 6) (s : State) : Host.Outcome State Fault Refusal :=
  .next (if s.fld .SYS_CSTAT_STATE c = 3 ∧ (s.core[c]).wait = .none then s.setCoreState c 1 else s)

end Sys2Proof.Machine
end

