-- ==== Sys2Proof/Machine/Sha.lean ====
section
/-! DEFINITION. SHA-256 (FIPS 180-4) and HMAC-SHA-256 (FIPS 198-1), which R535 and R537 name. -/
namespace Sys2Proof.Machine
open Sys2Proof

/-- The first 64 primes, which end with 311: below 19 squared, a number that no smaller prime up to 17 divides is prime. -/
def shaPrimes : List Nat :=
  (List.range 312).filter fun n => decide (2 ≤ n) && [2, 3, 5, 7, 11, 13, 17].all fun d => n == d || n % d != 0

/-- The largest `x` below `r + 2 ^ b` whose `k`-th power is at most `n`, found from its bit `b - 1` down. -/
def rootFloor (k n : Nat) : Nat → Nat → Nat
  | 0, r => r
  | b + 1, r => rootFloor k n b (if (r + 2 ^ b) ^ k ≤ n then r + 2 ^ b else r)

/-- The first 32 bits of the fraction of the `k`-th root of a prime, from which FIPS 180-4 takes its constants. -/
def rootBits (k p : Nat) : Word := BitVec.ofNat 32 (rootFloor k (p * 2 ^ (32 * k)) 37 0)

/-- The initial hash value comes from square roots, and the round constants come from cube roots. -/
def shaInit : List Word := (shaPrimes.take 8).map (rootBits 2)

def shaK : List Word := shaPrimes.map (rootBits 3)

/-- A 32-bit word from four bytes, most significant first. -/
def beWord (l : List Byte) : Word := BitVec.ofNat 32 (l.foldl (fun (n : Nat) b => 256 * n + b.toNat) 0)

def beBytes (w : Word) : List Byte := (List.range 4).map fun i => w.extractLsb' (24 - 8 * i) 8

def shaWords : Nat → List Byte → List Word
  | 0, _ => []
  | n + 1, l => beWord (l.take 4) :: shaWords n (l.drop 4)

/-- The sum of a word's rotations, of which FIPS 180-4 makes its four functions of one word. -/
def rotSum (x : Word) (l : List Nat) : Word := l.foldl (fun (acc : Word) n => acc ^^^ x.rotateRight n) 0

/-- The message schedule, newest word first: each step adds one word. -/
def shaExtend : Nat → List Word → List Word
  | 0, l => l
  | n + 1, l =>
    let recent := l.getD 1 0
    let oldest := l.getD 14 0
    shaExtend n
      ((l.getD 15 0 + l.getD 6 0 + (rotSum recent [17, 19] ^^^ recent >>> 10) + (rotSum oldest [7, 18] ^^^ oldest >>> 3)) :: l)

/-- The eight working variables of FIPS 180-4, a to h. -/
structure ShaVars where
  a : Word
  b : Word
  c : Word
  d : Word
  e : Word
  f : Word
  g : Word
  h : Word
deriving DecidableEq, Repr

/-- One round: `kw` is the sum of the round constant and the schedule's word. -/
def ShaVars.round (v : ShaVars) (kw : Word) : ShaVars :=
  let choice := v.g ^^^ (v.e &&& (v.f ^^^ v.g))
  let majority := (v.a &&& v.b) ||| (v.c &&& (v.a ||| v.b))
  let new := kw + v.h + choice + rotSum v.e [6, 11, 25]
  { a := new + majority + rotSum v.a [2, 13, 22], b := v.a, c := v.b, d := v.c, e := new + v.d, f := v.e, g := v.f, h := v.g }

def shaBlock (h : List Word) (block : List Byte) : List Word :=
  let sched := (shaExtend 48 (shaWords 16 block).reverse).reverse
  let at_ (i : Nat) : Word := h.getD i 0
  let v := (shaK.zipWith (· + ·) sched).foldl ShaVars.round ⟨at_ 0, at_ 1, at_ 2, at_ 3, at_ 4, at_ 5, at_ 6, at_ 7⟩
  h.zipWith (· + ·) [v.a, v.b, v.c, v.d, v.e, v.f, v.g, v.h]

/-- `n` blocks of a padded message. -/
def shaBlocks : Nat → List Word → List Byte → List Word
  | 0, h, _ => h
  | n + 1, h, l => shaBlocks n (shaBlock h (l.take 64)) (l.drop 64)

/-- A message with its padding: the bit 1, bits 0 to 8 bytes short of a whole block, and the length in bits. -/
def shaPadded (m : List Byte) : List Byte :=
  let bits := 8 * m.length
  let fill := (119 - m.length % 64) % 64
  m ++ (0x80 : Byte) :: List.replicate fill 0 ++ beBytes (BitVec.ofNat 32 (bits >>> 32)) ++ beBytes (BitVec.ofNat 32 bits)

/-- The 32 bytes of SHA-256. -/
def sha256 (m : List Byte) : List Byte :=
  let p := shaPadded m
  (shaBlocks (p.length / 64) shaInit p).flatMap beBytes

/-- HMAC-SHA-256 under a key of 32 bytes. -/
def hmacSha256 (key m : List Byte) : List Byte :=
  let pad (x : Byte) : List Byte := (key ++ List.replicate (64 - key.length) (0 : Byte)).map (· ^^^ x)
  sha256 (pad 0x5c ++ sha256 (pad 0x36 ++ m))

end Sys2Proof.Machine
end

