-- ==== Sys2Proof/Machine/Image.lean ====
section
/-! DEFINITION. Umyar streams: how one is read, checked and applied, region images at run time, the image commands and the
loader console (spec/20_startup_and_images.md). -/
namespace Sys2Proof.Machine
open Sys2Proof

/-! ## Reading a stream (R533 to R536) -/

/-- Bytes of a medium: `n` bytes from an offset of the slot on. -/
abbrev Rdr := Nat → Nat → List Byte

def slotBase (b : Nat) : Nat := if b = 0 then 0x10000000 else 0x10200000

/-- A slot of the internal flash. -/
def State.slotRdr (s : State) (b : Nat) : Rdr := fun off n => s.memBytes (slotBase b + off) n

/-- A stream of bytes as read from the external flash; what was not read is erased. -/
def extRdr (l : List Byte) : Rdr := fun off n =>
  let x := (l.drop off).take n
  x ++ List.replicate (n - x.length) (0xFF : Byte)

/-- What external slot `b` holds where no reading of it is given. -/
def externalRdr (b : Nat) : Rdr := fun off n => (List.range n).map fun i => BitVec.ofNat 8 (Config.external b (off + i))

/-- The buffer of the loader console. -/
def State.bufRdr (s : State) : Rdr := fun off n => (List.range n).map fun i => (sparseFind s.boot.buf (off + i)).getD 0

def rdLe (rd : Rdr) (off n : Nat) : Nat := leNat (rd off n)

def magicUmyr : List Byte := textBytes "UMYR"
def magicUmym : List Byte := textBytes "UMYM"

/-- The IDCODE of revision C (Table 23.6). -/
def idcodeC : Nat := idcodeReg.toNat

/-- A segment entry (R534). -/
structure Seg where
  typ : Nat
  tgt : Nat
  off : Nat
  len : Nat

def segAt (rd : Rdr) (off : Nat) : Seg :=
  ⟨rdLe rd off 1, rdLe rd (off + 1) 1, rdLe rd (off + 2) 3, rdLe rd (off + 5) 3⟩

/-- Table 20.3: a segment of a stream of the kind. -/
def segOk (kind : Nat) (g : Seg) : Bool :=
  match g.typ with
  | 1 => kind == 1 && g.tgt == 0 && g.len % 8 == 0
  | 2 => kind == 1 && g.tgt < 160 && g.len ≤ 16384
  | 3 => g.tgt < 8
  | 4 => kind == 1 && g.tgt == 0 && g.len == 40
  | _ => false

/-- Segments lie in ascending order from `at_` on, without overlap, and end within `len`. -/
def segsAscend (len : Nat) : Nat → List Seg → Bool
  | _, [] => true
  | at_, g :: l => g.off % 16 == 0 && at_ ≤ g.off && g.off + g.len ≤ len && segsAscend len (g.off + g.len) l

/-- The segments of a monolithic stream (R536): each is its entry and its content, both padded to 16 bytes. -/
def monoSegs (rd : Rdr) (stop : Nat) : Nat → Nat → Option (List Seg)
  | 0, _ => none
  | f + 1, at_ =>
    if at_ = stop then some []
    else if stop < at_ + 16 then none
    else
      let g := segAt rd at_
      let next := at_ + 16 + (g.len + 15) / 16 * 16
      if g.off ≠ 0 ∨ !segOk 1 g ∨ stop < next ∨ rdLe rd (at_ + 8) 8 ≠ 0 then none
      else (monoSegs rd stop f next).map (⟨g.typ, g.tgt, at_ + 16, g.len⟩ :: ·)

/-- The entries of a REG segment: address and value. -/
def regEntries : Nat → List Byte → List (Nat × Nat)
  | 0, _ => []
  | n + 1, l => (leNat (l.take 4), leNat ((l.drop 4).take 4)) :: regEntries n (l.drop 8)

/-- The bits of the stations, or regions, that a list names. -/
def maskOf (l : List Nat) : Nat := l.foldl (fun m n => m ||| 2 ^ n) 0

def natsOf (l : List Byte) : List Nat := l.map BitVec.toNat

/-- An image from its segments. A REGION content that spells no configuration yields none. -/
def foundImage (rd : Rdr) (segs : List Seg) (im : Image) : Option Image :=
  let body (g : Seg) : List Byte := rd g.off g.len
  let regions := (segs.filter fun g => g.typ == 3).map fun g => (g.tgt, Config.regionSegment (natsOf (body g)))
  if regions.any fun e => e.2.isNone then none
  else
    some { im with
      regs := (segs.filter fun g => g.typ == 1).flatMap fun g => regEntries (g.len / 8) (body g)
      pages := (segs.filter fun g => g.typ == 2).map fun g => (g.tgt, body g)
      regions := regions.filterMap fun e => e.2.map fun c => (e.1, c)
      owners := ((segs.find? fun g => g.typ == 4).map body).map fun l => (List.range 5).map fun i => leNat ((l.drop (8 * i)).take 8)
      axes := []
      encs := [] }

/-! ## Checks 2 to 9 (Table 20.4) -/

/-- Reasons. -/
def rPassed : Nat := 0
def rRead : Nat := 1
def rNostream : Nat := 2
def rNoheader : Nat := 3
def rFormat : Nat := 4
def rSize : Nat := 5
def rIdentity : Nat := 6
def rIsa : Nat := 7
def rKey : Nat := 8
def rTag : Nat := 9
def rContent : Nat := 10

def reasonName (n : Nat) : String :=
  ["PASSED", "READ", "NOSTREAM", "NOHEADER", "FORMAT", "SIZE", "IDENTITY", "ISA", "KEY", "TAG", "CONTENT"].getD n "PASSED"

/-- Check 5: the longest stream, and the bytes outside pages against the pages that no PAGE segment targets (R539). -/
def sizeOk (internal : Bool) (len : Nat) (segs : List Seg) : Bool :=
  let pages := segs.filter fun g => g.typ == 2
  let used := ((List.range 160).filter fun p => pages.any fun g => g.tgt == p).length
  let body := (pages.map (·.len)).foldl (· + ·) 0
  (len ≤ if internal then 1048576 else 2621440) && len - body ≤ (160 - used) * 16384

/-- The key of a slot as 32 bytes, the first two digits first. -/
def keyBytes (key : Nat) : List Byte := (leBytes 32 key).reverse

/-- R537: the fingerprint of a key. -/
def fingerprint (key : Nat) : Nat := (beWord ((sha256 (keyBytes key)).take 4)).toNat

/-- The serial that a header shows. -/
def headSerial (rd : Rdr) : Nat := if rd 0 4 == magicUmyr then rdLe rd 16 4 else 0

/-- Checks 2 to 9 of a stream with a header, of the kind required. -/
def State.checkHeader (s : State) (rd : Rdr) (internal : Bool) (kind : Nat) : Nat × Option Image :=
  let len := rdLe rd 24 4
  let nseg := rdLe rd 31 1
  let segs := (List.range (min nseg 24)).map fun i => segAt rd (32 + 8 * i)
  let rgn := rdLe rd 28 1
  let stn := rdLe rd 29 1
  let serial := rdLe rd 16 4
  let slot := rdLe rd 22 1
  let rseg := (segs.filter fun g => g.typ == 3).map (·.tgt)
  let idm := rdLe rd 12 4
  if rdLe rd 4 1 ≠ 0 ∨ rdLe rd 5 1 ≠ 2 ∨ rdLe rd 6 1 ≠ kind ∨ len % 16 ≠ 0 ∨ len < 272 ∨ nseg = 0 ∨ 24 < nseg
      ∨ !((List.range (24 - min nseg 24)).all fun i => rdLe rd (32 + 8 * (nseg + i)) 8 == 0)
      ∨ !(segs.all (segOk kind)) ∨ !segsAscend len 256 segs ∨ rseg.eraseDups.length ≠ rseg.length ∨ maskOf rseg ≠ rgn
      ∨ 1 < (segs.filter fun g => g.typ == 4).length ∨ serial = 0 ∨ 99999999 < serial ∨ (stn % 2 = 1) ≠ (kind = 1)
      ∨ (kind = 2 ∧ stn ≠ 0) ∨ 16 ≤ stn then (rFormat, none)
  else if !sizeOk internal len segs then (rSize, none)
  else if (idcodeC ^^^ rdLe rd 8 4) &&& idm ≠ 0 ∨ idm &&& 0x0FFFFFFE ≠ 0x0FFFFFFE ∨ rdLe rd 7 1 / 4 % 2 = 0
      ∨ rdLe rd 30 1 / 2 ^ s.ownAddr % 2 = 0 then (rIdentity, none)
  else if rdLe rd 21 1 ≠ 2 ∨ 1 < rdLe rd 20 1 then (rIsa, none)
  else if h : rdLe rd 23 1 ≠ 1 ∨ 4 ≤ slot then (rKey, none)
  else
    let k : Fin 4 := ⟨slot, by omega⟩
    if s.fld .CFG_KEY_STATE k ≠ 1 then (rKey, none)
    else if hmacSha256 (keyBytes s.boot.keys[k]) (rd 0 224 ++ rd 256 (len - 256)) ≠ rd 224 32 then (rTag, none)
    else
      let im : Image := ⟨false, kind, serial, rdLe rd 21 1, rdLe rd 20 1, slot, rgn, stn, [], [], [], none, [], []⟩
      match foundImage rd segs im with
      | some i => (rPassed, some i)
      | none => (rContent, none)

/-- Checks 4, 5 and 9 of a monolithic stream (R536). Its regions are those it has segments of; its stations are found from
what it assigns. -/
def checkMono (rd : Rdr) (internal : Bool) (kind : Nat) : Nat × Option Image :=
  let len := rdLe rd 4 4
  if kind ≠ 1 ∨ len % 16 ≠ 0 ∨ len < 48 ∨ rdLe rd 8 8 ≠ 0 then (rFormat, none)
  else match monoSegs rd (len - 16) (len / 16) 16 with
    | none => (rFormat, none)
    | some segs =>
      let rseg := (segs.filter fun g => g.typ == 3).map (·.tgt)
      if segs.isEmpty ∨ rseg.eraseDups.length ≠ rseg.length ∨ 1 < (segs.filter fun g => g.typ == 4).length then (rFormat, none)
      else if !sizeOk internal len segs then (rSize, none)
      else if crc32 (rd 0 (len - 16)) ≠ rdLe rd (len - 16) 4 ∨ rdLe rd (len - 12) 12 ≠ 0 then (rTag, none)
      else match foundImage rd segs ⟨true, 1, 0, 2, 1, 0, maskOf rseg, 0, [], [], [], none, [], []⟩ with
        | some i => (rPassed, some i)
        | none => (rContent, none)

/-- Checks 2 to 9. -/
def State.checkStream (s : State) (rd : Rdr) (internal : Bool) (kind : Nat) : Nat × Option Image :=
  let m := rd 0 4
  if m == magicUmyr then s.checkHeader rd internal kind
  else if m == magicUmym then
    if !s.flag .CFG_STAT_DEVALLOW then (rNoheader, none) else checkMono rd internal kind
  else (rNostream, none)

/-- R532: an internal slot that is skipped without being read. -/
def State.slotSkipped (s : State) (b : Nat) : Bool :=
  let sects := (List.range 16).map (32 * b + ·)
  s.flashBankBad b || sects.any fun n =>
    s.sectState n == sectBad || s.sectState n == sectQuar || s.flash.lost.any (fun op => op.sect == n)
      || s.flash.ops.any (fun op => op.sect == n)

/-- CFG_MISO is constant through the first 32 bytes. -/
def misoDead (l : List Byte) : Bool :=
  let h := l.take 32
  h.all (· == 0) || h.all (· == 0xFF)

/-- A full image at source `src` (0 A, 1 B, 2 SPIA, 3 SPIB): checks 1 to 9. -/
def State.checkSource (s : State) (src : Nat) (ext : List Byte) : Nat × Option Image :=
  if src < 2 then (if s.slotSkipped src then (rRead, none) else s.checkStream (s.slotRdr src) true 1)
  else if misoDead ext then (rRead, none)
  else s.checkStream (extRdr ext) false 1

/-! ## Check 10 (R540) -/

/-- Table 13.1: SUB and PAR of a cell. -/
def cellBad (c : CellCfg) : Bool :=
  match c.mode with
  | 0 | 7 => c.sub != 0 || c.par != 0
  | 1 => c.sub != 0 || 65536 ≤ c.par || !(decide (-16384 ≤ toSigned 16 c.par) && decide (toSigned 16 c.par ≤ 16384))
  | 2 => c.sub != 0 || c.par % 256 == 0 || 12 < c.par / 256 % 16 || 8192 ≤ c.par
  | 3 => c.sub != 0 || 200 < c.par % 256 || 512 ≤ c.par
  | 4 => 3 < c.sub || 20480 < c.par % 65536 || c.par / 65536 < 4 || 160 < c.par / 65536
  | 5 => 1 < c.sub || (if c.sub = 0 then c.par != 0 else c.par == 0 || 255 < c.par)
  | 6 => 2 < c.sub || c.par != 0
  | _ => true

/-- The configuration of regions breaks Table 13.1, R346, R347, R350 or, in a full image, R353. -/
def State.regionsBad (s : State) (l : List (Nat × RegionCfg)) (full : Bool) : Bool :=
  let routes := l.flatMap fun e => e.2.routes
  (l.any fun e => e.2.cells.any cellBad || (full && (15 < e.2.clkDiv || 1 < e.2.clkSrc || e.2.settle == 0 || 255 < e.2.settle)))
    || s.tripMaskBad l || (if full then s.routeErr routes else s.routeErr (s.imageRoutes l)).isSome

/-- Errors of a `REG` write that fail the check. -/
def contentErrs : List Nat := [301, 511, 512, 513, 540, 704]

/-- A REG entry as a write of the whole register: the error it would be refused with, or the state it leaves. -/
def State.regEntry (s : State) (e : Nat × Nat) : Except Nat State :=
  if !inRegBlocks e.1 ∨ e.1 % 4 ≠ 0 then .error 301
  else match regAt e.1 with
    | none => .ok s
    | some (r, i, j) =>
      let w := wholeWrite r i j e.2
      match s.wrErr w with
      | some n => if contentErrs.contains n then .error n else .ok s
      | none => .ok (if r = .FCH_CFG then (s.putWr w).fixPair i else s.putWr w)

/-- The entries in stream order, each judged against the state left by those before it. -/
def State.regEntriesOk (s : State) : List (Nat × Nat) → Option State
  | [] => some s
  | e :: l => match s.regEntry e with
    | .ok t => t.regEntriesOk l
    | .error _ => none

/-- The stations to which a resource is assigned (R23). -/
def State.stationsUsed (s : State) (im : Image) : List Nat :=
  let codes := (List.range 6).map (s.fld .SYS_CASN_STN ·) ++ (List.range 2).map (s.fld .ENC_HWCFG_STN ·)
    ++ (List.range 24).map s.chanStn ++ (List.range 16).map (s.fld .DAC_CFG_STN ·) ++ (List.range 4).map (s.fld .EXC_CFG_STN ·)
    ++ (List.range 64).map (s.fld .FIO_CFG_STN ·) ++ (List.range 8).map s.rgnStn
    ++ (List.range 160).map (fun i => fldOf (s.reg .SYS_SPG (i / 8) 0) ⟨.SYS_SPG, 4 * (i % 8), 3, .rw, false, []⟩)
    ++ im.axes ++ im.encs
  codes.filter (· < 4)

/-- A monolithic image configures S0 and every station that it assigns something to. -/
def State.imageStations (s : State) (im : Image) : Nat := if im.mono then maskOf (0 :: s.stationsUsed im) else im.stn

/-- The axes and encoder receivers as the image assigns them. -/
def Image.axisStn (im : Image) : Vector (Option (Fin 4)) 12 :=
  Vector.ofFn fun (a : Fin 12) => let n := im.axes.getD a 7; if h : n < 4 then some ⟨n, h⟩ else none

def Image.encStn (im : Image) : Vector Nat 12 := Vector.ofFn fun (n : Fin 12) => let c := im.encs.getD n 7; if c ≤ 4 then c else 7

/-- The state on which an image is judged: registers at reset, every station there and IDLE, and its own axes and encoder
receivers. A station that it has no right to is found by its mask. -/
def State.blankRegs (s : State) (im : Image) : State :=
  let keep (a : Nat) : Bool := 0x40010000 ≤ a && a < 0x40020000
  { s with regs := s.regs.filter fun e => keep e.1, ringChg := [], tickSet := []
           conf := ⟨im.serial, Vector.replicate 4 true, im.axisStn, im.encStn⟩ }

/-- The stations that an image gives its axes and its encoder receivers, one code each: 0 to 3, 4 the board, 7 none. The spec
says that the image assigns them and not where, so the row that verifies a candidate carries them (log entry 29). -/
def Image.withOwners (im : Image) (axes encs : List Nat) : Image := { im with axes := axes, encs := encs }

/-- R22: each configured station owns 1 to 6 axes, and an axis belongs to a station or to none. Nothing is judged where no
assignment is at hand. -/
def State.axesBad (s : State) (im : Image) : Bool :=
  let own (k : Nat) : Nat := (im.axes.filter (· == k)).length
  !im.axes.isEmpty && (im.axes.length != 12 || !(im.axes.all fun c => decide (c < 4) || c == 7)
    || (List.range 4).any fun k => s.imageStations im / 2 ^ k % 2 == 1 && (own k == 0 || decide (6 < own k)))

/-- Check 10 of a full image. -/
def State.contentBad (s : State) (im : Image) : Bool :=
  match (s.blankRegs im).regEntriesOk im.regs with
  | none => true
  | some t =>
    t.regionsBad im.regions true
      || (im.pages.any fun e => 4 < fldOf (t.reg .SYS_SPG (e.1 / 8) 0) ⟨.SYS_SPG, 4 * (e.1 % 8), 3, .rw, false, []⟩)
      || ((t.stationsUsed im).any fun k => t.imageStations im / 2 ^ k % 2 == 0) || t.axesBad im

/-! ## What a commit applies (Table 20.5, step 3) -/

/-- The configuration that no register holds. -/
def confOf (s : State) (im : Image) : Config :=
  let m := s.imageStations im
  ⟨im.serial, Vector.ofFn fun (k : Fin 4) => m / 2 ^ k.val % 2 == 1,
    im.axisStn, im.encStn⟩

/-- The writes of the REG entries that pass, in stream order. -/
def State.entryWrites (t : State) : List (Nat × Nat) → List RegWr
  | [] => []
  | e :: l =>
    let rest := match t.regEntry e with
      | .ok t' => t'.entryWrites l
      | .error _ => t.entryWrites l
    match regAt e.1 with
    | some (r, i, j) => if (t.wrErr (wholeWrite r i j e.2)).isNone then wholeWrite r i j e.2 :: rest else rest
    | none => rest

/-- REG entries, initial page contents, owner keys and the configuration. -/
def State.applyImage (s : State) (im : Image) : State :=
  let s := forAll ((s.blankRegs im).entryWrites im.regs) s fun s w =>
    let s := s.putWr w
    if w.r = .FCH_CFG then s.fixPair w.i else s
  let s := im.pages.foldl (fun s e => s.memPut ((if e.1 < 80 then e.1 else e.1 + 48) * 0x4000) e.2) s
  -- R54: NEXT equals RATE while nothing waits.
  let s := s.setFld .LAT_CTRL_NEXT 0 0 (s.fld .LAT_CTRL_RATE)
  let own := im.owners.getD [0, 0, 0, 0, 0]
  let j := { s.jrn with imgBoardKey := own.getD 0 0, imgStnKey := Vector.ofFn fun (k : Fin 4) => own.getD (k.val + 1) 0 }
  { s with jrn := j, conf := confOf s im }

/-! ## Region images at run time (R549, R550) -/

/-- The chain of a slot: the offsets of its streams after the full image, with fuel. -/
def chain (rd : Rdr) (size : Nat) : Nat → Nat → List Nat
  | 0, _ => []
  | f + 1, at_ =>
    if size ≤ at_ + 256 ∨ rd at_ 4 ≠ magicUmyr then []
    else
      let len := rdLe rd (at_ + 24) 4
      if len = 0 then [at_] else at_ :: chain rd size f (at_ + len)

/-- The offset of the first region image with serial `n` in a slot. -/
def findRegion (rd : Rdr) (n : Nat) : Option Nat :=
  let first := if rd 0 4 == magicUmyr then rdLe rd 24 4 else if rd 0 4 == magicUmym then rdLe rd 4 4 else 0
  if first = 0 then none
  else (chain rd 1048576 4096 first).find? fun at_ => rdLe rd (at_ + 6) 1 == 2 && rdLe rd (at_ + 16) 4 == n

/-- The slots that `IMAGE STAGE` searches, in order: a slot that cannot be read holds nothing. -/
def State.stageSlots (s : State) (slot : Option (Fin 2)) : List Rdr :=
  let internal (b : Nat) : List Rdr := if s.slotSkipped b then [] else [s.slotRdr b]
  match slot with
  | some b => internal b
  | none =>
    let src := s.fld .CFG_STAT_SRC
    if src < 2 then internal src ++ internal (1 - src) else externalRdr (src - 2) :: internal 0 ++ internal 1

/-- The stream that `IMAGE STAGE` takes. -/
def State.stageFind (s : State) (n : Nat) (slot : Option (Fin 2)) : Option Rdr :=
  (s.stageSlots slot).findSome? fun rd => (findRegion rd n).map fun at_ => fun off m => rd (at_ + off) m

def stagingSize : Nat := 114688

/-- The lowest free space that holds `len` bytes whole. -/
def freeSpace (l : List Staged) (len : Nat) : Option Nat :=
  let starts := 0 :: l.map fun g => g.off + g.len
  let ok (a : Nat) : Bool := a + len ≤ stagingSize && l.all fun g => a + len ≤ g.off || g.off + g.len ≤ a
  (starts.filter ok).foldl (fun best a => match best with
    | some b => some (min a b)
    | none => some a) none

/-- CFG_STG, CFG_STGSER and CFG_STGINF follow. -/
def State.showStaged (s : State) : State :=
  let s := s.setFld .CFG_STG_USED 0 0 ((s.staged.map (·.len)).foldl (· + ·) 0)
  let s := s.setFld .CFG_STG_COUNT 0 0 (min 15 s.staged.length)
  (List.range 16).foldl (fun s j =>
    match s.staged[j]? with
    | some g => ((s.setFld .CFG_STGSER_SERIAL j 0 g.serial).setFld .CFG_STGINF_RGNMASK j 0 g.mask).setFld .CFG_STGINF_LEN j 0
        (g.len / 16) |>.setFlag .CFG_STGINF_VALID j 0 true
    | none => ((s.setFld .CFG_STGSER_SERIAL j 0 0).setFld .CFG_STGINF_RGNMASK j 0 0).setFld .CFG_STGINF_LEN j 0 0
        |>.setFlag .CFG_STGINF_VALID j 0 false) s

/-- The authority of REGION LOAD (R362), by the image found. -/
def State.cfgPermit (s : State) (o : Origin) (l : List (Nat × RegionCfg)) : Bool :=
  l.all fun e => s.hasAuth o (s.rgnStn e.1) && e.2.routes.all fun c => s.hasAuth o (s.sinkOwner c.1)

def State.stagePermit (s : State) (o : Origin) (n : Nat) (slot : Option (Fin 2)) : Bool :=
  match s.stageFind n slot with
  | some rd => (s.originAuth o).any && (maskBits (rdLe rd 28 1)).all fun r => r ≥ 8 || s.hasAuth o (s.rgnStn r)
  | none => (s.originAuth o).any

/-- R549: an image is found, checked and staged. -/
def State.stage (s : State) (n : Nat) (slot : Option (Fin 2)) : Except Nat State × Nat :=
  if (s.findStaged n).isSome then (.ok s, rPassed)
  else match s.stageFind n slot with
    | none => (.error 552, rPassed)
    | some rd =>
      match s.checkStream rd true 2 with
      | (0, some im) =>
        if s.regionsBad im.regions false then (.error 554, rContent)
        else
          let len := rdLe rd 24 4
          match freeSpace s.staged len with
          | some a =>
            if 16 ≤ s.staged.length then (.error 315, rPassed)
            else
              let t : State := { s with staged := s.staged ++ [⟨n, im.rgn, a, len, im.regions⟩] }
              (.ok t.showStaged, rPassed)
          | none => (.error 315, rPassed)
      | (r, _) => (.error 554, r)

def workImageStage (o : Origin) (n : Nat) (slot : Option (Fin 2)) (s : State) : Work :=
  { permit := s.stagePermit o n slot
    run := fun _ s =>
      match s.stage n slot with
      | (.ok t, _) => .done t
      | (.error e, r) => .fail e (if e = 554 then s.setFld .CFG_STAT_SREASON 0 0 r else s) }

def execImageStage (o : Origin) (n : Nat) (slot : Option (Fin 2)) (s : State) : Host.Outcome State Fault Refusal :=
  .next (s.offer o (.imageStage o n slot) (workImageStage o n slot s))

def State.unstageErr (s : State) (n : Nat) : Option Nat :=
  if (s.findStaged n).isNone then some 552 else if s.loads.any fun l => l.img == n then some 537 else none

def workImageUnstage (o : Origin) (n : Nat) (s : State) : Work :=
  { permit := match s.findStaged n with
      | some g => s.cfgPermit o g.cfg
      | none => (s.originAuth o).any
    chk := s.unstageErr n
    run := fun _ s =>
      match s.unstageErr n with
      | some e => .fail e s
      | none => .done ({ s with staged := s.staged.filter fun g => g.serial != n } : State).showStaged }

def execImageUnstage (o : Origin) (n : Nat) (s : State) : Host.Outcome State Fault Refusal :=
  .next (s.offer o (.imageUnstage o n) (workImageUnstage o n s))

/-! ## Policy, keys and the fuse (R531, R537, R538, R551) -/

def State.policyErr (s : State) (sets : List FieldSet) : Option Nat := s.wrErr (fieldWrites .CFG_POLICY 0 0 (sets.map fun e => (e.fld, e.val)))

def workImagePolicy (o : Origin) (sets : List FieldSet) (s : State) : Work :=
  { permit := (s.originAuth o).brd
    chk := s.policyErr sets
    run := fun _ s =>
      let w := fieldWrites .CFG_POLICY 0 0 (sets.map fun e => (e.fld, e.val))
      match s.wrErr w with
      | some e => .fail e s
      | none => .done ((s.putWr w).noteWr w) }

def execImagePolicy (o : Origin) (sets : List FieldSet) (s : State) : Host.Outcome State Fault Refusal :=
  .next (s.offer o (.imagePolicy o sets) (workImagePolicy o sets s))

def State.keySetErr (s : State) (k : Fin 4) : Option Nat := if s.fld .CFG_KEY_STATE k ≠ 0 then some 553 else none

def workImageKeySet (o : Origin) (k : Fin 4) (key : Nat) (s : State) : Work :=
  { permit := (s.originAuth o).brd
    chk := s.keySetErr k
    run := fun _ s =>
      match s.keySetErr k with
      | some e => .fail e s
      | none =>
        let s : State := { s with boot := { s.boot with keys := s.boot.keys.set k (key % 2 ^ 256) } }
        .done ((s.setFld .CFG_KEY_STATE k 0 1).setFld .CFG_KFP_FP k 0 (fingerprint (key % 2 ^ 256))) }

def execImageKeySet (o : Origin) (k : Fin 4) (key : Nat) (s : State) : Host.Outcome State Fault Refusal :=
  .next (s.offer o (.imageKeySet o k key) (workImageKeySet o k key s))

def State.revokeErr (s : State) (k : Fin 4) : Option Nat :=
  match s.boot.run with
  | some im => if !im.mono && im.slot == k.val then some 553 else none
  | none => none

def workImageKeyRevoke (o : Origin) (k : Fin 4) (s : State) : Work :=
  { permit := (s.originAuth o).brd
    chk := s.revokeErr k
    run := fun _ s =>
      match s.revokeErr k with
      | some e => .fail e s
      | none => .done ((s.setFld .CFG_KEY_STATE k 0 2).setFld .CFG_KFP_FP k 0 0) }

def execImageKeyRevoke (o : Origin) (k : Fin 4) (s : State) : Host.Outcome State Fault Refusal :=
  .next (s.offer o (.imageKeyRevoke o k) (workImageKeyRevoke o k s))

def State.lockErr (s : State) : Option Nat := if s.flag .CFG_STAT_DEV then some 555 else none

def workImageLock (o : Origin) (s : State) : Work :=
  { permit := (s.originAuth o).brd
    chk := s.lockErr
    run := fun _ s =>
      match s.lockErr with
      | some e => .fail e s
      | none => .done (s.setFlag .CFG_STAT_DEVALLOW 0 0 false) }

def execImageLock (o : Origin) (s : State) : Host.Outcome State Fault Refusal :=
  .next (s.offer o (.imageLock o) (workImageLock o s))

/-! ## Queries (R551) -/

def srcName (n : Nat) : String := ["A", "B", "SPIA", "SPIB"].getD n "A"
def slotName (n : Nat) : String := if n = 0 then "A" else "B"
def keyStateName (n : Nat) : String := ["EMPTY", "SET", "REVOKED"].getD n "EMPTY"

/-- A fingerprint as `hhhh-hhhh`. -/
def fpText (v : Nat) : String := String.ofList (hexDigits 4 (v / 65536) ++ '-' :: hexDigits 4 v)

/-- The lines of `IMAGE?`. The loader console has no STAGED lines. -/
def State.imageLines (s : State) (console : Bool) : List (List Fd) :=
  let run := s.boot.run
  let h2 (n : Nat) : String := "0x" ++ String.ofList (hexDigits 2 n)
  let regions := (run.map (·.rgn)).getD 0
  let stns := maskOf ((List.range 4).filter fun k => run.isSome && s.configured k)
  [[.s "IMAGE", .s "SERIAL", .w8 (s.fld .CFG_SERIAL_SERIAL), .s "SRC", .s (srcName (s.fld .CFG_STAT_SRC)), .s "FALLBACK",
    .n (s.fld .CFG_STAT_FALLBACK), .s "DEV", .n (s.fld .CFG_STAT_DEV), .s "ISA", .s "2.1", .s "REGIONS", .s (h2 regions),
    .s "STATIONS", .s ("0x" ++ String.ofList (hexDigits 1 stns))]]
  ++ ((List.range 4).filter fun i => s.flag .CFG_TRY_TRIED i).map (fun (i : Nat) =>
    [.s "TRY", .n i, .s "SRC", .s (srcName (s.fld .CFG_TRY_SRC i)), .s "REASON", .s (reasonName (s.fld .CFG_TRY_REASON i))])
  ++ [[.s "POLICY", .s "BOOT", .s (slotName (s.fld .CFG_POLICY_BOOT)), .s "FALLBACK",
    .s (if s.flag .CFG_POLICY_FALLBACK then "ON" else "OFF"), .s "WAIT", .n (s.fld .CFG_POLICY_WAIT), .s "DEVALLOW",
    .n (s.fld .CFG_STAT_DEVALLOW)]]
  ++ (List.range 4).map (fun (k : Nat) =>
    [.s "KEY", .n k, .s "STATE", .s (keyStateName (s.fld .CFG_KEY_STATE k))]
      ++ (if s.fld .CFG_KEY_STATE k = 1 then [.s "FP", .s (fpText (s.fld .CFG_KFP_FP k))] else []))
  ++ (if console then [] else s.staged.map fun g =>
    [.s "STAGED", .n g.serial, .s "LEN", .n g.len, .s "REGIONS", .s (h2 g.mask)])

def execImageQuery (o : Origin) (s : State) : Host.Outcome State Fault Refusal :=
  .next (s.askPure o none (s.originAuth o).any fun s => (0, s.imageLines false))

def execImageCheck (o : Origin) (src : Fin 4) (ext : List Byte) (s : State) : Host.Outcome State Fault Refusal :=
  .next (s.askPure o none (s.originAuth o).any fun s =>
    let r := (s.checkSource src ext).1
    let n := if r = rRead then 0 else if src.val < 2 then headSerial (s.slotRdr src) else headSerial (extRdr ext)
    (0, [[.s "CHECK", .s (srcName src), .s "SERIAL", .w8 n, .s "REASON", .s (reasonName r)]]))

/-! ## The loader console (R547) -/

/-- A status line of the console. -/
def State.consoleSay (s : State) (e : Nat) : State := s.portLine 0 (if e = 0 then .ok .none false else .er .none e false)

/-- `IMAGE PUT`: 1 to 16 words at an offset of the buffer. -/
def execImagePut (off : Nat) (ws : List Nat) (s : State) : Host.Outcome State Fault Refusal :=
  .next (if !(s.phase == .console) then s
    else if ws.isEmpty ∨ 16 < ws.length ∨ off % 4 ≠ 0 ∨ 1048576 < off + 4 * ws.length ∨ ws.any (fun w => 2 ^ 32 ≤ w) then
      s.consoleSay 511
    else
      let bytes := ws.flatMap (leBytes 4 ·)
      let buf := (List.range bytes.length).foldl (fun b i =>
        let v := bytes.getD i 0
        sparsePut b (off + i) (if v = 0 then none else some v)) s.boot.buf
      ({ s with boot := { s.boot with buf := buf } } : State).consoleSay 0)

/-- The granules of a stream, by sector. -/
def streamOps (base : Nat) (bytes : Nat → List Byte) (len : Nat) : List FlashOp :=
  (List.range ((len + 65535) / 65536)).map fun n =>
    let cnt := min 4096 ((len - n * 65536) / 16)
    ⟨.program, sectOf (base + n * 65536), (List.range cnt).map fun g =>
      (base + n * 65536 + 16 * g, bytes (n * 65536 + 16 * g)), none, false⟩

/-- `IMAGE WRITE`: the buffer is checked as a candidate for the slot, and written. The answer follows the last operation. -/
def execImageWrite (slot : Fin 2) (s : State) : Host.Outcome State Fault Refusal :=
  .next (if !(s.phase == .console) || !s.flash.ops.isEmpty then s
    else if s.flashBankBad slot then s.consoleSay 432
    else
      match s.checkStream s.bufRdr true 1 with
      | (0, some im) =>
        if s.contentBad im then s.consoleSay 554
        else
          let len := rdLe s.bufRdr (if im.mono then 4 else 24) 4
          let erases := (List.range 16).map fun n => (⟨.erase, 32 * slot.val + n, [], none, false⟩ : FlashOp)
          s.flashQueue (erases ++ streamOps (slotBase slot) (fun off => s.bufRdr off 16) len)
      | _ => s.consoleSay 554)

end Sys2Proof.Machine
end

