-- ==== Sys2Proof/Machine/Resets.lean ====
section
/-! DEFINITION. Resets: what each kind preserves, close-downs, the warm reset, and replay
(spec/21_power_domains.md; spec/03_work_guarantee.md, Tables 3.6 to 3.9; spec/19_storage_and_journal.md, R507, R508, R516, R527). -/
namespace Sys2Proof.Machine
open Sys2Proof

def setPwr (s : State) (f : PowerSt → PowerSt) : State := { s with pwr := f s.pwr }
def setBoot (s : State) (f : BootSt → BootSt) : State := { s with boot := f s.boot }

/-! ## Stations through a reset (R197, R198, R204, R219) -/

/-- A station in IDLE, HELD or TRIPPED. -/
def State.atRest (s : State) (k : Fin 4) : Bool :=
  !s.configured k || s.stnState k == stIdle || s.stnState k == stHeld || s.stnState k == stTripped

def State.allAtRest (s : State) : Bool := (List.finRange 4).all fun (k : Fin 4) => s.atRest k

/-- R260: a close-down journals the measured counts. -/
def State.journalCounts (s : State) : State := forAll (List.finRange 12) s fun s a => s.setAxis a fun x => { x with jcount := x.count }

/-- A handshake whose finish was not journalled is due again, with MREP (R197). -/
def redoHand (m : StnMot) : List Hand :=
  match m.hand with
  | some h => if h.step == .clearing then m.hands else { h with step := .due, at_ := 0, late := false, rep := true } :: m.hands
  | none => m.hands

/-- What any reset leaves of a station: its blocks, its reader and the path point, and no motion. -/
def stnThrough (m : StnMot) : StnMot :=
  { m with mdiModal := modalReset, mdiCount := 0, hand := none, hands := redoHand m, brake := none, resume := none
           spinNow := 0, spinFine := 0, spinAcc := 0, delay := false, starved := false, spinWait := false
           vel := 0, acc := 0, app := none, reqs := [], recDue := false
           reader := m.reader.map fun r => { r with ext := r.ext.map fun e => { e with asked := false } } }

/-- A jog that a reset interrupts: an incremental one keeps its item and target, as at a trip. -/
def axisThrough (x : AxisSt) : AxisSt :=
  { x.jogStops with
           lossLeft := 0, lossCause := 0, feTicks := 0, amplTicks := 0, tachTicks := 0, satTicks := 0
           integ := 0, integV := 0, own := none }

/-! ## A cold or KEEP-loss reset (Table 21.4) -/

/-- Registers that no reset clears: fuses, marks and counts that the journal, the flash and the key cells hold. -/
def fixedRegs : List Nat :=
  [regAddr .SYS_SRAM 0 0, regAddr .FLS_ARCH 0 0, regAddr .JRN_LSN 0 0, regAddr .JRN_LIVE 0 0, regAddr .JRN_WEAR 0 0]
    ++ (List.range 4).flatMap (fun (k : Nat) => [regAddr .CFG_KEY k 0, regAddr .CFG_KFP k 0, regAddr .FLS_SECT k 0])
    ++ (List.range 64).map fun (n : Nat) => regAddr .FLS_ECNT n 0

/-- The blocks PWR, TC and PNL lie in KEEP (R34, R423, R580). -/
def inKeep (a : Nat) : Bool :=
  a / 0x10000 == regAddr .PWR_STAT 0 0 / 0x10000 || a / 0x10000 == regAddr .TC_STATUS 0 0 / 0x10000
    || a / 0x10000 == regAddr .PNL_CALC 0 0 / 0x10000

/-- Fields that keep their value in registers that are otherwise reset: failed marks, and REFD until replay (R260). -/
def fixedFlds : List (Fld × Nat) :=
  [(.FLS_STAT_FAIL0, 0), (.FLS_STAT_FAIL1, 0), (.FLS_STAT_QUAR, 0), (.JRN_STAT_AFAIL, 0), (.JRN_STAT_BFAIL, 0),
    (.JRN_STAT_FILL, 0), (.CFG_STAT_DEVALLOW, 0), (.ADC_REF_ACT, 0), (.ADC_REF_FAILA, 0), (.ADC_REF_FAILB, 0)]
    ++ (List.range 16).map (fun (n : Nat) => (.ADC_PSTAT_FAILED, n)) ++ (List.range 8).map (fun (n : Nat) => (.ADC_FSTAT_FAILED, n))
    ++ (List.range 64).map (fun (n : Nat) => (.FIO_STAT_FAILED, n)) ++ (List.range 12).map fun (a : Nat) => (.MOT_AXCTL_REFD, a)

/-- Registers after a cold reset, or one with loss of KEEP. -/
def State.coldRegs (s t : State) (keepLost : Bool) : State :=
  let fixed := fixedRegs
  let t := { t with regs := s.regs.filter fun e => fixed.contains e.1 || (!keepLost && inKeep e.1) }
  let t := forAll fixedFlds t fun t e => t.setFld e.1 e.2 0 (s.fld e.1 e.2)
  let t := forAll (List.range 6) t fun t c => if s.fld .SYS_CSTAT_STATE c = 4 then t.setFld .SYS_CSTAT_STATE c 0 4 else t
  let t := forAll (List.range 4) t fun t k => (t.setFld .PWR_IDLE_NOW k 0 0).setFld .MOT_XSLOT_ADDR k 0
    ((if t.flag .SYS_SRAM_FAIL0 then 0x340400 else 0x140400) + 0x200 * k)
  let t := (t.setFlag .TC_STATUS_REFOK 0 0 false).setFlag .TC_STATUS_COARSE 0 0 true
  let t := ((t.setFlag .TC_STATUS_SYNCED 0 0 false).setFlag .TC_STATUS_REFALT 0 0 false).setFlag .TC_STATUS_REFLOST 0 0 false
  let t := t.setFld .PWR_DOM_ON 0 0 (if t.flag .PWR_DOM_OBSEN then 0xFF else 0x7F)
  -- R410, R409: every DAC is at its safe value, and clamped until commit.
  forAll (List.range 16) t fun t n => ((t.setFlag .DAC_HOLD_SAFE n 0 true).setFlag .DAC_OUT_SAFE n 0 true).setFlag .DAC_STAT_CLAMP n 0 true

/-- Flash operations that a reset abandons (R516): those in progress or suspended, which have an INTENT. -/
def abandonFlash (f : FlashSt) : FlashSt := { f with ops := [], lost := f.lost ++ f.ops.take 1, wait := [] }

/-- Table 21.4: the state in which a cold reset holds the part. `keepLost` says that KEEP was lost too. -/
def State.coldReset (s : State) (keepLost : Bool) : State :=
  let s := s.commitInFlight
  let r := State.reset
  let t : State := { r with
    clk := { r.clk with now := if keepLost then 0 else s.clk.now, tick := if keepLost then 0 else s.clk.tick }
    jrn := { s.jrn with queue := [], ready := [], imgBoardKey := 0, imgStnKey := Vector.replicate 4 0
                        chk := s.jrn.chk.map fun c => c.map fun c => { c with seen := Vector.replicate 4 0 } }
    ev := { r.ev with tripIn := s.ev.tripIn }
    tape := { s.tape with buf := [], want := false, started := false, seek := false }
    rtc := if keepLost then none else s.rtc
    freeCtr := s.freeCtr
    mem := s.mem.filter fun c => 0x10000000 ≤ c.1
    progs := s.progs
    mot := s.mot.map fun m => { stnThrough m with trips := [], lam := m.lastRec.lam, holdReq := false, stopReq := false, ot := 0
                                                  lastRec := { m.lastRec with at_ := if keepLost then 0 else m.lastRec.at_ } }
    axis := Vector.ofFn fun (a : Fin 12) =>
      { axisReset a with jcount := (s.axis[a]).jcount, ofs := (s.axis[a]).ofs, bkPlus := (s.axis[a]).bkPlus
                         jogHeld := (axisThrough s.axis[a]).jogHeld }
    calcu := if keepLost then r.calcu else s.calcu
    lnk := { r.lnk with
      port := s.lnk.port.map fun p => { linkPortReset with bad := p.bad }
      nextTxn := s.lnk.nextTxn, oser := s.lnk.oser, txns := s.lnk.txns, mcs := s.lnk.mcs, staged := s.lnk.staged
      open_ := s.lnk.open_ }
    flash := { abandonFlash s.flash with restAt := if keepLost then 0 else s.clk.now }
    sram := { r.sram with reloc := s.sram.reloc, lost := s.sram.lost }
    boot := { r.boot with keys := s.boot.keys }
    pwr := { r.pwr with keep := s.pwr.keep, cause := s.pwr.cause, closed := s.pwr.closed }
    tap := s.tap
    pending := s.pending }
  s.coldRegs t keepLost

/-- A failed link port shows as failed (R472). -/
def linkBad (s : State) : State :=
  forAll (List.finRange 2) s fun s (p : Fin 2) => if (s.lnk.port[p]).bad then s.setFld .OLK_PSTAT_STATE p 0 3 else s

/-- A cold reset with its cause; `closed` says that a close-down came before it. -/
def State.goCold (s : State) (cause : Nat) (closed : Bool) : State :=
  linkBad ((setPwr s fun p => { p with cause := cause, closed := closed }).coldReset false)

/-! ## Close-downs (R80, R81, R141, Tables 3.7 and 3.8) -/

/-- R49: a warm reset holds VCORE at 1.05 V from its trigger. -/
def State.vcoreMax (s : State) : State := s.vcoreTo 70

/-- A close-down with STOP begins (Table 3.8, steps 1 and 2): acceptance stops, and stations in motion begin STOP. -/
def State.beginClose (s : State) (kind : ResetKind) (cause : Nat) : State :=
  let s := s.dropQueue 4
  let s := setPwr { s with phase := .closing, stopped := true } fun p => { p with closing := some (kind, cause), wdt := none, closeAt := s.clk.now }
  let w := kind == .warm
  let s : State := { s with lat := { s.lat with resetHold := s.lat.resetHold || w, vfree := s.lat.vfree && !w } }
  let s := if kind = .warm then (s.vcoreMax).bump .PWR_RCNT_WARM 0 0 1 else s
  forAll (List.finRange 4) s fun s (k : Fin 4) => if s.atRest k then s else s.beginStop k true none 0 true 4

/-- A warm reset is triggered. It acts only from commit, and not during a close-down (R431, R565, R567). -/
def State.warmTrigger (s : State) (cause : Nat) : State :=
  if s.committed && s.phase != .closing then s.beginClose .warm cause else s

/-- R141: the reset that an accepted RESET asked for begins, once its status line has left or 100 ms after acceptance, and its
item is done. -/
def execResetCommandBegin (s : State) : Host.Outcome State Fault Refusal :=
  .next (match s.resetReq with
    | none => s
    | some (k, kind) =>
      let late := (s.findItem k).any fun i => decide (i.acc + 100 * msCounts ≤ s.clk.now)
      if s.phase == .running && (s.statusSent k || late) then
        let s : State := { s with resetReq := none }
        (s.workDone k).beginClose kind Cause.CMD_RESET
      else s)

/-- R567: the watchdog period has ended without a kick. -/
def execWatchdog (s : State) : Host.Outcome State Fault Refusal :=
  .next (match s.pwr.wdt with
    | some t => if t ≤ s.clk.now then s.warmTrigger Cause.WATCHDOG else s
    | none => s)

/-- R430, R431: combination 0 has been held for its time. It acts from commit, and once per hold. -/
def execCombo0Fired (s : State) : Host.Outcome State Fault Refusal :=
  .next (if s.comboReady 0 && s.committed then (s.setFlag .PNL_KSTAT_C0ACT 0 0 true).warmTrigger Cause.COMBO_RESET else s)

/-- Table 3.8, step 3: a station that has not come to rest 2 s after the trigger trips. -/
def execWarmStop (k : Fin 4) (s : State) : Host.Outcome State Fault Refusal :=
  .next (if s.phase == .closing && !s.atRest k && decide (s.pwr.closeAt + 2000 * msCounts ≤ s.clk.now) then (s.tripStation k).raise .trip Cause.WARM_STOP k else s)

/-- R287: KEEP-only operation begins with the calculator's display blank. -/
def State.calcDark (s : State) : State := { s with calcu := { s.calcu with blank := true } }

/-- R563, R564: the end of a brown-out close-down. Every station goes to its safe state at the path point it has reached, the
closing records are written, the journal is sealed, and KEEP alone runs on. -/
def execBrownOut (det : Fin 6) (s : State) : Host.Outcome State Fault Refusal :=
  .next (match s.phase with
    | .off | .keepOnly => s
    | .inReset => { s.calcDark with phase := .keepOnly }
    | _ =>
      let s := s.bump .PWR_RCNT_BROWNOUT 0 0 1
      let s := if s.committed then
          forAll (List.finRange 4) s fun s (k : Fin 4) =>
            if s.configured k then
              let s := if s.atRest k then s.clampStation k else s.pathRecord k
              s.raise .trip Cause.BROWNOUT k (det := det.val)
            else s
        else s
      let t := (s.journalCounts.commitRec.goCold Cause.BROWNOUT true).calcDark
      { (t.setFlag .PWR_STAT_VINOK 0 0 false).setFld .PWR_DOM_ON 0 0 1 with phase := .keepOnly })

/-- R572: VKEEP has fallen below 0.80 V. KEEP is supplied from VIN24 or VHOLD while either can (R555). -/
def execKeepLoss (s : State) : Host.Outcome State Fault Refusal :=
  .next (if s.phase == .keepOnly then
    { linkBad ((setPwr s fun p => { p with keep := false, cause := s.pwr.cause }).coldReset true) with phase := .off }
  else s)

/-- R566, R565: nRESET. During a close-down with STOP of a warm reset it resets at once; during any other, the seal comes
first and ends in reset anyway. -/
def execNreset (s : State) : Host.Outcome State Fault Refusal :=
  .next (match s.phase with
    | .off | .keepOnly | .inReset => s
    | .closing =>
      match s.pwr.closing with
      | some (.warm, _) => s.goCold Cause.NRESET false
      | _ => s
    | _ => s.goCold Cause.NRESET false)

/-! ## The SRAM's reduced layout (R508) -/

def pageBase (i : Nat) : Nat := (if i < 80 then i else i + 48) * 0x4000

def State.spg (s : State) (i : Nat) : Nat := fldOf (s.reg .SYS_SPG (i / 8) 0) ⟨.SYS_SPG, 4 * (i % 8), 3, .rw, false, []⟩

/-- A page takes the initial contents that the running image gives page `i`. -/
def State.loadPage (s : State) (i j : Nat) : State :=
  let a := pageBase j
  let s := { s with mem := s.mem.filter fun c => !(decide (a ≤ c.1) && decide (c.1 < a + 0x4000)) }
  match s.boot.run.bind fun im => im.pages.find? fun e => e.1 == i with
  | some e => s.memPut a e.2
  | none => s

/-- Pages of the failed bank that are assigned move onto reserve pages of the surviving one, in ascending order. -/
def State.relocate (s : State) (b : Fin 2) : State :=
  let mine := (List.range 80).map fun (i : Nat) => 80 * b.val + i
  let other := (List.range 80).map fun (i : Nat) => 80 * (1 - b.val) + i
  let from_ := mine.filter fun (i : Nat) => s.spg i ≤ 4
  let dest := other.filter fun (i : Nat) => s.spg i == 6
  let pairs := from_.zip dest
  let lost := from_.drop pairs.length
  let s := { s with sram := { s.sram with reloc := pairs, lost := lost } }
  let s := (s.setFld .SYS_SRAM_RELOC 0 0 pairs.length).setFld .SYS_SRAM_LOST 0 0 lost.length
  forAll pairs s fun s e => s.loadPage e.1 e.2

/-- The layout follows the failed mark of a bank, if there is one. -/
def State.layout (s : State) : State :=
  let s := if s.flag .SYS_SRAM_FAIL0 then s.relocate 0 else if s.flag .SYS_SRAM_FAIL1 then s.relocate 1 else s
  if s.flag .SYS_SRAM_FAIL0 then
    forAll (List.range 4) s fun s k => s.setFld .MOT_XSLOT_ADDR k 0 (0x340400 + 0x200 * k)
  else s

/-- Rings that a reset of the ring area empties. -/
def State.emptyRings (s : State) (l : List Nat) : State :=
  forAll l s fun s r => (s.setFld .RING_PTR_PUT r 0 0).setFld .RING_PTR_GET r 0 0

/-- The block rings hold the entries of the blocks restored into them (R154). -/
def State.refillRings (s : State) : State :=
  forAll (List.finRange 4) s fun s k =>
    ((s.mot[k]).ring).foldl (fun s b => s.ringPut (blkRing k) b.entries) (s.emptyRings [blkRing k])

/-- R149: a ring is rebuilt: a block ring from the blocks that the journal restores, every other one empty. The sequence of an event
ring goes on. -/
def State.rebuildRing (s : State) (r : Fin 16) : State :=
  let s := s.emptyRings [r]
  if h : r.val < 4 then
    { s with ev := { s.ev with q := s.ev.q.set r.val [], dropped := s.ev.dropped.set r.val [] } }
  else if h : r.val - 4 < 4 then ((s.mot[r.val - 4]).ring).foldl (fun s b => s.ringPut r b.entries) s
  else if h : r.val - 8 < 2 then s.setPort ⟨r.val - 8, h⟩ fun q => { q with waiting := [] }
  else if h : r.val - 10 < 2 then s.setPort ⟨r.val - 10, h⟩ fun q => { q with rsp := [] }
  else if r.val = 12 then forAll [(0 : Fin 2), 1] s fun s p => s.setLPort p fun q => { q with queue := [] }
  else if r.val = 13 then s.setLnk fun l => { l with rx := l.rx.filter fun e => e.auth.isSome }
  else s

/-- R149, R154: at a warm reset the rings whose descriptor copies differed are rebuilt. -/
def State.rebuildRings (s : State) : State :=
  { s.ringMeta.foldl State.rebuildRing s with ringMeta := [] }

/-- R508: a failed bank's warm reset. Staged images go, and the rings stand in the surviving bank. -/
def State.reduce (s : State) : State :=
  let s := s.layout
  let s : State := { s with staged := [], dec := { decReset with mbx := Vector.replicate 6 [] }
                            ev := { s.ev with q := Vector.replicate 4 [], dropped := Vector.replicate 4 [] } }
  let s := (s.showStaged).emptyRings [0, 1, 2, 3, 8, 9, 10, 11, 12, 13, 14]
  let s := forAll (List.finRange 2) s fun s p => s.setPort p fun q =>
    { clearLine q with waiting := [], rsp := [], rspWait := [] }
  let s : State := { s with lnk := { s.lnk with rx := [], txWait := [] } }
  { (s.placeRings).refillRings with ringMeta := [] }

/-! ## The warm reset (Table 3.8) -/

/-- Step 4: enables off, DACs at their safe value, and the closing records. -/
def State.warmSafe (s : State) : State :=
  let s := forAll (List.finRange 4) s fun s k =>
    if s.configured k then (s.setFlag .MOT_STATE_DRVON k 0 false).raise .attn Cause.WARM_RESET k else s
  let s := forAll (List.finRange 16) s fun s n => ((s.endRamp n).setFlag .DAC_HOLD_SAFE n 0 true).setFlag .DAC_OUT_SAFE n 0 true
  (s.fioWarm).journalCounts

/-- Step 5: the core restarts. What CORE held goes; SRAM, converters and the Reedbed run on (Table 21.4). -/
def State.warmCore (s : State) : State :=
  let s := s.commitInFlight
  let s := { s with jrn := { s.jrn with ready := [] } }
  let s := s.loadsWarmReset
  -- R52: counting starts again from 0; LAT_OVR.COUNT stays.
  let s := forAll (List.range 4) s fun s k => (s.setFld .LAT_OVR_CONSEC k 0 0).setFld .PWR_IDLE_NOW k 0 0
  let s : State := { s with
    lat := { s.lat with suspended := Vector.replicate 4 false, begun := false, known := false, counting := false, winTicks := 0
                        winMin := 1000, winLowAtMax := false, holdLeft := 0 }
    sess := Vector.replicate 2 sessReset
    panel := ⟨[], [], [], [], [], [], 0⟩
    dec := decReset
    flags := []
    img := s.img.map fun m =>
      let keep (l : List (Nat × Bool)) : List (Nat × Bool) := l.filter fun e => e.1 < 0x1600 || 0x1780 ≤ e.1
      ⟨keep m.bits, keep m.dev⟩
    tape := { s.tape with buf := [], want := false, started := false, seek := false }
    answers := []
    exc := s.exc.map fun x => { x with tab := [] }
    mot := s.mot.map stnThrough
    axis := s.axis.map axisThrough
    take := none }
  let s := (s.setFld .PNL_KSTAT_QCOUNT 0 0 0).setFld .PNL_CHSTAT_FILL 0 0 0
  -- R415: both tables hold the sine after every reset.
  let tabs (a : Nat) : Bool := decide (regAddr .EXC_TAB 0 0 ≤ a) && decide (a < regAddr .EXC_TAB 0 0 + 0x4000)
  let s := { s with regs := s.regs.filter fun e => !tabs e.1 }
  let s := forAll (List.range 4) s fun s g => s.setFlag .EXC_STAT_TPEND g 0 false
  let s := forAll (List.finRange 12) s fun s (a : Fin 12) => s.setFld .MOT_AXCTL_HW a 0 3
  let s := forAll (List.finRange 4) s fun s (k : Fin 4) =>
    ((s.imgLatch k bitMSTB false).imgLatch k bitTSTB false).imgLatch k 0x17D6 false
  let s := forAll (List.finRange 4) s fun s (k : Fin 4) =>
    ((s.setFlag .MOT_HS_MSTB k 0 false).setFlag .MOT_HS_TSTB k 0 false).setFlag .MOT_HS_XPEND k 0 false
  -- R102, R116: typed history goes, and panel rescue ends.
  let s := forAll (List.finRange 2) s fun s p =>
    let was := s.rescued p
    let s := s.setPort p fun q => { q with hist := [], recalled := 0 }
    if was then (s.setFlag .SER_STAT_RESCUE p 0 false).setPort p fun q =>
      { q with mode := s.reg .SER_MODE p 0, baud := s.reg .SER_BAUD p 0, on := s.flag .SER_CTRL_ENABLE p }
    else s
  -- R516: an operation that was suspended explicitly is abandoned.
  let s := if s.flag .FLS_STAT_XSUSP then
      ((s.setFlash abandonFlash).setFlag .FLS_STAT_XSUSP 0 0 false).setFlag .FLS_STAT_SUSP 0 0 false
    else s
  -- Cores take their tasks up again on the first tick after replay.
  forAll (List.finRange 6) s fun s c =>
    let s := if s.fld .SYS_CSTAT_STATE c = 4 then s else s.setFld .SYS_CSTAT_STATE c 0 0
    s.setCore c fun _ => coreReset

/-- R154: the first record after a reset, and PWR_STAT. -/
def State.restartRecord (s : State) (kind last cause : Nat) : State :=
  let s := (s.setFld .PWR_STAT_LAST 0 0 last).setFld .PWR_STAT_CAUSE 0 0 cause
  s.raise .attn Cause.RESTART 4 (det := kind + 65536 * cause)

/-- Table 3.8, steps 4 and 5, once every station is at rest. -/
def execWarmReset (s : State) : Host.Outcome State Fault Refusal :=
  .next (match s.pwr.closing with
    | some (.warm, cause) =>
      if s.phase == .closing && s.allAtRest then
        let s := (s.warmSafe).warmCore
        let s := if s.pwr.reduce then s.reduce else s.rebuildRings
        let s := setPwr { s with phase := .replaying } fun p => { p with closing := none, reduce := false, rest := Vector.replicate 4 none
                                                                         wake := Vector.replicate 4 [] }
        s.restartRecord 1 2 cause
      else s
    | _ => s)

/-! ## SRAM failures (R506 to R508) -/

/-- A bank fails while the part runs: its mark, and a warm reset into the surviving bank (Table 3.4). -/
def State.bankDown (s : State) (b : Fin 2) : State :=
  let f : Fld := if b = 0 then .SYS_SRAM_FAIL0 else .SYS_SRAM_FAIL1
  if s.flag f then s
  else setPwr ((s.sramFail b).warmTrigger Cause.SRAM_BANK) fun p => { p with reduce := true }

/-- R507: an uncorrectable error at this address fails its bank: it lies outside the general pages, the ring descriptors and
the region store, or is the second word of the bank within 1 s. -/
def State.wordFails (s : State) (a : Nat) : Bool :=
  let p := a / 0x4000 % 128
  let outside := p ≥ 80 && !(p == 80 && a % 0x4000 < 0x200) && !(81 ≤ p && p ≤ 88)
  let before := if h : a / 0x200000 < 2 then s.sram.unc[a / 0x200000] else none
  outside || (match before with
    | some (w, t) => w != a / 8 && decide (s.clk.now < t + 24576000)
    | none => false)

/-- R506: an uncorrectable error at an address, met by a request for a station, or for the board. A descriptor or a region
store copy is repaired from the other bank. -/
def execSramUncorr (addr : Nat) (stn : StnCode) (s : State) : Host.Outcome State Fault Refusal :=
  .next (if !inSram addr then s
    else
      let fails := s.wordFails addr
      let w := addr / 8
      let s := (s.bump .SYS_SECC_UNCORR 0 0 1).setFld .SYS_SADDR_ADDR 0 0 addr
      let s := if h : addr / 0x200000 < 2 then
          { s with sram := { s.sram with unc := s.sram.unc.set (addr / 0x200000) (some (w, s.clk.now)) } }
        else s
      let s := if (generalPage addr).isSome then
          let s := s.memPut (8 * w) (List.replicate 8 (0 : Byte))
          let s := s.raise .fault Cause.SRAM_UNCORR (min stn 4) (det := addr)
          forAll (List.finRange 4) s fun s (k : Fin 4) =>
            if s.configured k && (stn == k.val || stn ≥ 4) then s.deviceStop k else s
        else s
      if fails then s.bankDown ⟨addr / 0x200000 % 2, by omega⟩ else s)

/-- R508: a bank has failed. -/
def execSramBank (b : Fin 2) (s : State) : Host.Outcome State Fault Refusal := .next (s.bankDown b)

/-! ## Replay (R73, R74, R154, R230, R260, R497, R527, R642) -/

/-- The field that a journalled place names. -/
def placeFld (p : Nat) : Option (Fld × Nat × Nat) :=
  match regAt (p / 32) with
  | none => none
  | some (r, i, j) => ((regFields r).find? fun e => e.2.lo == p % 32).map fun e => (e.2, i, j)

/-- SETTING records override the image's values. A route, an assignment and the like are not among them. -/
def State.replaySettings (s : State) : State :=
  s.jrn.set.foldl (fun s e =>
    match placeFld e.1 with
    | some (f, i, j) => s.setFld f i j e.2
    | none => s) s

/-- R260: the count of an axis after a reset. A sin/cos axis takes the cycle that puts it nearest the journalled count; an
encoder axis restarts from it after a cold reset, and keeps its reference only with KEEPREF. -/
def State.restoreAxis (s : State) (a : Fin 12) (warm : Bool) : State :=
  let x := s.axis[a]
  let cleared (s : State) : State :=
    if s.flag .MOT_AXCTL_REFD a then
      (s.setFlag .MOT_AXCTL_REFD a 0 false).raise .attn Cause.REF_CLEARED (min (s.axisCode a) 4) (inst := a.val)
    else s
  let place (n : Int) (s : State) : State :=
    let s := s.setAxis a fun x => { x with count := n }
    let c := s.converted a n + x.ofs
    let p := c - s.scaleCorr a c - s.backlash a
    s.setAxis a fun x => { x with pos := p, pos1 := p, sp := p, sp1 := p, sp2 := p, own := none, jf := 0 }
  match s.fld .SRV_FB_KIND a with
  | 1 =>
    if warm then s
    else
      let s := place x.jcount s
      if s.flag .SRV_FB_KEEPREF a then
        if s.flag .MOT_AXCTL_REFD a then s.setFlag .SRV_STAT_REFRST a 0 true else s
      else cleared s
  | 2 =>
    let d := toSigned 24 (((s.fld .FCH_ANG_ANGLE (s.fld .SRV_FB_SRC a) : Int) - x.jcount) % 2 ^ 24).toNat
    let s := place (x.jcount + d) s
    if warm ∨ d.natAbs ≤ 2 ^ 22 then s else cleared s
  | _ => s

/-- R74, R197, R361, R516: what was pending or running becomes held. A sender's item in doubt stays so. -/
def State.holdAll (s : State) : State :=
  forAll (s.jrn.items.filter fun i => i.st == .pending || i.st == .running) s fun s i => s.setItem i.key .held

/-- R517: sectors of abandoned operations are quarantined. -/
def State.quarantine (s : State) : State :=
  let l := s.flash.lost.filter fun op => s.sectState op.sect != sectQuar
  let s := forAll l s fun s op =>
    (s.setSect op.sect sectQuar).raise .attn Cause.FLASH_QUARANTINE 4 (inst := op.sect)
  let keys := (s.flash.lost.filterMap (·.key)).filter fun k => !s.flash.cut.contains k
  s.setFlash fun f => { f with cut := f.cut ++ keys }

/-- R197: the extension slot holds the block of a pending extension again. -/
def State.slotBlock (s : State) (k : Fin 4) : State :=
  match (s.mot[k]).reader.bind (·.ext) with
  | some e =>
    let b := textBytes e.text
    s.memPut (s.fld .MOT_XSLOT_ADDR k) (BitVec.ofNat 8 b.length :: b.take 255)
  | none => s

/-- Blocks, a jog or a motion item of the station wait to be resumed. -/
def State.blockHeld (s : State) (k : Fin 4) : Bool :=
  let m := s.mot[k]
  !m.win.isEmpty || !m.ring.isEmpty || m.reader.isSome || (s.heldItems k).any Item.isMotion

/-- The trip conditions of R228 that hold, with their causes and instances. -/
def State.tripCauses (s : State) (k : Fin 4) : List (Nat × Nat) :=
  (if s.ev.tripIn then [(Cause.TRIP_IN, 0xFFFF)] else [])
    ++ ((List.range 64).filter fun n => s.comparatorTrip k n).map (fun (n : Nat) => (Cause.TRIP_CMP, n))
    ++ (if s.flag .TC_STATUS_REFOK then [] else [(Cause.REF_LOST, 0xFFFF)])
    ++ ((s.mot[k]).trips.filter fun c => c != Cause.TRIP_CMP).map (fun (c : Nat) => (c, 0xFFFF))
    ++ (if s.enableBad k && !(s.mot[k]).trips.contains Cause.FIO_STUCK then [(Cause.FIO_STUCK, 0xFFFF)] else [])

/-- R230, R409: the state in which a station comes up, and the clamp of its DACs. -/
def State.comeUp (s : State) (k : Fin 4) : State :=
  if !s.configured k then s
  else
    let l := s.tripCauses k
    let s := s.setFld .MOT_STATE_WHY k 0 4
    if l.isEmpty then
      let s := s.releaseStation k
      if s.blockHeld k then s.setStn k stHeld else (s.setStn k stIdle).setFld .MOT_STATE_WHY k 0 0
    else
      let s := forAll (s.dacsOf k) s fun s n => s.clampDac n
      let s := (s.setStn k stTripped).setFld .MOT_STATE_WHY k 0 6
      forAll l s fun s e => s.raise .trip e.1 k e.2

/-- R508: a core whose banks map a lost page is not started. -/
def State.lostTask (s : State) (c : Fin 6) : State :=
  if s.flag .SYS_CCTL_RUN c && s.fld .SYS_CASN_STN c != 7 && s.mapsLost (s.task c) then
    let s := forAll (s.coreStations c) s fun s k => s.beginStop k false none ((s.mot[k]).lim.holdt) true 3
    let s := s.raise .attn Cause.PAGE_LOST (s.coreStn c) (inst := c.val)
    forAll (s.jrn.items.filter fun i => i.key.src == 8 + s.task c && i.isOpen) s fun s i => s.setItem i.key .held
  else s

/-- The limits and gains of the registers are active after a reset (R207, R245). -/
def State.activate (s : State) : State :=
  let s := forAll (List.finRange 4) s fun s k => s.setMot k fun m => { m with lim := s.stnLimRegs k }
  forAll (List.finRange 12) s fun s a => s.setAxis a fun x => { x with lim := s.axisLimRegs a, gain := s.gainRegs a, apply := false }

/-- What replay does after a cold or KEEP-loss reset alone. -/
def State.coldReplay (s : State) : State :=
  let obs := s.flag .PWR_DOM_OBSEN
  let s := (s.replaySettings).activate
  let s := s.holdShown
  let s := (s.placeRings).refillRings
  if obs && !s.flag .PWR_DOM_OBSEN then s.obsDown else s

/-- R525: a half of the journal is failed. -/
def State.halfFailed (s : State) (h : Fin 2) : State :=
  let f : Fld := if h = 0 then .JRN_STAT_AFAIL else .JRN_STAT_BFAIL
  if s.flag f then s else (s.setFlag f 0 0 true).raise .fault Cause.JRN_HALF 4 (inst := h.val)

/-- R525: a record verifies in neither half. Acceptance stops until the next cold reset, and every station enters STOP. -/
def State.journalLost (s : State) : State :=
  let s := forAll (List.finRange 4) s fun s k => if s.configured k then s.deviceStop k else s
  ({ s with stopped := true } : State).setFlag .JRN_STAT_LOST 0 0 true |>.raise .fault Cause.JRN_LOST 4

/-- R497: transactions whose item has not ended are in doubt, and a multicast without a journalled decision is decided
ABORT. A query that a port waited for went with the port's lines. -/
def State.linkReplay (s : State) (warm : Bool) : State :=
  let open_ := (s.lnk.mcs.filter fun (m : Multicast) => m.dec == .open_).map (·.key)
  let txns := (s.lnk.txns.filter fun (t : Txn) => warm || t.key.isSome).map fun (t : Txn) =>
    match t.st with
    | .sent | .busy | .accepted => if t.key.isSome then { t with st := .inDoubt 0, at_ := s.clk.now } else t
    | _ => t
  let mcs := s.lnk.mcs.map fun (m : Multicast) => if m.dec = .open_ then { m with dec := .abort 705, err := 705, ended := true } else m
  let s : State := { s with lnk := { s.lnk with txns := txns, mcs := mcs } }
  forAll open_ s fun s k => s.workFailed k 705

/-- R527: replay is complete; stations come up, and acceptance resumes (Tables 3.8 and 3.9). -/
def execJournalReplayDone (toA toB : Nat) (lost : Bool) (s : State) : Host.Outcome State Fault Refusal :=
  .next (if s.phase == .committing || s.phase == .replaying then
    let s := s.bump .JRN_REPAIR_N 0 0 (toA + toB)
    let s := if 16 < toA then s.halfFailed 0 else s
    let s := if 16 < toB then s.halfFailed 1 else s
    let warm := s.fld .PWR_STAT_LAST == 2
    let s := if warm then s else s.coldReplay
    let s := (s.holdAll).quarantine
    let s := s.linkReplay warm
    let s := forAll (List.finRange 12) s fun s a => s.restoreAxis a warm
    let s := forAll (List.finRange 4) s fun s k => (s.slotBlock k).comeUp k
    let s := if s.ev.tripIn then s else forAll ((s.dacsOf 4) ++ (s.dacsOf 7)) s fun s n => s.releaseDac n
    let s : State := { s with phase := .running, stopped := s.flag .JRN_STAT_LOST, lat := { s.lat with resetHold := false } }
    let s := forAll (List.finRange 6) s fun s c => s.lostTask c
    let s := (s.beginSession 0).beginSession 1
    let s := if lost then s.journalLost else s
    if s.pwr.wdt.isSome then s else s.wdtStart
  else s)

end Sys2Proof.Machine
end

