-- ==== Sys2Proof/Machine/Startup.lean ====
section
/-! DEFINITION. Start-up from the supply to the commit (spec/20_startup_and_images.md; spec/21_power_domains.md, Table 21.3;
spec/02_lattice_and_stages.md, R31, R32), panel rescue (R116, R431), and the test access port (R614). -/
namespace Sys2Proof.Machine
open Sys2Proof

/-- Table 21.3: VIN24 has risen and the domains are up. `c` is the hold-up capacitance, where it was measured (R559), and
`periods` the periods of the KEEP oscillator since the close-down (R35). -/
def execPowerUp (c : Option Nat) (periods : Nat) (s : State) : Host.Outcome State Fault Refusal :=
  .next (match s.phase with
    | .off | .keepOnly | .inReset =>
      let s : State := if s.phase == .keepOnly then { s with clk := { s.clk with now := s.clk.now + 750 * periods } } else s
      let s := (s.setFlag .PWR_STAT_VINOK 0 0 true).setFld .PWR_DOM_ON 0 0 (if s.flag .PWR_DOM_OBSEN then 0xFF else 0x7F)
      let s := match c with
        | some v => s.setFld .PWR_HOLDC_C 0 0 (min v 4095)
        | none => s
      let s := s.holdShown
      { s with phase := .inReset, tap := State.reset.tap }
    | _ => s)

/-- Table 20.1, with the conditions of R532 on each position. -/
def State.candidates (s : State) (src : Nat) : List Candidate :=
  let b := s.fld .CFG_POLICY_BOOT
  let fb := s.flag .CFG_POLICY_FALLBACK
  let order := match src with
    | 0 => [b, 1 - b]
    | 1 => [b, 1 - b, 2 + b, 3 - b]
    | 2 => [2 + b, 3 - b]
    | _ => [2 + b, 3 - b, b, 1 - b]
  let tried (x : Nat) : Bool := fb || x == b || x == 2 + b || (decide (x < 2) && s.slotSkipped b)
  (order.zipIdx.filter fun e => tried e.1).map fun e => ⟨e.2, e.1, decide (e.1 < 2) && s.slotSkipped e.1⟩

/-- R531: the policy as the journal holds it. -/
def State.bootPolicy (s : State) : State :=
  [Fld.CFG_POLICY_BOOT, .CFG_POLICY_FALLBACK, .CFG_POLICY_WAIT].foldl (fun s f =>
    match sparseFind s.jrn.set (fldPlace f 0 0) with
    | some v => s.setFld f 0 0 v
    | none => s) s

/-- A commanded cold reset reaches its end once every station is at rest: the safe state, the closing records, the seal. -/
def State.coldClosed (s : State) : State :=
  match s.pwr.closing with
  | some (.cold, cause) => if s.phase == .closing && s.allAtRest then s.journalCounts.commitRec.goCold cause true else s
  | _ => s

/-- R548: release of a reset other than a warm one. `refin` says that REFIN has toggled (R31); `src` and `addr` are the
straps. -/
def execResetRelease (refin : Bool) (src : Fin 4) (addr : Fin 8) (s : State) : Host.Outcome State Fault Refusal :=
  let s := s.coldClosed
  .next (if s.phase == .inReset then
    let lost := !s.pwr.keep
    let chosen : RefSrc := match s.fld .TC_REFSEL_SEL with
      | 0 => if refin then .refin else .xtal
      | 1 => .xtal
      | _ => .refin
    let s := (s.setFld .CFG_STAT_CFGSRC 0 0 src).setFld .OLK_STAT_ADDR 0 0 addr
    let s := s.bootPolicy
    let s : State := { s with phase := .waitRef, clk := { s.clk with chosen := chosen, taken := false, startTimeout := false } }
    let s := (s.setFlag .TC_STATUS_REFOK 0 0 false).setFlag .TC_STATUS_COARSE 0 0 true
    let cands := s.candidates src
    let s := setBoot s fun b => { b with cands := cands, doneLow := true, errHigh := false }
    let last := if lost then 3 else if s.pwr.closed then 1 else 0
    let s := s.restartRecord (if lost then 2 else 0) last s.pwr.cause
    setPwr s fun p => { p with keep := true }
  else s)

/-! ## The reference (R32) -/

def refNo : RefSrc → Nat
  | .xtal => 0
  | .refin => 1

/-- A source is taken, and start-up goes on from step 4 of Table 20.7. -/
def State.takeRef (s : State) (src : RefSrc) : State :=
  let s := (s.setFlag .TC_STATUS_REFOK 0 0 true).setFlag .TC_STATUS_COARSE 0 0 false
  let s := (s.setFld .TC_STATUS_REFSRC 0 0 (refNo src)).setFlag .TC_STATUS_REFALT 0 0 (src != s.clk.chosen)
  setBoot { s with phase := .loading, clk := { s.clk with taken := true } } fun b => { b with errHigh := false }

def otherRef : RefSrc → RefSrc
  | .xtal => .refin
  | .refin => .xtal

/-- 100 ms after release the chosen source has not been taken; `other` says that the other one is usable now. -/
def execRefStartTimeout (other : Bool) (s : State) : Host.Outcome State Fault Refusal :=
  .next (if s.phase == .waitRef && !s.clk.startTimeout then
    let s : State := { s with clk := { s.clk with startTimeout := true } }
    if other then s.takeRef (otherRef s.clk.chosen) else setBoot s fun b => { b with errHigh := true }
  else s)

/-- A source has become usable: the chosen one at any time, the other one after 100 ms. -/
def execRefSourceTaken (src : RefSrc) (s : State) : Host.Outcome State Fault Refusal :=
  .next (if s.phase == .waitRef && (src == s.clk.chosen || s.clk.startTimeout) then s.takeRef src else s)

/-! ## Self-test, calibration and candidates (R507, R371, R540) -/

/-- R507: the self-test of the banks has ended. -/
def execSramSelfTestDone (ok0 ok1 : Bool) (s : State) : Host.Outcome State Fault Refusal :=
  .next (if (s.phase == .waitRef || s.phase == .loading) && !s.boot.tested then
    let s := if ok0 then s else s.sramFail 0
    let s := if ok1 then s else s.sramFail 1
    setBoot s fun b => { b with tested := true }
  else s)

/-- R371: every channel has been calibrated; those of `fails` have failed. -/
def execStartupCalibrationDone (fails : List Chan) (temp : Int) (s : State) : Host.Outcome State Fault Refusal :=
  .next (if s.phase == .loading && !s.boot.calibrated then
    let s := s.setFldInt .ADC_TEMP_T 0 0 temp
    let s := forAll (List.range 16) s fun s c => s.setFldInt .ADC_PCALT_T c 0 temp
    let s := forAll (List.range 8) s fun s c => s.setFldInt .ADC_FCALT_T c 0 temp
    let s := forAll fails s fun s c => s.failChan c
    setBoot s fun b => { b with calibrated := true }
  else s)

/-- R545: no candidate is left. -/
def State.noCandidate (s : State) : State :=
  setBoot ({ s with phase := .console } : State) (fun b => { b with errHigh := true }) |>.setFld .CFG_STAT_STATE 0 0 3

/-- R540, R541: the first candidate has been read and checked. `readErr` is a flash read error, and `ext` the bytes that an
external slot gave, and `axes` and `encs` the station codes that the image gives its axes and encoder receivers. -/
def execCandidateVerified (readErr : Bool) (seen : ImageObs) (s : State) : Host.Outcome State Fault Refusal :=
  .next (match s.phase, s.boot.cand, s.boot.cands with
    | .loading, none, c :: rest =>
      let (reason, im) : Nat × Option Image :=
        if c.skip || readErr then (rRead, none)
        else match s.checkSource c.src seen.ext with
          | (0, some im) =>
            let im := im.withOwners seen.axes.toList seen.encs.toList
            if s.contentBad im then (rContent, none) else (rPassed, some im)
          | (r, _) => (r, none)
      let s := ((s.setFlag .CFG_TRY_TRIED c.pos 0 true).setFld .CFG_TRY_SRC c.pos 0 c.src).setFld .CFG_TRY_REASON c.pos 0 reason
      let s := setBoot s fun b => { b with cands := rest }
      match im with
      | some im =>
        let s := (s.setFld .CFG_STAT_SRC 0 0 c.src).setFlag .CFG_STAT_FALLBACK 0 0 (c.pos != 0)
        setBoot s fun b => { b with cand := some (c, im) }
      | none =>
        let s := s.raise .fault Cause.CFG_FAIL 4 (inst := c.pos) (det := reason)
        if rest.isEmpty then s.noCandidate else s
    | .loading, none, [] => s.noCandidate
    | _, _, _ => s)

/-! ## CFG_DONE and the commit (R542 to R546, Table 20.5) -/

def execCfgDoneRelease (s : State) : Host.Outcome State Fault Refusal :=
  .next (if s.phase == .loading && s.boot.cand.isSome && s.boot.tested && s.boot.calibrated then
    (setBoot { s with phase := .waiting } fun b => { b with doneLow := false, waitAt := s.clk.now }).setFld .CFG_STAT_STATE 0 0 1
  else s)

/-- R546: the line has stayed low for WAIT. -/
def execCfgTimeout (s : State) : Host.Outcome State Fault Refusal :=
  .next (if s.phase == .waiting && !s.boot.late
      && decide (s.boot.waitAt + s.fld .CFG_POLICY_WAIT * 1000 * msCounts ≤ s.clk.now) then
    (setBoot s fun b => { b with late := true }).raise .fault Cause.CFG_TIMEOUT 4
  else s)

/-- A port takes the image's settings. -/
def State.configurePort (s : State) (p : Fin 2) : State :=
  s.setPort p fun q => { q with mode := s.reg .SER_MODE p 0, baud := s.reg .SER_BAUD p 0, on := s.flag .SER_CTRL_ENABLE p }

/-- Step 4: a region of the image is written, with its outputs at their hand-off values; LAST counts as the constant 0. -/
def State.commitRegion (s : State) (serial : Nat) (e : Nat × RegionCfg) : State :=
  let r := rgnFin e.1
  let s := (s.showHandoff r e.2).showCfg r e.2
  let s := (s.setFld .LGF_OUT_FAB r 0 0).setFld .LGF_OUT2_LINK r 0 0 |>.setFld .LGF_OUT2_CTL r 0 0
  let s := (s.freezeRegion r).setFld .REB_RSER_IMG r 0 serial
  (s.setRoutes e.2.routes).setFld .REB_RGN_STATE r 0 3

/-- Spans and excitation begin to move to the image's values (R410, R417); every accumulator starts at 0 (R412). -/
def State.commitOutputs (s : State) : State :=
  let s := forAll (List.finRange 16) s fun s n =>
    if s.fld .DAC_CFG_SPAN n = 0 then s
    else (s.setFlag .DAC_STAT_SPANCH n 0 true).setDac n fun d => { d with spanStep := 1, spanNow := 0 }
  forAll (List.finRange 4) s fun s g =>
    (s.setFlag .EXC_STAT_RAMPING g 0 (!s.excSettled g)).setExc g fun x => { x with acc := 0 }

/-- The events of R543 that are raised at commit. -/
def State.commitEvents (s : State) (pos : Nat) (mono : Bool) : State :=
  let s := if s.flag .TC_STATUS_REFALT then s.raise .fault Cause.REF_MISSING 4 (inst := refNo s.clk.chosen) else s
  let s := if s.flag .PWR_STAT_HOLDOK then s else s.raise .fault Cause.HOLDUP_LOW 4
  let s := if s.flag .PWR_STAT_VBATLOW then s.raise .attn Cause.VBAT_LOW 4 else s
  let s := if mono then s.raise .attn Cause.CFG_DEV 4 else s
  if pos = 0 then s else s.raise .attn Cause.CFG_FALLBACK 4 (inst := pos)

/-- R543: CFG_DONE has been high for 1 µs, and the commit runs. -/
def execCfgDoneHigh (s : State) : Host.Outcome State Fault Refusal :=
  .next (match s.phase, s.boot.cand with
    | .waiting, some (c, im) =>
      -- R286: the panel returns to the machine, and a computation in progress is abandoned.
      let s := (s.setFlag .PNL_CALC_ON 0 0 false).setCalc fun x => { x with job := none, blank := false }
      let s := s.applyImage im
      let s : State := { s with phase := .committing, lat := { s.lat with resetHold := false } }
      let s := setBoot s fun b => { b with cand := none, run := some im }
      let s := ((s.setFld .CFG_STAT_STATE 0 0 2).setFlag .CFG_STAT_DEV 0 0 im.mono).setFld .CFG_SERIAL_SERIAL 0 0 im.serial
      let s := (s.layout).activate
      let s := s.configurePort 0 |>.configurePort 1
      let s := forAll (List.finRange 24) s fun s c => (s.setValid c false).disturb c
      let s := s.commitEvents c.pos im.mono
      let s := { s with fio := { s.fio with commitAt := some s.clk.now } }
      let s := (forAll im.regions s fun s e => s.commitRegion im.serial e).commitOutputs
      let s := setBoot s fun b => { b with settle := if im.regions.isEmpty then none else some (maxSettle im.regions) }
      let s := s.wdtStart
      if im.regions.isEmpty then { s with phase := .replaying } else s
    | _, _ => s)

/-- Table 20.5, step 6: every region of the image is released on one tick. -/
def execCommitRegionRelease (s : State) : Host.Outcome State Fault Refusal :=
  .next (if s.committed && s.boot.settle == some 0 then
    let l := (s.boot.run.map (·.regions)).getD []
    let s := setBoot s fun b => { b with settle := none }
    let s := forAll l s fun s e => s.releaseRegion e.1 (initOnes e.2 ⟨offCfg, []⟩)
    let s : State := { s with clk := { s.clk with epoch := s.clk.tick } }
    let s := forAll (s.fedChans (l.flatMap fun e => cellsOfRgn e.1)) s.settleFabric fun s c => s.disturb c
    if s.phase == .committing then { s with phase := .replaying } else s
  else s)

/-! ## Panel rescue (R116, R431) -/

/-- Combination 1 has been held for its time: rescue begins on SP0. It acts from reset release. -/
def execCombo1Fired (s : State) : Host.Outcome State Fault Refusal :=
  .next (match s.phase with
    | .off | .keepOnly | .inReset => s
    | _ =>
      if !s.comboReady 1 then s else
      let s := (s.setFlag .PNL_KSTAT_C1ACT 0 0 true).setFlag .SER_STAT_RESCUE 0 0 true
      let s := (s.setPort 0 fun q => { clearLine q with rsp := [], rspWait := [], echo := [] }).flowChanged 0
      let s := (s.emptyRings [10]).beginSession 0
      s.raise .attn Cause.COMBO_RESCUE 4)

/-! ## The test access port (R614, Table 23.6) -/

/-- The data register that an instruction selects, bit 0 first: IDCODE, one bit of BYPASS, or the boundary register. -/
def tapData (ir : TapIr) (bnd : BitVec 256) : List Bool :=
  match ir with
  | .idcode => (List.range 32).map idcodeReg.getLsbD
  | .bypass => [false]
  | .extest | .sample => (List.range 256).map bnd.getLsbD

def setTap (s : State) (ir : TapIr) : State :=
  { s with tap := { s.tap with ir := ir, dr := tapData ir s.tap.bnd } }

/-- The scanned outputs follow the boundary register. -/
def execExtest (s : State) : Host.Outcome State Fault Refusal := .next (setTap s .extest)
/-- 0x0624_0A1D is read (R3). -/
def execIdcode (s : State) : Host.Outcome State Fault Refusal := .next (setTap s .idcode)
/-- The boundary register takes the cells that the scan leaves in it. -/
def execSamplePreload (cells : BitVec 256) (s : State) : Host.Outcome State Fault Refusal :=
  .next { s with tap := ⟨.sample, cells, tapData .sample cells⟩ }

/-- Every code of the instruction register but the three others acts as BYPASS. -/
def execBypass (code : Nat) (s : State) : Host.Outcome State Fault Refusal :=
  .next (match code % 64 with
    | 0 => setTap s .extest
    | 1 => setTap s .idcode
    | 2 => setTap s .sample
    | _ => setTap s .bypass)

/-- nTRST or the TAP controller: IDCODE is selected. -/
def execTestLogicReset (s : State) : Host.Outcome State Fault Refusal := .next (setTap s .idcode)

end Sys2Proof.Machine
end

