-- ==== Sys2Proof/Machine/Power.lean ====
section
/-! DEFINITION. Idle stations, die temperature, the supply monitors and the `PWR` lines (spec/21_power_domains.md, R571 to
R579). -/
namespace Sys2Proof.Machine
open Sys2Proof

/-! ## Idle stations (R573 to R576) -/

def State.fbChans (s : State) (k : Fin 4) : List (Fin 24) := (List.finRange 24).filter fun (c : Fin 24) => s.fbChan k c
def State.fbExcs (s : State) (k : Fin 4) : List (Fin 4) := (List.finRange 4).filter fun (g : Fin 4) => s.fbExc k g
def State.fbDacs (s : State) (k : Fin 4) : List (Fin 16) := (List.finRange 16).filter fun (n : Fin 16) => s.fbDac k n

/-- The generators of the station move to where they now belong. -/
def State.excMoves (s : State) (k : Fin 4) : State :=
  forAll (s.fbExcs k) s fun s g => s.setFlag .EXC_STAT_RAMPING g 0 (!s.excSettled g)

/-- R573: the conditions under which a station rests. -/
def State.resting (s : State) (k : Fin 4) : Bool :=
  s.configured k && s.stnState k == stIdle && !s.flag .MOT_STATE_DRVON k && (s.stnItems k).isEmpty

/-- R575: the station goes to sleep. -/
def State.sleepStation (s : State) (k : Fin 4) : State :=
  let s := forAll (s.axesOf k) s fun s a => s.setAxis a fun x => { x with jcount := x.count }
  let s := s.setFld .PWR_IDLE_NOW k 0 2
  let s := forAll (s.fbChans k) s fun s c => s.setValid c false
  forAll (s.fbDacs k) (s.excMoves k) fun s n => s.clampDac n

/-- R573: the station has rested for DLY seconds, and enters its level. -/
def State.idleEntry (s : State) (k : Fin 4) : State :=
  let level := s.fld .PWR_IDLE_LEVEL k
  match s.pwr.rest[k] with
  | some t =>
    if s.resting k && level != 0 && s.fld .PWR_IDLE_NOW k == 0 && decide (t + s.fld .PWR_IDLE_DLY k * 24576000 ≤ s.clk.now) then
      if level = 1 then s.setFld .PWR_IDLE_NOW k 0 1 else s.sleepStation k
    else s
  | none => s

def execStationIdleEntry (k : Fin 4) (s : State) : Host.Outcome State Fault Refusal := .next (s.idleEntry k)

/-- The items that wake the station are done. -/
def State.wakeDone (s : State) (k : Fin 4) : State :=
  let keys := s.pwr.wake[k]
  let s := setPwr s fun p => { p with wake := p.wake.set k [] }
  forAll keys s fun s q => s.workDone q

/-- R576 steps 1 to 3: the channels restart, the generators ramp, and the DACs return to their safe value. -/
def State.wakeStation (s : State) (k : Fin 4) : State :=
  let s := s.setFld .PWR_IDLE_NOW k 0 3
  let s := forAll (s.fbChans k) s fun s c => s.chanAssigned c
  forAll (s.fbDacs k) (s.excMoves k) fun s n =>
    if s.stnState k = stTripped then s else (s.setFlag .DAC_HOLD_SAFE n 0 true).releaseDac n

/-- R576 steps 4 and 5: every feedback channel is valid, and no generator ramps. -/
def execWakeComplete (k : Fin 4) (s : State) : Host.Outcome State Fault Refusal :=
  let ready := (s.fbChans k).all (fun c => s.chFld .ADC_PSTAT_VALID .ADC_FSTAT_VALID c != 0)
    && (s.fbExcs k).all fun g => !s.flag .EXC_STAT_RAMPING g
  .next (if s.fld .PWR_IDLE_NOW k = 3 ∧ ready then
    let s := s.setFld .PWR_IDLE_NOW k 0 0
    let s := forAll ((s.axesOf k).filter fun (a : Fin 12) => s.fld .SRV_FB_KIND a == 2) s fun s a => s.restoreAxis a false
    s.wakeDone k
  else s)

/-! ## Monitors (R571, R577) -/

/-- R571: the VBAT monitor has measured `mv` millivolts. -/
def execVbatMonitor (mv : Nat) (s : State) : Host.Outcome State Fault Refusal :=
  let was := s.flag .PWR_STAT_VBATLOW
  let low := decide (mv < 2400)
  let t := s.setFld .PWR_VBAT_V 0 0 (min mv 4095)
  let t := (t.setFlag .PWR_STAT_VBATLOW 0 0 low).setFlag .PWR_STAT_VBATOK 0 0 (decide (500 ≤ mv))
  .next (if s.phase == .off then s
    else if low && !was && s.flag .PWR_STAT_VINOK then t.raise .attn Cause.VBAT_LOW 4 else t)

/-- The die has been found at `t` tenths of a degree or above. -/
def State.dieAt (s : State) (t : Int) : State := s.setFldInt .ADC_TEMP_T 0 0 (max t (s.fldInt .ADC_TEMP_T))

/-- R577: at 130 °C. -/
def State.dieHot (s : State) : State :=
  if s.pwr.hot || !s.committed then s else (setPwr s fun p => { p with hot := true }).raise .attn Cause.DIE_HOT 4

def execDieHot (s : State) : Host.Outcome State Fault Refusal := .next (s.dieAt 1300).dieHot

/-- R577: at 145 °C for 10 ms. -/
def State.dieOver (s : State) : State :=
  if !s.committed then s
  else forAll (List.finRange 4) s fun s (k : Fin 4) =>
    if s.configured k && !(s.mot[k]).trips.contains Cause.DIE_OVERTEMP then s.deviceTrip k Cause.DIE_OVERTEMP 0xFFFF 0 else s

def execDieOvertemp (s : State) : Host.Outcome State Fault Refusal := .next (s.dieAt 1450).dieOver

/-- R577: the measured temperature of a tick. ADC_TEMP counts in 0.1 °C. -/
def State.dieTick (s : State) : State :=
  let t := s.fldInt .ADC_TEMP_T
  let s := if t < 1200 then setPwr s fun p => { p with hot := false } else if 1300 ≤ t then s.dieHot else s
  let since := if 1450 ≤ t then s.pwr.overAt.or (some s.clk.now) else none
  let s := setPwr s fun p => { p with overAt := since }
  let s := if since.any fun c => decide (c + 10 * msCounts ≤ s.clk.now) then s.dieOver else s
  if t < 1250 then forAll (List.finRange 4) s fun s (k : Fin 4) => s.clearTrip k Cause.DIE_OVERTEMP else s

/-! ## The `PWR` lines (R578, R579) -/

/-- Register fields take their values at once, with their SETTING records. -/
def State.setSettings (s : State) (w : RegWr) : State := (s.putWr w).noteWr w

/-- R578: the level and the delay apply at the next entry. -/
def workPwrStnIdle (o : Origin) (k : Fin 4) (sets : List FieldSet) (s : State) : Work :=
  let w := fieldWrites .PWR_IDLE k 0 (sets.map fun e => (e.fld, e.val))
  { pre := s.stnErr k
    permit := s.hasAuth o k
    stn := k
    chk := s.wrErr w
    run := fun _ s =>
      match s.wrErr w with
      | some e => .fail e s
      | none => .done (s.setSettings w) }

def execPwrStnIdle (o : Origin) (k : Fin 4) (sets : List FieldSet) (s : State) : Host.Outcome State Fault Refusal :=
  .next (s.offer o (.pwrStnIdle o k sets) (workPwrStnIdle o k sets s))

/-- R574, R576: a station that is awake is done at once. -/
def workPwrStnOn (o : Origin) (k : Fin 4) (s : State) : Work :=
  { pre := s.stnErr k
    permit := s.hasAuth o k
    stn := k
    run := fun key s =>
      let now := s.fld .PWR_IDLE_NOW k
      if now = 0 then .done s
      else
        let s := setPwr s fun p => { p with wake := p.wake.set k (p.wake[k] ++ [key]) }
        .running (if now = 2 then s.wakeStation k else s) }

def execPwrStnOn (o : Origin) (k : Fin 4) (s : State) : Host.Outcome State Fault Refusal :=
  .next (s.offer o (.pwrStnOn o k) (workPwrStnOn o k s))

/-- R563: OBS goes down or comes up on the next tick. -/
def workPwrObs (o : Origin) (on : Bool) (s : State) : Work :=
  { permit := (s.originAuth o).brd
    run := fun _ s => .done { s with tickSet := s.tickSet ++ [⟨.PWR_DOM_OBSEN, 0, 0, b2n on⟩] } }

def execPwrObs (o : Origin) (on : Bool) (s : State) : Host.Outcome State Fault Refusal :=
  .next (s.offer o (.pwrObs o on) (workPwrObs o on s))

/-- The watchdog settings that the line names; a period that is no multiple of 10 ms is out of range. -/
def wdtWrite (on : Bool) (per : Option Nat) : RegWr :=
  fieldWrites .PWR_WDT 0 0 ((.PWR_WDT_EN, (b2n on : Int))
    :: (per.map fun t => (Fld.PWR_WDT_PER, if t % 10 = 0 then ((t / 10 : Nat) : Int) else -1)).toList)

def workSetting (o : Origin) (w : RegWr) (s : State) : Work :=
  { permit := (s.originAuth o).brd
    chk := s.wrErr w
    run := fun _ s =>
      match s.wrErr w with
      | some e => .fail e s
      | none => .done (s.wrApply (.line o) w) }

def workPwrWdt (o : Origin) (on : Bool) (per : Option Nat) (s : State) : Work := workSetting o (wdtWrite on per) s

def execPwrWdt (o : Origin) (on : Bool) (per : Option Nat) (s : State) : Host.Outcome State Fault Refusal :=
  .next (s.offer o (.pwrWdt o on per) (workPwrWdt o on per s))

def workPwrHoldmin (o : Origin) (c : Int) (s : State) : Work :=
  workSetting o (fieldWrites .PWR_HOLDC 0 0 [(.PWR_HOLDC_HOLDMIN, c)]) s

def execPwrHoldmin (o : Origin) (c : Int) (s : State) : Host.Outcome State Fault Refusal :=
  .next (s.offer o (.pwrHoldmin o c) (workPwrHoldmin o c s))

def lastName (n : Nat) : String :=
  match n with
  | 0 => "COLD"
  | 1 => "CLOSEDOWN"
  | 2 => "WARM"
  | _ => "KEEPLOSS"

/-- R562: the domains in their order. -/
def domains : List String := ["KEEP", "MEM", "CORE", "ARRAY", "CONV", "FIELD", "LINK", "OBS"]

def idleLevelName (n : Nat) : String :=
  match n with
  | 0 => "NONE"
  | 1 => "DOZE"
  | 2 => "SLEEP"
  | _ => "WAKING"

/-- A signed count of 10⁻ᵉ volts. -/
def volts (v : Int) (e : Nat) : Fd := .d ⟨v < 0, v.natAbs, -(e : Int)⟩

/-- R579: PWR?. -/
def pwrLines (s : State) : List (List Fd) :=
  [[.s "PWR", .s "VIN", volts (s.fldInt .PWR_VIN_V) 2, .s "VBAT", volts (s.fld .PWR_VBAT_V) 3, .s "VHOLD",
      volts (s.fld .PWR_VHOLD_V) 2, .s "HOLDC", .n (s.fld .PWR_HOLDC_C), .s "HOLDOK", .n (s.fld .PWR_STAT_HOLDOK), .s "LAST",
      .s (lastName (s.fld .PWR_STAT_LAST)), .s "CAUSE", .s (causeName (s.fld .PWR_STAT_CAUSE))],
    .s "DOM" :: (domains.zipIdx.flatMap fun (e : String × Nat) =>
      [Fd.s e.1, .s (if s.fld .PWR_DOM_ON / 2 ^ e.2 % 2 = 1 then "ON" else "OFF")])]
    ++ ((List.range 4).filter fun k => s.configured k).map (fun (k : Nat) =>
      [Fd.s "STN", .n k, .s "IDLE", .s (idleLevelName (s.fld .PWR_IDLE_LEVEL k)), .s "NOW", .n (s.fld .PWR_IDLE_NOW k), .s "DLY",
        .n (s.fld .PWR_IDLE_DLY k)])
    ++ [[.s "WDT", .s (if s.flag .PWR_WDT_EN then "ON" else "OFF"), .s "PER", .n (s.fld .PWR_WDT_PER * 10)]]

def execPwrQuery (o : Origin) (s : State) : Host.Outcome State Fault Refusal :=
  .next (s.askPure o none (s.originAuth o).any fun s => (0, pwrLines s))

end Sys2Proof.Machine
end

