-- ==== Sys2Proof/Machine/Tokens.lean ====
section
/-! DEFINITION. The tokens of a line of the command language and the readers of its arguments (spec/04_puarn_language.md, R95 to
R98, R103, R111; spec/05_puarn_commands.md, R641). -/
namespace Sys2Proof.Machine
open Sys2Proof

/-- A token after the command word: its name where it is a named value, whether its value is a string, and its characters. -/
structure Arg where
  name : Option String
  quoted : Bool
  text : List Char
deriving DecidableEq, Repr

def isUp (c : Char) : Bool := 65 ≤ c.toNat && c.toNat ≤ 90
def isDig (c : Char) : Bool := 48 ≤ c.toNat && c.toNat ≤ 57
def upCh (c : Char) : Char := if 97 ≤ c.toNat && c.toNat ≤ 122 then Char.ofNat (c.toNat - 32) else c
def upper (l : List Char) : String := String.ofList (l.map upCh)

/-- A keyword as written, in upper case; a string is none. -/
def Arg.kw (a : Arg) : String := if a.quoted then "" else upper a.text

/-! ## The lexer (R95) -/

/-- Where the lexer stands: between tokens, in a token, in a string, after its closing quote, or in a comment. Characters are
collected newest first. -/
inductive LexAt where
  | gap
  | tok (name : Option String) (acc : List Char)
  | str (name : Option String) (acc : List Char)
  | closed
  | comment
deriving DecidableEq, Repr

structure Lex where
  at_ : LexAt
  out : List Arg
  err : Option Nat
deriving DecidableEq, Repr

def isBlank (c : Char) : Bool := c == ' ' || c.toNat == 9

def lexStep (x : Lex) (c : Char) : Lex :=
  let push (name : Option String) (q : Bool) (acc : List Char) (dest : LexAt) : Lex :=
    { x with at_ := dest, out := ⟨name, q, acc.reverse⟩ :: x.out }
  let bad : Lex := { x with err := x.err.or (some 109) }
  match x.at_ with
  | .gap =>
    if isBlank c then x
    else if c == ';' then { x with at_ := .comment }
    else if c == '"' then { x with at_ := .str none [] }
    else { x with at_ := .tok none [c] }
  | .tok name acc =>
    if isBlank c then push name false acc .gap
    else if c == ';' then push name false acc .comment
    else if c == '"' then if name.isSome && acc.isEmpty then { x with at_ := .str name [] } else bad
    else if c == '=' && name.isNone then { x with at_ := .tok (some (upper acc.reverse)) [] }
    else { x with at_ := .tok name (c :: acc) }
  | .str name acc => if c == '"' then push name true acc .closed else { x with at_ := .str name (c :: acc) }
  | .closed =>
    if isBlank c then { x with at_ := .gap } else if c == ';' then { x with at_ := .comment } else bad
  | .comment => x

/-- The tokens of a text, or its error: 109 for a misplaced quote, 112 for a string that does not end. -/
def tokens (l : List Char) : Except Nat (List Arg) :=
  let x := l.foldl lexStep ⟨.gap, [], none⟩
  match x.err, x.at_ with
  | some e, _ => .error e
  | none, .str .. => .error 112
  | none, .tok name acc => .ok (⟨name, false, acc.reverse⟩ :: x.out).reverse
  | none, _ => .ok x.out.reverse

/-! ## Arguments -/

/-- The arguments of a line: those in order, and the named values. -/
structure Args where
  pos : List Arg
  named : List Arg
deriving DecidableEq, Repr

def Args.of (l : List Arg) : Args := ⟨l.filter fun a => a.name.isNone, l.filter fun a => a.name.isSome⟩

/-- R95: a name that the command does not take, or one given twice, fails with error 109. -/
def Args.takes (l : Args) (names : List String) : Except Nat Unit :=
  let ns := l.named.filterMap (·.name)
  if ns.all names.contains && ns.eraseDups.length == ns.length then .ok () else .error 109

def Args.find (l : Args) (n : String) : Option Arg := l.named.find? fun a => a.name == some n

/-- An optional named value. -/
def Args.opt {α : Type} (l : Args) (n : String) (f : Arg → Except Nat α) : Except Nat (Option α) :=
  match l.find n with
  | none => .ok none
  | some a => (f a).map some

/-- A named value that must be given. -/
def Args.req {α : Type} (l : Args) (n : String) (f : Arg → Except Nat α) : Except Nat α :=
  match l.find n with
  | none => .error 109
  | some a => f a

/-- The keywords among the arguments in order. -/
def Args.kws (l : Args) : List String := l.pos.map Arg.kw

/-! ## Numbers (Table 4.2) -/

def hexDigitOf (c : Char) : Option Nat :=
  if isDig c then some (c.toNat - 48)
  else
    let u := upCh c
    if 65 ≤ u.toNat && u.toNat ≤ 70 then some (u.toNat - 55) else none

def digitsVal (base : Nat) (l : List Char) : Option Nat :=
  l.foldl (fun a c => match a, hexDigitOf c with
    | some n, some d => if d < base then some (n * base + d) else none
    | _, _ => none) (some 0)

/-- The token begins as a number does. -/
def Arg.numeric (a : Arg) : Bool :=
  !a.quoted && (a.text.head?.any fun c => isDig c || c == '+' || c == '-' || c == '.')

/-- What is wrong with a token that is no number: a malformed number, or no number at all. -/
def Arg.noNum {α : Type} (a : Arg) : Except Nat α := .error (if a.numeric then 111 else 109)

def signOf : List Char → Bool × List Char
  | '-' :: l => (true, l)
  | '+' :: l => (false, l)
  | l => (false, l)

/-- An integer of at most `w` digits. -/
def Arg.intW (a : Arg) (w : Nat) : Except Nat Int :=
  let (neg, l) := signOf a.text
  if a.quoted || l.isEmpty || w < l.length then a.noNum
  else match digitsVal 10 l with
    | some n => .ok (if neg then -n else n)
    | none => a.noNum

def Arg.int (a : Arg) : Except Nat Int := a.intW 10

/-- A hexadecimal token of at most `w` digits; underscores stand between digits. -/
def Arg.hexW (a : Arg) (w : Nat) : Except Nat Nat :=
  match a.quoted, a.text with
  | false, '0' :: x :: l =>
    let ds := l.filter (· != '_')
    if upCh x != 'X' || ds.isEmpty || w < ds.length || l.head? == some '_' || l.getLast? == some '_' then a.noNum
    else match digitsVal 16 ds with
      | some n => .ok n
      | none => a.noNum
  | _, _ => a.noNum

def Arg.hex (a : Arg) : Except Nat Nat := a.hexW 8

def Arg.isHex (a : Arg) : Bool :=
  match a.text with
  | '0' :: x :: _ => upCh x == 'X'
  | _ => false

/-- An integer or a hexadecimal token (R131). -/
def Arg.num (a : Arg) : Except Nat Int := if a.isHex then (a.hex).map fun n => (n : Int) else a.int

/-- Larger than every value that a command takes. -/
def tooLarge : Nat := 2 ^ 64

/-- A number as the commands carry it: a negative one stands as one that is too large, which the state check refuses. -/
def natOf (v : Int) : Nat := if v < 0 then tooLarge else v.toNat

def Arg.nat (a : Arg) : Except Nat Nat := (a.int).map natOf
def Arg.mask (a : Arg) : Except Nat Nat := (a.num).map natOf

/-- A count of the fabric time counter: a 64-bit number. -/
def Arg.count64 (a : Arg) : Except Nat Nat :=
  if a.isHex then a.hexW 16
  else match a.intW 20 with
    | .ok v => .ok (natOf v)
    | .error e => .error e

/-- R641: a selector from `lo` to `hi`. -/
def Arg.sel (a : Arg) (lo hi : Nat) : Except Nat Nat :=
  match a.int with
  | .error e => .error e
  | .ok v => if (lo : Int) ≤ v ∧ v ≤ hi then .ok v.toNat else .error 109

def Arg.fin (a : Arg) (n : Nat) : Except Nat (Fin n) :=
  match a.int with
  | .error e => .error e
  | .ok v => if h : v.toNat < n then if 0 ≤ v then .ok ⟨v.toNat, h⟩ else .error 109 else .error 109

/-- The digits of a decimal number: those before and after its point. -/
def splitAt (c : Char) (l : List Char) : List Char × Option (List Char) :=
  match l.findIdx? fun d => upCh d == c with
  | none => (l, none)
  | some i => (l.take i, some (l.drop (i + 1)))

/-- A decimal number, exact. An exponent carries its sign (Table 4.2). -/
def Arg.dec (a : Arg) : Except Nat Decimal :=
  let (neg, l) := signOf a.text
  let (m, e) := splitAt 'E' l
  let (i, f) := splitAt '.' m
  let ds := i ++ f.getD []
  let ex : Option Int := match e with
    | none => some 0
    | some x =>
      let (en, xs) := signOf x
      if xs.length == x.length || xs.isEmpty || 4 < xs.length then none else (digitsVal 10 xs).map fun n => if en then -(n : Int) else n
  if a.quoted || ds.isEmpty || 34 < (ds.dropWhile (· == '0')).length then a.noNum
  else match digitsVal 10 ds, ex with
    | some c, some x => .ok ⟨neg, c, x - (f.getD []).length⟩
    | _, _ => a.noNum

/-! ## Other arguments -/

def Arg.string (a : Arg) : Except Nat String := if a.quoted then .ok (String.ofList a.text) else .error 109

/-- A keyword of a table. -/
def Arg.oneOf {α : Type} (a : Arg) (t : List (String × α)) : Except Nat α :=
  match t.find? fun e => e.1 == a.kw with
  | some e => .ok e.2
  | none => .error 109

def Arg.onOff (a : Arg) : Except Nat Bool := a.oneOf [("ON", true), ("OFF", false)]

/-- A station argument; a number that names no station is error 302. -/
def Arg.stn (a : Arg) : Except Nat (Fin 4) :=
  match a.int with
  | .error e => .error e
  | .ok v => if h : v.toNat < 4 then if 0 ≤ v then .ok ⟨v.toNat, h⟩ else .error 302 else .error 302

/-- `STN=s|BOARD|NONE`: the code of an assignment. A number beyond the stations stands as a code out of range. -/
def Arg.code (a : Arg) : Except Nat Nat :=
  match a.kw with
  | "BOARD" => .ok 4
  | "NONE" => .ok 7
  | _ => (a.int).map fun v => if 0 ≤ v ∧ v ≤ 3 then v.toNat else 5

/-- A resource by its prefix and number, such as `PA3`. -/
def Arg.res (a : Arg) (pre : String) (n : Nat) : Option (Fin n) :=
  let p := pre.toList
  let l := a.text.map upCh
  if a.quoted || l.take p.length != p || (l.drop p.length).isEmpty || 3 < (l.drop p.length).length then none
  else (digitsVal 10 (l.drop p.length)).bind fun v => if h : v < n then some ⟨v, h⟩ else none

def orArg {α : Type} (x : Option α) : Except Nat α :=
  match x with
  | some v => .ok v
  | none => .error 109

/-- `i` or `i-j`. -/
def Arg.range (a : Arg) : Except Nat (Nat × Nat) :=
  match splitAt '-' a.text with
  | (i, none) => ((⟨none, a.quoted, i⟩ : Arg).nat).map fun v => (v, v)
  | (i, some j) =>
    match (⟨none, a.quoted, i⟩ : Arg).nat, (⟨none, a.quoted, j⟩ : Arg).nat with
    | .ok x, .ok y => .ok (x, y)
    | .error e, _ => .error e
    | _, .error e => .error e

/-- R119: 1 to `w` hexadecimal digits, with hyphens between groups of four: the model takes a hyphen where a multiple of four
digits follows it up to the next one, whatever the first group's length (DESIGN CHOICE, log entry 52). -/
def Arg.key (a : Arg) (lo w : Nat) : Except Nat Nat :=
  let l := a.text
  let gs := l.splitOn '-'
  let ds := l.filter (· != '-')
  let groups := gs.tail.all fun g => g.length % 4 == 0
  if a.quoted || !groups || gs.any List.isEmpty || ds.length < lo || w < ds.length then .error 109
  else orArg (digitsVal 16 ds)

/-! ## Field settings -/

/-- What a name sets: fields of registers, from its value. -/
abbrev SetSpec := String × (Arg → Except Nat (List FieldSet))

/-- R95: each name, in the order of the line. -/
def Args.sets (l : Args) (spec : List SetSpec) : Except Nat (List FieldSet) :=
  let ns := l.named.filterMap (·.name)
  if ns.isEmpty || ns.eraseDups.length != ns.length then .error 109
  else
    l.named.foldl (fun r a =>
      match r, spec.find? fun e => some e.1 == a.name with
      | .error e, _ => .error e
      | .ok _, none => .error 109
      | .ok out, some e => (e.2 a).map fun x => out ++ x) (.ok [])

def setTo (f : Fld) (v : Int) : List FieldSet := [⟨f, v⟩]
def setInt (f : Fld) (a : Arg) : Except Nat (List FieldSet) := (a.int).map (setTo f)
def setNum (f : Fld) (a : Arg) : Except Nat (List FieldSet) := (a.num).map (setTo f)
def setHex (f : Fld) (a : Arg) : Except Nat (List FieldSet) := (a.hex).map fun n => setTo f n
def setOnOff (f : Fld) (a : Arg) : Except Nat (List FieldSet) := (a.onOff).map fun b => setTo f (if b then 1 else 0)
def setCode (f : Fld) (a : Arg) : Except Nat (List FieldSet) := (a.code).map fun n => setTo f n
def setKw (f : Fld) (t : List (String × Nat)) (a : Arg) : Except Nat (List FieldSet) := (a.oneOf t).map fun (n : Nat) => setTo f n

/-- A value in units of `k`; one that is no multiple stands as one out of range. -/
def setUnit (f : Fld) (k : Int) (a : Arg) : Except Nat (List FieldSet) :=
  (a.int).map fun v => setTo f (if v % k = 0 then v / k else -1)

/-- An integer, or ON and OFF for a field of one bit. -/
def setPlain (f : Fld) (a : Arg) : Except Nat (List FieldSet) :=
  if f.wd = 1 && !a.numeric then setOnOff f a else setInt f a

/-! ## Frames (R97, R98) -/

/-- R98. -/
def crc8Of (l : List Byte) : Nat := crc8 (l.map (·.toNat))

/-- The eight digits that a framed line's answer carries: 0 where they cannot be read (R105). -/
def frameDigits (l : List Byte) : Nat :=
  let d := (l.drop 1).take 8
  let rest := l.drop 9
  let ends := match rest.head? with
    | none => true
    | some c => c.toNat == 0x20 || c.toNat == 9 || c.toNat == 0x2A
  if d.length == 8 && d.all (fun c => 0x30 ≤ c.toNat && c.toNat ≤ 0x39) && ends then
    d.foldl (fun n c => n * 10 + (c.toNat - 0x30)) 0
  else 0

/-- R97: the WSN, the text between the digits and `*`, and whether the CRC matches; none where the shape is not that of a
frame. -/
def frameParts (l : List Byte) : Option (Nat × List Byte × Bool) :=
  let n := l.length
  let star := (l.drop (n - 3)).head?
  let hh := (l.drop (n - 2)).map fun b => Char.ofNat b.toNat
  let body := (l.take (n - 3)).drop 1
  let d := body.take 8
  let rest := body.drop 8
  let blank (c : Byte) : Bool := c.toNat == 0x20 || c.toNat == 9
  if n < 13 || star != some 0x2A || !(d.all fun c => 0x30 ≤ c.toNat && c.toNat ≤ 0x39) || !(rest.head?.any blank)
      || (rest.dropWhile blank).isEmpty || (rest.dropWhile blank).head? == some 0x3B then none
  else match digitsVal 16 hh with
    | none => none
    | some v => some (d.foldl (fun n c => n * 10 + (c.toNat - 0x30)) 0, rest, v == crc8Of body)

end Sys2Proof.Machine
end

