-- ==== Sys2Proof/Machine/Parse.lean ====
section
/-! DEFINITION. The command index and the forms of every command (spec/05_puarn_commands.md, R146, and the command rules of each
chapter): from the tokens of a line to its command. -/
namespace Sys2Proof.Machine
open Sys2Proof

/-! ## The command index (Table 5.5) -/

/-- A command word with its forms: plain, and query. -/
def commandIndex : List (String × Bool × Bool) :=
  [("ADC", true, true), ("AUTH", true, true), ("AUTHSET", true, false), ("AXIS", true, false), ("CAL", true, false),
    ("CALC", false, true), ("CANCEL", true, false), ("COMP", true, true), ("CORE", true, true), ("DAC", true, true),
    ("DEC", false, true), ("DISP", true, false), ("EVENT", true, true), ("EXC", true, true), ("FILTER", true, true),
    ("FIO", true, true)]
  ++ [("FLASH", true, true), ("FREEZE", true, false), ("HOLD", true, false), ("ID", false, true), ("IMAGE", true, true),
    ("JRN", false, true), ("LIMIT", true, true), ("LINK", true, true), ("MDI", true, false), ("MFIN", true, false),
    ("OBS", true, true), ("OUTCOME", false, true), ("OVR", true, true), ("PANEL", true, true), ("PEER", true, true)]
  ++ [("POLICY", true, true), ("PROG", true, true), ("PWR", true, true), ("REG", true, true), ("REGION", true, true),
    ("RELEASE", true, false), ("RESET", true, false), ("RESUME", true, false), ("RING", true, true), ("RUN", true, false),
    ("SERIES", true, false), ("SERVO", true, true), ("SKIM", true, true), ("SNAP", false, true), ("STATE", false, true)]
  ++ [("STN", true, true), ("STOP", true, false), ("TAPE", true, true), ("TIME", true, true), ("TRACE", true, true),
    ("WSN", false, true), ("XPT", true, true)]

/-- The command word of a line, and whether it carries `?`. -/
def cmdWordOf (a : Arg) : Option (String × Bool) :=
  let q := a.text.getLast? == some '?'
  let l := if q then a.text.dropLast else a.text
  let ok := (l.head?.any fun c => isUp (upCh c)) && l.all fun c => isUp (upCh c) || isDig c
  if a.quoted || a.name.isSome || !ok then none else some (upper l, q)

def isPrefixOf (p w : String) : Bool := (w.toList.take p.length) == p.toList

/-- R103, R111: the command word that a word stands for: itself, or, where abbreviation is allowed, the one it begins. -/
def commandWord (w : String) (abbr q : Bool) : Except Nat String :=
  let form (e : String × Bool × Bool) : Except Nat String := if (if q then e.2.2 else e.2.1) then .ok e.1 else .error 113
  match commandIndex.find? fun e => e.1 == w with
  | some e => form e
  | none =>
    if !abbr || w.length < 2 then .error 101
    else match commandIndex.filter fun e => isPrefixOf w e.1 with
      | [] => .error 101
      | [e] => form e
      | _ => .error 110

/-! ## Register targets (R130) -/

def regByName (n : String) : Option Reg :=
  (List.range 25).findSome? fun b => (regsOfBlock b).find? fun r => regName r == n

/-- The index in brackets at the end of a name, innermost last, and the name before it. -/
def splitIndex (l : List Char) : Option (List Char × List Nat) :=
  match splitAt '[' l with
  | (n, none) => some (n, [])
  | (n, some x) =>
    let parts := x.splitOn '['
    if parts.all (fun p => p.getLast? == some ']') then
      (parts.mapM fun p => if p.dropLast.isEmpty || 4 < p.length then none else digitsVal 10 p.dropLast).map fun is => (n, is)
    else none

/-- The fields of word `j` of a mailbox (Table 10.6). -/
def mbxFields (j : Nat) : List (String × Fld) :=
  if j < 4 then [("VALUE", .DEC_MBX_VALUE)]
  else if j = 4 then [("TAG", .DEC_MBX_TAG), ("FLAGS", .DEC_MBX_FLAGS), ("VALID", .DEC_MBX_VALID)]
  else [("POP", .DEC_MBX_POP)]

/-- The fields of a register with its second index. -/
def fieldsAt (r : Reg) (j : Nat) : List (String × Fld) := if r = .DEC_MBX then mbxFields j else regFields r

def regTarget (a : Arg) : Except Nat RegTarget :=
  if a.isHex || a.numeric then
    match a.mask with
    | .ok v => .ok (.addr v)
    | .error e => .error e
  else
    let bad : Except Nat RegTarget := .error 301
    let (n, f) := splitAt '.' (a.text.map upCh)
    if a.quoted then .error 109
    else match splitIndex n with
    | none => bad
    | some (n, is) =>
      match regByName (String.ofList n) with
      | none => bad
      | some r =>
        let p := regPlace r
        let want := (if p.s = 0 then 0 else 1) + (if p.t = 0 then 0 else 1)
        let i := if p.s = 0 then 0 else is.getD 0 0
        let j := if p.t = 0 then 0 else is.getD (want - 1) 0
        if is.length ≠ want ∨ !regExists r i j then bad
        else match f with
          | none => .ok (.reg r i j)
          | some f =>
            match (fieldsAt r j).find? fun e => e.1 == String.ofList f with
            | some e => .ok (.field e.2 i j)
            | none => bad

/-! ## General commands (spec/05_puarn_commands.md, spec/06_rings_and_events.md) -/

def ownerNames : List (String × Owner) :=
  [("BOARD", .board), ("S0", .stn 0), ("S1", .stn 1), ("S2", .stn 2), ("S3", .stn 3)]

def classNames : List (String × EvClass) := [("TRIP", .trip), ("FAULT", .fault), ("ATTN", .attn), ("FIN", .fin)]

def policyTargets : List (String × PolicyTarget) :=
  [("FIO", .fio), ("AIN", .ain), ("DA", .da), ("EN", .en), ("RES", .res), ("REF", .ref), ("VCORE", .vcore), ("LINK", .link)]

def policyModes : List (String × PolicyMode) := [("OFF", .off), ("REPORT", .report), ("ADAPT", .adapt)]

/-- `target [i[-j]]`: a target with instances needs one; one without takes none. -/
def policyArgs (t i : Option Arg) : Except Nat (PolicyTarget × Nat × Nat) := do
  let t ← (← orArg t).oneOf policyTargets
  match i with
  | none => if (policyFld t).2 = 1 then .ok (t, 0, 0) else .error 109
  | some a =>
    let (x, y) ← a.range
    if (policyFld t).2 = 1 then .error 301 else .ok (t, x, y)

/-- `yyyy-mm-ddThh:mm:ss`. -/
def dateOf (s : String) : Except Nat DateTime :=
  let l := s.toList
  let num (i n : Nat) : Option Nat :=
    let d := (l.drop i).take n
    if d.all isDig then digitsVal 10 d else none
  let sep := [(4, '-'), (7, '-'), (10, 'T'), (13, ':'), (16, ':')].all fun (e : Nat × Char) => l[e.1]? == some e.2
  match num 0 4, num 5 2, num 8 2, num 11 2, num 14 2, num 17 2 with
  | some y, some m, some d, some h, some mi, some se =>
    if l.length = 19 ∧ sep then .ok ⟨y, m, d, h, mi, se⟩ else .error 109
  | _, _, _, _, _, _ => .error 109

/-- The WSN of `CANCEL`, `RELEASE` and `OUTCOME?` with SRC and SER. -/
def wsnArgs (l : Args) : Except Nat (Nat × Option Nat × Option Nat) := do
  match l.pos with
  | [w] => .ok (← w.sel 1 0xFFFFFFFF, ← l.opt "SRC" Arg.nat, ← l.opt "SER" Arg.nat)
  | _ => .error 109

def parseGeneral (o : Origin) (w : String) (q : Bool) (l : Args) : Except Nat Instr := do
  match w, q, l.pos, l.kws with
  | "AUTH", true, [], _ => l.takes []; .ok (.authQuery o)
  | "AUTH", false, [_], ["OFF"] => l.takes []; .ok (.authOff o)
  | "AUTH", false, [a], _ => l.takes []; .ok (.auth o (← a.key 1 16))
  | "STN", true, [], _ => l.takes []; .ok (.stnQuery o)
  | "STN", false, [a], _ => l.takes []; .ok (.stnSelect o (← a.stn))
  | "AUTHSET", false, [a, k], _ => l.takes []; .ok (.authset o (← a.oneOf ownerNames) (← k.key 1 16))
  | "ID", true, [], _ => l.takes []; .ok (.idQuery o)
  | "TIME", true, [], _ => l.takes []; .ok (.timeQuery o)
  | "TIME", false, [_, d], "RTC" :: _ => l.takes []; .ok (.timeRtc o (← dateOf (← d.string)))
  | "REG", false, [t, v], _ => l.takes []; .ok (.reg o (← regTarget t) (← v.num))
  | "REG", true, [t], _ => do
    l.takes ["N"]
    let t ← regTarget t
    match l.find "N", t with
    | none, t => .ok (.regQuery o t 1)
    | some _, .field .. => .error 109
    | some a, t => .ok (.regQuery o t (← a.sel 1 16))
  | "WSN", true, [], _ => l.takes ["SRC"]; .ok (.wsnQuery o (← l.opt "SRC" Arg.nat))
  | "OUTCOME", true, _, _ => do
    l.takes ["SRC", "SER", "N"]
    let (w, src, ser) ← wsnArgs l
    .ok (.outcomeQuery o w src ser ((← l.opt "N" fun a => a.sel 1 32).getD 1))
  | "CANCEL", false, _, _ => do
    l.takes ["SRC", "SER"]
    let (w, src, ser) ← wsnArgs l
    .ok (.cancel o w src ser)
  | "RELEASE", false, _, _ => do
    l.takes ["SRC", "SER"]
    let (w, src, ser) ← wsnArgs l
    .ok (.release o w src ser)
  | "SERIES", false, _, ["RESTART"] => l.takes []; .ok (.seriesRestart o)
  | "JRN", true, [], _ => l.takes []; .ok (.jrnQuery o)
  | "JRN", true, _, ["SOURCES"] => l.takes []; .ok (.jrnSourcesQuery o)
  | "RESET", false, _, ["WARM"] => l.takes []; .ok (.resetWarm o)
  | "RESET", false, _, ["COLD"] => l.takes []; .ok (.resetCold o)
  | "POLICY", false, [t, m], _ => do
    l.takes []
    let (t, i, j) ← policyArgs (some t) none
    .ok (.policy o t i j (← m.oneOf policyModes))
  | "POLICY", false, [t, i, m], _ => do
    l.takes []
    let m ← m.oneOf policyModes
    let (t, i, j) ← policyArgs (some t) (some i)
    .ok (.policy o t i j m)
  | "POLICY", true, t :: i, _ => do
    l.takes []
    if 1 < i.length then .error 109
    else
      let (t, i, j) ← policyArgs (some t) i.head?
      .ok (.policyQuery o t i j)
  | "RING", false, [r], _ => l.takes ["DEPTH"]; .ok (.ringDepth o (← r.fin 16) (← l.req "DEPTH" Arg.nat))
  | "RING", true, [], _ => l.takes []; .ok (.ringQuery o none)
  | "RING", true, [r], _ => l.takes []; .ok (.ringQuery o (some (← r.fin 16)))
  | "EVENT", false, [_, c, n], "ACK" :: _ =>
    l.takes []; .ok (.eventAck o (← c.oneOf classNames) (← n.sel 0 (10 ^ 10)))
  | "EVENT", true, [c], _ => do
    l.takes ["FROM", "N"]
    .ok (.eventQuery o (← c.oneOf classNames) (← l.opt "FROM" fun a => a.sel 1 (10 ^ 10)) ((← l.opt "N" fun a => a.sel 1 32).getD 8))
  | _, _, _, _ => .error 109

/-! ## Programs and motion (spec/07_part_programs.md to spec/10_decimal_engine.md) -/

def optStn (l : Args) : Except Nat (Option (Fin 4)) := l.opt "STN" Arg.stn

def axisLimits (l : Args) : Except Nat AxisLimits := do
  l.takes ["VMAX", "VRAPID", "AMAX", "JMAX", "JOGF", "LO", "HI", "SLEN"]
  if l.named.isEmpty then .error 109
  else .ok ⟨← l.opt "VMAX" Arg.dec, ← l.opt "VRAPID" Arg.dec, ← l.opt "AMAX" Arg.dec, ← l.opt "JMAX" Arg.dec,
    ← l.opt "JOGF" Arg.dec, ← l.opt "LO" Arg.dec, ← l.opt "HI" Arg.dec, ← l.opt "SLEN" Arg.onOff⟩

def stnLimits (l : Args) : Except Nat StnLimits := do
  l.takes ["HOLDT", "RTOL", "APPF", "CDV", "ENDLY", "BLEND"]
  if l.named.isEmpty then .error 109
  else .ok ⟨← l.opt "HOLDT" Arg.dec, ← l.opt "RTOL" Arg.dec, ← l.opt "APPF" Arg.dec, ← l.opt "CDV" Arg.dec,
    ← l.opt "ENDLY" Arg.dec, ← l.opt "BLEND" Arg.onOff⟩

def parseMotion (o : Origin) (w : String) (q : Bool) (l : Args) : Except Nat Instr := do
  match w, q, l.pos, l.kws with
  | "PROG", false, [_, p], "NEW" :: _ => l.takes []; .ok (.progNew o (← p.nat) "")
  | "PROG", false, [_, p, t], "NEW" :: _ => l.takes []; .ok (.progNew o (← p.nat) (← t.string))
  | "PROG", false, [_, p, b], "ADD" :: _ => l.takes []; .ok (.progAdd o (← p.nat) (← b.string))
  | "PROG", false, [_, p], "END" :: _ => l.takes []; .ok (.progEnd o (← p.nat))
  | "PROG", false, [_, p], "DEL" :: _ => l.takes []; .ok (.progDel o (← p.nat))
  | "PROG", true, [], _ => l.takes []; .ok (.progQuery o none none 8)
  | "PROG", true, [p], _ => do
    l.takes ["FROM", "N"]
    .ok (.progQuery o (some (← p.nat)) (← l.opt "FROM" fun a => a.sel 1 (10 ^ 10)) ((← l.opt "N" fun a => a.sel 1 32).getD 8))
  | "RUN", false, [p], _ => do
    l.takes ["STN", "FROM"]
    .ok (.run o (← p.nat) (← optStn l) ((← l.opt "FROM" Arg.nat).getD 1))
  | "MDI", false, [b], _ => l.takes ["STN"]; .ok (.mdi o (← b.string) (← optStn l))
  | "TAPE", false, [_, p], "READ" :: _ => l.takes []; .ok (.tapeRead o (← p.nat))
  | "TAPE", false, _, ["RUN"] => l.takes ["STN"]; .ok (.tapeRun o (← optStn l))
  | "TAPE", false, _, ["STOP"] => l.takes []; .ok (.tapeStop o)
  | "TAPE", true, [], _ => l.takes []; .ok (.tapeQuery o)
  | "MFIN", false, [], _ => l.takes ["STN"]; .ok (.mfin o (← optStn l))
  | "HOLD", false, [], _ => l.takes ["STN", "T"]; .ok (.hold o (← optStn l) (← l.opt "T" Arg.dec))
  | "STOP", false, [], _ => l.takes ["STN"]; .ok (.stop o (← optStn l))
  | "RESUME", false, [], _ => l.takes ["STN"]; .ok (.resume o (← optStn l))
  | "OVR", false, [], _ => do
    l.takes ["STN", "FEED", "RAPID", "SPINDLE"]
    .ok (.ovr o (← optStn l) (← l.opt "FEED" Arg.nat) (← l.opt "RAPID" Arg.nat) (← l.opt "SPINDLE" Arg.nat))
  | "OVR", true, [], _ => l.takes ["STN"]; .ok (.ovrQuery o (← optStn l))
  | "LIMIT", false, [_, a], "AXIS" :: _ => .ok (.limitAxis o (← a.nat) (← axisLimits l))
  | "LIMIT", false, [_, k], "STN" :: _ => .ok (.limitStn o (← k.stn) (← stnLimits l))
  | "LIMIT", true, [_, a], "AXIS" :: _ => l.takes []; .ok (.limitQuery o true (← a.nat))
  | "LIMIT", true, [_, k], "STN" :: _ => l.takes []; .ok (.limitQuery o false (← k.nat))
  | "AXIS", false, [a, _, _], [_, "JOG", "STOP"] => l.takes []; .ok (.axisJogStop o (← a.nat))
  | "AXIS", false, [a, _, d], [_, "JOG", _] => do
    l.takes ["F", "D"]
    .ok (.axisJog o (← a.nat) (← d.oneOf [("+", true), ("-", false)]) (← l.opt "F" Arg.dec) (← l.opt "D" Arg.dec))
  | "AXIS", false, [a, _, _], [_, "HW", "OFF"] => l.takes []; .ok (.axisHwOff o (← a.nat))
  | "AXIS", false, [a, _, n], [_, "HW", _] => l.takes ["MULT"]; .ok (.axisHw o (← a.nat) (← n.fin 2) (← l.req "MULT" Arg.nat))
  | "AXIS", false, [a, _], [_, "REF"] => l.takes ["POS"]; .ok (.axisRef o (← a.nat) (← l.req "POS" Arg.dec))
  | "STATE", true, [], _ => l.takes ["STN"]; .ok (.stateQuery o (← optStn l))
  | "SERVO", false, [a, _], [_, "RESCAL"] => l.takes []; .ok (.servoRescal o (← a.nat))
  | "SERVO", false, [a], _ => .ok (.servo o (← a.nat) (← l.sets (servoNames.map fun e =>
      (e.1, if e.1 = "MODE" then (fun a => if a.kw = "OFF" then .ok (setTo e.2 0) else setInt e.2 a) else setPlain e.2))))
  | "SERVO", true, [a], _ => l.takes []; .ok (.servoQuery o (← a.nat))
  | "COMP", false, [a, _, i, v], _ :: "PT" :: _ => l.takes []; .ok (.compPt o (← a.nat) (← i.nat) (← v.int))
  | "COMP", false, [a], _ => .ok (.comp o (← a.nat) (← l.sets (compNames.map fun e => (e.1, setPlain e.2))))
  | "COMP", true, [a], _ => do
    l.takes ["FROM", "N"]
    .ok (.compQuery o (← a.nat) ((← l.opt "FROM" Arg.nat).getD 0) ((← l.opt "N" fun a => a.sel 1 32).getD 8))
  | "CALC", true, [e], _ => do
    l.takes ["RM", "ANG"]
    .ok (.calcQuery o (← e.string) ((← l.opt "RM" Arg.nat).getD 0)
      ((← l.opt "ANG" fun a => a.oneOf [("DEG", true), ("RAD", false)]).getD false))
  | "DEC", true, [], _ => l.takes []; .ok (.decQuery o)
  | "CORE", false, [c, _], [_, "ASSIGN"] => l.takes ["STN"]; .ok (.coreAssign o (← c.nat) (← l.req "STN" Arg.code))
  | "CORE", false, _, ["SPARE", "NONE"] => l.takes []; .ok (.coreSpare o none)
  | "CORE", false, [_, c], "SPARE" :: _ => l.takes []; .ok (.coreSpare o (some (← c.nat)))
  | "CORE", false, [c, _], [_, "HALT"] => l.takes []; .ok (.coreHalt o (← c.nat))
  | "CORE", false, [c, _], [_, "START"] => l.takes []; .ok (.coreStart o (← c.nat))
  | "CORE", false, [c, _], [_, "CLEAR"] => l.takes []; .ok (.coreClear o (← c.nat))
  | "CORE", true, [], _ => l.takes []; .ok (.coreQuery o none)
  | "CORE", true, [c], _ => l.takes []; .ok (.coreQuery o (some (← c.nat)))
  | _, _, _, _ => .error 109

/-! ## Fabric, converters and outputs (spec/13_reedbed_and_fabric.md to spec/15_outputs_and_excitation.md) -/

/-- `ACn.P` and the like (R363). -/
def sinkOf (a : Arg) : Option (Fin 216) :=
  match splitAt '.' (a.text.map upCh) with
  | (n, some [c]) =>
    let k : Option Nat := match c with
      | 'P' => some 0
      | 'N' => some 1
      | 'X' => some 2
      | _ => none
    (Arg.res ⟨none, false, n⟩ "AC" 64).bind fun i => k.bind fun k => if h : 3 * i.val + k < 216 then some ⟨3 * i.val + k, h⟩ else none
  | (_, none) =>
    ((a.res "PA" 16).map fun i => (⟨192 + i.val, by omega⟩ : Fin 216)).or
      ((a.res "FA" 8).map fun i => ⟨208 + i.val, by omega⟩)
  | _ => none

def sourceOf (a : Arg) : Option (Fin 105) :=
  if a.kw = "AGND" then some 104
  else ((a.res "AIN" 32).map fun i => (⟨i.val, by omega⟩ : Fin 105)).or
    (((a.res "AC" 64).map fun i => (⟨32 + i.val, by omega⟩ : Fin 105)).or
      ((a.res "RC" 8).map fun i => ⟨96 + i.val, by omega⟩))

def routesOf (l : Args) : Except Nat (List (Fin 216 × Fin 105)) :=
  let names := l.named.filterMap (·.name)
  if !l.pos.isEmpty || l.named.isEmpty || 16 < l.named.length || names.eraseDups.length != names.length then .error 109
  else match l.named.mapM fun a => (sinkOf ⟨none, false, ((a.name.getD "").toList)⟩).bind fun k => (sourceOf a).map fun v => (k, v) with
    | some r => .ok r
    | none => .error 301

/-- `PAn` or `FAn`. -/
def chanOf (a : Arg) : Except Nat Chan :=
  orArg (((a.res "PA" 16).map fun i => (⟨i.val, by omega⟩ : Chan)).or ((a.res "FA" 8).map fun i => ⟨16 + i.val, by omega⟩))

def chanRange (a : Arg) : Except Nat (Chan × Chan) :=
  match splitAt '-' a.text with
  | (_, none) => (chanOf a).map fun c => (c, c)
  | (i, some j) =>
    match chanOf ⟨none, a.quoted, i⟩, chanOf ⟨none, a.quoted, j⟩ with
    | .ok x, .ok y => .ok (x, y)
    | _, _ => .error 109

def paOf (a : Arg) : Except Nat (Fin 16) := orArg (a.res "PA" 16)
def bankArg (a : Arg) : Except Nat Bool := a.oneOf [("A", false), ("B", true)]

/-- `EXe`, or its number. -/
def excOf (a : Arg) : Except Nat (Fin 4) :=
  match a.res "EX" 4 with
  | some g => .ok g
  | none => a.fin 4

/-- `PHASE=i.f`: two integers. -/
def phaseArg (a : Arg) : Except Nat (Nat × Nat) :=
  match splitAt '.' a.text with
  | (i, some f) =>
    if a.quoted || i.isEmpty || f.isEmpty || 10 < i.length || 10 < f.length then a.noNum
    else match digitsVal 10 i, digitsVal 10 f with
      | some x, some y => .ok (x, y)
      | _, _ => a.noNum
  | _ => a.noNum

def spanNames : List (String × Nat) := [("BI10", 0), ("BI5", 1), ("UNI10", 2), ("MA20", 3), ("MA4_20", 4)]

/-- What `DAC DAn` sets. A group beyond 3 is a value out of range, as a MAJOR that no register holds is. -/
def dacSetOf (l : Args) : Except Nat DacSet := do
  l.takes ["STN", "SPAN", "LDG", "DG", "MAJOR"]
  let g ← l.opt "LDG" Arg.nat
  let major ← l.opt "MAJOR" Arg.nat
  let badG := g.any fun n => 4 ≤ n
  if l.named.isEmpty then .error 109
  else .ok ⟨← l.opt "STN" Arg.code, ← l.opt "SPAN" (fun a => a.oneOf spanNames),
    g.map fun n => ⟨n % 4, by omega⟩, ← l.opt "DG" Arg.onOff, if badG then some tooLarge else major⟩

def excSetOf (l : Args) : Except Nat ExcSet := do
  l.takes ["STN", "AMP", "F", "PHASE", "AR", "FR"]
  if l.named.isEmpty then .error 109
  else .ok ⟨← l.opt "STN" Arg.code, ← l.opt "AMP" Arg.dec, ← l.opt "F" Arg.dec, ← l.opt "PHASE" Arg.dec,
    ← l.opt "AR" Arg.nat, ← l.opt "FR" Arg.nat⟩

/-- 1 to 8 values. -/
def eight {α : Type} (l : List Arg) (f : Arg → Except Nat α) : Except Nat (List α) :=
  if l.isEmpty || 8 < l.length then .error 109 else l.mapM f

def parseRegion (o : Origin) (q : Bool) (l : Args) : Except Nat Instr := do
  match q, l.pos, l.kws with
  | true, [], _ => l.takes []; .ok (.regionQuery o none)
  | true, [r], _ => l.takes []; .ok (.regionQuery o (some (← r.fin 8)))
  | false, _, ["LOAD"] => l.takes ["IMG", "AT"]; .ok (.regionLoad o (← l.req "IMG" Arg.nat) (← l.opt "AT" Arg.count64))
  | false, [_, _, n, _], ["HANDOFF", "CELL", _, "LAST"] => l.takes []; .ok (.regionHandoffCell o (← n.fin 64) none)
  | false, [_, _, n], ["HANDOFF", "CELL", _] => do
    l.takes ["CONST"]
    .ok (.regionHandoffCell o (← n.fin 64) (some (← l.req "CONST" Arg.dec)))
  | false, [_, _, r, v], ["HANDOFF", "RG", _, _] => do
    l.takes ["OUT"]
    .ok (.regionHandoffRg o (← r.fin 8) (← l.req "OUT" fun a => a.fin 56)
      (← v.oneOf [("LAST", none), ("0", some false), ("1", some true)]))
  | false, [_, i, v], ["REF", _, _] => l.takes []; .ok (.regionRef o (← i.fin 8) (← v.dec))
  | _, _, _ => .error 109

def parseFilter (o : Origin) (q : Bool) (l : Args) : Except Nat Instr := do
  match q, l.pos, l.kws with
  | true, [n], _ => l.takes []; .ok (.filterQuery o (← paOf n))
  | false, [n], _ =>
    let n ← paOf n
    match l.find "PRESET", l.find "PHASE", l.find "BANK" with
    | some p, _, _ => do
      l.takes ["PRESET", "SF"]
      .ok (.filterPreset o n (← p.oneOf [("QUIET", 0), ("STEADY", 1), ("BRISK", 2), ("SWIFT", 3)]) (← l.opt "SF" Arg.nat))
    | none, some p, _ => do
      l.takes ["PHASE"]
      let (i, f) ← phaseArg p
      .ok (.filterPhase o n i f)
    | none, none, some b => l.takes ["BANK", "TAPS"]; .ok (.filterTaps o n (← bankArg b) (← l.req "TAPS" Arg.nat))
    | none, none, none => .error 109
  | false, [n, _], [_, "CUSTOM"] => do
    l.takes ["ORD", "CIC", "FIR"]
    .ok (.filterCustom o (← paOf n) (← l.req "ORD" Arg.nat) (← l.req "CIC" Arg.nat) (← l.req "FIR" Arg.nat))
  | false, n :: _ :: i :: vs, _ :: "COEF" :: _ => do
    l.takes ["BANK"]
    .ok (.filterCoef o (← paOf n) (← l.req "BANK" bankArg) (← i.nat) (← eight vs Arg.dec))
  | false, [n, _], [_, "SWAP"] => l.takes []; .ok (.filterSwap o (← paOf n))
  | false, [n, _], [_, "RESOLVER"] => do
    l.takes ["TRK", "EXC"]
    .ok (.filterResolver o (← paOf n) (← l.req "TRK" Arg.nat) (← l.opt "EXC" excOf))
  | false, [n, _], [_, "RESPHASE"] => l.takes []; .ok (.filterResphase o (← paOf n) 0)
  | _, _, _ => .error 109

def parseAnalog (o : Origin) (w : String) (q : Bool) (l : Args) : Except Nat Instr := do
  match w, q, l.pos, l.kws with
  | "REGION", _, _, _ => parseRegion o q l
  | "FILTER", _, _, _ => parseFilter o q l
  | "XPT", false, _, _ => .ok (.xpt o (← routesOf l))
  | "XPT", true, [], _ => l.takes []; .ok (.xptQuery o none)
  | "XPT", true, [k], _ => do
    l.takes []
    match sinkOf k with
    | some k => .ok (.xptQuery o (some k))
    | none => .error 301
  | "ADC", false, [c], _ => l.takes ["STN"]; .ok (.adcAssign o (← chanOf c) (← l.req "STN" Arg.code))
  | "ADC", true, [], _ => l.takes []; .ok (.adcQuery o none)
  | "ADC", true, [c], _ => l.takes []; .ok (.adcQuery o (some (← chanOf c)))
  | "CAL", false, _, ["ALL"] => l.takes []; .ok (.cal o none)
  | "CAL", false, _, ["REF"] => l.takes []; .ok (.calRef o 0 0 0)
  | "CAL", false, [c], _ => l.takes []; .ok (.cal o (some (← chanRange c)))
  | "DAC", true, [], _ => l.takes []; .ok (.dacQuery o none)
  | "DAC", true, [n], _ => l.takes []; .ok (.dacQuery o (some (← orArg (n.res "DA" 16))))
  | "DAC", false, [_, g], "LOAD" :: _ => l.takes []; .ok (.dacLoad o (← g.fin 4))
  | "DAC", false, [_, g], "LDG" :: _ => do
    l.takes ["TRIG"]
    .ok (.dacLdg o (← g.fin 4) (← l.req "TRIG" fun a => a.oneOf [("TICK", 0), ("RISE", 1), ("FALL", 2), ("CMD", 3)]))
  | "DAC", false, [n, _], [_, "SAFE"] => l.takes []; .ok (.dacSafe o (← orArg (n.res "DA" 16)))
  | "DAC", false, [n], _ => do
    let n ← orArg (n.res "DA" 16)
    match l.find "VALUE" with
    | some v => l.takes ["VALUE", "T"]; .ok (.dacValue o n (← v.dec) ((← l.opt "T" Arg.nat).getD 0))
    | none => .ok (.dacConfig o n (← dacSetOf l))
  | "EXC", true, [], _ => l.takes []; .ok (.excQuery o none)
  | "EXC", true, [g], _ => l.takes []; .ok (.excQuery o (some (← orArg (g.res "EX" 4))))
  | "EXC", false, [g, _, _], [_, "TABLE", "SINE"] => l.takes []; .ok (.excTableSine o (← orArg (g.res "EX" 4)))
  | "EXC", false, [g, _, _], [_, "TABLE", "SWAP"] => l.takes []; .ok (.excTableSwap o (← orArg (g.res "EX" 4)))
  | "EXC", false, g :: _ :: i :: vs, _ :: "TABLE" :: _ => do
    l.takes []
    .ok (.excTable o (← orArg (g.res "EX" 4)) (← i.nat) (← eight vs Arg.nat))
  | "EXC", false, [g], _ => .ok (.exc o (← orArg (g.res "EX" 4)) (← excSetOf l))
  | _, _, _, _ => .error 109

/-! ## The panel and the field pins (spec/16_operator_panel.md, spec/17_field_io.md) -/

def hiLo : List (String × Nat) := [("HI", 1), ("LO", 0)]

/-- `DISP [ROW=r] [POS=p] "text"`. -/
def dispArgs (l : Args) (t : Arg) : Except Nat (Nat × Nat × String) := do
  l.takes ["ROW", "POS"]
  .ok ((← l.opt "ROW" Arg.nat).getD 0, (← l.opt "POS" Arg.nat).getD 0, ← t.string)

/-- `KEYS=a,b`. -/
def keysArg (a : Arg) : Except Nat (List FieldSet) :=
  match splitAt ',' a.text with
  | (x, some y) =>
    match (⟨none, a.quoted, x⟩ : Arg).int, (⟨none, a.quoted, y⟩ : Arg).int with
    | .ok x, .ok y => .ok [⟨.PNL_COMBO_KA, x⟩, ⟨.PNL_COMBO_KB, y⟩]
    | .error e, _ => .error e
    | _, .error e => .error e
  | _ => .error 109

def comboSpec : List SetSpec := [("KEYS", keysArg), ("T", setUnit .PNL_COMBO_T 50)]

def parsePanel (o : Origin) (q : Bool) (l : Args) : Except Nat Instr := do
  match q, l.pos, l.kws with
  | true, [], _ => l.takes []; .ok (.panelQuery o .all)
  | true, [p], _ => do
    l.takes []
    .ok (.panelQuery o (← p.oneOf [("SCAN", .scan), ("KEYS", .keys), ("QUEUE", .queue), ("DISPLAY", .display), ("CHAR", .char)]))
  | false, _, ["SCAN"] => .ok (.panelScan o (← l.sets [("COLS", setInt .PNL_SCAN_NCOL), ("ROWS", setInt .PNL_SCAN_NROW),
      ("COLT", setUnit .PNL_SCAN_COLT 8), ("DEB", setInt .PNL_SCAN_DEB),
      ("MODE", setKw .PNL_SCAN_NKEY [("LOCKOUT", 0), ("NKEY", 1)])]))
  | false, _, ["REPEAT"] => .ok (.panelRepeat o (← l.sets [("DELAY", setUnit .PNL_RPT_RPTD 10), ("RATE", setInt .PNL_RPT_RATE),
      ("LONG", setUnit .PNL_RPT_LONGT 50)]))
  | false, [_, k], ["KEY", _] => l.takes ["RPT"]; .ok (.panelKey o (← k.nat) (← l.req "RPT" Arg.onOff))
  | false, [_, n], ["COMBO", _] => .ok (.panelCombo o (← n.fin 2) (← l.sets comboSpec))
  | false, [_, n, b], ["COMBO", _, _] => do
    let on ← b.onOff
    let sets ← if l.named.isEmpty then .ok [] else l.sets comboSpec
    .ok (.panelCombo o (← n.fin 2) (sets ++ setTo .PNL_COMBO_EN (if on then 1 else 0)))
  | false, [_, i], ["ACTION", _] => .ok (.panelAction o (← i.fin 16) (← l.sets [("KEY", setInt .PNL_KACT_KEY),
      ("EDGE", setKw .PNL_KACT_EDGE [("PRESS", 0), ("LONG", 1)]),
      ("DO", setKw .PNL_KACT_ACT [("NONE", 0), ("HOLD", 1), ("STOP", 2), ("RESUME", 3), ("MFIN", 4)]),
      ("STN", setInt .PNL_KACT_STN)]))
  | false, _, ["OWNER"] => .ok (.panelOwner o (← l.sets [("KSTN", setHex .PNL_OWN_KSTN), ("DSTN", setHex .PNL_OWN_DSTN)]))
  | false, _, ["DISPLAY"] => .ok (.panelDisplay o (← l.sets [("GRIDS", setInt .PNL_DCFG_NGRID), ("RATE", setInt .PNL_DCFG_REFR),
      ("GAP", setInt .PNL_DCFG_GAP), ("FONT", setKw .PNL_DCFG_FONT [("7", 0), ("14", 1)]), ("BRIGHT", setInt .PNL_DBRT_BRT),
      ("SEGPOL", setKw .PNL_DCFG_SEGPOL hiLo), ("GRDPOL", setKw .PNL_DCFG_GRDPOL hiLo)]))
  | false, [_, x], "FONT" :: _ => do
    match (← x.string).toList with
    | [c] => .ok (.panelFont o c (← l.sets [("P14", setHex .PNL_FONT_P14), ("P7", setHex .PNL_FONT_P7)]))
    | _ => .error 109
  | false, _, ["CHAR"] => .ok (.panelChar o (← l.sets [("MODE", setKw .PNL_CHCFG_CHMODE [("OFF", 0), ("TIMED", 1), ("BUSY", 2)]),
      ("EW", setInt .PNL_CHCFG_EW), ("DLY", setInt .PNL_CHCFG_DLY), ("LONGD", setInt .PNL_CHCFG_LONGD)]))
  | _, _, _ => .error 109

/-- R450: the filter times in µs. -/
def filterTime (a : Arg) : Except Nat (List FieldSet) :=
  (a.int).map fun v =>
    setTo .FIO_CFG_FILT (match [0, 50, 200, 1000, 3000, 10000, 20000, 50000].findIdx? fun (t : Int) => t == v with
      | some i => i
      | none => -1)

def limArg (a : Arg) : Except Nat (List FieldSet) :=
  (a.dec).map fun d => setTo .FIO_CFG_LIM (if decRat d = 1 / 2 then 0 else if decRat d = 1 / 4 then 1 else -1)

def enaxArg (a : Arg) : Except Nat (List FieldSet) :=
  if a.kw = "NONE" then .ok (setTo .FIO_CFG_ENAX 15) else (a.int).map fun v => setTo .FIO_CFG_ENAX (if v ≤ 11 then v else -1)

def fioSpec : List SetSpec :=
  [("STN", setCode .FIO_CFG_STN),
    ("FN", setKw .FIO_CFG_FN [("OFF", 0), ("IN1", 1), ("IN3", 2), ("INSRC", 3), ("NAMUR", 4), ("OUT", 5)]),
    ("FILT", filterTime), ("FAILV", setKw .FIO_CFG_FAILV [("0", 0), ("1", 1), ("HOLD", 2)]),
    ("TRIPOFF", setOnOff .FIO_CFG_TRIPOFF), ("WB", setOnOff .FIO_CFG_WB), ("LIM", limArg), ("ENAX", enaxArg)]

def parseFio (o : Origin) (q : Bool) (l : Args) : Except Nat Instr := do
  match q, l.pos, l.kws with
  | true, [], _ => l.takes []; .ok (.fioQuery o (.pins none))
  | true, [_, i], "AIN" :: _ => l.takes []; .ok (.fioQuery o (.ain (← i.nat)))
  | true, [_, g], "GROUP" :: _ => l.takes []; .ok (.fioQuery o (.group (← g.nat)))
  | true, [n], _ => l.takes []; .ok (.fioQuery o (.pins (some (← n.range))))
  | false, [_, i], "AIN" :: _ => .ok (.fioAin o (← i.nat) (← l.sets [("OW", setOnOff .FIO_ACFG_OWEN),
      ("TPER", setUnit .FIO_ACFG_TPER 10), ("UNI", setOnOff .FIO_ACFG_UNI)]))
  | false, [n, _], [_, "CLEAR"] => l.takes []; .ok (.fioClear o (← n.nat))
  | false, [n], _ => do
    match l.find "OUT" with
    | some b => l.takes ["OUT"]; .ok (.fioOut o (← n.nat) (← b.onOff))
    | none =>
      let (x, y) ← n.range
      .ok (.fio o x y (← l.sets fioSpec))
  | _, _, _ => .error 109

def parseField (o : Origin) (w : String) (q : Bool) (l : Args) : Except Nat Instr := do
  match w, q, l.pos, l.kws with
  | "PANEL", _, _, _ => parsePanel o q l
  | "FIO", _, _, _ => parseFio o q l
  | "DISP", false, [_, t], "FAULT" :: _ => do
    let (r, p, t) ← dispArgs l t
    .ok (.dispFault o r p t)
  | "DISP", false, _, ["CLEAR"] => l.takes []; .ok (.dispClear o false)
  | "DISP", false, _, ["CLEAR", "FAULT"] => l.takes []; .ok (.dispClear o true)
  | "DISP", false, [_, t], "CHR" :: _ => l.takes []; .ok (.dispChr o (← t.string))
  | "DISP", false, _, ["CHR"] => l.takes ["CMD"]; .ok (.dispChrCmd o (← l.req "CMD" Arg.hex))
  | "DISP", false, [t], _ => do
    let (r, p, t) ← dispArgs l t
    .ok (.disp o r p t)
  | _, _, _, _ => .error 109

/-! ## Link, storage, images, supplies and observation (spec/18_ohmid_link.md to spec/22_observation.md) -/

def parseLink (o : Origin) (q : Bool) (l : Args) : Except Nat Instr := do
  match q, l.pos, l.kws with
  | true, [], _ => l.takes []; .ok (.linkQuery o)
  | true, [_, w], "TXN" :: _ => l.takes ["SRC"]; .ok (.linkTxnQuery o (← w.nat) (← l.opt "SRC" Arg.nat))
  | false, _, ["CFG"] => .ok (.linkCfg o (← l.sets [("RETRY", setInt .OLK_CFG_RETRY), ("TMO", setInt .OLK_CFG_TMO),
      ("LEAD", setInt .OLK_CFG2_LEAD), ("PQ", setInt .OLK_CFG2_PQ), ("TXEN", setOnOff .OLK_CFG_TXEN)]))
  | false, [p, _], [_, "CLEAR"] => l.takes []; .ok (.linkClear o (← p.fin 2))
  | false, [d, _], [_, "RESTART"] => l.takes []; .ok (.linkRestart o (← d.fin 8))
  | false, [_, d], ["AUTH", _] => do
    l.takes ["STN", "BOARD"]
    .ok (.linkAuth o (← d.fin 8) (← l.req "STN" Arg.mask) (← l.req "BOARD" Arg.onOff))
  | false, _, ["MIRROR"] => do
    l.takes ["OUT", "IN"]
    .ok (.linkMirror o (← l.req "OUT" Arg.mask) (← l.req "IN" fun a => if a.kw = "OFF" then .ok none else (a.nat).map some))
  | false, [p], _ => do
    l.takes ["RATE"]
    .ok (.linkPortRate o (← p.fin 2) (← l.req "RATE" fun a => a.oneOf [("250", false), ("125", true)]))
  | _, _, _ => .error 109

def slotArg (a : Arg) : Except Nat (Fin 2) := a.oneOf [("A", 0), ("B", 1)]

def parseImage (o : Origin) (q : Bool) (l : Args) : Except Nat Instr := do
  match q, l.pos, l.kws with
  | true, [], _ => l.takes []; .ok (.imageQuery o)
  | true, [_, c], "CHECK" :: _ => do
    l.takes []
    .ok (.imageCheck o (← c.oneOf [("A", 0), ("B", 1), ("SPIA", 2), ("SPIB", 3)]) [])
  | false, _, ["POLICY"] => .ok (.imagePolicy o (← l.sets [("BOOT", setKw .CFG_POLICY_BOOT [("A", 0), ("B", 1)]),
      ("FALLBACK", setOnOff .CFG_POLICY_FALLBACK), ("WAIT", setInt .CFG_POLICY_WAIT)]))
  | false, [_, k], ["KEY", _] => l.takes ["SET"]; .ok (.imageKeySet o (← k.fin 4) (← l.req "SET" fun a => a.key 64 64))
  | false, [_, k, _], ["KEY", _, "REVOKE"] => l.takes []; .ok (.imageKeyRevoke o (← k.fin 4))
  | false, _, ["LOCK"] => l.takes []; .ok (.imageLock o)
  | false, [_, n], "STAGE" :: _ => l.takes ["SLOT"]; .ok (.imageStage o (← n.nat) (← l.opt "SLOT" slotArg))
  | false, [_, n], "UNSTAGE" :: _ => l.takes []; .ok (.imageUnstage o (← n.nat))
  | _, _, _ => .error 109

def parsePwr (o : Origin) (q : Bool) (l : Args) : Except Nat Instr := do
  match q, l.pos, l.kws with
  | true, [], _ => l.takes []; .ok (.pwrQuery o)
  | false, [_, k], ["STN", _] => do
    let _ ← l.req "IDLE" fun _ => .ok ()
    .ok (.pwrStnIdle o (← k.stn) (← l.sets [("IDLE", setKw .PWR_IDLE_LEVEL [("NONE", 0), ("DOZE", 1), ("SLEEP", 2)]),
      ("DLY", setInt .PWR_IDLE_DLY)]))
  | false, [_, k, _], ["STN", _, "ON"] => l.takes []; .ok (.pwrStnOn o (← k.stn))
  | false, [_, b], ["OBS", _] => l.takes []; .ok (.pwrObs o (← b.onOff))
  | false, [_, b], ["WDT", _] => l.takes ["PER"]; .ok (.pwrWdt o (← b.onOff) (← l.opt "PER" Arg.nat))
  | false, [], _ => l.takes ["HOLDMIN"]; .ok (.pwrHoldmin o (← l.req "HOLDMIN" Arg.int))
  | _, _, _ => .error 109

def scopeNames : List (String × ObsScope) := [("BOARD", .owner .board), ("ALL", .all)]

def scopeArg (a : Arg) : Except Nat ObsScope :=
  match scopeNames.find? fun e => e.1 == a.kw with
  | some e => .ok e.2
  | none => (a.stn).map fun k => .owner (.stn k)

/-- The filter settings of a probe, by the names of their fields. -/
def probeSpec : List SetSpec :=
  [("KIND", setNum .NOC_PCFG_KIND), ("VC", setNum .NOC_PCFG_VC), ("STN", setNum .NOC_PCFG_STN), ("BRD", setPlain .NOC_PCFG_BRD),
    ("SRC", setNum .NOC_PCFG_SRC), ("SRCANY", setPlain .NOC_PCFG_SRCANY), ("DST", setNum .NOC_PCFG_DST),
    ("DSTANY", setPlain .NOC_PCFG_DSTANY), ("LO", setNum .NOC_PALO_LO), ("HI", setNum .NOC_PAHI_HI),
    ("TRACE", setOnOff .NOC_PCFG_TRACE)]

def watchSpec : List SetSpec :=
  [("LO", setNum .OBS_WPLO_ADDR), ("HI", setNum .OBS_WPHI_ADDR), ("RD", setOnOff .OBS_WPCFG_RD), ("WR", setOnOff .OBS_WPCFG_WR),
    ("STN", setNum .OBS_WPCFG_STN), ("BRD", setOnOff .OBS_WPCFG_BRD), ("TRACE", setOnOff .OBS_WPCFG_TRACE),
    ("FREEZE", setOnOff .OBS_WPCFG_FREEZE)]

def engArg (a : Arg) : Except Nat (List FieldSet) :=
  (a.count64).map fun n => setTo .OBS_TRENG_LO_ENG ((n % 2 ^ 32 : Nat) : Int) ++ setTo .OBS_TRENG_HI_ENG ((n / 2 ^ 32 : Nat) : Int)

def traceSpec : List SetSpec :=
  [("PORT", setOnOff .OBS_TRCFG_PORTEN), ("BUF", setOnOff .OBS_TRCFG_BUFEN),
    ("RATE", setKw .OBS_TRCFG_DIV [("98", 0), ("49", 1), ("24", 2), ("12", 3)]), ("POST", setInt .OBS_TRCFG_POST),
    ("KINDS", setNum .OBS_TRKIND_KINDS), ("STN", setNum .OBS_TRCFG_STN), ("BRD", setOnOff .OBS_TRCFG_BRD), ("ENG", engArg),
    ("AXES", setNum .OBS_TRSET_AXES)]

def parseObs (o : Origin) (q : Bool) (l : Args) : Except Nat Instr := do
  match q, l.pos, l.kws with
  | false, _, ["CLEAR"] => l.takes ["STN"]; .ok (.obsClear o (← l.opt "STN" scopeArg))
  | false, [_, c], ["CLEAR", _] => l.takes []; .ok (.obsClear o (some (← c.oneOf scopeNames)))
  | false, [_, n], ["PROBE", _] => .ok (.obsProbe o (← n.nat) (← l.sets probeSpec))
  | false, [_, n], ["WATCH", _] => .ok (.obsWatch o (← n.nat) (← l.sets watchSpec))
  | true, _, ["ENG"] => l.takes ["STN"]; .ok (.obsEngQuery o none (← optStn l) false)
  | true, [_, e], ["ENG", _] => l.takes []; .ok (.obsEngQuery o (some (← e.nat)) none false)
  | true, [_, e, _], ["ENG", _, "REASONS"] => l.takes []; .ok (.obsEngQuery o (some (← e.nat)) none true)
  | true, _, ["RSVOP"] => l.takes []; .ok (.obsRsvopQuery o)
  | true, _, ["PROBE"] => l.takes []; .ok (.obsProbeQuery o none)
  | true, [_, n], ["PROBE", _] => l.takes []; .ok (.obsProbeQuery o (some (← n.nat)))
  | true, _, ["WATCH"] => l.takes []; .ok (.obsWatchQuery o none)
  | true, [_, n], ["WATCH", _] => l.takes []; .ok (.obsWatchQuery o (some (← n.nat)))
  | _, _, _ => .error 109

def parseSystem (o : Origin) (w : String) (q : Bool) (l : Args) : Except Nat Instr := do
  match w, q, l.pos, l.kws with
  | "LINK", _, _, _ => parseLink o q l
  | "IMAGE", _, _, _ => parseImage o q l
  | "PWR", _, _, _ => parsePwr o q l
  | "OBS", _, _, _ => parseObs o q l
  | "PEER", false, [t], _ => l.takes ["MASK"]; .ok (.peerMask o (← l.req "MASK" Arg.mask) (← t.string))
  | "PEER", false, [d, t], _ => l.takes []; .ok (.peer o (← d.fin 8) (← t.string))
  | "PEER", true, [d, t], _ => l.takes []; .ok (.peerQuery o (← d.fin 8) (← t.string))
  | "FLASH", true, [], _ => l.takes []; .ok (.flashQuery o none)
  | "FLASH", true, [n], _ => l.takes []; .ok (.flashQuery o (some (← n.nat)))
  | "FLASH", false, [_, n], "ERASE" :: _ => l.takes []; .ok (.flashErase o (← n.nat))
  | "FLASH", false, _ :: a :: ws, "PROG" :: _ => l.takes []; .ok (.flashProg o (← a.mask) (← ws.mapM Arg.hex))
  | "FLASH", false, _, ["SUSPEND"] => l.takes []; .ok (.flashSuspend o)
  | "FLASH", false, _, ["RESUME"] => l.takes []; .ok (.flashResume o)
  | "TRACE", false, [], _ => .ok (.trace o (← l.sets traceSpec))
  | "TRACE", true, [], _ => l.takes []; .ok (.traceQuery o)
  | "TRACE", true, _, ["READ"] => l.takes ["N"]; .ok (.traceRead o ((← l.opt "N" fun a => a.sel 1 32).getD 8))
  | "SKIM", true, [], _ => l.takes []; .ok (.skimQuery o none)
  | "SKIM", true, [k], _ => l.takes []; .ok (.skimQuery o (some (← k.nat)))
  | "SKIM", false, _ :: ks, "START" :: _ => do
    l.takes ["NT"]
    if ks.isEmpty then .error 109 else .ok (.skimStart o (← l.opt "NT" Arg.nat) (← ks.mapM Arg.nat))
  | "SKIM", false, _ :: ks, "STOP" :: _ => l.takes []; if ks.isEmpty then .error 109 else .ok (.skimStop o (← ks.mapM Arg.nat))
  | "SKIM", false, [k], _ => do
    l.takes ["KIND", "INST"]
    if l.named.isEmpty then .error 109 else .ok (.skim o (← k.nat) (← l.opt "KIND" Arg.nat) (← l.opt "INST" Arg.nat))
  | "FREEZE", false, [], _ => l.takes []; .ok (.freeze o)
  | "FREEZE", false, _, ["ON"] => l.takes []; .ok (.freeze o)
  | "FREEZE", false, _, ["OFF"] => l.takes []; .ok (.freezeOff o)
  | "SNAP", true, [], _ => l.takes []; .ok (.snapQuery o false)
  | "SNAP", true, _, ["NEW"] => l.takes []; .ok (.snapQuery o true)
  | _, _, _, _ => .error 109

/-! ## A line -/

/-- The command of a line's tokens. -/
def parseCommand (o : Origin) (w : String) (q : Bool) (l : Args) : Except Nat Instr :=
  if ["AUTH", "STN", "AUTHSET", "ID", "TIME", "REG", "WSN", "OUTCOME", "CANCEL", "RELEASE", "SERIES", "JRN", "RESET", "POLICY",
      "RING", "EVENT"].contains w then parseGeneral o w q l
  else if ["REGION", "FILTER", "XPT", "ADC", "CAL", "DAC", "EXC"].contains w then parseAnalog o w q l
  else if ["PANEL", "FIO", "DISP"].contains w then parseField o w q l
  else if ["LINK", "IMAGE", "PWR", "OBS", "PEER", "FLASH", "TRACE", "SKIM", "FREEZE", "SNAP"].contains w then parseSystem o w q l
  else parseMotion o w q l

/-- Syntax of the text of a line (R99, step 4): the command, an error, or nothing for a line without a token. -/
def parseText (o : Origin) (abbr : Bool) (t : List Char) : Except Nat (Option Instr) :=
  let first := (t.dropWhile isBlank).takeWhile fun c => !isBlank c && c != ';'
  if first.isEmpty then .ok none
  else match cmdWordOf ⟨none, false, first⟩ with
    | none => .error 101
    | some (w, q) =>
      match commandWord w abbr q with
      | .error e => .error e
      | .ok w =>
        match tokens t with
        | .error e => .error e
        | .ok l => (parseCommand o w q (Args.of (l.drop 1))).map some

/-- R94: HT stands for a space, in a string too. -/
def lineChars (l : List Byte) : List Char := l.map fun b => if b.toNat = 9 then ' ' else Char.ofNat b.toNat

end Sys2Proof.Machine
end

