-- ==== Sys2Proof/Machine/PeerCmds.lean ====
section
/-! DEFINITION. What a device sends over the link for its own commands: PEER, PEER?, PEER MASK, LINK RESTART, and LINK? TXN
(spec/18_ohmid_link.md, R483 to R490, R498). -/
namespace Sys2Proof.Machine
open Sys2Proof

/-! ## Transactions on their sender -/

/-- R484: the command word of the line carries `?`. -/
def queryText (t : String) : Bool :=
  ((t.toList.dropWhile isBlank).takeWhile fun c => !isBlank c && c != ';').getLast? == some '?'

/-- R483, R489: the next WSN from OLK_OWSN, journalled. -/
def State.nextOwsn (s : State) (d : Fin 8) : Nat × State :=
  let w := (s.fld .OLK_OWSN_WSN d + 1) % 2 ^ 32
  (w, ((s.setFld .OLK_OWSN_WSN d 0 w).note .OLK_OWSN_WSN d 0))

/-- A frame to one device; this device's own leg comes without a port and carries the session's authority (R485, R488). -/
def State.frameTo (s : State) (d : Fin 8) (typ : Nat) (q : Bool) (wsn txn : Nat) (payload : List Byte) (a : Auth) : State :=
  let f : LinkFrame := ⟨2 ^ d.val, s.ownAddr, typ, 7, false, q, wsn, txn, payload⟩
  if d.val = s.ownAddr then s.setLnk fun l => { l with rx := l.rx ++ [⟨f, some a⟩] } else s.linkSend f

/-- The series that a restart at device `d` leads to (R487). -/
def State.nextOser (s : State) (d : Fin 8) : Nat := nextSeries (s.lnk.oser[d])

/-- A transaction without a line is a `LINK d RESTART`. -/
def Txn.isSeries (t : Txn) : Bool := t.text == ""

/-- A transaction is sent, or sent again, with the same WSN. -/
def State.sendTxn (s : State) (t : Txn) : State :=
  if t.isSeries then s.frameTo t.d typSeries false 0 t.txn (leBytes 2 (s.nextOser t.d)) t.auth
  else s.frameTo t.d typLine (t.st == .query) t.wsn t.txn (textBytes t.text) t.auth

def State.modTxn (s : State) (n : Nat) (f : Txn → Txn) : State :=
  s.setLnk fun l => { l with txns := l.txns.map fun t => if t.txn = n then f t else t }

def State.findTxn (s : State) (n : Nat) : Option Txn := s.lnk.txns.find? fun t => t.txn == n

def State.txnOf (s : State) (k : Key) : Option Txn := s.lnk.txns.find? fun t => t.key == some k

/-- R499: OLK_CFG.TMO in counts. -/
def State.tmoCounts (s : State) : Nat := s.fld .OLK_CFG_TMO * 24576 / 1000

/-- The transaction timeout has run out since `t` (R79). -/
def State.timedOut (s : State) (t : Nat) : Bool := decide (t + s.tmoCounts ≤ s.clk.now)

def State.mcOf (s : State) (k : Key) : Option Multicast := s.lnk.mcs.find? fun m => m.key == k

/-- Transactions of items that are no longer retained are forgotten. -/
def State.pruneTxns (s : State) : State :=
  let kept (k : Key) : Bool := (s.findItem k).isSome
  s.setLnk fun l => { l with txns := l.txns.filter (fun (t : Txn) => (t.key.map kept).getD true)
                             mcs := l.mcs.filter fun (m : Multicast) => kept m.key }

/-- The next transaction number. -/
def State.takeTxn (s : State) : Nat × State :=
  (s.lnk.nextTxn, s.setLnk fun l => { l with nextTxn := (l.nextTxn + 1) % 65536 })

def State.startTxn (s : State) (key : Option Key) (o : Origin) (d : Fin 8) (text : String) (st : TxnSt) : State :=
  let (w, s) := if st == .query || text == "" then (0, s) else s.nextOwsn d
  let (n, s) := s.pruneTxns.takeTxn
  let t : Txn := ⟨key, o, d, w, n, text, s.originAuth o, st, s.clk.now⟩
  (s.setLnk fun l => { l with txns := l.txns ++ [t] }).sendTxn t

/-- The effect of an item that is one transaction. Released after a reset, it goes on with the transaction it has (R497). -/
def runTxn (o : Origin) (d : Fin 8) (text : String) (k : Key) (s : State) : Res :=
  match s.txnOf k with
  | none => .running (s.startTxn (some k) o d text .sent)
  | some t =>
    match t.st with
    | .done => .done s
    | .failed e => .fail e s
    | .sent | .busy => .running ((s.modTxn t.txn fun t => { t with st := .sent, at_ := s.clk.now }).sendTxn t)
    | _ => .running s

/-! ## The commands -/

/-- R477: a line of 1 to 255 characters; R484: and of the right form. -/
def linePre (text : String) (query : Bool) : Option Nat :=
  if text.length = 0 ∨ 255 < text.length then some 109 else if queryText text != query then some 710 else none

/-- R485: a line to this device itself is refused while its address is a duplicate. -/
def State.dupPre (s : State) (d : Fin 8) : Option Nat :=
  if d.val = s.ownAddr ∧ s.flag .OLK_STAT_ADDRDUP then some 701 else none

/-- R483: PEER d. -/
def workPeer (o : Origin) (d : Fin 8) (line : String) (s : State) : Work :=
  { pre := (linePre line false).or (s.dupPre d)
    permit := (s.originAuth o).brd
    chk := if s.devPresent d then none else some 701
    run := runTxn o d line }

def execPeer (o : Origin) (d : Fin 8) (line : String) (s : State) : Host.Outcome State Fault Refusal :=
  .next (s.offer o (.peer o d line) (workPeer o d line s))

/-- R484: PEER? d. Its answer follows when the device has answered, or at the timeout. -/
def execPeerQuery (o : Origin) (d : Fin 8) (line : String) (s : State) : Host.Outcome State Fault Refusal :=
  .next (
    if !s.answering then s
    else if s.rescueOf o then s.refuse o 115
    else if !s.accepting then s.answer o (.busy (originTag o))
    else match (linePre line true).or (s.dupPre d) with
    | some e => s.refuse o e
    | none =>
      if !(s.originAuth o).brd then s.answer o (.er (originTag o) 230 false)
      else if !s.devPresent d then s.answer o (.er (originTag o) 701 false)
      else s.startTxn none o d line .query)

/-- The legs of a multicast, with the WSN of each. -/
def State.mcLegs (s : State) : List (Fin 8) → List McLeg × State
  | [] => ([], s)
  | d :: l =>
    let (w, s) := s.nextOwsn d
    let (ls, s) := State.mcLegs s l
    (⟨d, w, none, false, none, false⟩ :: ls, s)

def maskDevs (m : Nat) : List (Fin 8) := (List.finRange 8).filter fun d => m / 2 ^ d.val % 2 == 1

/-- Table 18.2: eight WSNs, 0 outside the mask, then the line. -/
def preparePayload (legs : List McLeg) (text : String) : List Byte :=
  ((List.finRange 8).flatMap fun (d : Fin 8) => leBytes 4 (((legs.find? fun e => e.d == d).map (·.wsn)).getD 0)) ++ textBytes text

/-- A frame of a multicast to the devices of a mask; this device's own leg comes without a port. -/
def State.frameMask (s : State) (mask typ txn : Nat) (payload : List Byte) (a : Auth) : State :=
  let own := 2 ^ s.ownAddr
  let f : LinkFrame := ⟨mask, s.ownAddr, typ, 7, true, false, 0, txn, payload⟩
  let me := mask / own % 2 == 1
  let s := if me then s.setLnk fun l => { l with rx := l.rx ++ [⟨{ f with dmask := own }, some a⟩] } else s
  let rest := if me then mask - own else mask
  if rest = 0 then s else s.linkSend { f with dmask := rest }

/-- Table 18.3, step 1. -/
def State.startMc (s : State) (k : Key) (o : Origin) (m : Nat) (text : String) : State :=
  let (legs, s) := s.mcLegs (maskDevs m)
  let (n, s) := s.pruneTxns.takeTxn
  let a := s.originAuth o
  let s := s.setLnk fun l => { l with mcs := l.mcs ++ [⟨k, n, m, text, a, legs, .open_, s.clk.now, false, 0⟩] }
  s.frameMask m typPrepare n (preparePayload legs text) a

/-- R488: PEER MASK=m. -/
def workPeerMask (o : Origin) (m : Nat) (line : String) (s : State) : Work :=
  { pre := (linePre line false).or (if 224 < line.length then some 710 else none)
    permit := (s.originAuth o).brd
    chk :=
      if m < 1 ∨ 255 < m then some 511
      else if !(maskBits m).all (s.devPresent ·) then some 701
      else if m ≠ 2 ^ s.ownAddr ∧ !s.flag .TC_STATUS_SYNCED then some 708
      else none
    run := fun k s =>
      match s.mcOf k with
      | none => .running (s.startMc k o m line)
      | some c => if c.ended then (if c.err = 0 then .done s else .fail c.err s) else .running s }

def execPeerMask (o : Origin) (m : Nat) (line : String) (s : State) : Host.Outcome State Fault Refusal :=
  .next (s.offer o (.peerMask o m line) (workPeerMask o m line s))

/-- R487: LINK d RESTART. -/
def workLinkRestart (o : Origin) (d : Fin 8) (s : State) : Work :=
  { permit := (s.originAuth o).brd
    chk := if s.devPresent d then none else some 701
    run := runTxn o d "" }

def execLinkRestart (o : Origin) (d : Fin 8) (s : State) : Host.Outcome State Fault Refusal :=
  .next (s.offer o (.linkRestart o d) (workLinkRestart o d s))

/-! ## LINK? TXN (R490, R498) -/

/-- The masks of a multicast: yes votes, devices whose item was executed, and late ones. -/
def Multicast.voted (m : Multicast) : Nat :=
  m.legs.foldl (fun (t : Nat) (e : McLeg) => if (e.vote.map (·.1)) = some 0 then t + 2 ^ e.d.val else t) 0
def Multicast.applied (m : Multicast) : Nat :=
  match m.dec with
  | .commit _ => m.legs.foldl (fun (t : Nat) (e : McLeg) => if e.res.isSome then t + 2 ^ e.d.val else t) 0
  | _ => 0
def Multicast.lateMask (m : Multicast) : Nat :=
  m.legs.foldl (fun (t : Nat) (e : McLeg) => if e.late then t + 2 ^ e.d.val else t) 0

/-- MASK, VOTED, APPLIED and LATE of a `PEER` item; the multicast form has its own, the other form one device. -/
def State.txnMasks (s : State) (k : Key) : Option (Nat × Nat × Nat × Nat) :=
  match s.mcOf k, s.txnOf k with
  | some m, _ => some (m.mask, m.voted, m.applied, m.lateMask)
  | none, some t =>
    let b := 2 ^ t.d.val
    some (b, (if t.st = .accepted ∨ t.st = .done then b else 0), (if t.st = .done then b else 0), 0)
  | none, none => none

/-- The devices that a `PEER` item names; none for another item. -/
def peerDevices : Instr → Option Nat
  | .peer _ d _ => some (2 ^ d.val)
  | .peerMask _ m _ => some m
  | _ => none

def execLinkTxnQuery (o : Origin) (w : Nat) (src : Option Nat) (s : State) : Host.Outcome State Fault Refusal :=
  let n := src.getD (s.srcNo o).val
  let k := s.namedKey o w src none
  .next (s.askPure o (selErr w n) (s.originAuth o).any fun s =>
    match s.findItem k with
    | none => ((s.namedErr k).getD 613, [])
    | some i =>
      match i.cmd.bind peerDevices with
      | none => (303, [])
      | some d =>
        let m := (s.txnMasks k).getD (d, 0, 0, 0)
        (0, [[.s "TXN", .s (wsnText n w), .s "SRC", .n n, .s "STATE", .s (outName i.st), .s "MASK", .s (hexText 2 m.1),
          .s "VOTED", .s (hexText 2 m.2.1), .s "APPLIED", .s (hexText 2 m.2.2.1), .s "LATE", .s (hexText 2 m.2.2.2),
          .s "ERR", .n i.err]]))

end Sys2Proof.Machine
end

