-- ==== Sys2Proof/Machine/Lines.lean ====
section
/-! DEFINITION. Lines as work: the work item that a command is, the handling of a complete line, RELEASE, and the end of a
transmission (spec/03_work_guarantee.md; spec/04_puarn_language.md, R93 to R110;
spec/05_puarn_commands.md, R138; spec/20_startup_and_images.md, R547). -/
namespace Sys2Proof.Machine
open Sys2Proof

/-! ## The work item of a command -/

/-- The work item that a command of the command language is in the present state; none for queries and session commands, and
for RELEASE, which stands below. -/
def State.workOf0 (s : State) : Instr → Option Work
  | .authset o w key => some (workAuthset o w key s)
  | .timeRtc o d => some (workTimeRtc o d s)
  | .reg o t v => some (workReg o t v s)
  | .cancel o w src ser => some (workCancel o w src ser s)
  | .resetWarm o => some (workReset o .warm s)
  | .resetCold o => some (workReset o .cold s)
  | .policy o t i j m => some (workPolicy o t i j m s)
  | .ringDepth o r n => some (workRingDepth o r n s)
  | .eventAck o c seq => some (workEventAck o c seq s)
  | .progNew o p title => some (workProgNew o p title s)
  | .progAdd o p block => some (workProgAdd o p block s)
  | .progEnd o p => some (workProgEnd o p s)
  | .progDel o p => some (workProgDel o p s)
  | .run o p k frm => some (workRun o p k frm s)
  | .mdi o block k => some (workMdi o block k s)
  | .tapeRead o p => some (workTapeRead o p s)
  | .tapeRun o k => some (workTapeRun o k s)
  | .tapeStop o => some (workTapeStop o s)
  | .mfin o k => some (workMfin o k s)
  | .hold o k t => some (workHold o k t s)
  | .stop o k => some (workStop o k s)
  | .resume o k => some (workResume o k s)
  | .ovr o k feed rapid spin => some (workOvr o k feed rapid spin s)
  | .limitAxis o a l => some (workLimitAxis o a l s)
  | .limitStn o k l => some (workLimitStn o k l s)
  | .axisJog o a plus f d => some (workAxisJog o a plus f d s)
  | .axisJogStop o a => some (workAxisJogStop o a s)
  | .axisHw o a n mult => some (workAxisHw o a n mult s)
  | .axisHwOff o a => some (workAxisHwOff o a s)
  | .axisRef o a pos => some (workAxisRef o a pos s)
  | .servo o a sets => some (workServo o a sets s)
  | .servoRescal o a => some (workServoRescal o a s)
  | .comp o a sets => some (workComp o a sets s)
  | .compPt o a i v => some (workCompPt o a i v s)
  | .coreAssign o c stn => some (workCoreAssign o c stn s)
  | .coreSpare o c => some (workCoreSpare o c s)
  | .coreHalt o c => some (workCoreHalt o c s)
  | .coreStart o c => some (workCoreStart o c s)
  | .coreClear o c => some (workCoreClear o c s)
  | .regionLoad o img at_ => some (workRegionLoad o img at_ s)
  | .regionHandoffCell o n v => some (workRegionHandoffCell o n v s)
  | .regionHandoffRg o r out v => some (workRegionHandoffRg o r out v s)
  | .regionRef o i v => some (workRegionRef o i v s)
  | .xpt o routes => some (workXpt o routes s)
  | .adcAssign o ch stn => some (workAdcAssign o ch stn s)
  | .cal o ch => some (workCal o ch s)
  | .calRef o diff chkA chkB => some (workCalRef o diff chkA chkB s)
  | .filterPreset o n preset sf => some (workFilterPreset o n preset sf s)
  | .filterCustom o n ord cic fir => some (workFilterCustom o n ord cic fir s)
  | .filterPhase o n int frac => some (workFilterPhase o n int frac s)
  | .filterTaps o n bankB taps => some (workFilterTaps o n bankB taps s)
  | .filterCoef o n bankB i vs => some (workFilterCoef o n bankB i vs s)
  | .filterSwap o n => some (workFilterSwap o n s)
  | .filterResolver o n trk exc => some (workFilterResolver o n trk exc s)
  | .filterResphase o n phase => some (workFilterResphase o n phase s)
  | .dacConfig o n c => some (workDacConfig o n c s)
  | .dacValue o n v t => some (workDacValue o n v t s)
  | .dacSafe o n => some (workDacSafe o n s)
  | .dacLoad o g => some (workDacLoad o g s)
  | .dacLdg o g trig => some (workDacLdg o g trig s)
  | .exc o g c => some (workExc o g c s)
  | .excTable o g i vs => some (workExcTable o g i vs s)
  | .excTableSine o g => some (workExcTableSine o g s)
  | .excTableSwap o g => some (workExcTableSwap o g s)
  | .disp o row pos text => some (workDisp o row pos text s)
  | .dispFault o row pos text => some (workDispFault o row pos text s)
  | .dispClear o fault => some (workDispClear o fault s)
  | .dispChr o text => some (workDispChr o text s)
  | .dispChrCmd o h => some (workDispChrCmd o h s)
  | .panelScan o sets => some (workPanelScan o sets s)
  | .panelRepeat o sets => some (workPanelRepeat o sets s)
  | .panelKey o k on => some (workPanelKey o k on s)
  | .panelCombo o n sets => some (workPanelCombo o n sets s)
  | .panelAction o i sets => some (workPanelAction o i sets s)
  | .panelOwner o sets => some (workPanelOwner o sets s)
  | .panelDisplay o sets => some (workPanelDisplay o sets s)
  | .panelFont o x sets => some (workPanelFont o x sets s)
  | .panelChar o sets => some (workPanelChar o sets s)
  | .fio o n m sets => some (workFio o n m sets s)
  | .fioOut o n on => some (workFioOut o n on s)
  | .fioClear o n => some (workFioClear o n s)
  | .fioAin o i sets => some (workFioAin o i sets s)
  | .peer o d line => some (workPeer o d line s)
  | .peerMask o m line => some (workPeerMask o m line s)
  | .linkCfg o sets => some (workLinkCfg o sets s)
  | .linkClear o p => some (workLinkClear o p s)
  | .linkPortRate o p low => some (workLinkPortRate o p low s)
  | .linkRestart o d => some (workLinkRestart o d s)
  | .linkAuth o d stn brd => some (workLinkAuth o d stn brd s)
  | .linkMirror o out inp => some (workLinkMirror o out inp s)
  | .flashErase o sect => some (workFlashErase o sect s)
  | .flashProg o addr ws => some (workFlashProg o addr ws s)
  | .flashSuspend o => some (workFlashSuspend o s)
  | .flashResume o => some (workFlashResume o s)
  | .imagePolicy o sets => some (workImagePolicy o sets s)
  | .imageKeySet o k key => some (workImageKeySet o k key s)
  | .imageKeyRevoke o k => some (workImageKeyRevoke o k s)
  | .imageLock o => some (workImageLock o s)
  | .imageStage o n slot => some (workImageStage o n slot s)
  | .imageUnstage o n => some (workImageUnstage o n s)
  | .pwrStnIdle o k sets => some (workPwrStnIdle o k sets s)
  | .pwrStnOn o k => some (workPwrStnOn o k s)
  | .pwrObs o on => some (workPwrObs o on s)
  | .pwrWdt o on per => some (workPwrWdt o on per s)
  | .pwrHoldmin o c => some (workPwrHoldmin o c s)
  | .obsClear o sc => some (workObsClear o sc s)
  | .obsProbe o n sets => some (workObsProbe o n sets s)
  | .obsWatch o w sets => some (workObsWatch o w sets s)
  | .trace o sets => some (workTrace o sets s)
  | .skim o k kind inst => some (workSkim o k kind inst s)
  | .skimStart o nt slots => some (workSkimStart o nt slots s)
  | .skimStop o slots => some (workSkimStop o slots s)
  | .freeze o => some (workFreeze o s)
  | .freezeOff o => some (workFreezeOff o s)
  | _ => none

/-- A command without STN acts on the station that it was accepted for. -/
def pinStn (i : Instr) (n : Nat) : Instr :=
  if h : n < 4 then
    let k : Option (Fin 4) := some ⟨n, h⟩
    match i with
    | .run o p none frm => .run o p k frm
    | .mdi o b none => .mdi o b k
    | .tapeRun o none => .tapeRun o k
    | .mfin o none => .mfin o k
    | .hold o none t => .hold o k t
    | .stop o none => .stop o k
    | .resume o none => .resume o k
    | .ovr o none f r p => .ovr o k f r p
    | .obsClear o none => .obsClear o (some (.owner (.stn ⟨n, h⟩)))
    | i => i
  else i

/-! ## RELEASE (R138) -/

/-- A staged item is released only by its decision (R497). -/
def State.isStaged (s : State) (k : Key) : Bool := s.lnk.staged.any fun (e : StagedLeg) => e.key == k && e.live

def State.releaseErr (s : State) (k : Key) : Option Nat :=
  match s.findItem k with
  | none => s.namedErr k
  | some i => if i.st ≠ .held ∨ s.isStaged k then some 243 else if i.stn < 4 then some 244 else none

/-- R138: a held board item moves to running. Its effect begins again; `inner` gives its work. -/
def workReleaseOf (inner : State → Instr → Option Work) (o : Origin) (w : Nat) (src ser : Option Nat) (s : State) : Work :=
  let k := s.namedKey o w src ser
  { pre := selErr w k.src
    permit := s.mayTouch o k
    stn := ((s.findItem k).map (·.stn)).getD 4
    chk := s.releaseErr k
    run := fun _ s =>
      match s.releaseErr k with
      | some e => .fail e s
      | none =>
        match (s.findItem k).bind fun i => i.cmd.bind (inner s) with
        | some v => .done (s.begin_ k v.run)
        | none => .fail 243 s }

/-- The work of a command, RELEASE among them. A RELEASE may name a held RELEASE; `n` bounds how far that goes. -/
def State.workN : Nat → State → Instr → Option Work
  | 0, s, i => s.workOf0 i
  | n + 1, s, i =>
    match i with
    | .release o w src ser => some (workReleaseOf (State.workN n) o w src ser s)
    | i => s.workOf0 i

def State.workOf (s : State) (i : Instr) : Option Work := s.workN (s.jrn.items.length + 1) i

def workRelease (o : Origin) (w : Nat) (src ser : Option Nat) (s : State) : Work :=
  workReleaseOf (State.workN s.jrn.items.length) o w src ser s

def execRelease (o : Origin) (w : Nat) (src ser : Option Nat) (s : State) : Host.Outcome State Fault Refusal :=
  .next (s.offer o (.release o w src ser) (workRelease o w src ser s))

/-! ## Beginnings (R62, R66, R68) -/

/-- Items that begin by themselves; the rest are staged (R489). -/
def State.startsAlone (s : State) (k : Key) : Bool :=
  match s.findItem k with
  | some i => i.st == .pending && !s.isStaged k
  | none => false

/-- Keys of items that have been committed and wait to begin, in the order of their commits. -/
def State.readyKeys (s : State) : List Key := s.jrn.ready.filter s.startsAlone

/-- R68: what a board item acts on: a register block, by its number, a stored program, or one of the rest by its kind. -/
def boardRes : Instr → Nat
  | .reg _ t _ => match t with
    | .addr a => a / 0x10000 % 0x100
    | .reg r _ _ => (regPlace r).blk
    | .field f _ _ => (regPlace f.reg).blk
  | .progNew _ p _ | .progAdd _ p _ | .progEnd _ p | .progDel _ p => 0x10000 + p
  | .policy _ t _ _ _ => (regPlace (policyFld t).1.reg).blk
  | .ringDepth .. => (regPlace .RING_CFG).blk
  | .eventAck .. => (regPlace .EVT_SEQ).blk
  | .coreAssign .. | .coreSpare .. | .coreHalt .. | .coreStart .. | .coreClear .. => (regPlace .SYS_CFG).blk
  | .regionLoad .. | .regionHandoffCell .. | .regionHandoffRg .. | .regionRef .. | .xpt .. => (regPlace .REB_RGN).blk
  | .adcAssign .. | .cal .. | .calRef .. => (regPlace .ADC_PCFG).blk
  | .filterPreset .. | .filterCustom .. | .filterPhase .. | .filterTaps .. | .filterCoef .. | .filterSwap ..
  | .filterResolver .. | .filterResphase .. => (regPlace .FCH_CFG).blk
  | .dacConfig .. | .dacValue .. | .dacSafe .. | .dacLoad .. | .dacLdg .. => (regPlace .DAC_CFG).blk
  | .exc .. | .excTable .. | .excTableSine .. | .excTableSwap .. => (regPlace .EXC_CFG).blk
  | .disp .. | .dispFault .. | .dispClear .. | .dispChr .. | .dispChrCmd .. | .panelScan .. | .panelRepeat .. | .panelKey ..
  | .panelCombo .. | .panelAction .. | .panelOwner .. | .panelDisplay .. | .panelFont .. | .panelChar .. =>
    (regPlace .PNL_OWN).blk
  | .fio .. | .fioOut .. | .fioClear .. | .fioAin .. => (regPlace .FIO_CFG).blk
  | .linkCfg .. | .linkClear .. | .linkPortRate .. | .linkRestart .. | .linkAuth .. | .linkMirror .. => (regPlace .OLK_CFG).blk
  | .peer _ d _ => 0x20000 + d.val
  | .flashErase .. | .flashProg .. | .flashSuspend .. | .flashResume .. => (regPlace .FLS_STAT).blk
  | .imagePolicy .. | .imageKeySet .. | .imageKeyRevoke .. | .imageLock .. | .imageStage .. | .imageUnstage .. =>
    (regPlace .CFG_STAT).blk
  | .pwrStnIdle .. | .pwrStnOn .. | .pwrObs .. | .pwrWdt .. | .pwrHoldmin .. => (regPlace .PWR_STAT).blk
  | .obsClear .. | .obsProbe .. | .obsWatch .. | .trace .. | .skim .. | .skimStart .. | .skimStop .. | .freeze .. | .freezeOff .. =>
    (regPlace .OBS_STAT).blk
  | _ => 0x30000

/-- R68, R132: an earlier item of the same source, of the same station, or on the same board resource has still to begin. -/
def State.mustWait (s : State) (k : Key) (l : List Key) : Bool :=
  let on (k : Key) : Nat := match s.findItem k with
    | some i => if i.stn < 4 then i.stn else 4 + ((i.cmd.map boardRes).getD 0x30000)
    | none => 4
  (l.takeWhile (· != k)).any fun e => e.src == k.src || on e == on k

/-- R66, R68: an accepted item whose turn has come begins. -/
def State.beginItem (s : State) (k : Key) : State :=
  let l := s.readyKeys
  if !l.contains k || s.mustWait k l || s.phase != .running then s
  else
    let s : State := { s with jrn := { s.jrn with ready := l.filter fun e => e != k } }
    match (s.findItem k).bind fun i => i.cmd.bind fun c => s.workOf (Sys2Proof.Machine.pinStn c i.stn) with
    | some w => s.begin_ k w.run
    | none => s

def isRegItem (s : State) (k : Key) : Bool :=
  match (s.findItem k).bind (·.cmd) with
  | some (.reg ..) => true
  | _ => false

/-- R132: the items of port `p` up to its last accepted REG begin, so that a REG? sees their effect. -/
def State.settleRegs (s : State) (p : Fin 2) : State :=
  let mine := s.readyKeys.filter fun k => k.src == p.val || k.src == 2 + p.val
  let l := (mine.reverse.dropWhile fun k => !isRegItem s k).reverse
  forAll l s fun s k => s.beginItem k

/-- R130, R132, R134: `REG? target [N=n]`. -/
def execRegQuery (o : Origin) (t : RegTarget) (n : Nat) (s : State) : Host.Outcome State Fault Refusal :=
  match sessionPort o with
  | some p => regAnswer o t n (if s.accepting then s.settleRegs p else s)
  | none => regAnswer o t n s

/-- The queries, the session commands and SERIES RESTART. -/
def State.askOf (s : State) : Instr → Option (Host.Outcome State Fault Refusal)
  | .auth o key => some (execAuth o key s)
  | .authOff o => some (execAuthOff o s)
  | .authQuery o => some (execAuthQuery o s)
  | .stnSelect o k => some (execStnSelect o k s)
  | .stnQuery o => some (execStnQuery o s)
  | .idQuery o => some (execIdQuery o s)
  | .timeQuery o => some (execTimeQuery o s)
  | .regQuery o t n => some (execRegQuery o t n s)
  | .wsnQuery o src => some (execWsnQuery o src s)
  | .outcomeQuery o w src ser n => some (execOutcomeQuery o w src ser n s)
  | .seriesRestart o => some (execSeriesRestart o s)
  | .jrnQuery o => some (execJrnQuery o s)
  | .jrnSourcesQuery o => some (execJrnSourcesQuery o s)
  | .policyQuery o t i j => some (execPolicyQuery o t i j s)
  | .ringQuery o r => some (execRingQuery o r s)
  | .eventQuery o c frm n => some (execEventQuery o c frm n s)
  | .progQuery o p frm n => some (execProgQuery o p frm n s)
  | .tapeQuery o => some (execTapeQuery o s)
  | .ovrQuery o k => some (execOvrQuery o k s)
  | .limitQuery o axis n => some (execLimitQuery o axis n s)
  | .stateQuery o k => some (execStateQuery o k s)
  | .servoQuery o a => some (execServoQuery o a s)
  | .compQuery o a frm n => some (execCompQuery o a frm n s)
  | .calcQuery o expr rm deg => some (execCalcQuery o expr rm deg s)
  | .decQuery o => some (execDecQuery o s)
  | .coreQuery o c => some (execCoreQuery o c s)
  | .regionQuery o r => some (execRegionQuery o r s)
  | .xptQuery o k => some (execXptQuery o k s)
  | .adcQuery o ch => some (execAdcQuery o ch s)
  | .filterQuery o n => some (execFilterQuery o n s)
  | .dacQuery o n => some (execDacQuery o n s)
  | .excQuery o g => some (execExcQuery o g s)
  | .panelQuery o p => some (execPanelQuery o p s)
  | .fioQuery o p => some (execFioQuery o p s)
  | .peerQuery o d line => some (execPeerQuery o d line s)
  | .linkQuery o => some (execLinkQuery o s)
  | .linkTxnQuery o w src => some (execLinkTxnQuery o w src s)
  | .flashQuery o sect => some (execFlashQuery o sect s)
  | .imageQuery o => some (execImageQuery o s)
  | .imageCheck o src ext => some (execImageCheck o src ext s)
  | .pwrQuery o => some (execPwrQuery o s)
  | .obsEngQuery o e k reasons => some (execObsEngQuery o e k reasons s)
  | .obsRsvopQuery o => some (execObsRsvopQuery o s)
  | .obsProbeQuery o n => some (execObsProbeQuery o n s)
  | .obsWatchQuery o w => some (execObsWatchQuery o w s)
  | .traceQuery o => some (execTraceQuery o s)
  | .traceRead o n => some (execTraceRead o n s)
  | .skimQuery o k => some (execSkimQuery o k s)
  | .snapQuery o new => some (execSnapQuery o new s)
  | _ => none

/-! ## A command offered by a line -/

/-- The state that an outcome leaves. -/
def afterOf (s : State) : Host.Outcome State Fault Refusal → State
  | .next t => t
  | _ => s

/-- What a line cannot say is free: the values that CAL REF and RESPHASE measure, and the content of external flash. -/
def State.measured (s : State) (i : Instr) : Instr × State :=
  match i with
  | .calRef o _ _ _ =>
    let (a, s) := s.fresh 16
    let (b, s) := s.fresh 16
    let (c, s) := s.fresh 16
    (.calRef o (toSigned 16 a) (toSigned 16 b) (toSigned 16 c), s)
  | .filterResphase o n _ =>
    let (a, s) := s.fresh 12
    (.filterResphase o n (toSigned 12 a), s)
  | .imageCheck o src _ =>
    (.imageCheck o src (if src.val < 2 then [] else (List.range 0x100000).map fun i => BitVec.ofNat 8 (Config.external (src.val - 2) i)), s)
  | i => (i, s)

/-- R61, R99: the command of a line of `len` characters. -/
def State.runCommand (s : State) (o : Origin) (i : Instr) (len : Nat) : State :=
  let (i, s) := s.measured i
  match s.askOf i with
  | some x => afterOf s x
  | none =>
    match s.workOf i with
    | some w => s.offerAs o i w false len
    | none => s

/-! ## Complete lines (R93, R96 to R105) -/

/-- R99, step 1, in its order. -/
def charErr (q : Port) : Nat :=
  if q.overrun then 106 else if q.damaged then 107 else if 0 < q.excess then 102 else if q.bad then 103
  else if q.edited then 104 else 0

def blankLine (l : List Byte) : Bool :=
  let t := (lineChars l).dropWhile isBlank
  t.isEmpty || t.head? == some ';'

/-- The digits of an answer to a framed line, or the tag of a typed one (R105). -/
def lineTag (l : List Byte) : Tag := if isFramed l then .framed (frameDigits l) else .none

/-- A line is answered with an error before acceptance; REJ counts those of the 100s. -/
def State.lineError (s : State) (p : Fin 2) (l : List Byte) (e : Nat) : State :=
  (if 100 ≤ e ∧ e < 200 then s.bump .SER_CNT_REJ p 0 1 else s).portLine p (.er (lineTag l) e false)

/-- Syntax, and then the command. -/
def State.runText (s : State) (p : Fin 2) (o : Origin) (abbr : Bool) (l : List Byte) (t : List Char) : State :=
  match parseText o abbr t with
  | .error e => s.lineError p l e
  | .ok none => if isFramed l then s.lineError p l 104 else s
  | .ok (some i) => s.runCommand o i l.length

/-- Table 20.6, R547: a line of the loader console. -/
def State.consoleLine (s : State) (l : List Byte) : State :=
  if isFramed l then s.lineError 0 l 115
  else
    match tokens (lineChars l) with
    | .error e => s.consoleSay e
    | .ok [] => s
    | .ok (w :: l) =>
      let a := Args.of l
      match upper w.text, a.named, a.pos, a.kws with
      | "ID?", [], [], _ => (s.portLine 0 (.data [.s "FOSHAHOLT IX-6240 REV C", .w8 0])).consoleSay 0
      | "IMAGE?", [], [], _ => (forAll (s.imageLines true) s fun s l => s.portLine 0 (.data l)).consoleSay 0
      | "IMAGE", [], _ :: off :: ws, "PUT" :: _ =>
        match off.mask, ws.mapM Arg.hex with
        | .ok n, .ok l => if l.isEmpty || 16 < l.length then s.consoleSay 109 else afterOf s (execImagePut n l s)
        | .error e, _ => s.consoleSay e
        | _, .error e => s.consoleSay e
      | "IMAGE", [], _, ["WRITE", "A"] => afterOf s (execImageWrite 0 s)
      | "IMAGE", [], _, ["WRITE", "B"] => afterOf s (execImageWrite 1 s)
      | "RESET", [], _, ["COLD"] => (s.consoleSay 0).goCold Cause.CMD_RESET false
      | _, _, _, _ => s.consoleSay 230

/-- R99: the checks of a complete line, and its command. -/
def State.runLine (s : State) (p : Fin 2) (w : WaitLine) : State :=
  let l := w.text
  if !isFramed l && w.err = 0 && blankLine l then s
  else if s.phase == .console then
    if w.err ≠ 0 then s.lineError p l w.err else if p = 0 then s.consoleLine l else s
  else if !s.answering then s
  else if isFramed l && s.flag .SER_STAT_RESCUE p then s.lineError p l 115
  else if !s.accepting then s.portLine p (.busy (lineTag l))
  else if w.err ≠ 0 then s.lineError p l w.err
  else if isFramed l then
    match frameParts l with
    | none => s.lineError p l 104
    | some (n, t, good) =>
      if !good then s.lineError p l 105 else s.runText p (.framed p n) false l (lineChars t)
  else s.runText p (.typed p) (s.portAbbr p) l (lineChars l)

/-- An earlier line of the port still waits for its answer: a record on its way to the journal, a query at a peer, or a write of
the loader console. -/
def State.portOwes (s : State) (p : Fin 2) : Bool :=
  (s.jrn.queue.any fun e => sessionPort e.origin == some p)
    || (s.lnk.txns.any fun (t : Txn) => t.st == .query && sessionPort t.org == some p)
    || (s.phase == .console && !s.flash.ops.isEmpty)

/-- R104: the next line of the port may begin: lines are answered in their order, and RSP_SPp has room for 257 characters. -/
def State.portFree (s : State) (p : Fin 2) : Bool :=
  !s.portOwes p && !s.ringHeld (cmdRing p) && (s.port[p]).rspWait.isEmpty && !s.ringHeld (rspRing p) && decide (lineEntries 257 ≤ s.ringFree (rspRing p))

/-- Lines begin one after another, as far as they can. -/
def State.beginLines (p : Fin 2) : Nat → State → State
  | 0, s => s
  | n + 1, s =>
    match (s.port[p]).waiting with
    | [] => s
    | w :: l =>
      if !s.portFree p then s
      else
        let s := (s.setPort p fun q => { q with waiting := l }).ringGet (cmdRing p) w.entries
        State.beginLines p n ((s.runLine p w).flowUpdate p)

/-- R104: the port acts on the lines that wait. The RS-485 driver is enabled while lines are left to send (R89). -/
def State.servePort (s : State) (p : Fin 2) : State :=
  let s := State.beginLines p (s.port[p]).waiting.length s
  s.setPort p fun q => { q with driving := s.portLive p && s.portPhy p == 2 && !q.rsp.isEmpty }

def State.serve (s : State) : State := (s.servePort 0).servePort 1

/-- R102: the history takes a non-empty typed line: of one longer than 255 characters its first 255 (DESIGN CHOICE, log entry 53). -/
def remember (q : Port) : Port :=
  if isFramed q.line || blankLine q.line then q else { q with hist := (q.line :: q.hist).take 20 }

/-- R93, R96, R101, R104: a terminator ends the line in progress. An LF that follows a CR at once belongs to it. -/
def execLineTerminated (p : Fin 2) (lf : Bool) (s : State) : Host.Outcome State Fault Refusal :=
  let q := s.port[p]
  if !s.portLive p then .next s
  else if lf && q.afterCr then .next (s.setPort p fun q => { q with afterCr := false })
  else
    let q := s.port[p]
    let typed := !isFramed q.line
    let n := min (lineEntries q.line.length) (s.ringFree (cmdRing p))
    let s := if typed then s.echoBytes p [0x0D, 0x0A] else s
    let s := if q.overrun then s.ringFull (cmdRing p) else s
    let n := if s.ringHeld (cmdRing p) then 0 else n
    let s :=
      if q.line.isEmpty && charErr q = 0 then s
      else
        (s.ringPut (cmdRing p) n).setPort p fun q => { remember q with waiting := q.waiting ++ [⟨q.line, charErr q, n⟩] }
    let s := s.setPort p fun q => { clearLine q with afterCr := !lf, recalled := 0 }
    .next ((s.servePort p).flowUpdate p)

/-! ## The transmitter (R89, R104, R110) -/

/-- The bytes of a line on the wire (R107, R109). -/
def OutLine.bytes (l : OutLine) : List Byte :=
  (if l.pre then [0x0D, 0x0A] else []) ++ textBytes (sentText l.crc l.line) ++ [0x0D, 0x0A]

/-- R161: when an event line was last sent. -/
def markSent (now : Nat) (l : OutLine) (q : Port) : Port :=
  match l.line with
  | .async c r _ => { q with sent := q.sent.map fun e => if e.cls = c ∧ e.seq = r.seq then { e with at_ := now } else e }
  | _ => q

/-- R104, R110: the transmitter has sent the line at the head of RSP_SPp. A stopped or disabled port sends nothing. -/
def execTransmitComplete (p : Fin 2) (s : State) : Host.Outcome State Fault Refusal :=
  match (s.port[p]).rsp with
  | [] => .next s
  | l :: r =>
    if !s.portLive p || s.flag .SER_STAT_TXSTOP p then .next s
    else
      let s := (s.ringGet (rspRing p) l.entries).setPort p fun q => { markSent s.clk.now l q with rsp := r, wire := q.wire ++ l.bytes }
      .next (((State.placeWaiting p (s.port[p]).rspWait.length s).echoFlush p).servePort p)

end Sys2Proof.Machine
end

