-- ==== Sys2Proof/Machine/Requests.lean ====
section
/-! DEFINITION. The line requests of the Trelfieno cores (spec/11_trelfieno_model.md, R311; spec/12_trelfieno_instructions.md,
R340). -/
namespace Sys2Proof.Machine
open Sys2Proof

/-- R311: the line of a request, handled as a framed line. A query is refused with error 282. -/
def State.coreText (s : State) (c : Fin 6) (l : List Byte) : State :=
  let o : Origin := .core c
  if l.any fun b => 0x80 ≤ b.toNat then s.refuse o 103
  else
    match parseText o false (lineChars l) with
    | .error e => s.refuse o e
    | .ok none => s.refuse o 104
    | .ok (some i) => if queryText (bytesText l) then s.refuse o 282 else s.runCommand o i l.length

/-- R340: a length byte and a line at Xn. The core waits for the answer. -/
def execReq (c : Fin 6) (x : Fin 8) (s : State) : Host.Outcome State Fault Refusal :=
  .next (s.instr c 1 fun s =>
    let a := (s.core[c]).getX x
    let p := s.winRead c a 1
    let q := p.2.winRead c (a + 1) p.1
    let s := (q.2.setCore c fun k => { k with wait := .req }).setCoreState c 3
    if p.1 = 0 then s.refuse (.core c) 109 else s.coreText c (leBytes p.1 q.1))

/-- The class of an answer, its error, and the WSN that it carries (R340). -/
def answerClass : RLine → Option (Nat × Nat × Option Nat)
  | .ok t d => some (if d then 2 else 0, 0, match t with
    | .typed n => some n
    | _ => none)
  | .er t e d => some (if d then 2 else 1, e, match t with
    | .typed n => some n
    | _ => none)
  | .busy _ => some (3, 0, none)
  | _ => none

/-- R311, R340: the answer comes. WC advances with an answer that carries a WSN; a refused line has consumed none. -/
def execReqAnswer (c : Fin 6) (s : State) : Host.Outcome State Fault Refusal :=
  let o : Origin := .core c
  .next (match (s.core[c]).wait, (s.answers.find? fun e => e.1 == o).bind fun e => answerClass e.2 with
    | .req, some (cls, e, w) =>
      let s : State := { s with answers := s.answers.filter fun x => x.1 != o }
      let (w, s) := match w with
        | some w => (w, s.nextWc c)
        | none => if cls = 3 then ((nextKey 0 ⟨(s.core[c]).ser, s.fld .SYS_CWSN_WC c⟩).wsn, s) else s.fresh 32
      let s := s.setCore c fun k =>
        ((((k.setW 0 (BitVec.ofNat 8 cls)).setX 1 (BitVec.ofNat 16 e)).setQ 1 w).setFb flZ
          (cls == 0 || (cls == 2 && e == 0)))
      (s.setCore c fun k => { k with wait := .none }).setCoreState c 1
    | _, _ => s)

end Sys2Proof.Machine
end

