-- ==== Sys2Proof/Machine/Peer.lean ====
section
/-! DEFINITION. Transactions and multicasts over the link: lines of peers, their answers and results, doubt, votes, decisions and
their application (spec/03_work_guarantee.md, R78, R79; spec/18_ohmid_link.md, R483 to R491, R497). -/
namespace Sys2Proof.Machine
open Sys2Proof

/-! ## Lines of peers (R483, R484) -/

/-- What stands for the WSN of a query: its transaction number, beyond every WSN. -/
def queryMark (txn : Nat) : Nat := 2 ^ 32 + txn

def peerOf : Origin → Option (Fin 8 × Nat)
  | .peer d w => some (d, w)
  | _ => none

def RLine.isStatus : RLine → Bool
  | .ok .. | .er .. | .busy _ => true
  | _ => false

/-- The lines of a query's answer carry no WSN. -/
def RLine.bare : RLine → RLine
  | .ok _ d => .ok .none d
  | .er _ e d => .er .none e d
  | .busy _ => .busy .none
  | l => l

def lineBytes (l : RLine) : List Byte := textBytes (rlineText l) ++ [0x0D, 0x0A]

/-- R483: the answer lines, in one frame where they fit, and otherwise one frame a line. -/
def State.sendAnswer (s : State) (d : Fin 8) (wsn txn : Nat) (ls : List RLine) : State :=
  let all := ls.flatMap lineBytes
  if all.length ≤ 256 then s.frameTo d typAnswer false wsn txn all noAuth
  else forAll ls s fun s l => s.frameTo d typAnswer false wsn txn ((lineBytes l).take 256) noAuth

def State.legOf (s : State) (k : Key) : Option StagedLeg := s.lnk.staged.find? fun (e : StagedLeg) => e.key == k && e.live

/-- Table 18.2: VOTE. -/
def State.sendVote (s : State) (d : Fin 8) (txn code err : Nat) : State :=
  s.frameTo d typVote false 0 txn (leBytes 2 code ++ leBytes 2 err) noAuth

def State.dropOpen (s : State) (k : Key) : State :=
  s.setLnk fun l => { l with open_ := l.open_.filter fun (e : PeerOpen) => e.key != k }

def State.dropLeg (s : State) (k : Key) : State :=
  s.setLnk fun l => { l with staged := l.staged.filter fun (e : StagedLeg) => e.key != k }

/-- A complete answer to a line of a peer leaves: as a vote where the line came in a PREPARE. -/
def State.replyPeer (s : State) (d : Fin 8) (w : Nat) (ls : List RLine) (st : RLine) : State :=
  match s.lnk.open_.find? fun (e : PeerOpen) => e.src == d && e.key.wsn == w with
  | none => s
  | some e =>
    let ok := match st with
      | .ok .. => true
      | _ => false
    let query := decide (2 ^ 32 ≤ w)
    let keep := ok && !query
    let leg := s.legOf e.key
    let s := if keep then s else s.dropOpen e.key
    match leg with
    | some _ =>
      let s := if keep then s else s.dropLeg e.key
      match st with
      | .ok .. => s.sendVote d e.txn 0 0
      | .er _ n _ => s.sendVote d e.txn 1 n
      | _ => s.sendVote d e.txn 2 0
    | none => s.sendAnswer d (if query then 0 else w) e.txn (if query then ls.map RLine.bare else ls)

/-- Answers to peers that are complete. -/
def State.replies : Nat → State → State
  | 0, s => s
  | n + 1, s =>
    match s.answers.find? fun e => (peerOf e.1).isSome && e.2.isStatus with
    | none => s
    | some (o, st) =>
      match peerOf o with
      | none => s
      | some (d, w) =>
        let ls := (s.answers.filter fun e => e.1 == o).map (·.2)
        let s : State := { s with answers := s.answers.filter fun e => e.1 != o }
        State.replies n (s.replyPeer d w ls st)

def State.replyAll (s : State) : State := State.replies s.answers.length s

/-- R483: RESULT frames of items of peers that have ended. -/
def State.sendResults (s : State) : State :=
  forAll s.lnk.open_ s fun s (e : PeerOpen) =>
    if e.key.ser = 0 then s
    else
      match s.findItem e.key with
      | none => if (s.queuedKeys e.key.src).contains e.key then s else s.dropOpen e.key
      | some i =>
        let fin : Option Nat := if i.st = .done then some 2 else if i.st = .failed ∧ i.chk = 0 then some 3 else none
        match fin with
        | none => s
        | some c =>
          (s.dropOpen e.key).frameTo e.src typResult false e.key.wsn e.txn
            (leBytes 1 c ++ leBytes 1 (b2n e.late) ++ leBytes 2 i.err) noAuth

/-- What goes back to peers: answers, votes and results. -/
def State.linkWork (s : State) : State := s.replyAll.sendResults

def State.openLine (s : State) (k : Key) (d : Fin 8) (txn : Nat) : State :=
  let s := s.dropOpen k
  s.setLnk fun l => { l with open_ := l.open_ ++ [⟨k, d, txn, false⟩] }

/-- R483, R484, R487: the command of a peer's line, or the error that makes it no candidate. -/
def State.peerText (s : State) (o : Origin) (d : Fin 8) (q : Bool) (l : List Byte) : Except Nat Instr :=
  if s.lnk.mism[d] then .error 706
  else if 255 < l.length then .error 102
  else if l.any fun b => 0x80 ≤ b.toNat then .error 103
  else if queryText (bytesText l) != q then .error 710
  else
    match parseText o false (lineChars l) with
    | .error e => .error e
    | .ok none => .error 104
    | .ok (some i) => .ok i

def srcDev (n : Nat) : Option (Fin 8) := if h : n < 8 then some ⟨n, h⟩ else none

/-- R483 to R485: a LINE frame. A local leg has the authority of its session. -/
def execLine (s : State) : Host.Outcome State Fault Refusal :=
  .next (if !s.answering then s else
    match s.takeRx typLine with
    | none => s
    | some (r, s) =>
      match srcDev r.f.src with
      | none => s
      | some d =>
        let w := if r.f.q then queryMark r.f.txn else r.f.wsn
        let o : Origin := .peer d w
        let k : Key := if r.f.q then ⟨16 + d.val, 0, w⟩ else s.candKey o
        let s := (s.openLine k d r.f.txn).setLnk fun l => { l with auth := r.auth }
        let s :=
          if !s.accepting then s.answer o (.busy (originTag o))
          else match s.peerText o d r.f.q r.f.payload with
            | .error e => s.refuse o e
            | .ok i => s.runCommand o i r.f.payload.length
        (s.setLnk fun l => { l with auth := none }).linkWork)

/-! ## The sender: answers, results and doubt (R79, R483 to R487) -/

/-- The item of a transaction ends. -/
def State.endTxn (s : State) (t : Txn) (err : Nat) : State :=
  let s := s.modTxn t.txn fun t => { t with st := if err = 0 then .done else .failed err }
  match t.key with
  | none => s
  | some k =>
    if !((s.findItem k).map Item.isOpen).getD false then s
    else if err = 0 then s.workDone k else s.workFailed k err

/-- The item of a transaction that the receiver has accepted is running (R483). -/
def State.txnTaken (s : State) (t : Txn) : State :=
  let s := s.modTxn t.txn fun t => { t with st := .accepted }
  match t.key with
  | some k => if ((s.findItem k).map (·.st)) == some .inDoubt then s.setItem k .running else s
  | none => s

/-- R487: both ends count from WSN 1 in the new series. -/
def State.restarted (s : State) (d : Fin 8) : State :=
  let s := s.setLnk fun l => { l with oser := l.oser.set d (nextSeries l.oser[d]) }
  ((s.setFld .OLK_OWSN_WSN d 0 0).note .OLK_OWSN_WSN d 0)

/-- What a line of an answer says: data, or a status with its error (none for BUSY). -/
inductive Reply where
  | data (t : String)
  | ok
  | er (e : Nat)
  | busy
deriving DecidableEq, Repr

def replyOf (l : List Char) : Option Reply :=
  match l with
  | '=' :: ' ' :: t => some (.data (String.ofList t))
  | _ =>
    let ws := (l.splitOn ' ').filter fun w => !w.isEmpty
    match ws with
    | ['O', 'K'] :: _ => some .ok
    | ['B', 'U', 'S', 'Y'] :: _ => some .busy
    | ['E', 'R'] :: r =>
      ((r.filter fun w => w.head? != some '#').head?.bind (digitsVal 10)).map .er
    | _ => none

def answerLines (l : List Byte) : List (List Char) :=
  (((lineChars l).splitOn '\n').map fun t => t.filter fun c => c.toNat != 13).filter fun t => !t.isEmpty

/-- The query's answer goes on to the line that asked (R484). -/
def State.queryReply (s : State) (t : Txn) (r : Reply) : State :=
  let drop (s : State) : State := s.setLnk fun l => { l with txns := l.txns.filter fun (e : Txn) => e.txn != t.txn }
  match r with
  | .data x => s.answer t.org (.data [.s x])
  | .ok => ((drop s).answer t.org (.ok (originTag t.org) false)).serve
  | .er e => ((drop s).answer t.org (.er (originTag t.org) e false)).serve
  | .busy => ((drop s).answer t.org (.busy (originTag t.org))).serve

/-- R483, R79: a line of an answer. An answer that comes while the transaction is in doubt resolves it. -/
def State.txnReply (s : State) (n : Nat) (r : Reply) : State :=
  match s.findTxn n with
  | none => s
  | some t =>
    match t.st, r with
    | .query, r => s.queryReply t r
    | .done, _ | .failed _, _ | .accepted, _ => s
    | _, .ok => if t.isSeries then (s.restarted t.d).endTxn t 0 else s.txnTaken t
    | _, .er e => s.endTxn t e
    | .sent, .busy => s.modTxn n fun t => { t with st := .busy }
    | _, _ => s

def execAnswer (s : State) : Host.Outcome State Fault Refusal :=
  .next (match s.takeRx typAnswer with
    | none => s
    | some (r, s) =>
      match s.findTxn r.f.txn with
      | none => s
      | some t =>
        if t.d.val ≠ r.f.src then s
        else (forAll ((answerLines r.f.payload).filterMap replyOf) s fun s x => s.txnReply r.f.txn x).linkWork)

/-- The mask of devices whose item was executed stands in DET of the multicast's !FIN (R490). -/
def State.workDoneDet (s : State) (k : Key) (det : Nat) : State :=
  match s.findItem k with
  | none => s
  | some i =>
    (s.modItem k fun i => { i with st := .done, chg := s.clk.now }).raise .fin Cause.WORK_DONE i.stn
      (det := det) (src := k.src) (wsn := k.wsn)

def State.modMc (s : State) (n : Nat) (f : Multicast → Multicast) : State :=
  s.setLnk fun l => { l with mcs := l.mcs.map fun m => if m.txn = n then f m else m }

def State.findMc (s : State) (n : Nat) : Option Multicast := s.lnk.mcs.find? fun (m : Multicast) => m.txn == n

def modLeg (d : Nat) (f : McLeg → McLeg) (m : Multicast) : Multicast :=
  { m with legs := m.legs.map fun e => if e.d.val = d then f e else e }

/-- R490: after COMMIT, the item ends when every device has reported. -/
def State.endMc (s : State) (n : Nat) : State :=
  match s.findMc n with
  | none => s
  | some m =>
    match m.dec with
    | .commit _ =>
      if m.ended || !m.legs.all fun e => e.res.isSome then s
      else
        let s := s.modMc n fun m => { m with ended := true }
        if m.err = 0 then s.workDoneDet m.key m.applied else s.workFailed m.key m.err
    | _ => s

/-- A RESULT of a device of a multicast acknowledges the decision; the first error reported stands. -/
def State.mcResult (s : State) (n d err : Nat) (late : Bool) : State :=
  let s := s.modMc n fun m =>
    let m := modLeg d (fun e => { e with acked := true, res := e.res.or (some err), late := e.late || late }) m
    { m with err := if m.err = 0 then err else m.err }
  (s.commitRec).endMc n

def execResult (s : State) : Host.Outcome State Fault Refusal :=
  .next (match s.takeRx typResult with
    | none => s
    | some (r, s) =>
      let err := if byteAt r.f.payload 0 = 2 then 0 else leAt r.f.payload 2 2
      match s.findMc r.f.txn, s.findTxn r.f.txn with
      | some m, _ =>
        if m.legs.any fun e => e.d.val == r.f.src then s.mcResult r.f.txn r.f.src err (byteAt r.f.payload 1 == 1) else s
      | none, some t =>
        if t.d.val ≠ r.f.src ∨ t.st = .query then s else (s.endTxn t err).linkWork
      | none, none => s)

/-- The link layer makes no further attempt for the transaction's frame (R79): what waits unnumbered goes. -/
def State.giveUp (s : State) (n : Nat) : State :=
  let mine (f : LinkFrame) : Bool := f.txn == n && f.typ == typLine && f.src == s.ownAddr
  let s := forAll [(0 : Fin 2), 1] s fun s p =>
    let gone := (s.lnk.port[p]).queue.filter mine
    let s := forAll gone s fun s f => s.ringGet 12 f.entries
    s.setLPort p fun q =>
      { q with queue := q.queue.filter (fun f => !mine f)
               win := q.win.map fun e => if mine e.f then { e with tries := s.fld .OLK_CFG_RETRY + 1 } else e }
  s.setLnk fun l => { l with txWait := l.txWait.filter fun f => !mine f }

/-- R79: a status query; a restart is sent again. -/
def State.askStatus (s : State) (t : Txn) : State :=
  if t.isSeries then s.sendTxn t else s.frameTo t.d typStatusq false t.wsn t.txn [] noAuth

/-- R79: the item of a transaction is in doubt. -/
def State.doubt (s : State) (t : Txn) : State :=
  match t.key with
  | some k => if (s.findItem k).map (·.st) = some .running then s.setItem k .inDoubt else s
  | none => s

/-- R79, R484, R485: the transaction timeout expires. -/
def execTxnTimeout (n : Nat) (s : State) : Host.Outcome State Fault Refusal :=
  .next (match s.findTxn n with
    | none => s
    | some t =>
      if !s.timedOut t.at_ then s
      else match t.st with
      | .query => s.queryReply t (.er 705)
      | .sent | .busy =>
        if t.d.val = s.ownAddr || ((t.key.bind s.findItem).map (·.st)) == some .held then s
        else
          let s : State := (s.giveUp n).modTxn n fun t => { t with st := .inDoubt 1, at_ := s.clk.now }
          let s : State := s.doubt t
          s.askStatus t
      | _ => s)

/-- R79: once per timeout, up to 8 queries; the 8th unanswered leaves the transaction in doubt. The first query after a reset goes out
once the ring is up (R497). -/
def execStatusQueryRetry (n : Nat) (s : State) : Host.Outcome State Fault Refusal :=
  .next (match s.findTxn n with
    | none => s
    | some t =>
      match t.st with
      | .inDoubt q =>
        let s' := s.modTxn n fun t => { t with st := .inDoubt (q + 1), at_ := s.clk.now }
        if (if q = 0 then !(s.portUp 0 || s.portUp 1) else !s.timedOut t.at_) then s
        else if q < 8 then s'.askStatus t else if q = 8 then s'.raise .fault Cause.LINK_INDOUBT 4 else s
      | _ => s)

/-- R483: a line answered BUSY is sent again with the same WSN. -/
def execPeerBusyResend (n : Nat) (s : State) : Host.Outcome State Fault Refusal :=
  .next (match s.findTxn n with
    | none => s
    | some t => if t.st = .busy then (s.modTxn n fun t => { t with st := .sent }).sendTxn t else s)

/-! ## Status queries (R486, Table 3.5) -/

/-- R486: a STATUSQ is answered from the retained outcome. -/
def execStatusq (s : State) : Host.Outcome State Fault Refusal :=
  .next (match s.takeRx typStatusq with
    | none => s
    | some (r, s) =>
      match srcDev r.f.src with
      | none => s
      | some d =>
        let e := s.source (16 + d.val)
        let k : Key := ⟨16 + d.val, e.ser, r.f.wsn⟩
        let (c, err) := match s.findItem k with
          | some i => (stateCode i.st, i.err)
          | none => if e.last < r.f.wsn then (0, 0) else (6, 613)
        let s := if 1 ≤ c ∧ c ≤ 3 then s.openLine k d r.f.txn else s
        s.frameTo d typStatusa false r.f.wsn r.f.txn (leBytes 2 c ++ leBytes 2 err) noAuth)

/-- R79, Table 3.5: the answer resolves the doubt. A resend waits for the release of a held item (R497). -/
def execStatusa (s : State) : Host.Outcome State Fault Refusal :=
  .next (match s.takeRx typStatusa with
    | none => s
    | some (r, s) =>
      match s.findTxn r.f.txn with
      | none => s
      | some t =>
        match t.st with
        | .inDoubt _ =>
          if t.d.val ≠ r.f.src then s
          else
            let held := ((t.key.bind s.findItem).map (·.st)) == some .held
            match byteAt r.f.payload 0 with
            | 0 =>
              let s := (s.txnTaken t).modTxn t.txn fun t => { t with st := .sent, at_ := s.clk.now }
              if held then s else s.sendTxn t
            | 1 | 2 | 3 => s.txnTaken t
            | 4 => s.endTxn t 0
            | 5 => s.endTxn t (leAt r.f.payload 2 2)
            | _ => s.endTxn t 613
        | _ => s)

/-! ## Series (R487) -/

/-- R487: HELLO shows whether the peer counts as this device has journalled. -/
def execHello (s : State) : Host.Outcome State Fault Refusal :=
  .next (match s.takeRx typHello with
    | none => s
    | some (r, s) =>
      match srcDev r.f.src with
      | none => s
      | some d =>
        let at_ := 6 * s.ownAddr
        let e := s.source (16 + d.val)
        let bad := leAt r.f.payload at_ 2 != e.ser || decide (leAt r.f.payload (at_ + 2) 4 < e.last)
        let s := s.setLnk fun l => { l with mism := l.mism.set d bad }
        if bad then s.raise .attn Cause.LINK_SERIES 4 (inst := d.val) else s)

/-- R487, R59: the sender's series restarts, unless an item of it is open. -/
def execSeries (s : State) : Host.Outcome State Fault Refusal :=
  .next (if !s.answering then s else
    match s.takeRx typSeries with
    | none => s
    | some (r, s) =>
      match srcDev r.f.src with
      | none => s
      | some d =>
        let n := 16 + d.val
        if !s.accepting then s.sendAnswer d 0 r.f.txn [.busy .none]
        else if !s.seriesClosed n then s.sendAnswer d 0 r.f.txn [.er .none 614 false]
        else if s.commitFull then (s.ringFull 15).sendAnswer d 0 r.f.txn [.busy .none]
        else
          let ser := leAt r.f.payload 0 2
          let s := s.commitRec.restartSeries n
          let s : State := { s with jrn := { s.jrn with src := if h : n < 24 then s.jrn.src.set n ⟨ser, 0⟩ else s.jrn.src } }
          (s.setLnk fun l => { l with mism := l.mism.set d false }).sendAnswer d 0 r.f.txn [.ok .none false])

/-! ## Multicast (R489 to R491) -/

/-- A multicast's work at a receiver: it does not begin by itself, and fails its state check while the device is not SYNCED. -/
def stagedWork (w : Work) (unsynced : Bool) : Work :=
  { w with auto := false, chk := if unsynced then some 708 else w.chk }

/-- Table 18.3, step 2: the PREPARE is a candidate; its vote follows. -/
def execPrepare (s : State) : Host.Outcome State Fault Refusal :=
  .next (if !s.answering then s else
    match s.takeRx typPrepare with
    | none => s
    | some (r, s) =>
      match srcDev r.f.src with
      | none => s
      | some d =>
        let o : Origin := .peer d (leAt r.f.payload (4 * s.ownAddr) 4)
        let k := s.candKey o
        let l := r.f.payload.drop 32
        if !s.accepting then s.sendVote d r.f.txn 2 0
        else match s.peerText o d false l with
          | .error e => s.sendVote d r.f.txn 1 e
          | .ok i =>
            let (i, s) := s.measured i
            let s := s.setLnk fun l => { l with auth := r.auth }
            match s.workOf i with
            | none => (s.setLnk fun l => { l with auth := none }).sendVote d r.f.txn 1 710
            | some w =>
              let dup := (s.legOf k).isSome
              let s := s.openLine k d r.f.txn
              let s := if dup then s else s.setLnk fun l => { l with staged := l.staged ++ [⟨k, d, r.f.txn, none, false, true⟩] }
              let s := s.offerAs o i (stagedWork w (r.auth.isNone && !s.flag .TC_STATUS_SYNCED)) true r.f.payload.length
              (s.setLnk fun l => { l with auth := none }).linkWork)

/-- Table 18.2: the apply count of COMMIT, or ABORT, to the devices of a mask. -/
def State.sendDecision (s : State) (m : Multicast) (mask : Nat) : State :=
  match m.dec with
  | .open_ => s
  | .commit c => s.frameMask mask typCommit m.txn (leBytes 8 c) noAuth
  | .abort _ => s.frameMask mask typAbort m.txn [] noAuth

/-- R489, R490: the decision is journalled and sent; ABORT ends the item. -/
def State.decide_ (s : State) (m : Multicast) (dec : McDecision) : State :=
  let err := match dec with
    | .abort e => e
    | _ => 0
  let s := s.commitRec.modMc m.txn fun m => { m with dec := dec, err := err, ended := err != 0 }
  let s := s.sendDecision { m with dec := dec } m.mask
  if err = 0 then s else s.workFailed m.key err

/-- Counts of LEAD (R492): µs at 24.576 MHz. -/
def leadCounts (us : Nat) : Nat := us * 24576 / 1000

/-- Table 18.3, step 3: a vote is journalled; the first no or busy vote decides ABORT, the last yes COMMIT. -/
def execVote (s : State) : Host.Outcome State Fault Refusal :=
  .next (match s.takeRx typVote with
    | none => s
    | some (r, s) =>
      let code := byteAt r.f.payload 0
      let err := leAt r.f.payload 2 2
      let s := (s.modMc r.f.txn (modLeg r.f.src fun e => { e with vote := some (code, err) })).commitRec
      match s.findMc r.f.txn with
      | none => s
      | some m =>
        if m.dec ≠ .open_ ∨ !m.legs.any (fun e => e.d.val == r.f.src) then s
        else if code = 1 then s.decide_ m (.abort err)
        else if code = 2 then s.decide_ m (.abort 709)
        else if m.legs.all fun e => (e.vote.map (·.1)) == some 0 then
          s.decide_ m (.commit (s.clk.now + leadCounts (s.fld .OLK_CFG2_LEAD)))
        else s)

/-- R489, R490: votes are missing at the timeout. -/
def execMulticastTimeout (n : Nat) (s : State) : Host.Outcome State Fault Refusal :=
  .next (match s.findMc n with
    | none => s
    | some m => if m.dec = .open_ ∧ s.timedOut m.at_ then s.decide_ m (.abort 705) else s)

/-- R491: the decision is sent again to the devices that have not acknowledged it. -/
def execDecisionResend (n : Nat) (s : State) : Host.Outcome State Fault Refusal :=
  .next (match s.findMc n with
    | none => s
    | some m =>
      let mask := m.legs.foldl (fun (t : Nat) (e : McLeg) => if e.acked then t else t + 2 ^ e.d.val) 0
      if mask = 0 then s else s.sendDecision m mask)

/-- The staged legs of a transaction of an originator. -/
def isLeg (d txn : Nat) (e : StagedLeg) : Bool := e.src.val == d && e.txn == txn

def State.modStaged (s : State) (k : Key) (f : StagedLeg → StagedLeg) : State :=
  s.setLnk fun l => { l with staged := l.staged.map fun e => if e.key = k then f e else e }

/-- A decision that comes again is acknowledged again by the item's RESULT. -/
def State.reAck (s : State) (d txn : Nat) : State :=
  forAll (s.lnk.staged.filter fun (e : StagedLeg) => isLeg d txn e && !e.live) s fun s (e : StagedLeg) =>
    let s := s.openLine e.key e.src e.txn
    s.setLnk fun l => { l with open_ := l.open_.map fun (o : PeerOpen) => if o.key = e.key then { o with late := e.late } else o }

/-- Legs whose item is no longer retained are forgotten. -/
def State.pruneStaged (s : State) : State :=
  s.setLnk fun l => { l with staged := l.staged.filter fun (e : StagedLeg) => (s.findItem e.key).isSome }

/-- R491: COMMIT names the count. After its tick has passed, the item executes on the next tick, and MC_LATE is raised. -/
def execCommit (s : State) : Host.Outcome State Fault Refusal :=
  .next (match s.takeRx typCommit with
    | none => s
    | some (r, s) =>
      let c := leAt r.f.payload 0 8
      let s := s.reAck r.f.src r.f.txn
      let legs := s.lnk.staged.filter fun (e : StagedLeg) => isLeg r.f.src r.f.txn e && e.live && e.count.isNone
      let s := forAll legs s fun s (e : StagedLeg) =>
        let s := if (s.findItem e.key).map (·.st) = some .held then s.setItem e.key .pending else s
        if firstMultiple c s.divisor ≤ s.clk.now then
          (s.modStaged e.key fun e => { e with count := some (s.clk.now + 1), late := true }).raise .fault Cause.MC_LATE 4
        else s.modStaged e.key fun e => { e with count := some c }
      s.linkWork)

/-- R489: ABORT fails the staged item with error 707. -/
def execAbort (s : State) : Host.Outcome State Fault Refusal :=
  .next (match s.takeRx typAbort with
    | none => s
    | some (r, s) =>
      let s := s.reAck r.f.src r.f.txn
      let legs := s.lnk.staged.filter fun (e : StagedLeg) => isLeg r.f.src r.f.txn e && e.live
      let s := forAll legs s fun s (e : StagedLeg) => (s.modStaged e.key fun e => { e with live := false }).workFailed e.key 707
      s.linkWork.pruneStaged)

/-- Table 18.3, step 5: on the tick that the count names, the staged item executes. -/
def execMulticastApply (s : State) : Host.Outcome State Fault Refusal :=
  let due := s.lnk.staged.filter fun (e : StagedLeg) =>
    e.live && (e.count.map fun c => decide (firstMultiple c s.divisor ≤ s.clk.tick)) == some true
  .next (if !s.flag .TC_STATUS_REFOK || s.phase != .running then s
    else
      let s := forAll due s fun s (e : StagedLeg) =>
        let s := s.modStaged e.key fun e => { e with live := false }
        let s := s.setLnk fun l => { l with open_ := l.open_.map fun (o : PeerOpen) => if o.key = e.key then { o with late := e.late } else o }
        match (s.findItem e.key).bind fun i => i.cmd.bind fun c => s.workOf (pinStn c i.stn) with
        | some w => s.begin_ e.key w.run
        | none => s
      s.linkWork.pruneStaged)

end Sys2Proof.Machine
end

