-- ==== Sys2Proof/Machine/Commits.lean ====
section
/-! DEFINITION. The commit of a record, and the beginning of an accepted item (spec/03_work_guarantee.md, R62, R66, R68;
spec/19_storage_and_journal.md, R523, R525). -/
namespace Sys2Proof.Machine
open Sys2Proof

/-! ## Commits and beginnings (R62, R66, R68, R525) -/

/-- R62, R523, R525: the record at the head of the commit queue is written. A half that does not verify is failed; with
neither, the record is not committed. -/
def execJournalCommitComplete (okA okB : Bool) (ns : Nat) (s : State) : Host.Outcome State Fault Refusal :=
  match s.jrn.queue with
  | .item r n :: l =>
    let a := okA && !s.flag .JRN_STAT_AFAIL
    let b := okB && !s.flag .JRN_STAT_BFAIL
    if a || b then
      let s := s.setFld .JRN_CTIME_NS 0 0 (max (s.fld .JRN_CTIME_NS) (min ns 4095))
      let s := if a && !okB then s.halfFailed 1 else if b && !okA then s.halfFailed 0 else s
      .next (s.commitHead.liveUpdate.serve.linkWork)
    else
      let s := ({ s with jrn := { s.jrn with queue := l } } : State).ringGet 15 n
      .next ((((s.answer r.org (.busy (originTag r.org))).answerCopies).journalLost).serve.linkWork)
  | _ => .next s

/-- R66, R68: an accepted item begins. -/
def execItemExecutionBegin (src wsn : Nat) (s : State) : Host.Outcome State Fault Refusal :=
  match s.readyKeys.find? fun k => k.src == src && k.wsn == wsn with
  | none => .next s
  | some k => if s.mustWait k s.readyKeys || s.phase != .running then .next s else .next (s.beginItem k).linkWork

end Sys2Proof.Machine
end

