-- ==== Sys2Proof/Machine/Planner.lean ====
section
/-! DEFINITION. One tick of a station's planner: the look-ahead window, blocks and handshakes in their order, jogs,
handwheels, the spindle and the image bits (spec/08_motion_and_braking.md, R209 to R219, R227, R236). -/
namespace Sys2Proof.Machine
open Sys2Proof

/-! ## Blocks that fail (R214, R227, R230) -/

/-- The starts of the blocks of a path. -/
def startsOf : List MBlock → Vector Int 6 → List (Vector Int 6)
  | [], _ => []
  | b :: l, st => st :: startsOf l (Vector.ofFn fun (i : Fin 6) => b.endOf st[i] i)

/-- The end of the window in ssu, by slot: where the next block to enter it starts. -/
def StnMot.winEnd (m : StnMot) : Vector Int 6 :=
  m.win.foldl (fun v b => Vector.ofFn fun (i : Fin 6) => b.endOf v[i] i) m.start

/-- The command position by slot, ssu. -/
def State.cmdPos (s : State) (k : Fin 4) : Vector Int 6 :=
  Vector.ofFn fun (i : Fin 6) => match s.slotAxis k i with
    | some a => (s.axis[a]).sp
    | none => 0

/-- Another block comes first in the window: it starts from the command position. -/
def State.newHead (s : State) (k : Fin 4) : State :=
  s.setMot k fun m =>
    { m with lam := 0, vel := 0, acc := 0, stage := .before, start := s.cmdPos k, spinWait := false, dwell := 0
             hands := match m.win with
               | [] => []
               | n :: _ => n.handsBefore m.repeat_ }

/-- R214: block `n` of the window fails with `e`. A block that a RUN or TAPE RUN converted takes the item with it, and what follows it;
of an MDI stream only the one item fails. The items of the discarded blocks fail with it (DESIGN CHOICE, log entry 57). -/
def State.blockFails (s : State) (k : Fin 4) (n e : Nat) : State :=
  let m := s.mot[k]
  match m.win[n]? with
  | none => s
  | some b =>
    let s := s.traceBlock k b 3 e
    let r := m.reader.filter fun r => r.kind != .mdi && b.ofItem m.reader r.key
    let rest := if r.isSome then [] else m.win.drop (n + 1)
    let s := s.setMot k fun m => { m with win := m.win.take n ++ rest }
    let s := s.setFld .MOT_LOOK_WIN k 0 ((s.mot[k]).win.length - 1)
    let s := if n = 0 then s.newHead k else s
    match r with
    | none => (s.modItem b.key fun i => { i with blk := some (b.prog, b.blk, b.sub) }).workFailed b.key e
    | some r =>
      let s := s.ringGet (blkRing k) (m.ring.foldl (fun t b => t + b.entries) 0)
      let own := ((b :: m.win.drop (n + 1) ++ m.ring).filter (·.own)).map (·.key) ++ ((r.ext.bind (·.own)).toList)
      let s := forAll own (s.setMot k fun m => { m with ring := [] }) fun s q => s.workFailed q e
      if r.kind = .tape then s.tapeEnds e
      else ((s.dropReader k).modItem r.key fun i => { i with blk := some (b.prog, b.blk, b.sub) }).workFailed r.key e

/-- R230: a remaining arc whose radii then differ by more than ARCTOL. -/
def State.arcBroken (s : State) (k : Fin 4) (b : MBlock) (from_ : Vector Int 6) : Bool :=
  match b.centre, s.letterSlot k (planeLetters b.plane).1, s.letterSlot k (planeLetters b.plane).2.1 with
  | some (cx, cy), some i, some j =>
    let u := quantumU (s.qlin k)
    let p (v c : Int) : Int := v * u - c * ssuPer
    (arcErr ((s.fld .MOT_PGM_ARCTOL k : Int) * u * ssuPer) 0 0 (p from_[i] cx) (p from_[j] cy)
      (p (b.endOf from_[i] i) cx) (p (b.endOf from_[j] j) cy)).isSome
  | _, _, _ => false

/-- R230: while the station runs, an arc behind a block that is gone fails where its radii no longer agree. -/
def State.checkArcs (s : State) (k : Fin 4) : State :=
  let m := s.mot[k]
  let broken := ((m.win.zip (startsOf m.win m.start)).zipIdx.filter fun e =>
    (e.2 != 0 || m.stage == .before) && s.arcBroken k e.1.1 e.1.2).map (·.2)
  if s.stnState k = stRun then
    match broken with
    | [] => s
    | n :: _ => s.blockFails k n 252
  else s

/-- R209, R214: the next block of the ring enters the window, checked against the soft limits. -/
def State.enterWindow (s : State) (k : Fin 4) : State :=
  let m := s.mot[k]
  match m.ring with
  | [] => s
  | b :: rest =>
    if m.win.length ≥ 65 then s
    else
      let st := if m.win.isEmpty then s.cmdPos k else m.winEnd
      let probe := s.setMot k fun m => { m with start := st }
      let s := (s.ringGet (blkRing k) b.entries).setMot k fun m => { m with ring := rest, win := m.win ++ [b], starved := false }
      let s := if m.win.isEmpty then s.newHead k else s
      if probe.leavesLimits k b then s.blockFails k m.win.length 263
      else if s.arcBroken k b st then s.blockFails k m.win.length 252
      else
        let s := (s.runBegins b.key).traceBlock k b 0 0
        let s := s.setFld .MOT_LOOK_WIN k 0 m.win.length
        if s.stnState k = stIdle then (s.setStn k stRun).startDrives k else s

/-! ## The first block of the window -/

/-- The remaining path of the first block moves an axis into a direction that an overtravel bit blocks (R227). -/
def State.blockedWay (s : State) (k : Fin 4) (b : MBlock) : Bool :=
  let m := s.mot[k]
  b.motion != 0 && b.motion != 5 && (s.axesOf k).zipIdx.any fun ((a, i) : Fin 12 × Nat) =>
    let st := if m.stage = .before then (if h : i < 6 then m.start[i] else 0) else (s.axis[a]).sp
    let e := b.endOf (if h : i < 6 then m.start[i] else 0) i
    let turns := !(s.arcExtremes k b i m.lam).isEmpty
    s.fld .MOT_PGM_SPAX k != a.val && (((turns || st < e) && s.overtravel k i true) || ((turns || e < st) && s.overtravel k i false))

/-- The ticks of a dwell, rounded up (R215). -/
def State.dwellTicks (s : State) (d : Decimal) : Nat := (decRat d * 24576000 / s.divisor).ceil.toNat

/-- A spindle speed in 0.001 min⁻¹. -/
def spindleSpeed (d : Decimal) : Nat := (roundRat (decRat d * 1000)).toNat

/-- The block's motion begins: the spindle takes its speed and direction, and a dwell its ticks (R215). -/
def State.startBlock (s : State) (k : Fin 4) (b : MBlock) : State :=
  (s.traceBlock k b 1 0).setMot k fun m =>
    { m with
      stage := .moving
      spdir := match b.spdir with
        | 0 => m.spdir
        | 3 => 0
        | d => d
      speed := match b.speed with
        | some v => spindleSpeed v
        | none => m.speed
      spinWait := s.hasSpindle k && (b.spdir != 0 || b.speed.isSome) && (b.motion == 2 || b.motion == 3 || b.motion == 4)
      dwell := match b.dwell with
        | some d => s.dwellTicks d
        | none => 0 }

/-- R173: M00, or M01 with OPSTOP at 1, at the end of the block's motion. -/
def State.programStop (s : State) (k : Fin 4) (b : MBlock) : State :=
  if b.m00 || (b.m01 && s.imgDev k 0x17D5) then
    (((s.setStn k stHeld).setFld .MOT_STATE_WHY k 0 5).pathRecord k).raise .attn Cause.PROGRAM_STOP k
  else s

/-! ## A tick of the path (R209 to R213) -/

/-- The path point stands `x` into the first block: at its end where it rests there, and else in a block after it (R212). -/
def State.travel (k : Fin 4) : Nat → Nat → State → State
  | 0, _, s => s
  | n + 1, x, s =>
    match (s.mot[k]).win with
    | [] => s
    | b :: l =>
      let len := (s.geoOf k b (s.mot[k]).start).len
      if x < len ∨ s.restsAtEnd k then
        let lam := if len ≤ x then pathEnd else x * pathEnd / len
        (s.setMot k fun m =>
          if lam = pathEnd then { m with lam := lam, vel := 0, acc := 0 } else { m with lam := lam }).toPath k b lam
      else
        let s := s.blockDone k
        State.travel k n (x - len) (match l with
          | [] => s
          | b :: _ => s.startBlock k b)

/-- The setpoints of an approach, `dist` along its straight line of length `len` (R229). -/
def State.toApproach (s : State) (k : Fin 4) (p : Approach) (len : Nat) : State :=
  forAll ((s.axesOf k).zipIdx) s fun s (a, i) =>
    if h : i < 6 then
      if p.from_[i] = p.goal[i] then s
      else s.setAxis a fun x => { x with sp := p.from_[i] + roundHE ((p.goal[i] - p.from_[i]) * p.dist) (max 1 len) }
    else s

/-- One tick of the path, or of the approach to it. -/
def State.pathTick (s : State) (k : Fin 4) (aim : Aim) : State :=
  let m := s.mot[k]
  match m.app with
  | some p =>
    let g := s.approachGeo k p
    let (d, v, a) := moveTick [⟨g.len, g.v, g.a, g.j, 0⟩] p.dist m.vel m.acc aim
    let p := { p with dist := min g.len (p.dist + d) }
    (s.setMot k fun m => { m with vel := v, acc := a, app := some p }).toApproach k p g.len
  | none =>
    match m.win with
    | [] => s
    | b :: _ =>
      let x := m.lam * (s.geoOf k b m.start).len / pathEnd
      let (d, v, a) := moveTick (s.pathAhead k) x m.vel m.acc aim
      State.travel k m.win.length (x + d) (s.setMot k fun m => { m with vel := v, acc := a })

/-- The first block of a running station, as far as the tick takes it: handshakes, motion, handshakes, its end, and what comes
next. The path moves once. -/
def State.blockRun (k : Fin 4) : Nat → Bool → State → State
  | 0, _, s => s
  | n + 1, moved, s =>
    let m := s.mot[k]
    match m.win with
    | [] => s
    | b :: _ =>
      if s.stnState k ≠ stRun then s
      else match m.stage with
      | .before =>
        if s.blockedWay k b then s.blockFails k 0 264
        else if m.handsClear then State.blockRun k n moved (s.startBlock k b)
        else s
      | .moving =>
        if m.lam ≥ pathEnd then
          State.blockRun k n moved ((s.setMot k fun m => { m with stage := .after, hands := m.hands ++ b.handsAfter }).programStop k b)
        else if b.motion = 0 then State.blockRun k n moved (s.setMot k fun m => { m with lam := pathEnd })
        else if b.motion = 5 then (if 0 < m.dwell ∧ !moved then s.setMot k fun m => { m with dwell := m.dwell - 1 } else s)
        else if m.spinWait ∨ m.delay ∨ moved then s
        else if m.vel = 0 ∧ s.blockedWay k b then s.blockFails k 0 264
        else State.blockRun k n true (s.pathTick k .go)
      | .after => if m.handsClear then State.blockRun k n moved (s.blockDone k) else s

/-- A tick of a braking path: from the tick after the stop began, velocity falls (R222). -/
def State.brakePath (s : State) (k : Fin 4) : State :=
  let m := s.mot[k]
  if m.vel = 0 then s
  else match m.brake with
  | none => s
  | some b => s.pathTick k (if b.begun then (match b.dec with
      | some d => .slow d
      | none => .stop) else .go)

/-! ## Jogs and handwheels (R218, R219) -/

/-- One tick of an axis that moves on its own in the direction `plus`, to `dest` where it ends, at up to `v` quanta/min. Answers also
whether it stands. -/
def State.axisMove (s : State) (a : Fin 12) (plus : Bool) (dest : Option Int) (v : Nat) (aim : Aim) : State :=
  let x := s.axis[a]
  let sgn : Int := if plus then 1 else -1
  let at_ : Int := x.sp * fx + x.jf
  let len : Nat := match dest with
    | some t => (sgn * (t * fx - at_)).toNat
    | none => unbounded
  let (d, w, c) := moveTick [⟨len, s.tickV v, s.tickA x.lim.amax, max 1 (s.tickJ x.lim.jmax), 0⟩] 0 (sgn * x.jv).toNat (sgn * x.ja) aim
  let now := at_ + sgn * d
  let sp := roundHE now fx
  s.setAxis a fun x => { x with sp := sp, jv := sgn * w, ja := sgn * c, jf := if w = 0 then 0 else now - sp * fx }

/-- A jog ends: its item is done, the count is journalled, and a jog that waits begins. -/
def State.endJog (s : State) (k : Fin 4) (a : Fin 12) : State :=
  let x := s.axis[a]
  let s := (s.setAxis a fun x => { x with jog := none }).journalCount a
  let s := match x.jog.bind (·.key) with
    | some q => s.workDone q
    | none => s
  match x.jogNext with
  | j :: l => (s.setAxis a fun x => { x with jogNext := l }).startJog k a j
  | [] => s

/-- Where a jog comes to rest, where that is known: its target, or a soft limit before it. -/
def State.jogEnd (s : State) (k : Fin 4) (a : Fin 12) (j : Jog) : Option Int × Bool :=
  let x := s.axis[a]
  let lim := if j.plus then x.lim.hi * ssuPer else x.lim.lo * ssuPer
  let inside := if j.plus then x.sp ≤ lim else lim ≤ x.sp
  if s.softOn k a && inside then
    match j.target with
    | some t => if (if j.plus then t ≤ lim else lim ≤ t) then (some t, false) else (some lim, true)
    | none => (some lim, true)
  else (j.target, false)

/-- How a jog moves: on, to rest, or to rest with the station. -/
def State.jogAim (s : State) (k : Fin 4) (j : Jog) : Aim :=
  let starting := s.isBraking k && ((s.mot[k]).brake.map (·.begun)) != some true
  if !j.braking || starting then .go
  else match j.dec with
  | some d => .slow d
  | none => .stop

/-- R218: one tick of a jog. The item of a continuous jog is done when its motion begins. -/
def State.jogTick (s : State) (k : Fin 4) (a : Fin 12) : State :=
  match (s.axis[a]).jog with
  | none => s
  | some j =>
    if (s.mot[k]).delay then s
    else
      let s := match j.target, j.key with
        | none, some q =>
          if j.braking then s else (s.setAxis a fun x => { x with jog := some { j with key := none } }).workDone q
        | _, _ => s
      let (f, _, _) := s.overrides k
      let (dest, soft) := s.jogEnd k a j
      let v := if s.isBraking k then j.vel else j.vel * f / 100
      let s := s.axisMove a j.plus dest (min v (s.axis[a]).lim.vmax) (s.jogAim k j)
      let x := s.axis[a]
      let reached := dest.any fun t => if j.plus then t ≤ x.sp else x.sp ≤ t
      if s.isBraking k || x.jv != 0 then s
      else if reached then (if soft then s.raise .attn Cause.SOFT_LIMIT k a.val else s).endJog k a
      else if j.braking then s.endJog k a
      else s

/-- R219: one tick of handwheel motion: toward the target, once what moves away from it has come to rest. -/
def State.hwTick (s : State) (k : Fin 4) (a : Fin 12) : State :=
  let x := s.axis[a]
  if x.jog.isSome ∨ (x.hwPend = 0 ∧ x.jv = 0) ∨ (s.mot[k]).delay then s
  else
    let dest := x.sp + x.hwPend
    let plus := if x.jv = 0 then decide (0 < x.hwPend) else decide (0 < x.jv)
    let ahead := x.hwPend != 0 && plus == decide (0 < x.hwPend)
    let s := s.axisMove a plus (if ahead then some dest else none) x.lim.vmax (if ahead then .go else .stop)
    if s.isBraking k then s else s.setAxis a fun y => { y with hwPend := dest - y.sp }

/-! ## The spindle (R215) -/

/-- R215: the spindle velocity moves toward its target within AMAX and JMAX of its axis. -/
def State.spindleTick (s : State) (k : Fin 4) : State :=
  if !s.flag .MOT_STATE_DRVON k then s.setMot k fun m => { m with spinNow := 0, spinFine := 0, spinAcc := 0 }
  else match s.spindleAxis k with
  | none => s
  | some x =>
    let l := (s.axis[x]).lim
    let m := s.mot[k]
    let gap := s.spindleTarget k * fx - m.spinFine
    if m.delay ∨ l.amax = 0 ∨ l.jmax = 0 then s
    else
      let a := 60 * l.amax * s.divisor * fx / 24576000
      let j := max 1 (60000 * l.jmax * s.divisor ^ 2 * fx / 24576000 ^ 2)
      let sgn : Int := if gap < 0 then -1 else 1
      let acc := -sgn * slowStep a j gap.natAbs (-sgn * m.spinAcc)
      let v := m.spinFine + acc
      s.setMot k fun m => { m with spinFine := v, spinAcc := acc, spinNow := roundHE v fx }

/-! ## The tick of a station -/

/-- The overtravel bits of the image, as sampled (R227). -/
def State.otSample (s : State) (k : Fin 4) : Nat := s.imgNum k 0x17A0 6 + 64 * s.imgNum k 0x17A8 6

/-- R221, R227: rising edges of HOLDREQ and STOPREQ begin a stop, and a new overtravel bit stops the station. -/
def State.sampleStops (s : State) (k : Fin 4) : State :=
  let m := s.mot[k]
  let h := s.imgDev k 0x1798
  let p := s.imgDev k 0x1799
  let ot := s.otSample k
  let newOt := (List.range 12).filter fun i => ot / 2 ^ i % 2 == 1 && m.ot / 2 ^ i % 2 == 0
  let s := s.setMot k fun m => { m with holdReq := h, stopReq := p, ot := ot }
  let s := if h && !m.holdReq then s.beginStop k false none m.lim.holdt false 1 else s
  let s := if p && !m.stopReq then s.beginStop k true none 0 false 2 else s
  if newOt.isEmpty then s
  else
    let s := forAll newOt s fun s i =>
      match s.slotAxis k (i % 6) with
      | some a => s.raise .fault Cause.OVERTRAVEL k a.val
      | none => s
    s.deviceStop k

/-- R209: the station rests with the window empty and more to come; STARVED once for each such rest. -/
def State.starve (s : State) (k : Fin 4) : State :=
  let m := s.mot[k]
  if s.stnState k = stRun ∧ m.win.isEmpty ∧ m.ring.isEmpty ∧ s.motionOpen k ∧ !m.starved then
    let s := (s.setMot k fun m => { m with starved := true }).bump .MOT_LOOK_DRY k 0 1
    s.raise .attn Cause.STARVED k
  else s

/-- An axis is jogged, or is about to be, or follows a handwheel. -/
def State.axisBusy (s : State) (a : Fin 12) : Bool :=
  let x := s.axis[a]
  x.jog.isSome || !x.jogNext.isEmpty || x.hwPend != 0 || x.jv != 0 || s.fld .MOT_AXCTL_HW a != 3

/-- R202: RUN and JOG end in IDLE, HELD does when nothing is held any more, and a jog or a handwheel begins JOG. -/
def State.toIdle (s : State) (k : Fin 4) : State :=
  let m := s.mot[k]
  if s.stnState k = stRun ∧ m.win.isEmpty ∧ m.ring.isEmpty ∧ !s.motionOpen k then s.setStn k stIdle
  else if s.stnState k = stJog ∧ !(s.axesOf k).any s.axisBusy then s.setStn k stIdle
  else if s.stnState k = stHeld ∧ !s.interrupted k ∧ m.reqs = [] ∧ m.resume.isNone ∧ !(s.axesOf k).any s.axisBusy then
    s.setStn k stIdle
  else s

/-- R202: a jog that executes, or a handwheel that is selected, takes the station from IDLE to JOG. -/
def State.toJog (s : State) (k : Fin 4) : State :=
  if s.stnState k = stIdle ∧ (s.axesOf k).any s.axisBusy then s.setStn k stJog else s

/-- R236: the motion bits that the device writes. -/
def State.motionBits (s : State) (k : Fin 4) : State :=
  let moves := (s.mot[k]).vel != 0 || (s.axesOf k).any fun (a : Fin 12) => (s.axis[a]).jv != 0
  ((s.imgLatch k 0x179A moves).imgLatch k 0x179B (s.stnState k == stHeld)).imgLatch k 0x179C (s.stnState k == stTripped)

/-- A braking that has begun decelerates from the next tick on (R222). -/
def State.brakeTick (s : State) (k : Fin 4) : State :=
  s.setMot k fun m => { m with brake := m.brake.map fun b => { b with begun := true } }

/-- R228: on the first tick after a trip the interpolator state is journalled, at the path point of the last setpoint. -/
def State.tripRecord (s : State) (k : Fin 4) : State :=
  if (s.mot[k]).recDue then
    (s.pathRecord k).setMot k fun m => { m with recDue := false, vel := 0, acc := 0, app := none }
  else s

/-- R72: while path velocity is not zero, records lie no more than 8 ms apart. -/
def State.dueRecord (s : State) (k : Fin 4) : State :=
  let m := s.mot[k]
  if m.vel ≠ 0 ∧ m.app.isNone ∧ m.lastRec.at_ + 8 * msCounts < s.clk.tick + s.divisor then s.pathRecord k else s

/-- The motion of a station on a tick: its path, and the axes that move on their own. -/
def State.moveStation (s : State) (k : Fin 4) : State :=
  let s :=
    if s.stnState k = stRun then State.blockRun k (4 * (s.mot[k]).win.length + 4) false s
    else if s.isBraking k then s.brakePath k
    else if s.stnState k = stApproach ∧ !(s.mot[k]).delay then s.pathTick k .go
    else s
  forAll (s.axesOf k) s fun s a => (s.jogTick k a).hwTick k a

/-- The planner's tick of station k. -/
def State.planTick (s : State) (k : Fin 4) : State :=
  let s := forAll (s.axesOf k) s fun s a => s.setAxis a fun x => { x with sp2 := x.sp1, sp1 := x.sp }
  let s := (((s.limitsTick k).stationReqs k).brakeTick k).sampleStops k
  let s := ((((s.tripRecord k).dropCancelled k).checkArcs k).toJog k).handTick k
  let s := if s.stnState k = stIdle ∨ s.stnState k = stRun ∨ s.isBraking k then s.enterWindow k else s
  let s := s.moveStation k
  let s := ((s.spindleTick k).handDue k).dueRecord k
  (((s.endReader k).starve k).toIdle k).motionBits k

end Sys2Proof.Machine
end

