-- ==== Sys2Proof/Machine/Tick.lean ====
section
/-! DEFINITION. The lattice tick, tick slack and VCORE, overruns, the reference, and the TRIP input (spec/02_timing.md,
and the tick work of the other chapters). -/
namespace Sys2Proof.Machine
open Sys2Proof

def setLat (s : State) (f : Lattice → Lattice) : State := { s with lat := f s.lat }

/-! ## Slack and VCORE (R46 to R49, R644) -/

/-- The phases in which the lattice generator is powered and a reference has been taken. -/
def State.ticking (s : State) : Bool :=
  s.flag .TC_STATUS_REFOK && (match s.phase with
    | .off | .keepOnly | .inReset | .waitRef => false
    | _ => true)

/-- An event whose record carries an earlier count than the present one. -/
def State.raiseAt (s : State) (t : Nat) (c : EvClass) (cause stn : Nat) : State :=
  let s' := ({ s with clk := { s.clk with now := t } } : State).raise c cause stn
  { s' with clk := s.clk }

/-- R47, R48, R644: the decision that rests on a whole window, whose last tick fell at count `p`. -/
def State.windowEnd (s : State) (p : Nat) : State :=
  let l := s.lat
  let target : Rat := 10 * s.fld .LAT_VPOL_SLACK_TGT
  match s.fld .LAT_VPOL_POL with
  | 1 => if l.winMin < target then s.raiseAt p .attn Cause.SLACK_LOW 4 else s
  | 2 =>
    if target + 50 < l.winMin then
      if l.holdLeft = 0 ∧ !l.resetHold then s.vcoreTo (s.fld .LAT_VCORE_VCODE - 1) else s
    else if l.winMin < target ∧ l.winLowAtMax then s.raiseAt p .attn Cause.SLACK_LOW 4
    else s
  | _ => s

/-- R48: 4096 ticks after the raise, lowering resumes. -/
def execVcoreHoldEnd (s : State) : Host.Outcome State Fault Refusal :=
  .next (if s.lat.holdLeft = 1 then setLat s fun l => { l with holdLeft := 0 } else s)

/-- R46: the slack of a tick in 0.1 %, before it is rounded down. -/
def slackOf (d done : Nat) : Rat := ((d - min done d) * 1000 : Nat) / (d : Rat)

/-- R48: ADAPT raises VCORE on the tick. An overrun counts as slack below half the target (R53). -/
def State.adaptRaise (s : State) (slack : Rat) (overrun : Bool) : State :=
  let target : Rat := 10 * s.fld .LAT_VPOL_SLACK_TGT
  if s.fld .LAT_VPOL_POL ≠ 2 ∨ s.lat.resetHold then s
  else if overrun ∨ 2 * slack < target then setLat (s.vcoreTo 70) fun l => { l with holdLeft := 4097 }
  else if slack < target then s.vcoreTo (s.fld .LAT_VCORE_VCODE + 4)
  else s

/-- R46, R644: the slack of the tick at count `p` has become known. With the last one of a window its decision is made. -/
def State.slackTick (s : State) (p : Nat) (slack : Rat) (overrun : Bool) : State :=
  let low := decide (slack < 10 * s.fld .LAT_VPOL_SLACK_TGT) && s.flag .LAT_VCORE_ATMAX
  let first := s.lat.winTicks == 0
  let ends := s.lat.winTicks == 63
  let least := if first then slack else min slack s.lat.winMin
  let shown := slack.floor.toNat
  let s := (s.setFld .LAT_SLACK_LAST 0 0 shown).setFld .LAT_SLACK_WMIN 0 0 least.floor.toNat
  let s := s.setFld .LAT_SLACKLOW_LOW 0 0 (min shown (s.fld .LAT_SLACKLOW_LOW))
  let s := setLat s fun l =>
    { l with winTicks := (l.winTicks + 1) % 64, winMin := least, winLowAtMax := low || (!first && l.winLowAtMax)
             holdLeft := if 1 < l.holdLeft then l.holdLeft - 1 else l.holdLeft }
  let s := s.adaptRaise slack overrun
  if ends then s.windowEnd p else s

/-! ## Overruns (R51 to R53) -/

/-- R51, R313: the stations that overrun on a tick, by their own late work: setpoints, resampler outputs of their channels, and
tick sections of their cores. Late work of the board counts for every one. -/
def State.lateStations (s : State) (o : TickObs) : List (Fin 4) :=
  let codes := o.lateCh.map (fun (n : Fin 16) => s.chanStn n)
    ++ ((List.finRange 6).filter s.sectionLate).map fun (c : Fin 6) => s.fld .SYS_CASN_STN c
  (List.finRange 4).filter fun (k : Fin 4) =>
    s.configured k && (o.lateSet.contains k || codes.any fun (n : Nat) => n == k.val || n == 4)

/-- R644: the last tick-bound work of the present tick, the last one of its window, completes before the next tick. Nothing
that the row carries says how many counts after its tick: that is free (log entry 2). -/
def execSlackWindowEnd (s : State) : Host.Outcome State Fault Refusal :=
  .next (if s.ticking && s.lat.begun && !s.lat.known && s.lat.winTicks == 63 && !(List.finRange 6).any s.sectionLate then
    let (n, s) := s.fresh 13
    setLat (s.slackTick s.clk.tick (slackOf s.divisor (n % s.divisor)) false) fun l => { l with known := true }
  else s)

/-- R51, R52: overruns are counted, and a tick on time ends a series of them. -/
def State.chargeTick (s : State) (late : List (Fin 4)) : State :=
  forAll (List.finRange 4) s fun s (k : Fin 4) =>
    if !s.configured k then s
    else if late.contains k then
      ((s.bump .LAT_OVR_COUNT k 0 1).bump .LAT_OVR_CONSEC k 0 1).raise .attn Cause.TICK_OVERRUN k
    else
      let s := (s.setFld .LAT_OVR_CONSEC k 0 0).clearTrip k Cause.LATTICE_OVERRUN
      setLat s fun l => { l with suspended := l.suspended.set k false }

/-- R52: the third consecutive overrun. -/
def execLatticeOverrun (k : Fin 4) (s : State) : Host.Outcome State Fault Refusal :=
  .next (if 3 ≤ s.fld .LAT_OVR_CONSEC k ∧ !s.lat.suspended[k] then
    let s := (s.raise .fault Cause.LATTICE_OVERRUN k).deviceStop k
    setLat s fun l => { l with suspended := l.suspended.set k true }
  else s)

/-- R52, Table 2.5: the eighth further consecutive overrun. -/
def execLatticeOverrunTrip (k : Fin 4) (s : State) : Host.Outcome State Fault Refusal :=
  .next (if 11 ≤ s.fld .LAT_OVR_CONSEC k ∧ !(s.mot[k]).trips.contains Cause.LATTICE_OVERRUN then
    s.deviceTrip k Cause.LATTICE_OVERRUN 0xFFFF 0
  else s)

/-- R51: a planner's tick. Late setpoints are replaced by the previous ones advanced by their last velocity; the planner's
own path goes on, and its next setpoints on time are used as delivered. -/
def State.plannerTick (s : State) (k : Fin 4) (late : Bool) : State :=
  let old := s
  let s := forAll (s.axesOf k) s fun s a => s.setAxis a fun x =>
    match x.own with
    | some v => { x with sp := v, own := none }
    | none => x
  let s := s.planTick k
  if !late || !s.flag .MOT_STATE_DRVON k then s
  else forAll (s.axesOf k) s fun s a =>
    let x := old.axis[a]
    s.setAxis a fun y => { y with own := some y.sp, sp := 2 * x.sp - x.sp1, sp1 := x.sp, sp2 := x.sp1 }

/-! ## Writes that wait for the tick -/

def State.putTickWrite (s : State) (w : TickWrite) : State :=
  if w.fld = .REB_XPT_SRC then s
  else
    let s := s.setFld w.fld w.i w.j w.v
    if isJournalled w.fld then s.note w.fld w.i w.j else s

/-- R383, R387: the structure of chain `n` has changed, and with the mode of an even channel that of the odd one. -/
def State.structApplied (old s : State) (n : Nat) : State :=
  let c (m : Nat) : Fin 24 := ⟨m % 16, by omega⟩
  let s := (s.disturb (c n)).fixPair n
  if n % 2 = 0 ∧ s.fld .FCH_CFG_MODE (n + 1) ≠ old.fld .FCH_CFG_MODE (n + 1) then s.disturb (c (n + 1)) else s

/-- What follows from a field that has changed on the tick. -/
def State.changedOnTick (old s : State) (w : TickWrite) : State :=
  match w.fld.reg with
  | .ADC_PCFG => s.chanAssigned ⟨w.i % 16, by omega⟩
  | .ADC_FCFG => s.chanAssigned ⟨16 + w.i % 8, by omega⟩
  | .FCH_CFG | .FCH_PHD | .FCH_SF | .FCH_RES => State.structApplied old s w.i
  | .DAC_CFG => if w.fld = .DAC_CFG_STN ∧ w.v = 7 then s.dacHoldSafe (natFin16 w.i) else s
  | .FIO_CFG => s.fioCfgApplied ⟨w.i % 64, by omega⟩
  | .FIO_ACFG => s.ainCfgApplied ⟨w.i % 32, by omega⟩ (old.flag .FIO_ACFG_OWEN w.i)
  | .PWR_DOM => if s.flag .PWR_DOM_OBSEN then s.obsUp else s.obsDown
  | .LAT_VPOL => s.vcoreFix
  | _ => s

/-- The writes that waited for this tick take effect together. -/
def State.applyTickWrites (s : State) : State :=
  let l := s.tickSet
  let old := s
  let s := forAll l { s with tickSet := [] } fun s w => s.putTickWrite w
  let s := s.setRoutes (lastRoutes l)
  let ch := (l.filter fun w => old.fld w.fld w.i w.j != s.fld w.fld w.i w.j && w.fld != .REB_XPT_SRC).eraseDups
  forAll ch s fun s w => State.changedOnTick old s w

/-! ## Samples -/

/-- Read-only fields that show a measured value. -/
def measuredFlds : List Fld :=
  [.ADC_TEMP_T, .PWR_VIN_V, .PWR_VHOLD_V, .FIO_CUR_IOUT, .FIO_CUR_IIN, .FIO_GSTAT_V, .FIO_GCUR_I,
    .JRN_WEAR_WEAR, .ENC_HWSTAT_ERRS]

/-- A value within the range of a field. -/
def clampFld (f : Fld) (v : Int) : Int :=
  if f.sgn then max (-(2 ^ (f.wd - 1) : Nat)) (min ((2 ^ (f.wd - 1) : Nat) - 1) v) else max 0 (min ((2 ^ f.wd : Nat) - 1) v)

def State.measure (s : State) (m : MeasObs) : State :=
  if measuredFlds.contains m.fld && regExists m.fld.reg m.i 0 then
    let v := clampFld m.fld m.v
    let s := if m.fld = .ENC_HWSTAT_ERRS ∧ (s.fld .ENC_HWSTAT_ERRS m.i : Int) < v then s.setFlag .ENC_HWSTAT_ERRSEEN m.i 0 true
      else s
    s.setFldInt m.fld m.i 0 v
  else s

/-- The measured values of a tick, and the fill of the journal (R526). -/
def State.measureAll (s : State) (l : List MeasObs) : State := (forAll l s fun s m => s.measure m).calDueCheck.liveUpdate

/-- R432: the detent counts, in ENC_HWCNT and in the image of every station. -/
def State.handwheelTick (s : State) : State :=
  forAll (List.finRange 2) s fun s (n : Fin 2) =>
    let v := s.hwDet[n]
    let s := s.setFld .ENC_HWCNT_DET n 0 v
    forAll (List.finRange 4) s fun s k => s.imgLatchNum k (0x1200 + 16 * n.val) v 16

/-- R464: the conditions of AIN pins hold VALID at 0, on a fast channel only while they last. On a precision channel, VALID
returns once a chain memory has passed (R379). -/
def State.validTick (s : State) : State :=
  forAll (List.finRange 24) s fun s (c : Fin 24) =>
    if s.ainBlocked c then s.setValid c false
    else if h : c.val < 16 then (if s.memoryPassed ⟨c.val, h⟩ then s.setValid c true else s)
    else s.setValid c (s.chRuns c)

/-- R248: encoder counts are sampled on the tick. -/
def State.encoderTick (s : State) (l : List (Fin 12 × Int)) : State :=
  forAll l s fun s e => s.setFld .ENC_CNT_CNT e.1 0 (ofSigned 32 e.2)

/-! ## Idle stations on a tick (R573, R574) -/

/-- R573: the count since which the station has rested. -/
def State.restTick (s : State) (k : Fin 4) : State :=
  let r := if s.resting k then (s.pwr.rest[k]).or (some s.clk.now) else none
  setPwr s fun p => { p with rest := p.rest.set k r }

/-- R574: what ends DOZE. -/
def State.dozeEnds (s : State) (k : Fin 4) : Bool :=
  s.motionOpen k || s.stnState k != stIdle || s.flag .MOT_STATE_DRVON k || !(s.pwr.wake[k]).isEmpty

def State.idleStationTick (s : State) (k : Fin 4) : State :=
  let s := if s.fld .PWR_IDLE_NOW k = 1 ∧ s.dozeEnds k then (s.setFld .PWR_IDLE_NOW k 0 0).wakeDone k else s
  (s.restTick k).idleEntry k

/-- The feedback counts of a station that is not evaluated go on. -/
def State.countTick (s old : State) (a : Fin 12) : State :=
  let (kind, src) := s.feedback a
  let d := old.sourceStep s kind src
  let d2 := if s.flag .SRV_STAT_FB2ACT a then 0 else old.sourceStep s (s.fld .SRV_FB_KIND2 a) (s.fld .SRV_FB_SRC2 a)
  let s := s.setAxis a fun x => { x with count := x.count + d, count2 := x.count2 + d2 }
  let conv := s.converted a (s.axis[a]).count + (s.axis[a]).ofs
  let p := conv - s.scaleCorr a conv - s.backlash a
  s.setAxis a fun x => { x with pos1 := p, pos := p, sp := p, sp1 := p, sp2 := p, own := none, jf := 0 }

/-- The planners and servo engines of a station on a tick. -/
def State.stationTick (s old : State) (o : TickObs) (k : Fin 4) : State :=
  if !s.configured k then s
  else
    let s := s.idleStationTick k
    if s.fld .PWR_IDLE_NOW k ≠ 0 then forAll (s.axesOf k) s fun s a => s.countTick old a
    else
      let s := forAll (s.axesOf k) s fun s a => s.measureTick old a
      let s := s.plannerTick k (s.lat.begun && o.lateSet.contains k)
      forAll (s.axesOf k) s fun s a => s.servoTick k a

/-! ## The tick (R38, R45, R309) -/

/-- R36, R495: the counts within `n` counts after `now`, a tick, that are added or omitted for `m` single adjustments: at most
one in any 256, and never at a multiple of 768. -/
def adjustCounts (now n m : Nat) : List Nat := (List.range (min m (n / 256))).map fun k => now + 256 * k + 1

/-- What is left of a correction after `m` single counts. -/
def corrLeft (c : Int) (m : Nat) : Int := if 0 ≤ c then c - min m c.toNat else c + min m (-c).toNat

/-- The clock reaches the tick, and time synchronisation adds or omits single counts on the way (R36). -/
def State.advance (s : State) : State :=
  let l := adjustCounts s.clk.now (s.nextTick - s.clk.now) s.lnk.corr.natAbs
  { s with clk := { s.clk with now := s.nextTick, tick := s.nextTick, adj := l }
           lnk := { s.lnk with corr := corrLeft s.lnk.corr l.length } }

/-- R35: with the reference absent, a period of the KEEP oscillator advances the counter by 750. It is what passes on an empty
queue: no row of the table stands for it (log entry 2). -/
def State.idle (s : State) : State :=
  if s.phase != .off && !s.flag .TC_STATUS_REFOK then { s with clk := { s.clk with now := s.clk.now + 750 } } else s

/-- What is measured of the tick before: slack and overruns. The first tick of a run of windows follows no measured one, and
overruns are charged once the first tick after acceptance has come (R52). -/
def State.timingTick (s : State) (p d : Nat) (o : TickObs) (late : List (Fin 4)) : State :=
  let count (s : State) : State := setLat s fun l => { l with begun := true, counting := l.counting || s.phase == .running }
  if s.lat.resetHold && s.phase != .closing then s
  else if !s.lat.begun then (setLat (count s) fun l => { l with vfree := l.vfree || !l.resetHold }).vcoreFix
  else
    let overrun := !late.isEmpty
    let s := count (if s.lat.counting then s.chargeTick late else s)
    if s.lat.known then (setLat s fun l => { l with known := false }).vcoreFix
    else (s.vcoreFix).slackTick p (if overrun then 0 else slackOf d o.done) overrun

/-- The pins, channels and bits that a tick samples and transfers. -/
def State.sampleTick (s : State) (p : Nat) (o : TickObs) : State :=
  let s := (s.fabricTick p).loutTick o.lout
  let s := forAll (List.finRange 6) s fun s c => s.sectionTick c
  let s := forAll (List.finRange 4) s fun s k => s.imgTransfer k
  let s := (s.encoderTick o.enc).converterTick o
  let s := (s.validTick).measureAll o.meas
  ((s.handwheelTick).keyTick).fioTick

/-- The outputs and the loads of a tick. -/
def State.outputTick (s : State) : State :=
  let s := forAll (List.finRange 4) s.dacTick fun s g => s.excTick g
  (s.loadsTick).liveTick

/-- What else falls on a tick once an image has been committed. -/
def State.committedTick (s : State) (p d : Nat) (o : TickObs) : State :=
  let late := if s.lat.begun then s.lateStations o else []
  let s := s.timingTick p d o late
  let s := s.applyTickWrites
  let s := if s.ringChg.isEmpty then s else s.applyRingChanges
  let old := s
  let s := s.sampleTick p o
  let s := s.outputTick
  let s := forAll (List.finRange 4) s fun s k => s.stationTick old o k
  let s := setBoot s fun b => { b with settle := b.settle.map (· - 1) }
  let s := s.dieTick
  let s := (s.coreStarts).linkWork
  s.mirrorSend

/-- The frames shown are those sent since the last tick. -/
def State.wireClear (s : State) : State :=
  s.setLnk fun l => { l with port := l.port.map fun q => { q with ctl := [], wire := [] } }

/-- R38: the tick. -/
def execLatticeTick (o : TickObs) (s : State) : Host.Outcome State Fault Refusal :=
  .next (if !s.ticking then s
  else
    let p := s.clk.tick
    let d := s.divisor
    let n := s.nextTick - s.clk.now
    let s := s.advance.setFld .LAT_STAGE_PS 0 0 (min o.stagePs 4095)
    let s := s.wireClear
    let s := if s.committed then s.committedTick p d o else s.measureAll o.meas
    s.obsTick n o)

/-- R40: at the first multiple of 6144 after its acceptance a rate takes effect; the slack window in progress is discarded. -/
def execRateChangeEffect (s : State) : Host.Outcome State Fault Refusal :=
  .next (if s.flag .LAT_CTRL_PEND && s.clk.now % 6144 == 0 && decide (s.lat.rateAt ≤ s.clk.now) then
    let s := (s.setFld .LAT_CTRL_RATE 0 0 (s.fld .LAT_CTRL_NEXT)).setFlag .LAT_CTRL_PEND 0 0 false
    let s := setLat s fun l => { l with winTicks := 0 }
    s.sfRestart
  else s)

/-! ## The reference (R33, R35) -/

/-- R33: the selected reference is lost. What becomes of the slack window in progress no rule says: in the model it goes on after
the return, and the tick before the loss gives no slack (DESIGN CHOICE, log entry 50). -/
def execRefLost (s : State) : Host.Outcome State Fault Refusal :=
  .next (if !s.ticking then s
  else
    let s := (s.setFlag .TC_STATUS_REFOK 0 0 false).setFlag .TC_STATUS_REFLOST 0 0 true
    let s := (s.setFlag .TC_STATUS_COARSE 0 0 true).setFlag .TC_STATUS_SYNCED 0 0 false
    let s := setLat s fun l => { l with begun := false }
    if s.committed then
      forAll (List.finRange 4) s fun s (k : Fin 4) => if s.configured k then s.deviceTrip k Cause.REF_LOST 0xFFFF 0 else s
    else s)

/-- R33, R35: after 10 ms of clean toggling the counter, advanced by the KEEP oscillator meanwhile, counts periods of the
reference again. -/
def execRefReturn (periods : Nat) (s : State) : Host.Outcome State Fault Refusal :=
  .next (if s.flag .TC_STATUS_REFOK || !s.clk.taken then s
  else match s.phase with
    | .off | .keepOnly | .inReset | .waitRef => s
    | _ =>
      let s : State := { s with clk := { s.clk with now := s.clk.now + 750 * periods } }
      let s := (s.setFlag .TC_STATUS_REFOK 0 0 true).setFlag .TC_STATUS_COARSE 0 0 false
      forAll (List.finRange 4) s fun s k => s.clearTrip k Cause.REF_LOST)

/-! ## The TRIP input (R16, R44, R408, R409) -/

/-- R16, R44: every station trips; the DACs of the board clamp too (R408). -/
def execTripInputAsserted (s : State) : Host.Outcome State Fault Refusal :=
  .next (if s.ev.tripIn then s
  else
    let s : State := { s with ev := { s.ev with tripIn := true } }
    if s.committed then
      forAll (List.finRange 4) s.clampBoard fun s (k : Fin 4) =>
        if s.configured k then (s.tripStation k).raise .trip Cause.TRIP_IN k else s
    else s)

/-- R409: the DACs of the board are released on the next tick. -/
def execTripInputCleared (s : State) : Host.Outcome State Fault Refusal :=
  .next { s with ev := { s.ev with tripIn := false } }

end Sys2Proof.Machine
end

