-- ==== Sys2Proof/Machine/Dispatch.lean ====
section
/-! DEFINITION. One arm per constructor of Instr: each is one call of its meaning. -/
namespace Sys2Proof.Machine
open Sys2Proof

def exec (i : Instr) (s : State) : Host.Outcome State Fault Refusal :=
  match i with
  | .auth o key => Sys2Proof.Machine.execAuth o key s
  | .authOff o => Sys2Proof.Machine.execAuthOff o s
  | .authQuery o => Sys2Proof.Machine.execAuthQuery o s
  | .stnSelect o k => Sys2Proof.Machine.execStnSelect o k s
  | .stnQuery o => Sys2Proof.Machine.execStnQuery o s
  | .authset o w key => Sys2Proof.Machine.execAuthset o w key s
  | .idQuery o => Sys2Proof.Machine.execIdQuery o s
  | .timeQuery o => Sys2Proof.Machine.execTimeQuery o s
  | .timeRtc o d => Sys2Proof.Machine.execTimeRtc o d s
  | .reg o t v => Sys2Proof.Machine.execReg o t v s
  | .regQuery o t n => Sys2Proof.Machine.execRegQuery o t n s
  | .wsnQuery o src => Sys2Proof.Machine.execWsnQuery o src s
  | .outcomeQuery o w src ser n => Sys2Proof.Machine.execOutcomeQuery o w src ser n s
  | .cancel o w src ser => Sys2Proof.Machine.execCancel o w src ser s
  | .release o w src ser => Sys2Proof.Machine.execRelease o w src ser s
  | .seriesRestart o => Sys2Proof.Machine.execSeriesRestart o s
  | .jrnQuery o => Sys2Proof.Machine.execJrnQuery o s
  | .jrnSourcesQuery o => Sys2Proof.Machine.execJrnSourcesQuery o s
  | .resetWarm o => Sys2Proof.Machine.execResetWarm o s
  | .resetCold o => Sys2Proof.Machine.execResetCold o s
  | .policy o t x j m => Sys2Proof.Machine.execPolicy o t x j m s
  | .policyQuery o t x j => Sys2Proof.Machine.execPolicyQuery o t x j s
  | .ringDepth o r n => Sys2Proof.Machine.execRingDepth o r n s
  | .ringQuery o r => Sys2Proof.Machine.execRingQuery o r s
  | .eventAck o c seq => Sys2Proof.Machine.execEventAck o c seq s
  | .eventQuery o c frm n => Sys2Proof.Machine.execEventQuery o c frm n s
  | .progNew o p title => Sys2Proof.Machine.execProgNew o p title s
  | .progAdd o p block => Sys2Proof.Machine.execProgAdd o p block s
  | .progEnd o p => Sys2Proof.Machine.execProgEnd o p s
  | .progDel o p => Sys2Proof.Machine.execProgDel o p s
  | .progQuery o p frm n => Sys2Proof.Machine.execProgQuery o p frm n s
  | .run o p k frm => Sys2Proof.Machine.execRun o p k frm s
  | .mdi o block k => Sys2Proof.Machine.execMdi o block k s
  | .tapeRead o p => Sys2Proof.Machine.execTapeRead o p s
  | .tapeRun o k => Sys2Proof.Machine.execTapeRun o k s
  | .tapeStop o => Sys2Proof.Machine.execTapeStop o s
  | .tapeQuery o => Sys2Proof.Machine.execTapeQuery o s
  | .mfin o k => Sys2Proof.Machine.execMfin o k s
  | .hold o k t => Sys2Proof.Machine.execHold o k t s
  | .stop o k => Sys2Proof.Machine.execStop o k s
  | .resume o k => Sys2Proof.Machine.execResume o k s
  | .ovr o k feed rapid spin => Sys2Proof.Machine.execOvr o k feed rapid spin s
  | .ovrQuery o k => Sys2Proof.Machine.execOvrQuery o k s
  | .limitAxis o a l => Sys2Proof.Machine.execLimitAxis o a l s
  | .limitStn o k l => Sys2Proof.Machine.execLimitStn o k l s
  | .limitQuery o axis n => Sys2Proof.Machine.execLimitQuery o axis n s
  | .axisJog o a plus f d => Sys2Proof.Machine.execAxisJog o a plus f d s
  | .axisJogStop o a => Sys2Proof.Machine.execAxisJogStop o a s
  | .axisHw o a n mult => Sys2Proof.Machine.execAxisHw o a n mult s
  | .axisHwOff o a => Sys2Proof.Machine.execAxisHwOff o a s
  | .axisRef o a pos => Sys2Proof.Machine.execAxisRef o a pos s
  | .stateQuery o k => Sys2Proof.Machine.execStateQuery o k s
  | .servo o a sets => Sys2Proof.Machine.execServo o a sets s
  | .servoRescal o a => Sys2Proof.Machine.execServoRescal o a s
  | .servoQuery o a => Sys2Proof.Machine.execServoQuery o a s
  | .comp o a sets => Sys2Proof.Machine.execComp o a sets s
  | .compPt o a x v => Sys2Proof.Machine.execCompPt o a x v s
  | .compQuery o a frm n => Sys2Proof.Machine.execCompQuery o a frm n s
  | .calcQuery o expr rm deg => Sys2Proof.Machine.execCalcQuery o expr rm deg s
  | .decQuery o => Sys2Proof.Machine.execDecQuery o s
  | .coreAssign o c stn => Sys2Proof.Machine.execCoreAssign o c stn s
  | .coreSpare o c => Sys2Proof.Machine.execCoreSpare o c s
  | .coreHalt o c => Sys2Proof.Machine.execCoreHalt o c s
  | .coreStart o c => Sys2Proof.Machine.execCoreStart o c s
  | .coreClear o c => Sys2Proof.Machine.execCoreClear o c s
  | .coreQuery o c => Sys2Proof.Machine.execCoreQuery o c s
  | .regionLoad o img at_ => Sys2Proof.Machine.execRegionLoad o img at_ s
  | .regionHandoffCell o n v => Sys2Proof.Machine.execRegionHandoffCell o n v s
  | .regionHandoffRg o r out v => Sys2Proof.Machine.execRegionHandoffRg o r out v s
  | .regionRef o x v => Sys2Proof.Machine.execRegionRef o x v s
  | .regionQuery o r => Sys2Proof.Machine.execRegionQuery o r s
  | .xpt o routes => Sys2Proof.Machine.execXpt o routes s
  | .xptQuery o k => Sys2Proof.Machine.execXptQuery o k s
  | .adcAssign o ch stn => Sys2Proof.Machine.execAdcAssign o ch stn s
  | .adcQuery o ch => Sys2Proof.Machine.execAdcQuery o ch s
  | .cal o ch => Sys2Proof.Machine.execCal o ch s
  | .calRef o diff chkA chkB => Sys2Proof.Machine.execCalRef o diff chkA chkB s
  | .filterPreset o n preset sf => Sys2Proof.Machine.execFilterPreset o n preset sf s
  | .filterCustom o n ord cic fir => Sys2Proof.Machine.execFilterCustom o n ord cic fir s
  | .filterPhase o n int frac => Sys2Proof.Machine.execFilterPhase o n int frac s
  | .filterTaps o n bankB taps => Sys2Proof.Machine.execFilterTaps o n bankB taps s
  | .filterCoef o n bankB x vs => Sys2Proof.Machine.execFilterCoef o n bankB x vs s
  | .filterSwap o n => Sys2Proof.Machine.execFilterSwap o n s
  | .filterResolver o n trk exc => Sys2Proof.Machine.execFilterResolver o n trk exc s
  | .filterResphase o n phase => Sys2Proof.Machine.execFilterResphase o n phase s
  | .filterQuery o n => Sys2Proof.Machine.execFilterQuery o n s
  | .dacConfig o n c => Sys2Proof.Machine.execDacConfig o n c s
  | .dacValue o n v t => Sys2Proof.Machine.execDacValue o n v t s
  | .dacSafe o n => Sys2Proof.Machine.execDacSafe o n s
  | .dacLoad o g => Sys2Proof.Machine.execDacLoad o g s
  | .dacLdg o g trig => Sys2Proof.Machine.execDacLdg o g trig s
  | .dacQuery o n => Sys2Proof.Machine.execDacQuery o n s
  | .exc o g c => Sys2Proof.Machine.execExc o g c s
  | .excTable o g x vs => Sys2Proof.Machine.execExcTable o g x vs s
  | .excTableSine o g => Sys2Proof.Machine.execExcTableSine o g s
  | .excTableSwap o g => Sys2Proof.Machine.execExcTableSwap o g s
  | .excQuery o g => Sys2Proof.Machine.execExcQuery o g s
  | .disp o row pos text => Sys2Proof.Machine.execDisp o row pos text s
  | .dispFault o row pos text => Sys2Proof.Machine.execDispFault o row pos text s
  | .dispClear o fault => Sys2Proof.Machine.execDispClear o fault s
  | .dispChr o text => Sys2Proof.Machine.execDispChr o text s
  | .dispChrCmd o h => Sys2Proof.Machine.execDispChrCmd o h s
  | .panelScan o sets => Sys2Proof.Machine.execPanelScan o sets s
  | .panelRepeat o sets => Sys2Proof.Machine.execPanelRepeat o sets s
  | .panelKey o k on => Sys2Proof.Machine.execPanelKey o k on s
  | .panelCombo o n sets => Sys2Proof.Machine.execPanelCombo o n sets s
  | .panelAction o x sets => Sys2Proof.Machine.execPanelAction o x sets s
  | .panelOwner o sets => Sys2Proof.Machine.execPanelOwner o sets s
  | .panelDisplay o sets => Sys2Proof.Machine.execPanelDisplay o sets s
  | .panelFont o x sets => Sys2Proof.Machine.execPanelFont o x sets s
  | .panelChar o sets => Sys2Proof.Machine.execPanelChar o sets s
  | .panelQuery o p => Sys2Proof.Machine.execPanelQuery o p s
  | .fio o n m sets => Sys2Proof.Machine.execFio o n m sets s
  | .fioOut o n on => Sys2Proof.Machine.execFioOut o n on s
  | .fioClear o n => Sys2Proof.Machine.execFioClear o n s
  | .fioAin o x sets => Sys2Proof.Machine.execFioAin o x sets s
  | .fioQuery o p => Sys2Proof.Machine.execFioQuery o p s
  | .peer o d line => Sys2Proof.Machine.execPeer o d line s
  | .peerQuery o d line => Sys2Proof.Machine.execPeerQuery o d line s
  | .peerMask o m line => Sys2Proof.Machine.execPeerMask o m line s
  | .linkCfg o sets => Sys2Proof.Machine.execLinkCfg o sets s
  | .linkClear o p => Sys2Proof.Machine.execLinkClear o p s
  | .linkPortRate o p low => Sys2Proof.Machine.execLinkPortRate o p low s
  | .linkRestart o d => Sys2Proof.Machine.execLinkRestart o d s
  | .linkAuth o d stn brd => Sys2Proof.Machine.execLinkAuth o d stn brd s
  | .linkMirror o out inp => Sys2Proof.Machine.execLinkMirror o out inp s
  | .linkQuery o => Sys2Proof.Machine.execLinkQuery o s
  | .linkTxnQuery o w src => Sys2Proof.Machine.execLinkTxnQuery o w src s
  | .flashErase o sect => Sys2Proof.Machine.execFlashErase o sect s
  | .flashProg o addr ws => Sys2Proof.Machine.execFlashProg o addr ws s
  | .flashSuspend o => Sys2Proof.Machine.execFlashSuspend o s
  | .flashResume o => Sys2Proof.Machine.execFlashResume o s
  | .flashQuery o sect => Sys2Proof.Machine.execFlashQuery o sect s
  | .imagePolicy o sets => Sys2Proof.Machine.execImagePolicy o sets s
  | .imageKeySet o k key => Sys2Proof.Machine.execImageKeySet o k key s
  | .imageKeyRevoke o k => Sys2Proof.Machine.execImageKeyRevoke o k s
  | .imageLock o => Sys2Proof.Machine.execImageLock o s
  | .imageStage o n slot => Sys2Proof.Machine.execImageStage o n slot s
  | .imageUnstage o n => Sys2Proof.Machine.execImageUnstage o n s
  | .imageQuery o => Sys2Proof.Machine.execImageQuery o s
  | .imageCheck o src ext => Sys2Proof.Machine.execImageCheck o src ext s
  | .pwrStnIdle o k sets => Sys2Proof.Machine.execPwrStnIdle o k sets s
  | .pwrStnOn o k => Sys2Proof.Machine.execPwrStnOn o k s
  | .pwrObs o on => Sys2Proof.Machine.execPwrObs o on s
  | .pwrWdt o on per => Sys2Proof.Machine.execPwrWdt o on per s
  | .pwrHoldmin o c => Sys2Proof.Machine.execPwrHoldmin o c s
  | .pwrQuery o => Sys2Proof.Machine.execPwrQuery o s
  | .obsClear o sc => Sys2Proof.Machine.execObsClear o sc s
  | .obsEngQuery o e k reasons => Sys2Proof.Machine.execObsEngQuery o e k reasons s
  | .obsRsvopQuery o => Sys2Proof.Machine.execObsRsvopQuery o s
  | .obsProbe o n sets => Sys2Proof.Machine.execObsProbe o n sets s
  | .obsWatch o w sets => Sys2Proof.Machine.execObsWatch o w sets s
  | .obsProbeQuery o n => Sys2Proof.Machine.execObsProbeQuery o n s
  | .obsWatchQuery o w => Sys2Proof.Machine.execObsWatchQuery o w s
  | .trace o sets => Sys2Proof.Machine.execTrace o sets s
  | .traceQuery o => Sys2Proof.Machine.execTraceQuery o s
  | .traceRead o n => Sys2Proof.Machine.execTraceRead o n s
  | .skim o k kind inst => Sys2Proof.Machine.execSkim o k kind inst s
  | .skimStart o nt slots => Sys2Proof.Machine.execSkimStart o nt slots s
  | .skimStop o slots => Sys2Proof.Machine.execSkimStop o slots s
  | .skimQuery o k => Sys2Proof.Machine.execSkimQuery o k s
  | .freeze o => Sys2Proof.Machine.execFreeze o s
  | .freezeOff o => Sys2Proof.Machine.execFreezeOff o s
  | .snapQuery o new => Sys2Proof.Machine.execSnapQuery o new s
  | .refLost => Sys2Proof.Machine.execRefLost s
  | .refReturn periods => Sys2Proof.Machine.execRefReturn periods s
  | .latticeTick obs => Sys2Proof.Machine.execLatticeTick obs s
  | .latticeOverrun k => Sys2Proof.Machine.execLatticeOverrun k s
  | .latticeOverrunTrip k => Sys2Proof.Machine.execLatticeOverrunTrip k s
  | .slackWindowEnd => Sys2Proof.Machine.execSlackWindowEnd s
  | .vcoreHoldEnd => Sys2Proof.Machine.execVcoreHoldEnd s
  | .rateChangeEffect => Sys2Proof.Machine.execRateChangeEffect s
  | .tripInputAsserted => Sys2Proof.Machine.execTripInputAsserted s
  | .tripInputCleared => Sys2Proof.Machine.execTripInputCleared s
  | .tripCmp cell => Sys2Proof.Machine.execTripCmp cell s
  | .lineTerminated p lf => Sys2Proof.Machine.execLineTerminated p lf s
  | .journalCommitComplete okA okB ns => Sys2Proof.Machine.execJournalCommitComplete okA okB ns s
  | .itemExecutionBegin src wsn => Sys2Proof.Machine.execItemExecutionBegin src wsn s
  | .typedCharacter p ch bad => Sys2Proof.Machine.execTypedCharacter p ch bad s
  | .typedBackspace p => Sys2Proof.Machine.execTypedBackspace p s
  | .typedLineKill p => Sys2Proof.Machine.execTypedLineKill p s
  | .historyPrevious p => Sys2Proof.Machine.execHistoryPrevious p s
  | .historyNext p => Sys2Proof.Machine.execHistoryNext p s
  | .xoffReceived p => Sys2Proof.Machine.execXoffReceived p s
  | .xonReceived p => Sys2Proof.Machine.execXonReceived p s
  | .breakReceived p => Sys2Proof.Machine.execBreakReceived p s
  | .asyncLineSend p c => Sys2Proof.Machine.execAsyncLineSend p c s
  | .serSettingsApply p => Sys2Proof.Machine.execSerSettingsApply p s
  | .serEnableClear p => Sys2Proof.Machine.execSerEnableClear p s
  | .tapeCharacter t => Sys2Proof.Machine.execTapeCharacter t s
  | .tapeBlockAccept => Sys2Proof.Machine.execTapeBlockAccept s
  | .authLockoutEnd p => Sys2Proof.Machine.execAuthLockoutEnd p s
  | .registerWrite c a v => Sys2Proof.Machine.execRegisterWrite c a v s
  | .tcCounterReadLatch w => Sys2Proof.Machine.execTcCounterReadLatch w s
  | .resetCommandBegin => Sys2Proof.Machine.execResetCommandBegin s
  | .ringClr q r => Sys2Proof.Machine.execRingClr q r s
  | .eventResend p c seq => Sys2Proof.Machine.execEventResend p c seq s
  | .blockConvert k => Sys2Proof.Machine.execBlockConvert k s
  | .xctlSubmit c k => Sys2Proof.Machine.execXctlSubmit c k s
  | .xctlEnd c k => Sys2Proof.Machine.execXctlEnd c k s
  | .xctlReject c k err => Sys2Proof.Machine.execXctlReject c k err s
  | .extTimeout k => Sys2Proof.Machine.execExtTimeout k s
  | .mfinLate k => Sys2Proof.Machine.execMfinLate k s
  | .brakingComplete k => Sys2Proof.Machine.execBrakingComplete k s
  | .motionEnableDelayEnd k => Sys2Proof.Machine.execMotionEnableDelayEnd k s
  | .approachComplete k => Sys2Proof.Machine.execApproachComplete k s
  | .dwellEnd k => Sys2Proof.Machine.execDwellEnd k s
  | .spindleAtSpeed k => Sys2Proof.Machine.execSpindleAtSpeed k s
  | .followingError a => Sys2Proof.Machine.execFollowingError a s
  | .handwheelDetent n d => Sys2Proof.Machine.execHandwheelDetent n d s
  | .servoApply q a => Sys2Proof.Machine.execServoApply q a s
  | .encoderCondition n c => Sys2Proof.Machine.execEncoderCondition n c s
  | .encoderIndexCapture n count => Sys2Proof.Machine.execEncoderIndexCapture n count s
  | .outputSat a => Sys2Proof.Machine.execOutputSat a s
  | .resAmpl a => Sys2Proof.Machine.execResAmpl a s
  | .tachMismatch a => Sys2Proof.Machine.execTachMismatch a s
  | .feedbackLoss a => Sys2Proof.Machine.execFeedbackLoss a s
  | .decRequest r => Sys2Proof.Machine.execDecRequest r s
  | .decIssue => Sys2Proof.Machine.execDecIssue s
  | .decResult fails => Sys2Proof.Machine.execDecResult fails s
  | .decLoad => Sys2Proof.Machine.execDecLoad s
  | .decAdd => Sys2Proof.Machine.execDecAdd s
  | .decSub => Sys2Proof.Machine.execDecSub s
  | .decMul => Sys2Proof.Machine.execDecMul s
  | .decDiv => Sys2Proof.Machine.execDecDiv s
  | .decSqrt => Sys2Proof.Machine.execDecSqrt s
  | .decFma => Sys2Proof.Machine.execDecFma s
  | .decQuant => Sys2Proof.Machine.execDecQuant s
  | .decRint => Sys2Proof.Machine.execDecRint s
  | .decCmp => Sys2Proof.Machine.execDecCmp s
  | .decToint => Sys2Proof.Machine.execDecToint s
  | .decFromint => Sys2Proof.Machine.execDecFromint s
  | .decSin => Sys2Proof.Machine.execDecSin s
  | .decCos => Sys2Proof.Machine.execDecCos s
  | .decTan => Sys2Proof.Machine.execDecTan s
  | .decAtan => Sys2Proof.Machine.execDecAtan s
  | .decAtan2 => Sys2Proof.Machine.execDecAtan2 s
  | .decExp => Sys2Proof.Machine.execDecExp s
  | .decLn => Sys2Proof.Machine.execDecLn s
  | .decLog10 => Sys2Proof.Machine.execDecLog10 s
  | .decPow => Sys2Proof.Machine.execDecPow s
  | .decInvalidOp => Sys2Proof.Machine.execDecInvalidOp s
  | .decMbxPop q c => Sys2Proof.Machine.execDecMbxPop q c s
  | .decClr q => Sys2Proof.Machine.execDecClr q s
  | .calcKey key => Sys2Proof.Machine.execCalcKey key s
  | .calcComputationDone => Sys2Proof.Machine.execCalcComputationDone s
  | .calcAutooff => Sys2Proof.Machine.execCalcAutooff s
  | .coreFailed c => Sys2Proof.Machine.execCoreFailed c s
  | .takeoverLate => Sys2Proof.Machine.execTakeoverLate s
  | .coreLate c => Sys2Proof.Machine.execCoreLate c s
  | .interruptEntry c => Sys2Proof.Machine.execInterruptEntry c s
  | .nop c => Sys2Proof.Machine.execNop c s
  | .waitl c => Sys2Proof.Machine.execWaitl c s
  | .waitlTickRelease c => Sys2Proof.Machine.execWaitlTickRelease c s
  | .chkpt c => Sys2Proof.Machine.execChkpt c s
  | .chkptCommitted c => Sys2Proof.Machine.execChkptCommitted c s
  | .reti c => Sys2Proof.Machine.execReti c s
  | .ret c => Sys2Proof.Machine.execRet c s
  | .ei c => Sys2Proof.Machine.execEi c s
  | .di c => Sys2Proof.Machine.execDi c s
  | .bfset c => Sys2Proof.Machine.execBfset c s
  | .bfclr c => Sys2Proof.Machine.execBfclr c s
  | .bfnot c => Sys2Proof.Machine.execBfnot c s
  | .bfc c => Sys2Proof.Machine.execBfc c s
  | .cbf c => Sys2Proof.Machine.execCbf c s
  | .bldw c d b => Sys2Proof.Machine.execBldw c d b s
  | .bstw c d b => Sys2Proof.Machine.execBstw c d b s
  | .push c d => Sys2Proof.Machine.execPush c d s
  | .pop c d => Sys2Proof.Machine.execPop c d s
  | .jmp c x => Sys2Proof.Machine.execJmp c x s
  | .call c x => Sys2Proof.Machine.execCall c x s
  | .setam c v => Sys2Proof.Machine.execSetam c v s
  | .mov c d s_ => Sys2Proof.Machine.execMov c d s_ s
  | .add c d s_ => Sys2Proof.Machine.execAdd c d s_ s
  | .adc c d s_ => Sys2Proof.Machine.execAdc c d s_ s
  | .sub c d s_ => Sys2Proof.Machine.execSub c d s_ s
  | .sbc c d s_ => Sys2Proof.Machine.execSbc c d s_ s
  | .cmp c d s_ => Sys2Proof.Machine.execCmp c d s_ s
  | .and c d s_ => Sys2Proof.Machine.execAnd c d s_ s
  | .or c d s_ => Sys2Proof.Machine.execOr c d s_ s
  | .xor c d s_ => Sys2Proof.Machine.execXor c d s_ s
  | .tst c d s_ => Sys2Proof.Machine.execTst c d s_ s
  | .not c d => Sys2Proof.Machine.execNot c d s
  | .neg c d => Sys2Proof.Machine.execNeg c d s
  | .shl c d => Sys2Proof.Machine.execShl c d s
  | .shr c d => Sys2Proof.Machine.execShr c d s
  | .asr c d => Sys2Proof.Machine.execAsr c d s
  | .roc c d => Sys2Proof.Machine.execRoc c d s
  | .movi c d v => Sys2Proof.Machine.execMovi c d v s
  | .addi c d v => Sys2Proof.Machine.execAddi c d v s
  | .cmpi c d v => Sys2Proof.Machine.execCmpi c d v s
  | .movx c d s_ => Sys2Proof.Machine.execMovx c d s_ s
  | .addx c d s_ => Sys2Proof.Machine.execAddx c d s_ s
  | .subx c d s_ => Sys2Proof.Machine.execSubx c d s_ s
  | .cmpx c d s_ => Sys2Proof.Machine.execCmpx c d s_ s
  | .incx c d => Sys2Proof.Machine.execIncx c d s
  | .decx c d => Sys2Proof.Machine.execDecx c d s
  | .rds c d r => Sys2Proof.Machine.execRds c d r s
  | .wrs c r s_ => Sys2Proof.Machine.execWrs c r s_ s
  | .mulu c d s_ => Sys2Proof.Machine.execMulu c d s_ s
  | .ld c m r x => Sys2Proof.Machine.execLd c m r x s
  | .st c m r x => Sys2Proof.Machine.execSt c m r x s
  | .ldx c m r x => Sys2Proof.Machine.execLdx c m r x s
  | .stx c m r x => Sys2Proof.Machine.execStx c m r x s
  | .bcc c cc v => Sys2Proof.Machine.execBcc c cc v s
  | .bra c v => Sys2Proof.Machine.execBra c v s
  | .bsr c v => Sys2Proof.Machine.execBsr c v s
  | .ldb c a => Sys2Proof.Machine.execLdb c a s
  | .ldbn c a => Sys2Proof.Machine.execLdbn c a s
  | .andb c a => Sys2Proof.Machine.execAndb c a s
  | .andbn c a => Sys2Proof.Machine.execAndbn c a s
  | .orb c a => Sys2Proof.Machine.execOrb c a s
  | .orbn c a => Sys2Proof.Machine.execOrbn c a s
  | .xorb c a => Sys2Proof.Machine.execXorb c a s
  | .stb c a => Sys2Proof.Machine.execStb c a s
  | .stbn c a => Sys2Proof.Machine.execStbn c a s
  | .setb c a => Sys2Proof.Machine.execSetb c a s
  | .clrb c a => Sys2Proof.Machine.execClrb c a s
  | .tglb c a => Sys2Proof.Machine.execTglb c a s
  | .tsetb c a => Sys2Proof.Machine.execTsetb c a s
  | .tclrb c a => Sys2Proof.Machine.execTclrb c a s
  | .setbc c a => Sys2Proof.Machine.execSetbc c a s
  | .clrbc c a => Sys2Proof.Machine.execClrbc c a s
  | .ldf8 c d k off => Sys2Proof.Machine.execLdf8 c d k off s
  | .stf8 c d k off => Sys2Proof.Machine.execStf8 c d k off s
  | .ldf16 c d k off => Sys2Proof.Machine.execLdf16 c d k off s
  | .stf16 c d k off => Sys2Proof.Machine.execStf16 c d k off s
  | .ldf32 c q k off => Sys2Proof.Machine.execLdf32 c q k off s
  | .stf32 c q k off => Sys2Proof.Machine.execStf32 c q k off s
  | .movs c sdec ddec => Sys2Proof.Machine.execMovs c sdec ddec s
  | .cmps c sdec ddec => Sys2Proof.Machine.execCmps c sdec ddec s
  | .fils c sdec ddec v => Sys2Proof.Machine.execFils c sdec ddec v s
  | .scns c sdec ddec v => Sys2Proof.Machine.execScns c sdec ddec v s
  | .dreq c x => Sys2Proof.Machine.execDreq c x s
  | .dpop c x => Sys2Proof.Machine.execDpop c x s
  | .dpopResult c => Sys2Proof.Machine.execDpopResult c s
  | .req c x => Sys2Proof.Machine.execReq c x s
  | .reqAnswer c => Sys2Proof.Machine.execReqAnswer c s
  | .take c q => Sys2Proof.Machine.execTake c q s
  | .lda c d a => Sys2Proof.Machine.execLda c d a s
  | .sta c d a => Sys2Proof.Machine.execSta c d a s
  | .ldax c d a => Sys2Proof.Machine.execLdax c d a s
  | .stax c d a => Sys2Proof.Machine.execStax c d a s
  | .movxi c d v => Sys2Proof.Machine.execMovxi c d v s
  | .addxi c d v => Sys2Proof.Machine.execAddxi c d v s
  | .cmpxi c d v => Sys2Proof.Machine.execCmpxi c d v s
  | .andi c d v => Sys2Proof.Machine.execAndi c d v s
  | .ori c d v => Sys2Proof.Machine.execOri c d v s
  | .xori c d v => Sys2Proof.Machine.execXori c d v s
  | .tsti c d v => Sys2Proof.Machine.execTsti c d v s
  | .jmpImm c a => Sys2Proof.Machine.execJmpImm c a s
  | .callImm c a => Sys2Proof.Machine.execCallImm c a s
  | .reservedOpcode c w0 w1 => Sys2Proof.Machine.execReservedOpcode c w0 w1 s
  | .regionWriteComplete r ok => Sys2Proof.Machine.execRegionWriteComplete r ok s
  | .regionEpoch r => Sys2Proof.Machine.execRegionEpoch r s
  | .cellSat n sat => Sys2Proof.Machine.execCellSat n sat s
  | .calibrationDone ch pass temp => Sys2Proof.Machine.execCalibrationDone ch pass temp s
  | .chainMemoryPassed n => Sys2Proof.Machine.execChainMemoryPassed n s
  | .calDue temp => Sys2Proof.Machine.execCalDue temp s
  | .adcChannel ch => Sys2Proof.Machine.execAdcChannel ch s
  | .refCompare diff chkA chkB => Sys2Proof.Machine.execRefCompare diff chkA chkB s
  | .firBankSwap n => Sys2Proof.Machine.execFirBankSwap n s
  | .sfConversionDone n v => Sys2Proof.Machine.execSfConversionDone n v s
  | .spanReconfigured n => Sys2Proof.Machine.execSpanReconfigured n s
  | .ldacEdge rise => Sys2Proof.Machine.execLdacEdge rise s
  | .deglitchRelease n => Sys2Proof.Machine.execDeglitchRelease n s
  | .dacCondition n short compl isOpen => Sys2Proof.Machine.execDacCondition n short compl isOpen s
  | .dacShortRetry n short => Sys2Proof.Machine.execDacShortRetry n short s
  | .excRampDone g => Sys2Proof.Machine.execExcRampDone g s
  | .excTableChange g => Sys2Proof.Machine.execExcTableChange g s
  | .excShort g on => Sys2Proof.Machine.execExcShort g on s
  | .excOff g => Sys2Proof.Machine.execExcOff g s
  | .keyAccepted key down => Sys2Proof.Machine.execKeyAccepted key down s
  | .keyRepeat key => Sys2Proof.Machine.execKeyRepeat key s
  | .keyLongPress key => Sys2Proof.Machine.execKeyLongPress key s
  | .pnlKqRead q => Sys2Proof.Machine.execPnlKqRead q s
  | .panelActionOffer x => Sys2Proof.Machine.execPanelActionOffer x s
  | .panelBusy x => Sys2Proof.Machine.execPanelBusy x s
  | .combo0Fired => Sys2Proof.Machine.execCombo0Fired s
  | .combo1Fired => Sys2Proof.Machine.execCombo1Fired s
  | .pnlChqWrite q v => Sys2Proof.Machine.execPnlChqWrite q v s
  | .chrByteDone => Sys2Proof.Machine.execChrByteDone s
  | .chrTimeout => Sys2Proof.Machine.execChrTimeout s
  | .vfgStateChange g st => Sys2Proof.Machine.execVfgStateChange g st s
  | .fioInputChange n v => Sys2Proof.Machine.execFioInputChange n v s
  | .fioCondition n c on => Sys2Proof.Machine.execFioCondition n c on s
  | .fioRetry n => Sys2Proof.Machine.execFioRetry n s
  | .fioRetryEnd n found => Sys2Proof.Machine.execFioRetryEnd n found s
  | .fioPin n => Sys2Proof.Machine.execFioPin n s
  | .ainTestBurst x => Sys2Proof.Machine.execAinTestBurst x s
  | .ainCondition x c on => Sys2Proof.Machine.execAinCondition x c on s
  | .portTrained p low nbr dly => Sys2Proof.Machine.execPortTrained p low nbr dly s
  | .portDown p => Sys2Proof.Machine.execPortDown p s
  | .portRetrain p => Sys2Proof.Machine.execPortRetrain p s
  | .linkRate p => Sys2Proof.Machine.execLinkRate p s
  | .topo => Sys2Proof.Machine.execTopo s
  | .dataFrameReceived p bytes => Sys2Proof.Machine.execDataFrameReceived p bytes s
  | .ack p lseq => Sys2Proof.Machine.execAck p lseq s
  | .nak p lseq full => Sys2Proof.Machine.execNak p lseq full s
  | .attemptTimeout p lseq => Sys2Proof.Machine.execAttemptTimeout p lseq s
  | .pause p quanta => Sys2Proof.Machine.execPause p quanta s
  | .pauseExpiry p => Sys2Proof.Machine.execPauseExpiry p s
  | .sync p v diff => Sys2Proof.Machine.execSync p v diff s
  | .syncSend => Sys2Proof.Machine.execSyncSend s
  | .syncLost => Sys2Proof.Machine.execSyncLost s
  | .freezeFrame p => Sys2Proof.Machine.execFreezeFrame p s
  | .line => Sys2Proof.Machine.execLine s
  | .answer => Sys2Proof.Machine.execAnswer s
  | .result => Sys2Proof.Machine.execResult s
  | .statusq => Sys2Proof.Machine.execStatusq s
  | .statusa => Sys2Proof.Machine.execStatusa s
  | .prepare => Sys2Proof.Machine.execPrepare s
  | .vote => Sys2Proof.Machine.execVote s
  | .commit => Sys2Proof.Machine.execCommit s
  | .abort => Sys2Proof.Machine.execAbort s
  | .hello => Sys2Proof.Machine.execHello s
  | .series => Sys2Proof.Machine.execSeries s
  | .mirror => Sys2Proof.Machine.execMirror s
  | .txnTimeout txn => Sys2Proof.Machine.execTxnTimeout txn s
  | .statusQueryRetry txn => Sys2Proof.Machine.execStatusQueryRetry txn s
  | .peerBusyResend txn => Sys2Proof.Machine.execPeerBusyResend txn s
  | .multicastTimeout txn => Sys2Proof.Machine.execMulticastTimeout txn s
  | .decisionResend txn => Sys2Proof.Machine.execDecisionResend txn s
  | .multicastApply => Sys2Proof.Machine.execMulticastApply s
  | .pauseRefresh p => Sys2Proof.Machine.execPauseRefresh p s
  | .nakFullResend p lseq => Sys2Proof.Machine.execNakFullResend p lseq s
  | .flashOpDone ok => Sys2Proof.Machine.execFlashOpDone ok s
  | .flashAutoResume => Sys2Proof.Machine.execFlashAutoResume s
  | .stewardIdle => Sys2Proof.Machine.execStewardIdle s
  | .sramUncorr addr stn => Sys2Proof.Machine.execSramUncorr addr stn s
  | .sramBank b => Sys2Proof.Machine.execSramBank b s
  | .sramScrub seen => Sys2Proof.Machine.execSramScrub seen s
  | .powerUp c periods => Sys2Proof.Machine.execPowerUp c periods s
  | .keepLoss => Sys2Proof.Machine.execKeepLoss s
  | .brownOut det => Sys2Proof.Machine.execBrownOut det s
  | .nreset => Sys2Proof.Machine.execNreset s
  | .watchdog => Sys2Proof.Machine.execWatchdog s
  | .warmReset => Sys2Proof.Machine.execWarmReset s
  | .warmStop k => Sys2Proof.Machine.execWarmStop k s
  | .resetRelease refin src addr => Sys2Proof.Machine.execResetRelease refin src addr s
  | .refStartTimeout other => Sys2Proof.Machine.execRefStartTimeout other s
  | .refSourceTaken src => Sys2Proof.Machine.execRefSourceTaken src s
  | .sramSelfTestDone ok0 ok1 => Sys2Proof.Machine.execSramSelfTestDone ok0 ok1 s
  | .startupCalibrationDone fails temp => Sys2Proof.Machine.execStartupCalibrationDone fails temp s
  | .candidateVerified readErr seen => Sys2Proof.Machine.execCandidateVerified readErr seen s
  | .cfgDoneRelease => Sys2Proof.Machine.execCfgDoneRelease s
  | .cfgDoneHigh => Sys2Proof.Machine.execCfgDoneHigh s
  | .commitRegionRelease => Sys2Proof.Machine.execCommitRegionRelease s
  | .cfgTimeout => Sys2Proof.Machine.execCfgTimeout s
  | .journalReplayDone toA toB lost => Sys2Proof.Machine.execJournalReplayDone toA toB lost s
  | .imagePut off ws => Sys2Proof.Machine.execImagePut off ws s
  | .imageWrite slot => Sys2Proof.Machine.execImageWrite slot s
  | .stationIdleEntry k => Sys2Proof.Machine.execStationIdleEntry k s
  | .wakeComplete k => Sys2Proof.Machine.execWakeComplete k s
  | .wdtKick q v => Sys2Proof.Machine.execWdtKick q v s
  | .vbatMonitor mv => Sys2Proof.Machine.execVbatMonitor mv s
  | .dieHot => Sys2Proof.Machine.execDieHot s
  | .dieOvertemp => Sys2Proof.Machine.execDieOvertemp s
  | .obsTrmark q v => Sys2Proof.Machine.execObsTrmark q v s
  | .skimCountDone k => Sys2Proof.Machine.execSkimCountDone k s
  | .frzPin => Sys2Proof.Machine.execFrzPin s
  | .extest => Sys2Proof.Machine.execExtest s
  | .idcode => Sys2Proof.Machine.execIdcode s
  | .samplePreload cells => Sys2Proof.Machine.execSamplePreload cells s
  | .bypass code => Sys2Proof.Machine.execBypass code s
  | .latClrLow q => Sys2Proof.Machine.execLatClrLow q s
  | .latClrOvr q k => Sys2Proof.Machine.execLatClrOvr q k s
  | .serClrRej q p => Sys2Proof.Machine.execSerClrRej q p s
  | .serClrAlost q p => Sys2Proof.Machine.execSerClrAlost q p s
  | .sysSclr q => Sys2Proof.Machine.execSysSclr q s
  | .jrnClr q => Sys2Proof.Machine.execJrnClr q s
  | .nocPclr q n => Sys2Proof.Machine.execNocPclr q n s
  | .transmitComplete p => Sys2Proof.Machine.execTransmitComplete p s
  | .framedCharacter p ch bad => Sys2Proof.Machine.execFramedCharacter p ch bad s
  | .loadDataArrival c => Sys2Proof.Machine.execLoadDataArrival c s
  | .testLogicReset => Sys2Proof.Machine.execTestLogicReset s

end Sys2Proof.Machine
end

