-- ==== Sys2Proof/Machine/Step.lean ====
section
/-! DEFINITION. One step of the block: the command at the front of its queue. -/
namespace Sys2Proof.Machine
open Sys2Proof

/-- A step takes the command at the front of the queue and runs it on the state with the queue's rest. On an empty queue the
block idles: while the reference is absent, a period of the KEEP oscillator passes (log entry 2). -/
def step (s : State) : Host.Outcome State Fault Refusal :=
  match s.pending with
  | [] => .next s.idle
  | c :: l => exec c { s with pending := l }

/-- `s` with the command that a word of the table spells at the front of its queue. No row of the table has bits, so no word
spells a command, and `s` is unchanged. -/
def State.withFetchWord (s : State) (nbits w : Nat) : State :=
  match decodeTableWord nbits w with
  | some c => { s with pending := c :: s.pending }
  | none => s

end Sys2Proof.Machine
end

