-- ==== Sys2Proof/Safety.lean ====
section
/-! DEFINITION. The terms in which claims speak of a run: a command that is taken, an answer that is given, a work item that
is accepted and begins, and the outputs of a station that is tripped. -/
namespace Sys2Proof.Machine
open Sys2Proof

/-! ## Commands that are taken -/

/-- Lines and work of the origin are taken: the block answers, acceptance is open, and no rescue holds the origin's port
(R61, R63, R92, R116). -/
abbrev State.takes (s : State) (o : Origin) : Prop :=
  s.answering = true ∧ s.rescueOf o = false ∧ s.accepting = true

/-- The origin's candidate `w` is accepted whole (R61 to R66, R124): it is a candidate, the source's next one, permitted,
it passes its state checks, its target and the journal have room, and nothing is on its way before it. -/
abbrev State.offers (s : State) (o : Origin) (w : Work) : Prop :=
  s.takes o ∧ w.pre = none ∧ s.judge o = .next ∧ s.commitFull (offerLen o) = false ∧ w.permit = true ∧ w.chk = none ∧
    w.full = false ∧ s.jrn.queue = [] ∧ s.jrn.ready = []

/-- The state in which an accepted item begins (R62, R66): its record is durable, it has been answered OK, and it runs. -/
def State.taken (s : State) (o : Origin) (cmd : Instr) (stn : Nat) : State :=
  ((s.accept ⟨s.candKey o, o, cmd, 0, stn, offerLen o⟩).answer o (acceptLine o (s.candKey o) 0)).setItem (s.candKey o) .running

/-- The item begins, has its effect `f`, and is done at once (R66). -/
def State.done (s : State) (o : Origin) (cmd : Instr) (stn : Nat) (f : State → State) : State :=
  (f (s.taken o cmd stn)).workDone (s.candKey o)

/-- The item begins and has its effect `f` of its key, and runs on. -/
def State.runs (s : State) (o : Origin) (cmd : Instr) (stn : Nat) (f : Key → State → State) : State :=
  f (s.candKey o) (s.taken o cmd stn)

/-- Data lines, and OK (R58, Table 4.3). -/
def State.told (s : State) (o : Origin) (ls : List (List Fd)) : State :=
  (ls.foldl (fun t l => t.answer o (.data l)) s).answer o (.ok (originTag o) false)

/-! ## Cores -/

/-- The core executes an instruction of `n` words at PC: it runs, waits for nothing, and its pages may be fetched. -/
abbrev State.executes (s : State) (c : Fin 6) (n : Nat) : Prop :=
  s.coreReady c = true ∧ s.fetchDenied c (s.core[c]).pc = false ∧
    (n = 2 → s.fetchDenied c ((s.core[c]).pc + 2) = false)

/-- The state in which an instruction of `n` words has its effect: PC is past it. -/
def State.fetched (s : State) (c : Fin 6) (n : Nat) : State :=
  (s.setCoreState c 1).setCore c fun k => { k with load := [], wrote := [], pc := k.pc + BitVec.ofNat 16 (2 * n) }

/-- The state after it: earlier loads reach the registers that it has not written (R301). -/
def State.retired (t s : State) (c : Fin 6) : State := t.setCore c (·.settle (s.core[c]).load)

/-! ## Queries -/

/-- The queries that only read the block and answer (R58). The others have an effect of their own: `AUTH` forms, `CALC?`,
`CORE?`, `FLASH?`, `PANEL?`, `PEER?`, `REG?`, `SNAP?`, `STATE?` and `TRACE READ`. -/
def onlyAsks : Instr → Bool
  | .adcQuery .. | .authQuery .. | .compQuery .. | .dacQuery .. | .decQuery .. | .eventQuery .. | .excQuery .. => true
  | .filterQuery .. | .fioQuery .. | .idQuery .. | .imageCheck .. | .imageQuery .. | .jrnQuery .. => true
  | .jrnSourcesQuery .. | .limitQuery .. | .linkQuery .. | .linkTxnQuery .. | .obsEngQuery .. => true
  | .obsProbeQuery .. | .obsRsvopQuery .. | .obsWatchQuery .. | .outcomeQuery .. | .ovrQuery .. => true
  | .policyQuery .. | .progQuery .. | .pwrQuery .. | .regionQuery .. | .ringQuery .. | .servoQuery .. => true
  | .skimQuery .. | .stnQuery .. | .tapeQuery .. | .timeQuery .. | .traceQuery .. | .wsnQuery .. | .xptQuery .. => true
  | _ => false

/-- The registers that an answer changes: the put index and the high-water mark of RSP_SPp, and the count of refused lines. -/
def answerReg (a : Nat) : Prop :=
  ∃ p : Fin 2, a = regAddr .RING_PTR (rspRing p) 0 ∨ a = regAddr .RING_STAT (rspRing p) 0 ∨ a = regAddr .SER_CNT p 0

/-- `s` differs from `s0` by answers on their way and in RSP_SPp. -/
def State.answersOnly (s0 s : State) : Prop :=
  { s with regs := s0.regs, port := s0.port, answers := s0.answers } = s0 ∧
  (∀ p : Fin 2, { s.port[p] with rsp := (s0.port[p]).rsp, rspWait := (s0.port[p]).rspWait } = s0.port[p]) ∧
  ∀ a, ¬ answerReg a → sparseFind s.regs a = sparseFind s0.regs a

/-- `s` with `n` periods of the KEEP oscillator gone by (R35). -/
def State.later (s : State) (n : Nat) : State := { s with clk := { s.clk with now := s.clk.now + 750 * n } }

/-- Only such queries wait, and but for answers, the queue and the time that passes the block is as in `s0`. -/
def asksOnly (s0 s : State) : Prop :=
  (∀ c ∈ s.pending, onlyAsks c = true) ∧ ∃ n, ({ s0.later n with pending := s.pending } : State).answersOnly s

/-! ## Registers of a core -/

/-- The core and the words of an instruction that touches only registers of the core (Tables 12.2 to 12.4, 12.7, 12.11). -/
def regOnly : Instr → Option (Fin 6 × Nat)
  | .nop c | .ei c | .di c | .bfset c | .bfclr c | .bfnot c | .bfc c | .cbf c | .bldw c .. | .bstw c .. | .jmp c _ => some (c, 1)
  | .setam c _ | .mov c .. | .add c .. | .adc c .. | .sub c .. | .sbc c .. | .cmp c .. | .and c .. | .or c .. => some (c, 1)
  | .xor c .. | .tst c .. | .not c _ | .neg c _ | .shl c _ | .shr c _ | .asr c _ | .roc c _ | .movi c .. => some (c, 1)
  | .addi c .. | .cmpi c .. | .movx c .. | .addx c .. | .subx c .. | .cmpx c .. | .incx c _ | .decx c _ => some (c, 1)
  | .wrs c .. | .mulu c .. | .bcc c .. | .bra c _ => some (c, 1)
  | .movxi c .. | .addxi c .. | .cmpxi c .. | .andi c .. | .ori c .. | .xori c .. | .tsti c .. | .jmpImm c _ => some (c, 2)
  | _ => none

/-- What register `e` holds once the loads on their way have arrived: the last of them to `e` wins (R301, R327). -/
def CoreSt.loaded (k : CoreSt) (e : Fin 16) : Byte :=
  ((k.load.filter fun l => l.1 == e).getLast?.map (·.2)).getD (k.getW e)

/-- The flags after an 8-bit operation with result `r`: Z and N of it, C and V as given, BF and IE as before (R332). -/
def flagsAre (k u : CoreSt) (r : Byte) (c v : Bool) : Prop :=
  u.fb flC = c ∧ u.fb flZ = (r == 0) ∧ u.fb flN = r.msb ∧ u.fb flV = v ∧ u.fb flBF = k.fb flBF ∧ u.fb flIE = k.fb flIE

/-- A sum or a difference lies outside the signed 8-bit numbers. -/
def ovf8 (x : Int) : Bool := decide (x < -128 ∨ 127 < x)

/-- The condition of a branch by its code, over C, Z, N, V and BF (Table 12.7). -/
def condHolds (cc : Nat) (c z n v bf : Bool) : Prop :=
  match cc with
  | 0 => z = true
  | 1 => z = false
  | 2 => c = true
  | 3 => c = false
  | 4 => n = true
  | 5 => n = false
  | 6 => v = true
  | 7 => v = false
  | 8 => bf = true
  | 9 => bf = false
  | 10 => c = false ∧ z = false
  | 11 => c = true ∨ z = true
  | 12 => n = v
  | 13 => n ≠ v
  | 14 => z = false ∧ n = v
  | _ => z = true ∨ n ≠ v

/-! ## Formats -/

/-- A decimal value that the interchange format holds (R265). -/
def DVal.fits : DVal → Prop
  | .fin _ c e => c < 10 ^ 34 ∧ -6176 ≤ e ∧ e ≤ 6111
  | .inf _ => True
  | .nan _ _ p => p < 10 ^ 33

/-- A frame whose fields lie in the widths that Table 18.1 gives them. -/
def LinkFrame.fits (f : LinkFrame) : Prop :=
  f.dmask < 256 ∧ f.src < 8 ∧ f.typ < 256 ∧ f.hops < 8 ∧ f.wsn < 2 ^ 32 ∧ f.txn < 65536 ∧ f.payload.length ≤ 256

/-! ## Registers and memory -/

/-- The register store is in canonical form: addresses rise strictly. -/
def regsSorted (l : List (Nat × Word)) : Prop := l.Pairwise fun a b => a.1 < b.1

/-- Two fields share no bit. -/
def fieldsApart (f g : Fld) : Prop := f.lo + f.wd ≤ g.lo ∨ g.lo + g.wd ≤ f.lo

/-! ## Safe states -/

/-- A tripped station holds no drive on (R202, R234). -/
def State.tripsSafe (s : State) : Prop :=
  ∀ k : Fin 4, s.stnState k = stTripped → s.flag .MOT_STATE_DRVON k = false

/-- A safe step: the block goes on. -/
def stepsOn (s : State) : Prop := ∃ t, step s = .next t

end Sys2Proof.Machine
end

