-- ==== Sys2Proof/Certificates/Slice0/Obligations.lean ====
section
/-! DEFINITION. The statements for the provers. First the rules of the machine; then, for every command, the state in which it
completes and the next state it answers. -/
open Sys2Proof Sys2Proof.Machine

/-- A step takes the command at the front of the queue and runs it with the rest of the queue. -/
def Obligations.StepRunsFront : Prop :=
  ∀ (s : State) (c : Instr) (l : List Instr), s.pending = c :: l → step s = exec c { s with pending := l }

/-- With an empty queue the block idles; while it is supplied and the reference is absent, a period of the KEEP oscillator
passes, 750 counts, and nothing else changes. That both happen on an empty queue is the model's choice (log entry 2). -/
def Obligations.EmptyQueueIdles : Prop :=
  ∀ s : State, s.pending = [] →
    (s.phase = .off ∨ s.flag .TC_STATUS_REFOK 0 = true → step s = .next s) ∧
    (s.phase ≠ .off → s.flag .TC_STATUS_REFOK 0 = false →
      step s = .next { s with clk := { s.clk with now := s.clk.now + 750 } })

/-- Every command answers a next state, from every state: the model stops on none. -/
def Obligations.EveryCommandAnswersNext : Prop :=
  ∀ (c : Instr) (s : State), ∃ t, exec c s = .next t

/-- What the spec says holds at KEEP-loss: every register reads its reset value, the counter is 0, each source has series 1
and last WSN 0, decimal registers are +0 with exponent 0, shared flags are clear, and nothing is accepted or waiting. -/
def Obligations.ResetLeaves : Prop :=
  (∀ (r : Reg) (i j : Nat), State.reset.reg r i j = regReset r i j) ∧ State.reset.clk.now = 0 ∧
  (∀ n : Fin 24, State.reset.source n = ⟨1, 0⟩) ∧ (∀ n : Nat, decodeDec (State.reset.decReg n) = .fin false 0 0) ∧
  State.reset.flags = [] ∧ State.reset.jrn.items = [] ∧ State.reset.jrn.queue = [] ∧ State.reset.pending = [] ∧
  State.reset.fld .SYS_ISA_MAJOR = 2 ∧ State.reset.fld .SYS_ISA_MINOR = 1 ∧ State.reset.fld .LAT_VCORE_VCODE = 70

/-- At reset, memory and the register store are in canonical form, and the invariant of `QueriesChangeNothing` holds. -/
def Obligations.ResetIsCanonical : Prop :=
  memWf State.reset.mem = true ∧ regsSorted State.reset.regs ∧ asksOnly State.reset State.reset

/-- How a framed candidate is judged against the last accepted WSN of its source. -/
def Obligations.WsnJudgement : Prop :=
  ∀ (s : State) (p : Fin 2) (w : Nat) (cmd : Instr) (k : Work), s.takes (.framed p w) → k.pre = none →
    let o : Origin := .framed p w
    let l := (s.lastOf (s.srcNo o)).last
    (w = 0 → s.offer o cmd k = s.answer o (.er (.framed w) 611 false)) ∧
    (l + 1 < w → s.offer o cmd k = s.answer o (.er (.framed w) 612 false)) ∧
    (0 < w → w ≤ l → s.queuedKeys (s.srcNo o) = [] →
      s.offer o cmd k = s.answer o (match s.findItem (s.candKey o) with
        | none => .er (.framed w) 613 true
        | some i => if i.chk = 0 then .ok (.framed w) true else .er (.framed w) i.chk true)) ∧
    ((w = 0 ∨ l + 1 < w ∨ (w ≤ l ∧ s.queuedKeys (s.srcNo o) = [])) → s.answersOnly (s.offer o cmd k))

/-- A duplicate is not executed: it is answered with the original answer and the tag DUP, or, where its outcome is no longer
retained, with error 613. A framed line or a frame is a duplicate where its WSN is at or below the last accepted one. -/
def Obligations.DuplicateAnswered : Prop :=
  (∀ (s : State) (o : Origin) (w : Nat), ((∃ p, o = .framed p w) ∨ ∃ d, o = .peer d w) → 0 < w →
    w ≤ (s.lastOf (s.srcNo o)).last → s.judge o = .dup) ∧
  (∀ (s : State) (o : Origin) (cmd : Instr) (k : Work), s.takes o → k.pre = none → s.judge o = .dup →
    s.queuedKeys (s.srcNo o) = [] →
    let t := s.offer o cmd k
    s.answersOnly t ∧
    (∀ i, s.findItem (s.candKey o) = some i → i.chk = 0 → t = s.answer o (.ok (okTag o (s.candKey o)) true)) ∧
    (∀ i, s.findItem (s.candKey o) = some i → i.chk ≠ 0 → t = s.answer o (.er (okTag o (s.candKey o)) i.chk true)) ∧
    (s.findItem (s.candKey o) = none → t = s.answer o (.er (okTag o (s.candKey o)) 613 true))) ∧
  ∀ (g : Tag) (e : Nat), rlineText (.ok g true) = "OK" ++ tagText g ++ " DUP" ∧
    rlineText (.er g e true) = "ER" ++ tagText g ++ " " ++ natText e ++ " DUP " ++ errText e ∧ errText 613 = "EXPIRED"

/-- `ID?` is answered with one data line: the name and the revision, one space, and the serial in eight decimal digits. -/
def Obligations.IdentityAnswered : Prop :=
  (∀ (s : State) (o : Origin), s.takes o →
    let l : List Fd := [.s "FOSHAHOLT IX-6240 REV C", .w8 s.conf.serial]
    exec (.idQuery o) s = .next (s.told o [l]) ∧
    rlineText (.data l) = "= FOSHAHOLT IX-6240 REV C " ++ String.ofList (decDigits 8 s.conf.serial)) ∧
  ∀ n : Nat, n < 10 ^ 8 → (decDigits 8 n).length = 8 ∧ (decDigits 8 n).foldl (fun v c => 10 * v + (c.toNat - 48)) 0 = n

/-- A candidate whose state check fails consumes its WSN: its item is failed with the error, the answer carries it, and of
the rest of the block only the journal's LSN moves. A panel item has no answer: `WORK_FAILED` announces it. -/
def Obligations.FailedCheckConsumesWsn : Prop :=
  ∀ (s : State) (o : Origin) (cmd : Instr) (w : Work) (e : Nat), s.takes o → w.pre = none → s.judge o = .next →
    s.commitFull (offerLen o) = false → w.permit = true → w.chk = some e → 0 < e → s.jrn.queue = [] → s.jrn.ready = [] →
    s.findItem (s.candKey o) = none →
    let t := s.offer o cmd w
    let key := s.candKey o
    t.source key.src = ⟨key.ser, key.wsn⟩ ∧
    (∃ i ∈ t.jrn.items, i.key = key ∧ i.st = .failed ∧ i.err = e ∧ i.chk = e ∧ i.cmd = some cmd) ∧
    (o ≠ .panel →
      let u := s.accept ⟨key, o, cmd, e, w.stn, offerLen o⟩
      u.answersOnly t ∧ t = u.answer o (.er (okTag o key) e false) ∧
      ({ t with regs := s.regs, port := s.port, answers := s.answers, jrn := s.jrn } : State) = s) ∧
    (o = .panel → ∃ u : State, ({ u with regs := s.regs, jrn := s.jrn } : State) = s ∧
      t = u.raise .fault Cause.WORK_FAILED w.stn (det := e) (src := key.src) (wsn := key.wsn))

/-- A field reads what was written to it; the other fields of its register, every other register and the canonical form of
the register store stand. -/
def Obligations.RegisterFieldReadAfterWrite : Prop :=
  ∀ (s : State) (f : Fld) (i j v : Nat), regsSorted s.regs → f.lo + f.wd ≤ 32 → v < 2 ^ f.wd →
    let t := s.setFld f i j v
    t.fld f i j = v ∧ regsSorted t.regs ∧
    (∀ g : Fld, g.reg = f.reg → g.lo + g.wd ≤ 32 → fieldsApart f g → t.fld g i j = s.fld g i j) ∧
    (∀ (r : Reg) (x y : Nat), regAddr r x y ≠ regAddr f.reg i j → t.reg r x y = s.reg r x y) ∧
    ({ t with regs := s.regs } : State) = s

/-- Bytes written to memory read back, every byte outside them stands, and memory stays in canonical form. -/
def Obligations.MemoryReadAfterWrite : Prop :=
  ∀ (s : State) (a : Nat) (l : List Byte), memWf s.mem = true →
    let t := s.memPut a l
    t.memBytes a l.length = l ∧ memWf t.mem = true ∧
    (∀ x, x < a ∨ a + l.length ≤ x → t.memGet x = s.memGet x) ∧ ({ t with mem := s.mem } : State) = s

/-- The results and flags of the 8-bit additions and subtractions: C is the carry, or the borrow; V is signed overflow. Each
register not written holds what it held once the loads on their way have arrived. -/
def Obligations.ByteArithmetic : Prop :=
  ∀ (s : State) (c : Fin 6) (d q : Fin 16) (v : Byte), s.executes c 1 →
    let k := s.core[c]
    let a := k.getW d
    let b := k.getW q
    let ci := if k.fb flC then 1 else 0
    let gives (i : Instr) (keep : Bool) (r : Byte) (cf vf : Bool) : Prop :=
      ∃ t, exec i s = .next t ∧ flagsAre k t.core[c] r cf vf ∧ (keep = true → (t.core[c]).getW d = r) ∧
        (∀ e : Fin 16, keep = false ∨ e ≠ d → (t.core[c]).getW e = k.loaded e) ∧ (t.core[c]).pc = k.pc + 2
    gives (.add c d q) true (a + b) (decide (256 ≤ a.toNat + b.toNat)) (ovf8 (a.toInt + b.toInt)) ∧
    gives (.adc c d q) true (a + b + BitVec.ofNat 8 ci) (decide (256 ≤ a.toNat + b.toNat + ci))
      (ovf8 (a.toInt + b.toInt + ci)) ∧
    gives (.sub c d q) true (a - b) (decide (a.toNat < b.toNat)) (ovf8 (a.toInt - b.toInt)) ∧
    gives (.sbc c d q) true (a - b - BitVec.ofNat 8 ci) (decide (a.toNat < b.toNat + ci))
      (ovf8 (a.toInt - b.toInt - ci)) ∧
    gives (.cmp c d q) false (a - b) (decide (a.toNat < b.toNat)) (ovf8 (a.toInt - b.toInt)) ∧
    gives (.neg c d) true (-a) (decide (0 < a.toNat)) (ovf8 (-a.toInt)) ∧
    gives (.addi c d v) true (a + v) (decide (256 ≤ a.toNat + v.toNat)) (ovf8 (a.toInt + v.toInt)) ∧
    gives (.cmpi c d v) false (a - v) (decide (a.toNat < v.toNat)) (ovf8 (a.toInt - v.toInt))

/-- A branch goes to its offset in words from the next instruction where its condition holds, and to the next instruction
otherwise. It changes no flag. -/
def Obligations.BranchConditions : Prop :=
  ∀ (s : State) (c : Fin 6) (cc : Fin 16) (v : Byte) (u : BitVec 11), s.executes c 1 →
    let k := s.core[c]
    let holds := condHolds cc.val (k.fb flC) (k.fb flZ) (k.fb flN) (k.fb flV) (k.fb flBF)
    ∃ t x, exec (.bcc c cc v) s = .next t ∧ exec (.bra c u) s = .next x ∧
      (holds → (t.core[c]).pc = k.pc + 2 + BitVec.ofInt 16 (2 * v.toInt)) ∧ (¬ holds → (t.core[c]).pc = k.pc + 2) ∧
      (x.core[c]).pc = k.pc + 2 + BitVec.ofInt 16 (2 * u.toInt) ∧ (t.core[c]).fl = k.fl ∧ (x.core[c]).fl = k.fl ∧
      ∀ e : Fin 16, (t.core[c]).getW e = k.loaded e ∧ (x.core[c]).getW e = k.loaded e

/-- A window load reaches its register one instruction late: the instruction after it still sees the earlier value and
leaves the loaded one, unless it writes the register itself. -/
def Obligations.LoadDelay : Prop :=
  ∀ (s : State) (c : Fin 6) (r : Fin 16) (x : Fin 8), s.executes c 1 → (s.core[c]).load = [] →
    ∃ t b, exec (.ld c .at_ r x) s = .next t ∧ (t.core[c]).load = [(r, b)] ∧
      (∀ e : Fin 16, (t.core[c]).getW e = (s.core[c]).getW e) ∧
      (t.executes c 1 →
        (∃ u, exec (.nop c) t = .next u ∧ (u.core[c]).getW r = b ∧ (u.core[c]).load = []) ∧
        ∀ v : Byte, ∃ u, exec (.movi c r v) t = .next u ∧ (u.core[c]).getW r = v)

/-- An instruction that touches only registers of its core changes no other core, no memory, no other unit, and of the
registers only the core's STATE, which reads RUNNING. -/
def Obligations.CoreRegisterFrame : Prop :=
  ∀ (s : State) (i : Instr) (c : Fin 6) (n : Nat), regOnly i = some (c, n) → s.executes c n →
    ∃ t, exec i s = .next t ∧ ({ t with regs := s.regs, core := s.core } : State) = s ∧
      (∀ d : Fin 6, d ≠ c → t.core[d] = s.core[d]) ∧ t.regs = (s.setFld .SYS_CSTAT_STATE c 0 1).regs ∧
      (t.core[c]).load = [] ∧ (t.core[c]).ser = (s.core[c]).ser ∧ (t.core[c]).bits = (s.core[c]).bits ∧
      (t.core[c]).vec = (s.core[c]).vec ∧ (t.core[c]).wait = .none

/-- A tick named by a count is the first one at or after it; every rate divides 6144 counts. -/
def Obligations.TickNamedByCount : Prop :=
  (∀ n d : Nat, 0 < d → d ∣ firstMultiple n d ∧ n ≤ firstMultiple n d ∧ ∀ m, d ∣ m → n ≤ m → firstMultiple n d ≤ m) ∧
  (∀ r : Nat, r < 4 → 0 < rateDivisor r ∧ rateDivisor r ∣ 6144) ∧
  ∀ s : State, 0 < s.divisor → s.clk.now < s.nextTick ∧ s.divisor ∣ s.nextTick ∧
    ∀ m, s.divisor ∣ m → s.clk.now < m → s.nextTick ≤ m

/-- A source with no record has series 1 and last WSN 0; a restart adds 1 to the series, 65 535 is followed by 1, and
series 0 never occurs. -/
def Obligations.SeriesRestart : Prop :=
  (∀ n : Fin 24, State.reset.source n = ⟨1, 0⟩) ∧
  ∀ (s : State) (n : Fin 24), let t := s.restartSeries n
    (∀ m, (s.source n).ser = m → m < 65535 → t.source n = ⟨m + 1, 0⟩) ∧
    ((s.source n).ser = 65535 → t.source n = ⟨1, 0⟩) ∧ (t.source n).ser ≠ 0 ∧
    (∀ m : Fin 24, m ≠ n → t.source m = s.source m) ∧
    (∀ i ∈ t.jrn.items, i.key.src ≠ n.val) ∧ (∀ i ∈ s.jrn.items, i.key.src ≠ n.val → i ∈ t.jrn.items)

/-- An occurrence that coalesces into no record, and finds room, is written as the newest record of its class, with the next
sequence number. -/
def Obligations.EventRecordWritten : Prop :=
  ∀ (s : State) (cl : EvClass) (cause stn inst det src wsn : Nat),
    let k := classNo cl
    let r : EvRec := ⟨s.clk.now, 0, stn, cause, inst, src, false, false, wsn, det, 1, s.coalW k, 1⟩
    let t := s.raise cl cause stn inst det src wsn
    regsSorted s.regs → s.ringHeld k = false → 2 ≤ s.ringFree k →
    (k.val = 3 ∨ ∀ o, (s.ev.q[k]).getLast? = some o → coalesces o r = false) →
    t.ev.q[k] = s.ev.q[k] ++ [{ r with seq := nextSeq (s.fld .EVT_SEQ_SEQ k) }] ∧
    t.fld .EVT_SEQ_SEQ k = nextSeq (s.fld .EVT_SEQ_SEQ k) ∧ nextSeq (s.fld .EVT_SEQ_SEQ k) ≠ 0 ∧
    (∀ m : Fin 4, m ≠ k → t.ev.q[m] = s.ev.q[m]) ∧
    ({ t with regs := s.regs, port := s.port, ev := s.ev, obs := s.obs } : State) = s

/-- `AUTH`, `AUTH OFF`, `AUTH?`, `STN` and `STN?` are not journalled and change only their own session, but for the answer
and the ATTN of a refused key. -/
def Obligations.SessionCommandsFrame : Prop :=
  ∀ (s t : State) (o : Origin) (p : Fin 2) (key : Nat) (k : Fin 4) (i : Instr), sessionPort o = some p →
    (i = .auth o key ∨ i = .authOff o ∨ i = .authQuery o ∨ i = .stnSelect o k ∨ i = .stnQuery o) → exec i s = .next t →
    t.jrn = s.jrn ∧ (∀ q : Fin 2, q ≠ p → t.sess[q] = s.sess[q]) ∧
    ({ t with sess := s.sess, regs := s.regs, port := s.port, answers := s.answers, ev := s.ev, evWait := s.evWait,
              obs := s.obs } : State) = s ∧
    (i = .authOff o → s.takes o → (t.sess[p]).own = noAuth ∧ (t.sess[p]).fails = (s.sess[p]).fails) ∧
    (i = .auth o key → s.takes o → s.authLocked p = false → (s.matching key).any = true →
      (t.sess[p]).fails = 0 ∧ (t.sess[p]).own.brd = ((s.sess[p]).own.brd || (s.matching key).brd) ∧
      ∀ x : Fin 4, (t.sess[p]).own.stn[x] = ((s.sess[p]).own.stn[x] || (s.matching key).stn[x]))

/-- A byte store through the window writes its byte at the address that its page maps to, where the core may write it, and
leaves every other byte, every register and every other unit as they were. -/
def Obligations.WindowByteStore : Prop :=
  ∀ (s : State) (c : Fin 6) (m : WinMode) (r : Fin 16) (x : Fin 8) (g b : Nat), s.executes c (winWords m) →
    memWf s.mem = true →
    let k := s.core[c]
    let a := k.winAddr (k.winOp m x 1).1.toNat
    a < 0x400000 → generalPage a = some g → s.pageOk c true g = true → s.pageAddr g a = some b →
    ∃ t, exec (.st c m r x) s = .next t ∧ t.memGet b = k.getW r ∧ (∀ y, y ≠ b → t.memGet y = s.memGet y) ∧
      memWf t.mem = true ∧ ({ t with regs := s.regs, core := s.core, mem := s.mem } : State) = s ∧
      ∀ d : Fin 6, d ≠ c → t.core[d] = s.core[d]

/-- Every value that the decimal interchange format holds is read back from its encoding, which has 128 bits. -/
def Obligations.DecimalRoundTrip : Prop :=
  ∀ v : DVal, v.fits → decodeDec (encodeDec v) = v ∧ encodeDec v < 2 ^ 128

/-- Every frame whose fields fit is read back, with its link sequence, from its bytes. -/
def Obligations.FrameRoundTrip : Prop :=
  ∀ (f : LinkFrame) (lseq : Nat), f.fits → lseq < 65536 → parseFrame (f.bytes lseq) = some (f, lseq)

/-- Invariant: while only such queries wait, no step changes anything but answers on their way. -/
def Obligations.QueriesChangeNothing : Prop :=
  ∀ s0 s t : State, asksOnly s0 s → step s = .next t → asksOnly s0 t

/-- A candidate of the work items of keys, time, cancel, held work, policies, reset, `REG`, `RING` and `EVENT ACK` that is
offered as R61 and R62 require, and whose state checks pass, is accepted, answered and executed at once, with the effect that
the rules give it. Commands: `authset`, `timeRtc`, `cancel`, `release`, `policy`, `resetWarm`, `resetCold`, `reg`, `ringDepth`,
`eventAck`. -/
def Obligations.GeneralWorkCompletes : Prop :=
  (∀ (s : State) (o : Origin) (x : Owner) (key : Nat), let cmd : Instr := .authset o x key
    let w := workAuthset o x key s
    s.offers o w →
    exec cmd s = .next (s.done o cmd w.stn fun t =>
      let u : State := { t with jrn := match x with
        | .board => { t.jrn with boardKey := some key }
        | .stn k => { t.jrn with stnKey := t.jrn.stnKey.set k (some key) } }
      (u.skipUnseen 0).skipUnseen 1)) ∧
  (∀ (s : State) (o : Origin) (d : DateTime), let cmd : Instr := .timeRtc o d
    let w := workTimeRtc o d s
    s.offers o w →
    exec cmd s = .next (s.done o cmd w.stn fun t => { t with rtc := some (d, t.clk.now) })) ∧
  (∀ (s : State) (o : Origin) (x : Nat) (src ser : Option Nat) (m : Item), let cmd : Instr := .cancel o x src ser
    let w := workCancel o x src ser s
    let t := s.taken o cmd w.stn
    s.offers o w → (t.findItem (s.namedKey o x src ser) = some m) → (m.st = .pending ∨ m.st = .held) →
    exec cmd s = .next (s.done o cmd w.stn fun t => ((t.cancelBlocks (s.namedKey o x src ser)).addEnded (s.namedKey o x src ser) false).workFailed (s.namedKey o x src ser) 615)) ∧
  (∀ (s : State) (o : Origin) (x : Nat) (src ser : Option Nat) (m : Item) (c : Instr) (v : Work), let cmd : Instr := .release o x src ser
    let w := workRelease o x src ser s
    let t := s.taken o cmd w.stn
    s.offers o w → (t.releaseErr (s.namedKey o x src ser) = none) → (t.findItem (s.namedKey o x src ser) = some m) → (m.cmd = some c) → (State.workN s.jrn.items.length t c = some v) →
    exec cmd s = .next (s.done o cmd w.stn fun t => t.begin_ (s.namedKey o x src ser) v.run)) ∧
  (∀ (s : State) (o : Origin) (x : PolicyTarget) (i j : Nat) (m : PolicyMode), let cmd : Instr := .policy o x i j m
    let w := workPolicy o x i j m s
    s.offers o w →
    exec cmd s = .next (s.done o cmd w.stn fun t => { t with tickSet := t.tickSet ++ (policyRange x i j).map fun k => ⟨(policyFld x).1, k, 0, policyCode m⟩ })) ∧
  (∀ (s : State) (o : Origin), let cmd : Instr := .resetWarm o
    let w := workReset o .warm s
    s.offers o w →
    exec cmd s = .next (s.runs o cmd w.stn (fun k t => { t with resetReq := some (k, .warm), stopped := true }))) ∧
  (∀ (s : State) (o : Origin), let cmd : Instr := .resetCold o
    let w := workReset o .cold s
    s.offers o w →
    exec cmd s = .next (s.runs o cmd w.stn (fun k t => { t with resetReq := some (k, .cold), stopped := true }))) ∧
  (∀ (s : State) (o : Origin) (r : Reg) (i j : Nat) (f : Fld) (v : Int) (x : RegWr), let cmd : Instr := .reg o (.field f i j) v
    let w := workReg o (.field f i j) v s
    let t := s.taken o cmd w.stn
    s.offers o w → (regPl (.field f i j) = .reg r i j (some f)) → (lineWrite r i j (some f) v = .ok x) → (t.wrErr x = none) → (r ≠ .DEC_MBX) → ([Reg.DAC_CFG, .EXC_INC, .EXC_AMP, .EXC_PHASE].contains r = false) →
    exec cmd s = .next (s.done o cmd w.stn fun t => (t.wrApply (.line o) x).serOwn o x (s.candKey o))) ∧
  (∀ (s : State) (o : Origin) (r : Reg) (i j : Nat) (f : Fld) (v : Int) (x : RegWr) (u : State), let cmd : Instr := .reg o (.field f i j) v
    let w := workReg o (.field f i j) v s
    let t := s.taken o cmd w.stn
    s.offers o w → (regPl (.field f i j) = .reg r i j (some f)) → (lineWrite r i j (some f) v = .ok x) → (t.wrErr x = none) → (r ≠ .DEC_MBX) → (t.regBegun ((t.wrApply (.line o) x).serOwn o x (s.candKey o)) r i (s.candKey o) = .running u) →
    exec cmd s = .next (u)) ∧
  (∀ (s : State) (o : Origin) (r : Reg) (i j : Nat) (f : Fld) (v : Int) (x : RegWr) (u : State), let cmd : Instr := .reg o (.field f i j) v
    let w := workReg o (.field f i j) v s
    let t := s.taken o cmd w.stn
    s.offers o w → (regPl (.field f i j) = .reg r i j (some f)) → (lineWrite r i j (some f) v = .ok x) → (t.wrErr x = none) → (r ≠ .DEC_MBX) → (t.regBegun ((t.wrApply (.line o) x).serOwn o x (s.candKey o)) r i (s.candKey o) = .done u) →
    exec cmd s = .next (s.done o cmd w.stn fun _ => u)) ∧
  (∀ (s : State) (o : Origin) (r : Reg) (i j : Nat) (f : Fld) (v : Int) (x : RegWr), let cmd : Instr := .reg o (.field f i j) v
    let w := workReg o (.field f i j) v s
    let t := s.taken o cmd w.stn
    s.offers o w → (regPl (.field f i j) = .reg r i j (some f)) → (lineWrite r i j (some f) v = .ok x) → (t.wrErr x = none) → (r = .DEC_MBX) → (i < 6) →
    exec cmd s = .next (s.done o cmd w.stn fun t => if j = 5 ∧ v % 2 = 1 then t.mbxPop (Fin.ofNat 6 i) else t)) ∧
  (∀ (s : State) (o : Origin) (a : Nat) (y : RegTarget) (v : Int), let cmd : Instr := .reg o y v
    let w := workReg o y v s
    s.offers o w → (regPl y = .hole a) → ((wordOf v).isSome = true) →
    exec cmd s = .next (s.done o cmd w.stn fun t => t)) ∧
  (∀ (s : State) (o : Origin) (r : Fin 16) (n c : Nat), let cmd : Instr := .ringDepth o r n
    let w := workRingDepth o r n s
    let t := s.taken o cmd w.stn
    s.offers o w → (depthCode n = some c) → (t.ringDepthErr r c (t.fld .RING_CFG_BANK r) = none) →
    exec cmd s = .next (s.done o cmd w.stn fun t => t.ringChange r c (t.fld .RING_CFG_BANK r))) ∧
  (∀ (s : State) (o : Origin) (c : EvClass) (seq : Nat), let cmd : Instr := .eventAck o c seq
    let w := workEventAck o c seq s
    s.offers o w →
    exec cmd s = .next (s.done o cmd w.stn fun t => t.ackUpTo (t.originAuth o) (classNo c) seq))

/-- A candidate of the work items of part programs and tape that is offered as R61 and R62 require, and whose state checks pass,
is accepted, answered and executed at once, with the effect that the rules give it. Commands: `progNew`, `progAdd`, `progEnd`,
`progDel`, `run`, `mdi`, `tapeRead`, `tapeRun`, `tapeStop`, `mfin`. -/
def Obligations.ProgramWorkCompletes : Prop :=
  (∀ (s : State) (o : Origin) (p : Nat) (title : String), let cmd : Instr := .progNew o p title
    let w := workProgNew o p title s
    let t := s.taken o cmd w.stn
    s.offers o w → (t.progNewErr p = none) →
    exec cmd s = .next (s.done o cmd w.stn fun t => t.progNew p title)) ∧
  (∀ (s : State) (o : Origin) (p : Nat) (block : String), let cmd : Instr := .progAdd o p block
    let w := workProgAdd o p block s
    let t := s.taken o cmd w.stn
    s.offers o w → (t.progAddRunErr p block (s.candKey o) = none) →
    exec cmd s = .next (s.runs o cmd w.stn (fun key t => t.progAdd p block key))) ∧
  (∀ (s : State) (o : Origin) (p : Nat), let cmd : Instr := .progEnd o p
    let w := workProgEnd o p s
    let t := s.taken o cmd w.stn
    s.offers o w → (t.progEndErr p = none) →
    exec cmd s = .next (s.done o cmd w.stn fun t => t.progEnd p)) ∧
  (∀ (s : State) (o : Origin) (p : Nat), let cmd : Instr := .progDel o p
    let w := workProgDel o p s
    let t := s.taken o cmd w.stn
    s.offers o w → (t.progDelErr p = none) →
    exec cmd s = .next (s.done o cmd w.stn fun t => { t with progs := t.progs.filter fun g => !(g.no == p) })) ∧
  (∀ (s : State) (o : Origin) (p : Nat) (k : Option (Fin 4)) (frm : Nat), let cmd : Instr := .run o p k frm
    let w := workRun o p k frm s
    s.offers o w →
    exec cmd s = .next (s.runs o cmd w.stn (fun key t => (t.startRun (s.argStn o k) p frm key).setItem key .pending))) ∧
  (∀ (s : State) (o : Origin) (text : String) (k : Option (Fin 4)) (x : Conv) (b : MBlock), let cmd : Instr := .mdi o text k
    let w := workMdi o text k s
    let t := s.taken o cmd w.stn
    s.offers o w → (t.skipped (s.argStn o k) text = false) → (t.mdiConv (s.argStn o k) (t.mdiModal (s.argStn o k)) (s.candKey o) 0 ((t.mot[s.argStn o k]).mdiCount + 1) text = .ok x) → (x.block = some b) → (State.textExtends ((((t.setMot (s.argStn o k) fun m => { m with mdiModal := x.modal, mdiCount := (t.mot[s.argStn o k]).mdiCount + 1 }).applySetting
      (s.argStn o k) x.set).modItem (s.candKey o) fun i => { i with blk := some (0, (t.mot[s.argStn o k]).mdiCount + 1, 0) })) (s.argStn o k) text = false) →
    exec cmd s = .next (s.runs o cmd w.stn (fun key t =>
      let k := s.argStn o k
      let u := t.setMot k fun m => { m with mdiModal := x.modal, mdiCount := (t.mot[k]).mdiCount + 1 }
      let u := (u.applySetting k x.set).modItem key fun i => { i with blk := some (0, (t.mot[k]).mdiCount + 1, 0) }
      (u.enqueueBlock k b).setItem key .pending))) ∧
  (∀ (s : State) (o : Origin) (p : Nat), let cmd : Instr := .tapeRead o p
    let w := workTapeRead o p s
    let t := s.taken o cmd w.stn
    s.offers o w → (t.tapeReadErr o p = none) →
    exec cmd s = .next (s.runs o cmd w.stn (fun key t => (if t.tapeResumes o none (some p) then t else t.progNew p "").startTape o key none (some p)))) ∧
  (∀ (s : State) (o : Origin) (k : Option (Fin 4)), let cmd : Instr := .tapeRun o k
    let w := workTapeRun o k s
    let t := s.taken o cmd w.stn
    s.offers o w → ((!t.tapeResumes o (some (s.argStn o k)) none && t.tapeBusy) = false) →
    exec cmd s = .next (s.runs o cmd w.stn (fun key t =>
      let k := s.argStn o k
      (t.startTape o key (some k) none).setMot k fun x => { x with reader := some (t.tapeReader o k key) }))) ∧
  (∀ (s : State) (o : Origin), let cmd : Instr := .tapeStop o
    let w := workTapeStop o s
    let t := s.taken o cmd w.stn
    s.offers o w → (t.tapeBusy = true) →
    exec cmd s = .next (s.done o cmd w.stn fun t => t.tapeEnds 0)) ∧
  (∀ (s : State) (o : Origin), let cmd : Instr := .tapeStop o
    let w := workTapeStop o s
    let t := s.taken o cmd w.stn
    s.offers o w → (t.tapeBusy = false) →
    exec cmd s = .next (s.done o cmd w.stn fun t => t)) ∧
  (∀ (s : State) (o : Origin) (k : Option (Fin 4)) (h : Hand), let cmd : Instr := .mfin o k
    let w := workMfin o k s
    let t := s.taken o cmd w.stn
    s.offers o w → ((t.mot[s.argStn o k]).strobePending = some h) →
    exec cmd s = .next (s.done o cmd w.stn fun t => ((t.commitRec).clearStrobe (s.argStn o k) h).setMot (s.argStn o k) fun m => { m with hand := none }))

/-- A candidate of the work items of motion, limits, jogs, overrides, servo settings and compensation that is offered as R61 and
R62 require, and whose state checks pass, is accepted, answered and executed at once, with the effect that the rules give it.
Commands: `hold`, `stop`, `resume`, `ovr`, `limitAxis`, `limitStn`, `axisJog`, `axisJogStop`, `axisHw`, `axisHwOff`, `axisRef`,
`servo`, `servoRescal`, `comp`, `compPt`. -/
def Obligations.MotionWorkCompletes : Prop :=
  (∀ (s : State) (o : Origin) (k : Option (Fin 4)), let cmd : Instr := .hold o k none
    let w := workHold o k none s
    let t := s.taken o cmd w.stn
    s.offers o w → ((t.stnState (s.argStn o k) = stIdle ∨ t.stnState (s.argStn o k) = stHeld ∨ t.stnState (s.argStn o k) = stTripped) ∧ (t.mot[s.argStn o k]).reqs = []) →
    exec cmd s = .next (s.done o cmd w.stn fun t => t)) ∧
  (∀ (s : State) (o : Origin) (k : Option (Fin 4)), let cmd : Instr := .hold o k none
    let w := workHold o k none s
    let t := s.taken o cmd w.stn
    s.offers o w → (¬ ((t.stnState (s.argStn o k) = stIdle ∨ t.stnState (s.argStn o k) = stHeld ∨ t.stnState (s.argStn o k) = stTripped) ∧ (t.mot[s.argStn o k]).reqs = [])) →
    exec cmd s = .next (s.runs o cmd w.stn (fun key t => t.setMot (s.argStn o k) fun m => { m with reqs := m.reqs ++ [.halt false key (t.mot[s.argStn o k]).lim.holdt] }))) ∧
  (∀ (s : State) (o : Origin) (k : Option (Fin 4)) (d : Decimal) (r : Nat), let cmd : Instr := .hold o k (some d)
    let w := workHold o k (some d) s
    let t := s.taken o cmd w.stn
    s.offers o w → (holdMs d = some r) → ((t.stnState (s.argStn o k) = stIdle ∨ t.stnState (s.argStn o k) = stHeld ∨ t.stnState (s.argStn o k) = stTripped) ∧ (t.mot[s.argStn o k]).reqs = []) →
    exec cmd s = .next (s.done o cmd w.stn fun t => t)) ∧
  (∀ (s : State) (o : Origin) (k : Option (Fin 4)) (d : Decimal) (r : Nat), let cmd : Instr := .hold o k (some d)
    let w := workHold o k (some d) s
    let t := s.taken o cmd w.stn
    s.offers o w → (holdMs d = some r) → (¬ ((t.stnState (s.argStn o k) = stIdle ∨ t.stnState (s.argStn o k) = stHeld ∨ t.stnState (s.argStn o k) = stTripped) ∧ (t.mot[s.argStn o k]).reqs = [])) →
    exec cmd s = .next (s.runs o cmd w.stn (fun key t => t.setMot (s.argStn o k) fun m => { m with reqs := m.reqs ++ [.halt false key r] }))) ∧
  (∀ (s : State) (o : Origin) (k : Option (Fin 4)), let cmd : Instr := .stop o k
    let w := workStop o k s
    let t := s.taken o cmd w.stn
    s.offers o w → ((t.stnState (s.argStn o k) = stIdle ∨ t.stnState (s.argStn o k) = stHeld ∨ t.stnState (s.argStn o k) = stTripped) ∧ (t.mot[s.argStn o k]).reqs = []) →
    exec cmd s = .next (s.done o cmd w.stn fun t => t)) ∧
  (∀ (s : State) (o : Origin) (k : Option (Fin 4)), let cmd : Instr := .stop o k
    let w := workStop o k s
    let t := s.taken o cmd w.stn
    s.offers o w → (¬ ((t.stnState (s.argStn o k) = stIdle ∨ t.stnState (s.argStn o k) = stHeld ∨ t.stnState (s.argStn o k) = stTripped) ∧ (t.mot[s.argStn o k]).reqs = [])) →
    exec cmd s = .next (s.runs o cmd w.stn (fun key t => t.setMot (s.argStn o k) fun m => { m with reqs := m.reqs ++ [.halt true key 0] }))) ∧
  (∀ (s : State) (o : Origin) (k : Option (Fin 4)), let cmd : Instr := .resume o k
    let w := workResume o k s
    let t := s.taken o cmd w.stn
    s.offers o w → (t.resumeErr (s.argStn o k) = none) →
    exec cmd s = .next (s.runs o cmd w.stn (fun key t => t.setMot (s.argStn o k) fun m => { m with reqs := m.reqs ++ [.resume key] }))) ∧
  (∀ (s : State) (o : Origin) (k : Option (Fin 4)) (f r p : Option Nat), let cmd : Instr := .ovr o k f r p
    let w := workOvr o k f r p s
    let t := s.taken o cmd w.stn
    s.offers o w → (overErr f r p = false) → (t.flag .MOT_OVR_SRC (s.argStn o k) = false) →
    exec cmd s = .next (s.done o cmd w.stn fun t => { t with tickSet := t.tickSet ++ ((f.toList.map fun v => ⟨.MOT_OVR_FEED, s.argStn o k, 0, v⟩)
        ++ (r.toList.map fun v => ⟨.MOT_OVR_RAPID, s.argStn o k, 0, v⟩) ++ (p.toList.map fun v => ⟨.MOT_OVR_SPIN, s.argStn o k, 0, v⟩)) })) ∧
  (∀ (s : State) (o : Origin) (a : Fin 12) (l : AxisLimits) (vs : List (Fld × Int)), let cmd : Instr := .limitAxis o a l
    let w := workLimitAxis o a l s
    let t := s.taken o cmd w.stn
    s.offers o w → (t.limitAxisErr a l = .ok vs) →
    exec cmd s = .next (s.done o cmd w.stn fun t => t.setFlds a vs)) ∧
  (∀ (s : State) (o : Origin) (k : Fin 4) (l : StnLimits) (vs : List (Fld × Int)), let cmd : Instr := .limitStn o k l
    let w := workLimitStn o k l s
    let t := s.taken o cmd w.stn
    s.offers o w → (t.limitStnErr k l = .ok vs) →
    exec cmd s = .next (s.done o cmd w.stn fun t => t.setFlds k vs)) ∧
  (∀ (s : State) (o : Origin) (a : Fin 12) (plus : Bool) (f d : Option Decimal) (v : Option Int) (k : Fin 4), let cmd : Instr := .axisJog o a plus f d
    let w := workAxisJog o a plus f d s
    let t := s.taken o cmd w.stn
    s.offers o w → (t.jogErr a plus d = .ok v) → (t.axisStation a = some k) →
    exec cmd s = .next (s.runs o cmd w.stn (fun key t =>
      let base := ((t.findItem key).bind (·.base)).getD (jogBase t.axis[a])
      t.startJog k a ⟨plus, t.jogVel k a f, v.map (jogTarget base plus), some key, false, none⟩))) ∧
  (∀ (s : State) (o : Origin) (a : Fin 12), let cmd : Instr := .axisJogStop o a
    let w := workAxisJogStop o a s
    s.offers o w →
    exec cmd s = .next (s.done o cmd w.stn fun t => t.stopJog a)) ∧
  (∀ (s : State) (o : Origin) (a : Fin 12) (n : Fin 2) (m : Nat) (k : Fin 4), let cmd : Instr := .axisHw o a n m
    let w := workAxisHw o a n m s
    let t := s.taken o cmd w.stn
    s.offers o w → (t.hwErr a n = none) → (t.axisStation a = some k) →
    exec cmd s = .next (s.done o cmd w.stn fun t =>
      let u := forAll (List.finRange 12) t fun s b =>
        if s.fld .MOT_AXCTL_HW b = n.val ∧ b.val ≠ a.val then (s.setFld .MOT_AXCTL_HW b 0 3).journalCount b else s
      let u := (u.setFld .MOT_AXCTL_HW a 0 n).setFld .MOT_AXCTL_MULT a 0 (multCode m)
      u.startDrives k)) ∧
  (∀ (s : State) (o : Origin) (a : Fin 12), let cmd : Instr := .axisHwOff o a
    let w := workAxisHwOff o a s
    s.offers o w →
    exec cmd s = .next (s.done o cmd w.stn fun t => (t.setFld .MOT_AXCTL_HW a 0 3).journalCount a)) ∧
  (∀ (s : State) (o : Origin) (a : Fin 12) (pos : Decimal) (k : Fin 4), let cmd : Instr := .axisRef o a pos
    let w := workAxisRef o a pos s
    let t := s.taken o cmd w.stn
    s.offers o w → (t.refErr a = none) → (t.axisStation a = some k) →
    exec cmd s = .next (s.done o cmd w.stn fun t =>
      let v := roundRat (decRat pos * (10 ^ (t.axisQ k a + 4) : Nat))
      ((t.setAxis a fun x => { x with ofs := x.ofs + v - x.pos, pos := v, pos1 := v, sp := v, sp1 := v, sp2 := v, own := none, jf := 0 }).setFlag
        .MOT_AXCTL_REFD a 0 true).journalCount a)) ∧
  (∀ (s : State) (o : Origin) (a : Fin 12) (sets : List FieldSet), let cmd : Instr := .servo o a sets
    let w := workServo o a sets s
    let t := s.taken o cmd w.stn
    s.offers o w → (t.servoErr a sets = none) →
    exec cmd s = .next (s.done o cmd w.stn fun t =>
      let u := t.modeOff (t.servoSet a sets) a
      if sets.any fun e => isGain e.fld then (u.setAxis a fun x => { x with apply := true }).pendTick a else u)) ∧
  (∀ (s : State) (o : Origin) (a : Fin 12) (k g : Nat), let cmd : Instr := .servoRescal o a
    let w := workServoRescal o a s
    let t := s.taken o cmd w.stn
    s.offers o w → (t.rescalErr a = none) → (t.axisPair a = some (k, g)) →
    exec cmd s = .next (s.done o cmd w.stn fun t => (t.setFld .SRV_RESNOM_NOM a 0 (t.fld .FCH_RAMP_A k)).setAxis a fun x =>
        { x with ecal := t.fld .EXC_NOW_AMP g, amplTicks := 0 })) ∧
  (∀ (s : State) (o : Origin) (a : Fin 12) (sets : List FieldSet), let cmd : Instr := .comp o a sets
    let w := workComp o a sets s
    let t := s.taken o cmd w.stn
    s.offers o w → (t.servoErr a sets = none) →
    exec cmd s = .next (s.done o cmd w.stn fun t => forAll sets (t.servoSet a sets) fun s e => s.note e.fld a 0)) ∧
  (∀ (s : State) (o : Origin) (a : Fin 12) (i : Nat) (v : Int), let cmd : Instr := .compPt o a i v
    let w := workCompPt o a i v s
    let t := s.taken o cmd w.stn
    s.offers o w → (t.compPtErr a i v = none) →
    exec cmd s = .next (s.done o cmd w.stn fun t => (t.setFldInt .SRV_CPT_V a i v).note .SRV_CPT_V a i))

/-- A candidate of the work items of `CORE` that is offered as R61 and R62 require, and whose state checks pass, is accepted,
answered and executed at once, with the effect that the rules give it. Commands: `coreAssign`, `coreSpare`, `coreHalt`,
`coreStart`, `coreClear`. -/
def Obligations.CoreWorkCompletes : Prop :=
  (∀ (s : State) (o : Origin) (c : Nat) (x : StnCode), let cmd : Instr := .coreAssign o c x
    let w := workCoreAssign o c x s
    let t := s.taken o cmd w.stn
    s.offers o w → ((t.coreFailedErr c).or (t.assignErr (t.fld .SYS_CASN_STN c) x) = none) →
    exec cmd s = .next (s.done o cmd w.stn fun t => { t with tickSet := t.tickSet ++ [⟨.SYS_CASN_STN, c, 0, x⟩] })) ∧
  (∀ (s : State) (o : Origin) (c : Option Nat), let cmd : Instr := .coreSpare o c
    let w := workCoreSpare o c s
    let t := s.taken o cmd w.stn
    s.offers o w → ((c.bind t.coreFailedErr).or (t.spareErr (c.getD 7)) = none) →
    exec cmd s = .next (s.done o cmd w.stn fun t => t.setFld .SYS_CFG_SPARE 0 0 (c.getD 7))) ∧
  (∀ (s : State) (o : Origin) (c : Nat), let cmd : Instr := .coreHalt o c
    let w := workCoreHalt o c s
    let t := s.taken o cmd w.stn
    s.offers o w → ((t.coreFailedErr c).or (t.coreBusyErr c) = none) →
    exec cmd s = .next (s.done o cmd w.stn fun t => t.setRun c false)) ∧
  (∀ (s : State) (o : Origin) (c : Nat), let cmd : Instr := .coreStart o c
    let w := workCoreStart o c s
    let t := s.taken o cmd w.stn
    s.offers o w → ((t.coreFailedErr c).or (t.coreBusyErr c) = none) →
    exec cmd s = .next (s.done o cmd w.stn fun t => t.setRun c true)) ∧
  (∀ (s : State) (o : Origin) (c : Nat), let cmd : Instr := .coreClear o c
    let w := workCoreClear o c s
    let t := s.taken o cmd w.stn
    s.offers o w → (t.assignErr (t.fld .SYS_CASN_STN c) 7 = none) →
    exec cmd s = .next (
      let u := (t.fresh 1).2
      let v := if u.fld .SYS_CSTAT_STATE c = 4 then (u.setFld .SYS_CSTAT_STATE c 0 0).commitRec else u
      if (t.fresh 1).1 = 0 then u.workFailed (s.candKey o) 281
      else State.workDone { v with tickSet := v.tickSet ++ [⟨.SYS_CASN_STN, c, 0, 7⟩] } (s.candKey o)))

/-- A candidate of the work items of regions, routes, calibration and filter chains that is offered as R61 and R62 require, and
whose state checks pass, is accepted, answered and executed at once, with the effect that the rules give it. Commands:
`regionLoad`, `regionHandoffCell`, `regionHandoffRg`, `regionRef`, `xpt`, `adcAssign`, `cal`, `calRef`, `filterPreset`,
`filterCustom`, `filterPhase`, `filterTaps`, `filterCoef`, `filterSwap`, `filterResolver`, `filterResphase`. -/
def Obligations.FabricWorkCompletes : Prop :=
  (∀ (s : State) (o : Origin) (img : Nat) (at_ : Option Nat) (g : Staged), let cmd : Instr := .regionLoad o img at_
    let w := workRegionLoad o img at_ s
    let t := s.taken o cmd w.stn
    s.offers o w → (t.loadErr img at_ = none) → (t.findStaged img = some g) →
    exec cmd s = .next (s.runs o cmd w.stn (fun key t => t.startLoad g at_ key))) ∧
  (∀ (s : State) (o : Origin) (n : Fin 64) (v : Decimal) (c : Int), let cmd : Instr := .regionHandoffCell o n (some v)
    let w := workRegionHandoffCell o n (some v) s
    let t := s.taken o cmd w.stn
    s.offers o w → (t.handoffErr (n.val / 8) (some v) = none) → (levelCode312 v = some c) →
    exec cmd s = .next (s.done o cmd w.stn fun t =>
      let u := (t.setFld .REB_CHOFF_HMODE n 0 1).setFldInt .REB_CHOFF_HCONST n 0 c
      (u.note .REB_CHOFF_HMODE n 0).note .REB_CHOFF_HCONST n 0)) ∧
  (∀ (s : State) (o : Origin) (n : Fin 64), let cmd : Instr := .regionHandoffCell o n none
    let w := workRegionHandoffCell o n none s
    let t := s.taken o cmd w.stn
    s.offers o w → (t.handoffErr (n.val / 8) none = none) →
    exec cmd s = .next (s.done o cmd w.stn fun t => (t.setFld .REB_CHOFF_HMODE n 0 0).note .REB_CHOFF_HMODE n 0)) ∧
  (∀ (s : State) (o : Origin) (r : Fin 8) (out : Fin 56) (b : Bool), let cmd : Instr := .regionHandoffRg o r out (some b)
    let w := workRegionHandoffRg o r out (some b) s
    let t := s.taken o cmd w.stn
    s.offers o w → (t.handoffErr r none = none) → (out.val < 32) →
    exec cmd s = .next (s.done o cmd w.stn fun t =>
      let u := t.setFld .LGF_HMODE_FAB r 0 (bitTo (t.fld .LGF_HMODE_FAB r) out true)
      let u := u.note .LGF_HMODE_FAB r 0
      (u.setFld .LGF_HVAL_FAB r 0 (bitTo (u.fld .LGF_HVAL_FAB r) out b)).note .LGF_HVAL_FAB r 0)) ∧
  (∀ (s : State) (o : Origin) (i : Fin 8) (v : Decimal) (c : Int), let cmd : Instr := .regionRef o i v
    let w := workRegionRef o i v s
    s.offers o w → (levelCode312 v = some c) →
    exec cmd s = .next (s.done o cmd w.stn fun t => { t with tickSet := t.tickSet ++ [⟨.REB_RC_LEVEL, i, 0, ofSigned 16 c⟩] })) ∧
  (∀ (s : State) (o : Origin) (l : List (Fin 216 × Fin 105)), let cmd : Instr := .xpt o l
    let w := workXpt o l s
    let t := s.taken o cmd w.stn
    s.offers o w → (t.xptErr (routePairs l) = none) →
    exec cmd s = .next (s.done o cmd w.stn fun t => t.xptApply (routePairs l))) ∧
  (∀ (s : State) (o : Origin) (c : Chan) (x : StnCode), let cmd : Instr := .adcAssign o c x
    let w := workAdcAssign o c x s
    let t := s.taken o cmd w.stn
    s.offers o w → (t.adcAssignErr c x = none) →
    exec cmd s = .next (s.done o cmd w.stn fun t => { t with tickSet := t.tickSet ++ [⟨adcStnFld c, if c.val < 16 then c.val else c.val - 16, 0, x⟩] })) ∧
  (∀ (s : State) (o : Origin) (ch : Option (Chan × Chan)), let cmd : Instr := .cal o ch
    let w := workCal o ch s
    let t := s.taken o cmd w.stn
    s.offers o w → (t.calErr ch = none) →
    exec cmd s = .next (s.runs o cmd w.stn (fun key t =>
      let u := forAll (calChans ch) t fun s c => s.startCal c
      { u with conv := { u.conv with cals := u.conv.cals ++ [(key, (calChans ch).map (·.val))] } }))) ∧
  (∀ (s : State) (o : Origin) (d a b : Int), let cmd : Instr := .calRef o d a b
    let w := workCalRef o d a b s
    s.offers o w → (calRefErr d a b = none) →
    exec cmd s = .next (s.done o cmd w.stn fun t =>
      let u := (t.setFlag .ADC_REF_FAILA 0 0 false).setFlag .ADC_REF_FAILB 0 0 false
      let u := (u.setFld .ADC_REFDIFF_DIFF 0 0 0).setReg .ADC_REFCHK 0 0 0
      { u with conv := { u.conv with diverge := 0 } })) ∧
  (∀ (s : State) (o : Origin) (n : Fin 16) (p : Fin 4), let cmd : Instr := .filterPreset o n p none
    let w := workFilterPreset o n p none s
    let t := s.taken o cmd w.stn
    s.offers o w → (t.structErr n ([⟨.FCH_CFG_MODE, n, 0, 1⟩, ⟨.FCH_CFG_PRESET, n, 0, p⟩] ++ t.leavePair n) = none) →
    exec cmd s = .next (s.done o cmd w.stn fun t => { t with tickSet := t.tickSet ++ ([⟨.FCH_CFG_MODE, n, 0, 1⟩, ⟨.FCH_CFG_PRESET, n, 0, p⟩] ++ s.leavePair n) })) ∧
  (∀ (s : State) (o : Origin) (n : Fin 16) (p : Fin 4) (k : Nat), let cmd : Instr := .filterPreset o n p (some k)
    let w := workFilterPreset o n p (some k) s
    let t := s.taken o cmd w.stn
    s.offers o w → (t.structErr n ([⟨.FCH_CFG_MODE, n, 0, 3⟩, ⟨.FCH_CFG_PRESET, n, 0, p⟩] ++ [⟨.FCH_SF_N, n, 0, k⟩] ++ t.leavePair n) = none) →
    exec cmd s = .next (s.done o cmd w.stn fun t => { t with tickSet := t.tickSet ++ ([⟨.FCH_CFG_MODE, n, 0, 3⟩, ⟨.FCH_CFG_PRESET, n, 0, p⟩] ++ [⟨.FCH_SF_N, n, 0, k⟩] ++ s.leavePair n) })) ∧
  (∀ (s : State) (o : Origin) (n : Fin 16) (d c f : Nat), let cmd : Instr := .filterCustom o n d c f
    let w := workFilterCustom o n d c f s
    let t := s.taken o cmd w.stn
    s.offers o w → (t.structErr n ([⟨.FCH_CFG_MODE, n, 0, 2⟩, ⟨.FCH_CFG_ORD, n, 0, d⟩, ⟨.FCH_CFG_CICDEC, n, 0, c⟩, ⟨.FCH_CFG_FIRDEC, n, 0, f⟩] ++ t.leavePair n) = none) →
    exec cmd s = .next (s.done o cmd w.stn fun t => { t with tickSet := t.tickSet ++ ([⟨.FCH_CFG_MODE, n, 0, 2⟩, ⟨.FCH_CFG_ORD, n, 0, d⟩, ⟨.FCH_CFG_CICDEC, n, 0, c⟩, ⟨.FCH_CFG_FIRDEC, n, 0, f⟩] ++ s.leavePair n) })) ∧
  (∀ (s : State) (o : Origin) (n : Fin 16) (i f : Nat), let cmd : Instr := .filterPhase o n i f
    let w := workFilterPhase o n i f s
    let t := s.taken o cmd w.stn
    s.offers o w → (t.structErr n ([⟨.FCH_PHD_PHINT, n, 0, i⟩, ⟨.FCH_PHD_PHFRAC, n, 0, f⟩]) = none) →
    exec cmd s = .next (s.done o cmd w.stn fun t => { t with tickSet := t.tickSet ++ ([⟨.FCH_PHD_PHINT, n, 0, i⟩, ⟨.FCH_PHD_PHFRAC, n, 0, f⟩]) })) ∧
  (∀ (s : State) (o : Origin) (n : Fin 16) (b : Bool) (x : Nat), let cmd : Instr := .filterTaps o n b x
    let w := workFilterTaps o n b x s
    let t := s.taken o cmd w.stn
    s.offers o w → (t.tapsErr n b x = none) →
    exec cmd s = .next (s.done o cmd w.stn fun t => t.setFld (tapsFld b) n 0 x)) ∧
  (∀ (s : State) (o : Origin) (n : Fin 16) (b : Bool) (i : Nat) (vs : List Decimal), let cmd : Instr := .filterCoef o n b i vs
    let w := workFilterCoef o n b i vs s
    let t := s.taken o cmd w.stn
    s.offers o w → (t.coefErr n b i vs = none) →
    exec cmd s = .next (s.done o cmd w.stn fun t => t.putCoefs (coefFld b) n i vs)) ∧
  (∀ (s : State) (o : Origin) (n : Fin 16), let cmd : Instr := .filterSwap o n
    let w := workFilterSwap o n s
    s.offers o w →
    exec cmd s = .next (s.done o cmd w.stn fun t => t.requestBank n)) ∧
  (∀ (s : State) (o : Origin) (n : Fin 16) (b : Nat), let cmd : Instr := .filterResolver o n b none
    let w := workFilterResolver o n b none s
    let t := s.taken o cmd w.stn
    s.offers o w → (t.resolverErr n b ([⟨.FCH_CFG_MODE, n, 0, modeResolver⟩, ⟨.FCH_CFG_MODE, n + 1, 0, modeResolver⟩, ⟨.FCH_RES_TRK, n, 0, (trkCode b).getD 0⟩]) = none) →
    exec cmd s = .next (s.done o cmd w.stn fun t => { t with tickSet := t.tickSet ++ ([⟨.FCH_CFG_MODE, n, 0, modeResolver⟩, ⟨.FCH_CFG_MODE, n + 1, 0, modeResolver⟩, ⟨.FCH_RES_TRK, n, 0, (trkCode b).getD 0⟩]) })) ∧
  (∀ (s : State) (o : Origin) (n : Fin 16) (b : Nat) (e : Fin 4), let cmd : Instr := .filterResolver o n b (some e)
    let w := workFilterResolver o n b (some e) s
    let t := s.taken o cmd w.stn
    s.offers o w → (t.resolverErr n b ([⟨.FCH_CFG_MODE, n, 0, modeResolver⟩, ⟨.FCH_CFG_MODE, n + 1, 0, modeResolver⟩, ⟨.FCH_RES_TRK, n, 0, (trkCode b).getD 0⟩] ++ [⟨.FCH_RES_EXC, n, 0, e⟩]) = none) →
    exec cmd s = .next (s.done o cmd w.stn fun t => { t with tickSet := t.tickSet ++ ([⟨.FCH_CFG_MODE, n, 0, modeResolver⟩, ⟨.FCH_CFG_MODE, n + 1, 0, modeResolver⟩, ⟨.FCH_RES_TRK, n, 0, (trkCode b).getD 0⟩] ++ [⟨.FCH_RES_EXC, n, 0, e⟩]) })) ∧
  (∀ (s : State) (o : Origin) (n : Fin 16) (x : Int), let cmd : Instr := .filterResphase o n x
    let w := workFilterResphase o n x s
    let t := s.taken o cmd w.stn
    s.offers o w → (t.resphaseErr n = none) →
    exec cmd s = .next (s.done o cmd w.stn fun t => { t with tickSet := t.tickSet ++ [⟨.FCH_RES_PHADJ, n, 0, ofSigned 12 (max (-1024) (min 1024 x))⟩] }))

/-- A candidate of the work items of DACs and excitation that is offered as R61 and R62 require, and whose state checks pass, is
accepted, answered and executed at once, with the effect that the rules give it. Commands: `dacConfig`, `dacValue`, `dacSafe`,
`dacLoad`, `dacLdg`, `exc`, `excTable`, `excTableSine`, `excTableSwap`. -/
def Obligations.OutputWorkCompletes : Prop :=
  (∀ (s : State) (o : Origin) (n : Fin 16) (c : DacSet), let cmd : Instr := .dacConfig o n c
    let w := workDacConfig o n c s
    let t := s.taken o cmd w.stn
    s.offers o w → (t.dacCfgErr n c = none) → (c.span = none) →
    exec cmd s = .next (s.done o cmd w.stn fun t => t.dacApply n c)) ∧
  (∀ (s : State) (o : Origin) (n : Fin 16) (c : DacSet) (p : Nat), let cmd : Instr := .dacConfig o n c
    let w := workDacConfig o n c s
    let t := s.taken o cmd w.stn
    s.offers o w → (t.dacCfgErr n c = none) → (c.span = some p) → (p ≠ t.fld .DAC_CFG_SPAN n) →
    exec cmd s = .next (s.runs o cmd w.stn (fun key t => (t.dacApply n c).startSpan n p (some key)))) ∧
  (∀ (s : State) (o : Origin) (n : Fin 16) (v : Decimal) (ms : Nat) (c : Nat), let cmd : Instr := .dacValue o n v ms
    let w := workDacValue o n v ms s
    let t := s.taken o cmd w.stn
    s.offers o w → (t.dacValueErr n v ms = .ok c) → (t.dacAsleep n = false) →
    exec cmd s = .next (s.runs o cmd w.stn (fun key t => (t.clearRetry n false).startRamp n c (t.msTicks ms) key))) ∧
  (∀ (s : State) (o : Origin) (n : Fin 16), let cmd : Instr := .dacSafe o n
    let w := workDacSafe o n s
    let t := s.taken o cmd w.stn
    s.offers o w → (t.dacSafeErr n = none) →
    exec cmd s = .next (s.done o cmd w.stn fun t => ((t.clearRetry n true).endRamp n).setDac n fun d => { d with safeNext := true })) ∧
  (∀ (s : State) (o : Origin) (g : Fin 4), let cmd : Instr := .dacLoad o g
    let w := workDacLoad o g s
    s.offers o w →
    exec cmd s = .next (s.done o cmd w.stn fun t => t.loadGroup g)) ∧
  (∀ (s : State) (o : Origin) (g x : Fin 4), let cmd : Instr := .dacLdg o g x
    let w := workDacLdg o g x s
    let t := s.taken o cmd w.stn
    s.offers o w → (t.trigErr g x = none) →
    exec cmd s = .next (s.done o cmd w.stn fun t => t.setFld .DAC_LDG_TRIG g 0 x)) ∧
  (∀ (s : State) (o : Origin) (g : Fin 4) (c : ExcSet), let cmd : Instr := .exc o g c
    let w := workExc o g c s
    let t := s.taken o cmd w.stn
    s.offers o w → (t.excErr g c = none) → (c.amp = none) → (c.f = none) → (c.phase = none) →
    exec cmd s = .next (s.done o cmd w.stn fun t => t.excApply g c)) ∧
  (∀ (s : State) (o : Origin) (g : Fin 4) (c : ExcSet), let cmd : Instr := .exc o g c
    let w := workExc o g c s
    let t := s.taken o cmd w.stn
    s.offers o w → (t.excErr g c = none) → (c.amp.isSome = true) → (((t.excApply g c).excReplaced g).excSettled g = false) →
    exec cmd s = .next (s.runs o cmd w.stn (fun key t => ((t.excApply g c).excReplaced g).setExc g fun x => { x with key := some key }))) ∧
  (∀ (s : State) (o : Origin) (g : Fin 4) (i : Nat) (vs : List Nat), let cmd : Instr := .excTable o g i vs
    let w := workExcTable o g i vs s
    let t := s.taken o cmd w.stn
    s.offers o w → (t.tableErr g i vs = none) →
    exec cmd s = .next (s.done o cmd w.stn fun t => forAll vs.zipIdx t fun s (v, j) => s.setFld .EXC_TAB_V g (i + j) v)) ∧
  (∀ (s : State) (o : Origin) (g : Fin 4), let cmd : Instr := .excTableSine o g
    let w := workExcTableSine o g s
    let t := s.taken o cmd w.stn
    s.offers o w → (t.flag .EXC_STAT_TPEND g = false) →
    exec cmd s = .next (s.done o cmd w.stn fun t => t.sineShadow g)) ∧
  (∀ (s : State) (o : Origin) (g : Fin 4), let cmd : Instr := .excTableSwap o g
    let w := workExcTableSwap o g s
    s.offers o w →
    exec cmd s = .next (s.done o cmd w.stn fun t => t.requestSwap g))

/-- A candidate of the work items of the panel and its display that is offered as R61 and R62 require, and whose state checks
pass, is accepted, answered and executed at once, with the effect that the rules give it. Commands: `disp`, `dispFault`,
`dispClear`, `dispChr`, `dispChrCmd`, `panelScan`, `panelRepeat`, `panelKey`, `panelCombo`, `panelAction`, `panelOwner`,
`panelDisplay`, `panelFont`, `panelChar`. -/
def Obligations.PanelWorkCompletes : Prop :=
  (∀ (s : State) (o : Origin) (row pos : Nat) (x : String), let cmd : Instr := .disp o row pos x
    let w := workDisp o row pos x s
    let t := s.taken o cmd w.stn
    s.offers o w → (t.dispErr row pos x = none) →
    exec cmd s = .next (s.done o cmd w.stn fun t => t.putGlyphs .PNL_DRAW_SEG row pos (t.glyphs x.toList [] false))) ∧
  (∀ (s : State) (o : Origin) (row pos : Nat) (x : String), let cmd : Instr := .dispFault o row pos x
    let w := workDispFault o row pos x s
    let t := s.taken o cmd w.stn
    s.offers o w → (t.dispErr row pos x = none) →
    exec cmd s = .next (s.done o cmd w.stn fun t => t.putGlyphs .PNL_DFLT_SEG row pos (t.glyphs x.toList [] false))) ∧
  (∀ (s : State) (o : Origin) (b : Bool), let cmd : Instr := .dispClear o b
    let w := workDispClear o b s
    s.offers o w →
    exec cmd s = .next (s.done o cmd w.stn fun t => forAll (List.range 24) t fun s g => s.setFld (if b then .PNL_DFLT_SEG else .PNL_DRAW_SEG) g 0 0)) ∧
  (∀ (s : State) (o : Origin) (x : String), let cmd : Instr := .dispChr o x
    let w := workDispChr o x s
    s.offers o w → ((charCodes x).isEmpty = false) →
    exec cmd s = .next (s.runs o cmd w.stn (fun key t => (t.setPanel fun p => { p with chWait := p.chWait ++ chrBytes key true (charCodes x) }).chrFill))) ∧
  (∀ (s : State) (o : Origin) (x : Nat), let cmd : Instr := .dispChrCmd o x
    let w := workDispChrCmd o x s
    s.offers o w → (x < 256) →
    exec cmd s = .next (s.runs o cmd w.stn (fun key t => (t.setPanel fun p => { p with chWait := p.chWait ++ chrBytes key false [x] }).chrFill))) ∧
  (∀ (s : State) (o : Origin)  (sets : List FieldSet), let cmd : Instr := .panelScan o sets
    let w := workPanelScan o sets s
    let t := s.taken o cmd w.stn
    s.offers o w → (t.setsErr 0 sets (fun _ => none) = none) →
    exec cmd s = .next (s.done o cmd w.stn fun t => t.putSets 0 sets)) ∧
  (∀ (s : State) (o : Origin)  (sets : List FieldSet), let cmd : Instr := .panelRepeat o sets
    let w := workPanelRepeat o sets s
    let t := s.taken o cmd w.stn
    s.offers o w → (t.setsErr 0 sets (fun _ => none) = none) →
    exec cmd s = .next (s.done o cmd w.stn fun t => t.putSets 0 sets)) ∧
  (∀ (s : State) (o : Origin) (k : Nat) (b : Bool), let cmd : Instr := .panelKey o k b
    let w := workPanelKey o k b s
    s.offers o w → (k < 256) →
    exec cmd s = .next (s.done o cmd w.stn fun t => t.setFld .PNL_KRPT_RPT (k / 32) 0 (bitTo (t.fld .PNL_KRPT_RPT (k / 32)) (k % 32) b))) ∧
  (∀ (s : State) (o : Origin) (n : Fin 2) (sets : List FieldSet), let cmd : Instr := .panelCombo o n sets
    let w := workPanelCombo o n sets s
    let t := s.taken o cmd w.stn
    s.offers o w → (t.setsErr n sets (fun t => if t.fld .PNL_COMBO_KA n = t.fld .PNL_COMBO_KB n then some 513 else none) = none) →
    exec cmd s = .next (s.done o cmd w.stn fun t => t.putSets n sets)) ∧
  (∀ (s : State) (o : Origin) (i : Fin 16) (sets : List FieldSet), let cmd : Instr := .panelAction o i sets
    let w := workPanelAction o i sets s
    let t := s.taken o cmd w.stn
    s.offers o w → (t.setsErr i sets (fun t => t.panelCombErr .PNL_KACT i) = none) →
    exec cmd s = .next (s.done o cmd w.stn fun t => t.putSets i sets)) ∧
  (∀ (s : State) (o : Origin)  (sets : List FieldSet), let cmd : Instr := .panelOwner o sets
    let w := workPanelOwner o sets s
    let t := s.taken o cmd w.stn
    s.offers o w → (t.setsErr 0 sets (fun _ => none) = none) →
    exec cmd s = .next (s.done o cmd w.stn fun t => t.putSets 0 sets)) ∧
  (∀ (s : State) (o : Origin)  (sets : List FieldSet), let cmd : Instr := .panelDisplay o sets
    let w := workPanelDisplay o sets s
    let t := s.taken o cmd w.stn
    s.offers o w → (t.setsErr 0 sets (fun t => t.panelCombErr .PNL_DCFG 0) = none) →
    exec cmd s = .next (s.done o cmd w.stn fun t => t.putSets 0 sets)) ∧
  (∀ (s : State) (o : Origin) (x : Char) (sets : List FieldSet), let cmd : Instr := .panelFont o x sets
    let w := workPanelFont o x sets s
    let t := s.taken o cmd w.stn
    s.offers o w → (t.setsErr (x.toNat - 0x20) sets (fun _ => if 0x20 ≤ x.toNat ∧ x.toNat ≤ 0x7E then none else some 511) = none) →
    exec cmd s = .next (s.done o cmd w.stn fun t => t.putSets (x.toNat - 0x20) sets)) ∧
  (∀ (s : State) (o : Origin)  (sets : List FieldSet), let cmd : Instr := .panelChar o sets
    let w := workPanelChar o sets s
    let t := s.taken o cmd w.stn
    s.offers o w → (t.setsErr 0 sets (fun _ => none) = none) →
    exec cmd s = .next (s.done o cmd w.stn fun t => t.putSets 0 sets))

/-- A candidate of the work items of field pins that is offered as R61 and R62 require, and whose state checks pass, is
accepted, answered and executed at once, with the effect that the rules give it. Commands: `fio`, `fioOut`, `fioClear`,
`fioAin`. -/
def Obligations.PinWorkCompletes : Prop :=
  (∀ (s : State) (o : Origin) (n m : Nat) (sets : List FieldSet), let cmd : Instr := .fio o n m sets
    let w := workFio o n m sets s
    let t := s.taken o cmd w.stn
    s.offers o w → (t.fioErr n m sets = none) →
    exec cmd s = .next (s.done o cmd w.stn fun t => (pinRange n m).foldl (fun t k => t.nextTickSets k sets) t)) ∧
  (∀ (s : State) (o : Origin) (n : Nat) (b : Bool), let cmd : Instr := .fioOut o n b
    let w := workFioOut o n b s
    let t := s.taken o cmd w.stn
    s.offers o w → (t.fioOutErr n = none) →
    exec cmd s = .next (s.done o cmd w.stn fun t => t.foutWrite (t.pinStn n) n b)) ∧
  (∀ (s : State) (o : Origin) (n : Nat) (u : State), let cmd : Instr := .fioClear o n
    let w := workFioClear o n s
    let t := s.taken o cmd w.stn
    s.offers o w → (t.clearPinChecked n = (none, u)) →
    exec cmd s = .next (s.done o cmd w.stn fun t => u)) ∧
  (∀ (s : State) (o : Origin) (i : Nat) (sets : List FieldSet), let cmd : Instr := .fioAin o i sets
    let w := workFioAin o i sets s
    let t := s.taken o cmd w.stn
    s.offers o w → (t.setsErr i sets (fun _ => none) = none) →
    exec cmd s = .next (s.done o cmd w.stn fun t => t.ainApply i sets))

/-- A candidate of the work items of the Ohmid link that is offered as R61 and R62 require, and whose state checks pass, is
accepted, answered and executed at once, with the effect that the rules give it. Commands: `peer`, `peerMask`, `linkCfg`,
`linkClear`, `linkPortRate`, `linkRestart`, `linkAuth`, `linkMirror`. -/
def Obligations.LinkWorkCompletes : Prop :=
  (∀ (s : State) (o : Origin) (d : Fin 8) (x : String), let cmd : Instr := .peer o d x
    let w := workPeer o d x s
    let t := s.taken o cmd w.stn
    s.offers o w → (t.txnOf (s.candKey o) = none) →
    exec cmd s = .next (s.runs o cmd w.stn (fun key t => t.startTxn (some key) o d x .sent))) ∧
  (∀ (s : State) (o : Origin) (m : Nat) (x : String), let cmd : Instr := .peerMask o m x
    let w := workPeerMask o m x s
    let t := s.taken o cmd w.stn
    s.offers o w → (t.mcOf (s.candKey o) = none) →
    exec cmd s = .next (s.runs o cmd w.stn (fun key t => t.startMc key o m x))) ∧
  (∀ (s : State) (o : Origin)  (sets : List FieldSet), let cmd : Instr := .linkCfg o sets
    let w := workLinkCfg o sets s
    let t := s.taken o cmd w.stn
    s.offers o w → (t.setsErr 0 sets (fun t => t.linkTimingErr) = none) →
    exec cmd s = .next (s.done o cmd w.stn fun t => t.putSets 0 sets)) ∧
  (∀ (s : State) (o : Origin) (p : Fin 2), let cmd : Instr := .linkClear o p
    let w := workLinkClear o p s
    s.offers o w →
    exec cmd s = .next (s.done o cmd w.stn fun t => if t.fld .OLK_PSTAT_STATE p = 3 then t.setFld .OLK_PSTAT_STATE p 0 1 else t)) ∧
  (∀ (s : State) (o : Origin) (p : Fin 2) (b : Bool), let cmd : Instr := .linkPortRate o p b
    let w := workLinkPortRate o p b s
    s.offers o w →
    exec cmd s = .next (s.done o cmd w.stn fun t =>
      let u := t.setFlag .OLK_PSTAT_LOW p 0 b
      if u.fld .OLK_PSTAT_STATE p = 3 then u else u.segmentDown p 1)) ∧
  (∀ (s : State) (o : Origin) (d : Fin 8), let cmd : Instr := .linkRestart o d
    let w := workLinkRestart o d s
    let t := s.taken o cmd w.stn
    s.offers o w → (t.txnOf (s.candKey o) = none) →
    exec cmd s = .next (s.runs o cmd w.stn (fun key t => t.startTxn (some key) o d "" .sent))) ∧
  (∀ (s : State) (o : Origin) (d : Fin 8) (x : Nat) (b : Bool), let cmd : Instr := .linkAuth o d x b
    let w := workLinkAuth o d x b s
    s.offers o w →
    exec cmd s = .next (s.done o cmd w.stn fun t => (t.setFld .OLK_PAUTH_STN d 0 x).setFlag .OLK_PAUTH_BRD d 0 b)) ∧
  (∀ (s : State) (o : Origin) (x : Nat) (i : Option Nat), let cmd : Instr := .linkMirror o x i
    let w := workLinkMirror o x i s
    s.offers o w →
    exec cmd s = .next (s.done o cmd w.stn fun t =>
      let u := (t.setFld .OLK_MIRROR_OUT 0 0 x).setFlag .OLK_MIRROR_INEN 0 0 i.isSome
      match i with
      | some d => u.setFld .OLK_MIRROR_IN 0 0 d
      | none => u))

/-- A candidate of the work items of flash and images that is offered as R61 and R62 require, and whose state checks pass, is
accepted, answered and executed at once, with the effect that the rules give it. Commands: `flashErase`, `flashProg`,
`flashSuspend`, `flashResume`, `imagePolicy`, `imageKeySet`, `imageKeyRevoke`, `imageLock`, `imageStage`, `imageUnstage`. -/
def Obligations.StorageWorkCompletes : Prop :=
  (∀ (s : State) (o : Origin) (n : Nat), let cmd : Instr := .flashErase o n
    let w := workFlashErase o n s
    let t := s.taken o cmd w.stn
    s.offers o w → (t.flashEraseErr n = none) →
    exec cmd s = .next (s.runs o cmd w.stn (fun key t => t.flashItem key [⟨.erase, n, [], some key, true⟩]))) ∧
  (∀ (s : State) (o : Origin) (a : Nat) (ws : List Nat), let cmd : Instr := .flashProg o a ws
    let w := workFlashProg o a ws s
    let t := s.taken o cmd w.stn
    s.offers o w → (t.flashProgErr a ws = none) → ((t.flash.cut.contains (s.candKey o)) = false) → ((t.progLeft (s.candKey o) (granulesOf a ws)).any (fun g => !t.granErased g.1) = false) → ((t.progLeft (s.candKey o) (granulesOf a ws)).isEmpty = false) →
    exec cmd s = .next (s.runs o cmd w.stn (fun key t => t.flashQueue (progOps key (t.progLeft key (granulesOf a ws)))))) ∧
  (∀ (s : State) (o : Origin), let cmd : Instr := .flashSuspend o
    let w := workFlashSuspend o s
    s.offers o w →
    exec cmd s = .next (s.done o cmd w.stn fun t => t.flashSuspend)) ∧
  (∀ (s : State) (o : Origin), let cmd : Instr := .flashResume o
    let w := workFlashResume o s
    s.offers o w →
    exec cmd s = .next (s.done o cmd w.stn fun t => t.flashResumeOp)) ∧
  (∀ (s : State) (o : Origin) (sets : List FieldSet), let cmd : Instr := .imagePolicy o sets
    let w := workImagePolicy o sets s
    let t := s.taken o cmd w.stn
    s.offers o w → (t.wrErr (fieldWrites .CFG_POLICY 0 0 (sets.map fun e => (e.fld, e.val))) = none) →
    exec cmd s = .next (s.done o cmd w.stn fun t => (t.putWr (fieldWrites .CFG_POLICY 0 0 (sets.map fun e => (e.fld, e.val)))).noteWr (fieldWrites .CFG_POLICY 0 0 (sets.map fun e => (e.fld, e.val))))) ∧
  (∀ (s : State) (o : Origin) (k : Fin 4) (x : Nat), let cmd : Instr := .imageKeySet o k x
    let w := workImageKeySet o k x s
    let t := s.taken o cmd w.stn
    s.offers o w → (t.keySetErr k = none) →
    exec cmd s = .next (s.done o cmd w.stn fun t =>
      let u : State := { t with boot := { t.boot with keys := t.boot.keys.set k (x % 2 ^ 256) } }
      (u.setFld .CFG_KEY_STATE k 0 1).setFld .CFG_KFP_FP k 0 (fingerprint (x % 2 ^ 256)))) ∧
  (∀ (s : State) (o : Origin) (k : Fin 4), let cmd : Instr := .imageKeyRevoke o k
    let w := workImageKeyRevoke o k s
    let t := s.taken o cmd w.stn
    s.offers o w → (t.revokeErr k = none) →
    exec cmd s = .next (s.done o cmd w.stn fun t => (t.setFld .CFG_KEY_STATE k 0 2).setFld .CFG_KFP_FP k 0 0)) ∧
  (∀ (s : State) (o : Origin), let cmd : Instr := .imageLock o
    let w := workImageLock o s
    let t := s.taken o cmd w.stn
    s.offers o w → (t.lockErr = none) →
    exec cmd s = .next (s.done o cmd w.stn fun t => t.setFlag .CFG_STAT_DEVALLOW 0 0 false)) ∧
  (∀ (s : State) (o : Origin) (n : Nat) (slot : Option (Fin 2)) (u : State) (r : Nat), let cmd : Instr := .imageStage o n slot
    let w := workImageStage o n slot s
    let t := s.taken o cmd w.stn
    s.offers o w → (t.stage n slot = (.ok u, r)) →
    exec cmd s = .next (s.done o cmd w.stn fun t => u)) ∧
  (∀ (s : State) (o : Origin) (n : Nat), let cmd : Instr := .imageUnstage o n
    let w := workImageUnstage o n s
    let t := s.taken o cmd w.stn
    s.offers o w → (t.unstageErr n = none) →
    exec cmd s = .next (s.done o cmd w.stn fun t => ({ t with staged := t.staged.filter fun g => g.serial != n } : State).showStaged))

/-- A candidate of the work items of power domains that is offered as R61 and R62 require, and whose state checks pass, is
accepted, answered and executed at once, with the effect that the rules give it. Commands: `pwrStnIdle`, `pwrStnOn`, `pwrObs`,
`pwrWdt`, `pwrHoldmin`. -/
def Obligations.PowerWorkCompletes : Prop :=
  (∀ (s : State) (o : Origin) (k : Fin 4) (sets : List FieldSet), let cmd : Instr := .pwrStnIdle o k sets
    let w := workPwrStnIdle o k sets s
    let t := s.taken o cmd w.stn
    s.offers o w → (t.wrErr (fieldWrites .PWR_IDLE k 0 (sets.map fun e => (e.fld, e.val))) = none) →
    exec cmd s = .next (s.done o cmd w.stn fun t => t.setSettings (fieldWrites .PWR_IDLE k 0 (sets.map fun e => (e.fld, e.val))))) ∧
  (∀ (s : State) (o : Origin) (k : Fin 4), let cmd : Instr := .pwrStnOn o k
    let w := workPwrStnOn o k s
    let t := s.taken o cmd w.stn
    s.offers o w → (t.fld .PWR_IDLE_NOW k = 0) →
    exec cmd s = .next (s.done o cmd w.stn fun t => t)) ∧
  (∀ (s : State) (o : Origin) (k : Fin 4), let cmd : Instr := .pwrStnOn o k
    let w := workPwrStnOn o k s
    let t := s.taken o cmd w.stn
    s.offers o w → (t.fld .PWR_IDLE_NOW k = 2) →
    exec cmd s = .next (s.runs o cmd w.stn (fun key t => (setPwr t fun p => { p with wake := p.wake.set k (p.wake[k] ++ [key]) }).wakeStation k))) ∧
  (∀ (s : State) (o : Origin) (b : Bool), let cmd : Instr := .pwrObs o b
    let w := workPwrObs o b s
    s.offers o w →
    exec cmd s = .next (s.done o cmd w.stn fun t => { t with tickSet := t.tickSet ++ [⟨.PWR_DOM_OBSEN, 0, 0, b2n b⟩] })) ∧
  (∀ (s : State) (o : Origin) (b : Bool) (per : Option Nat), let cmd : Instr := .pwrWdt o b per
    let w := workPwrWdt o b per s
    let t := s.taken o cmd w.stn
    s.offers o w → (t.wrErr (wdtWrite b per) = none) →
    exec cmd s = .next (s.done o cmd w.stn fun t => t.wrApply (.line o) (wdtWrite b per))) ∧
  (∀ (s : State) (o : Origin) (c : Int), let cmd : Instr := .pwrHoldmin o c
    let w := workPwrHoldmin o c s
    let t := s.taken o cmd w.stn
    s.offers o w → (t.wrErr (fieldWrites .PWR_HOLDC 0 0 [(.PWR_HOLDC_HOLDMIN, c)]) = none) →
    exec cmd s = .next (s.done o cmd w.stn fun t => t.wrApply (.line o) (fieldWrites .PWR_HOLDC 0 0 [(.PWR_HOLDC_HOLDMIN, c)])))

/-- A candidate of the work items of observation and trace that is offered as R61 and R62 require, and whose state checks pass,
is accepted, answered and executed at once, with the effect that the rules give it. Commands: `obsClear`, `obsProbe`,
`obsWatch`, `trace`, `skim`, `skimStart`, `skimStop`, `freeze`, `freezeOff`. -/
def Obligations.ObservationWorkCompletes : Prop :=
  (∀ (s : State) (o : Origin) (sc : ObsScope), let cmd : Instr := .obsClear o (some sc)
    let w := workObsClear o (some sc) s
    let t := s.taken o cmd w.stn
    s.offers o w → (t.obsErr = none) →
    exec cmd s = .next (s.done o cmd w.stn fun t => t.obsClear sc)) ∧
  (∀ (s : State) (o : Origin) (n : Nat) (sets : List FieldSet), let cmd : Instr := .obsProbe o n sets
    let w := workObsProbe o n sets s
    let t := s.taken o cmd w.stn
    s.offers o w → ((t.obsErr).or (t.setsErr n sets (fun _ => none)) = none) →
    exec cmd s = .next (s.done o cmd w.stn fun t => t.putSets n sets)) ∧
  (∀ (s : State) (o : Origin) (n : Nat) (sets : List FieldSet), let cmd : Instr := .obsWatch o n sets
    let w := workObsWatch o n sets s
    let t := s.taken o cmd w.stn
    s.offers o w → ((t.obsErr).or (t.setsErr n sets (fun t => if t.fld .OBS_WPHI_ADDR n < t.fld .OBS_WPLO_ADDR n then some 513 else none)) = none) →
    exec cmd s = .next (s.done o cmd w.stn fun t => t.putSets n sets)) ∧
  (∀ (s : State) (o : Origin) (sets : List FieldSet), let cmd : Instr := .trace o sets
    let w := workTrace o sets s
    let t := s.taken o cmd w.stn
    s.offers o w → ((t.obsErr).or (t.setsErr 0 sets fun _ => none) = none) →
    exec cmd s = .next (s.done o cmd w.stn fun t => t.traceApply sets)) ∧
  (∀ (s : State) (o : Origin) (k d i : Nat), let cmd : Instr := .skim o k (some d) (some i)
    let w := workSkim o k (some d) (some i) s
    let t := s.taken o cmd w.stn
    s.offers o w → ((t.obsErr).or (t.skimErr (t.originAuth o) k d i) = none) →
    exec cmd s = .next (s.done o cmd w.stn fun t => t.skimSet k d i)) ∧
  (∀ (s : State) (o : Origin) (l : List Nat), let cmd : Instr := .skimStart o none l
    let w := workSkimStart o none l s
    let t := s.taken o cmd w.stn
    s.offers o w → (t.obsErr = none) →
    exec cmd s = .next (s.done o cmd w.stn fun t => t.setObs fun x => { x with
        skStart := (x.skStart.filter fun k => !l.contains k) ++ l
        skNt := Vector.ofFn fun (k : Fin 16) => if l.contains k.val then none else x.skNt[k] })) ∧
  (∀ (s : State) (o : Origin) (l : List Nat), let cmd : Instr := .skimStop o l
    let w := workSkimStop o l s
    let t := s.taken o cmd w.stn
    s.offers o w → (t.obsErr = none) →
    exec cmd s = .next (s.done o cmd w.stn fun t => forAll l (t.setObs fun x => { x with skStart := x.skStart.filter fun k => !l.contains k }) fun s k => s.setFlag .OBS_SKCFG_RUN k 0 false)) ∧
  (∀ (s : State) (o : Origin), let cmd : Instr := .freeze o
    let w := workFreeze o s
    let t := s.taken o cmd w.stn
    s.offers o w → (t.obsErr = none) →
    exec cmd s = .next (s.done o cmd w.stn fun t => t.obsFreeze 2 0)) ∧
  (∀ (s : State) (o : Origin), let cmd : Instr := .freezeOff o
    let w := workFreezeOff o s
    let t := s.taken o cmd w.stn
    s.offers o w → (t.obsErr = none) →
    exec cmd s = .next (s.done o cmd w.stn fun t => t.obsRelease))

/-- A query of the session, identity, time, registers, work and events that is taken and permitted is answered with its data
lines and OK. Commands: `auth`, `authOff`, `authQuery`, `stnSelect`, `stnQuery`, `idQuery`, `timeQuery`, `regQuery`, `wsnQuery`,
`outcomeQuery`, `jrnQuery`, `jrnSourcesQuery`, `policyQuery`, `ringQuery`, `eventQuery`. -/
def Obligations.GeneralQueriesAnswer : Prop :=
  (∀ (s : State) (o : Origin) (key : Nat) (p : Fin 2), (s.takes o) → (sessionPort o = some p) → (s.authLocked p = false) → ((s.matching key).any = true) →
    exec (.auth o key) s = .next (((s.setSess p fun x => { x with own := ⟨Vector.ofFn fun k => x.own.stn[k] || (s.matching key).stn[k], x.own.brd || (s.matching key).brd⟩, fails := 0, lock := none }).told o []))) ∧
  (∀ (s : State) (o : Origin) (p : Fin 2), (s.takes o) → (sessionPort o = some p) →
    exec (.authOff o) s = .next (((s.setSess p fun x => { x with own := noAuth }).skipUnseen p).told o [])) ∧
  (∀ (s : State) (o : Origin) (p : Fin 2), (s.takes o) → (sessionPort o = some p) →
    exec (.authQuery o) s = .next ((s.told o [.s "AUTH" ::
      (let ws := (if (s.originAuth o).brd then ["BOARD"] else [])
        ++ (List.finRange 4).filterMap (fun (k : Fin 4) =>
          if (s.originAuth o).stn[k] && s.configured k then some ("S" ++ natText k.val) else none)
      if ws.isEmpty then [.s "NONE"] else ws.map .s)]))) ∧
  (∀ (s : State) (o : Origin) (k : Fin 4) (p : Fin 2), (s.takes o) → (sessionPort o = some p) → (s.configured k = true) → ((s.sessAuth p).stn[k] = true) →
    exec (.stnSelect o k) s = .next ((s.setSess p fun x => { x with sel := k }).told o [])) ∧
  (∀ (s : State) (o : Origin) (p : Fin 2), (s.takes o) → (sessionPort o = some p) →
    exec (.stnQuery o) s = .next (s.told o [[.s "STN", .n (s.defStn o).val]])) ∧
  (∀ (s : State) (o : Origin), (s.takes o) →
    exec (.idQuery o) s = .next (s.told o [[.s "FOSHAHOLT IX-6240 REV C", .w8 s.conf.serial]])) ∧
  (∀ (s : State) (o : Origin), (s.takes o) →
    exec (.timeQuery o) s = .next (s.told o [[.s "FTC", .h64 s.clk.now], [.s "TICK", .h64 s.clk.tick],
      [.s "RATE", .n (s.fld .LAT_CTRL_RATE), .s "REFOK", .n (s.fld .TC_STATUS_REFOK), .s "SYNCED",
        .n (s.fld .TC_STATUS_SYNCED), .s "COARSE", .n (s.fld .TC_STATUS_COARSE)],
      [.s "RTC", .s (match s.rtcNow with
        | some d => dateText d
        | none => "UNSET")]])) ∧
  (∀ (s : State) (o : Origin) (x : RegTarget) (r : Reg) (i j : Nat) (f : Fld) (u : State), (s.takes o) → (u = (match sessionPort o with | some p => s.settleRegs p | none => s)) → (u.takes o) → (regPl x = .reg r i j (some f)) → (u.mayRead (u.originAuth o) r i = true) →
    exec (.regQuery o x 1) s = .next (((u.regRead r i j).2.told o [[.s (regText r i j ++ "." ++ fldText' f), .n (fldIn (u.regRead r i j).1 f)]]))) ∧
  (∀ (s : State) (o : Origin) (x : RegTarget) (r : Reg) (i j n : Nat) (u : State), (s.takes o) → (u = (match sessionPort o with | some p => s.settleRegs p | none => s)) → (u.takes o) → (regPl x = .reg r i j none) → (1 ≤ n ∧ n ≤ 16 ∧ regAddr r i j + 4 * n ≤ 0x40190000) → (((List.range n).all fun k => u.mayReadAt (u.originAuth o) (regAddr r i j + 4 * k)) = true) →
    exec (.regQuery o x n) s = .next ((u.wordLines (regAddr r i j) n).2.told o (u.wordLines (regAddr r i j) n).1)) ∧
  (∀ (s : State) (o : Origin) (src : Option Nat), (s.takes o) → (usedSource (src.getD (s.srcNo o).val) = true) → ((s.ownSource o (src.getD (s.srcNo o).val) || (s.originAuth o).brd) = true) →
    exec (.wsnQuery o src) s = .next (s.told o [sourceLine s (src.getD (s.srcNo o).val)])) ∧
  (∀ (s : State) (o : Origin) (x : Nat) (src ser : Option Nat) (n : Nat), (s.takes o) → (1 ≤ x ∧ x ≤ 0xFFFFFFFF ∧ 1 ≤ n ∧ n ≤ 32) → (usedSource (src.getD (s.srcNo o).val) = true) → ((s.ownSource o (src.getD (s.srcNo o).val) || (s.originAuth o).brd) = true) →
    exec (.outcomeQuery o x src ser n) s = .next ((let m := src.getD (s.srcNo o).val
      s.told o ((List.range n).map fun k => outcomeLine s ⟨m, ser.getD (s.source m).ser, x + k⟩)))) ∧
  (∀ (s : State) (o : Origin), (s.takes o) → ((s.originAuth o).any = true) →
    exec (.jrnQuery o) s = .next (s.told o [[.s "HALF A", .s (okFailed (s.flag .JRN_STAT_AFAIL))], [.s "HALF B", .s (okFailed (s.flag .JRN_STAT_BFAIL))],
      [.s "FILL", .n (s.fld .JRN_STAT_FILL)], [.s "QUEUE", .n (s.jrn.queue.filter QEnt.isRec).length],
      [.s "WEAR", .n (s.fld .JRN_WEAR_WEAR / 100)]])) ∧
  (∀ (s : State) (o : Origin), (s.takes o) → ((s.originAuth o).brd = true) →
    exec (.jrnSourcesQuery o) s = .next (s.told o (((List.range 24).filter usedSource).map (sourceLine s)))) ∧
  (∀ (s : State) (o : Origin) (t : PolicyTarget) (i j : Nat), (s.takes o) → (policyPre t i j = none) → (((policyRange t i j).all fun k => s.policyMay (s.originAuth o) t k) = true) →
    exec (.policyQuery o t i j) s = .next (s.told o ((policyRange t i j).map fun k => .s (policyName t) :: (if (policyFld t).2 = 1 then [] else [.n k])
        ++ [.s (policyModeName (s.fld (policyFld t).1 k))]))) ∧
  (∀ (s : State) (o : Origin) (r : Fin 16), (s.takes o) → ((s.originAuth o).any = true) →
    exec (.ringQuery o (some r)) s = .next (s.told o [ringLine s r])) ∧
  (∀ (s : State) (o : Origin), (s.takes o) → ((s.originAuth o).any = true) →
    exec (.ringQuery o none) s = .next (s.told o ((List.range 16).map (ringLine s)))) ∧
  (∀ (s : State) (o : Origin) (c : EvClass) (frm : Option Nat) (n : Nat), (s.takes o) → (1 ≤ n ∧ n ≤ 32 ∧ frm ≠ some 0) →
    exec (.eventQuery o c frm n) s = .next (s.told o ((((s.ev.q[classNo c]).filter fun r => visible (s.originAuth o) r && (match frm with
        | none => true
        | some f => seqLe f r.seq)).take n).map fun r => [.s (evText r)] ++ (if r.ack then [.s "ACK"] else []))))

/-- A query of programs, motion, servo, decimals, cores and regions that is taken and permitted is answered with its data lines
and OK. Commands: `progQuery`, `tapeQuery`, `ovrQuery`, `limitQuery`, `stateQuery`, `servoQuery`, `compQuery`, `calcQuery`,
`decQuery`, `coreQuery`, `regionQuery`. -/
def Obligations.ProcessQueriesAnswer : Prop :=
  (∀ (s : State) (o : Origin) (frm : Option Nat) (n : Nat), (s.takes o) → (s.anyAuth o = true) →
    exec (.progQuery o none frm n) s = .next (s.told o (s.progs.map fun g => [.s "PROG", .n g.no, .s "BLOCKS", .n g.blocks.length,
        .s (if g.closed then "CLOSED" else "OPEN")] ++ (if g.title.isEmpty then [] else [.s g.title])))) ∧
  (∀ (s : State) (o : Origin) (p f n : Nat) (g : Prog), (s.takes o) → (s.anyAuth o = true) → (progPre p = none) → (1 ≤ n ∧ n ≤ 32 ∧ 1 ≤ f) → (s.findProg p = some g) → (s.storeErr g = none) → (f ≤ g.blocks.length) →
    exec (.progQuery o (some p) (some f) n) s = .next (s.told o (((g.blocks.drop (f - 1)).take n).zipIdx.map fun (b, i) => [.s "BLK", .n (f + i), .s b]))) ∧
  (∀ (s : State) (o : Origin), (s.takes o) → (s.anyAuth o = true) →
    exec (.tapeQuery o) s = .next (s.told o [[.s "TAPE", .s (tapeStateName s), .s "CODE",
      .s (match s.fld .SER_TAPE_DET with
        | 1 => "ISO"
        | 2 => "EIA"
        | _ => "NONE"), .s "LAST", .n s.tape.count]])) ∧
  (∀ (s : State) (o : Origin) (k : Option (Fin 4)), (s.takes o) → (s.stnErr (s.argStn o k) = none) → (s.hasAuth o (s.argStn o k) = true) →
    exec (.ovrQuery o k) s = .next (s.told o [[.s "OVR", .s "FEED", .n (s.overrides (s.argStn o k)).1, .s "RAPID", .n (s.overrides (s.argStn o k)).2.1, .s "SPINDLE",
      .n (s.overrides (s.argStn o k)).2.2, .s "SRC", .n (s.fld .MOT_OVR_SRC (s.argStn o k))]])) ∧
  (∀ (s : State) (o : Origin) (a : Fin 12) (k : Fin 4), (s.takes o) → (s.axisPermit o a = true) → (s.axisStation a = some k) →
    exec (.limitQuery o true a) s = .next ((let q := s.axisQ k a
      s.told o [[.s "LIMIT AXIS", .n a, .s "VMAX", .d (quantaDec q (s.fld .MOT_VMAX_VMAX a)),
          .s "VRAPID", .d (quantaDec q (s.fld .MOT_VRAP_VRAPID a)), .s "AMAX", .d (quantaDec q (s.fld .MOT_AMAX_AMAX a)),
          .s "JMAX", .d (quantaDec q (1000 * s.fld .MOT_JMAX_JMAX a)), .s "JOGF", .d (quantaDec q (s.fld .MOT_JOGF_JOGF a)),
          .s "LO", .d (quantaDec q (s.fldInt .MOT_SLO_LO a)), .s "HI", .d (quantaDec q (s.fldInt .MOT_SHI_HI a)),
          .s "SLEN", .s (onOff (s.flag .MOT_AXCTL_SLEN a))]]))) ∧
  (∀ (s : State) (o : Origin) (k : Fin 4), (s.takes o) → (s.stnErr k = none) → (s.hasAuth o k = true) →
    exec (.limitQuery o false k) s = .next ((let q := s.qlin k
      s.told o [[.s "LIMIT STN", .n k, .s "HOLDT", .n (s.fld .MOT_HOLDT_HOLDT k), .s "RTOL",
        .d (quantaDec q (s.fld .MOT_RTOL_RTOL k)), .s "APPF", .d (quantaDec q (s.fld .MOT_APPF_APPF k)), .s "CDV",
        .d (quantaDec q (s.fld .MOT_CDV_CDV k)), .s "ENDLY", .n (s.fld .MOT_SCFG_ENDLY k), .s "BLEND",
        .s (onOff (s.flag .MOT_SCFG_BLEND k))]]))) ∧
  (∀ (s : State) (o : Origin) (k : Option (Fin 4)), (s.takes o) → (s.stnErr (s.argStn o k) = none) → (s.hasAuth o (s.argStn o k) = true) →
    exec (.stateQuery o k) s = .next ((let k := s.argStn o k
      let b : Nat × Nat × Nat := match (s.mot[k]).win with
        | b :: _ => (b.prog, b.blk, b.sub)
        | [] => (0, 0, 0)
      s.told o ([.s "STATE", .n k.val, .s (stateName (s.stnState k)), .s "DRV", .s (onOff (s.flag .MOT_STATE_DRVON k)),
          .s "VEL", .d (quantaDec (s.qlin k) (s.pathVel k)), .s "PROG", .n b.1, .s "BLK", .n b.2.1, .s "SUB", .n b.2.2]
        :: (s.axesOf k).map fun (a : Fin 12) => [.s "AXIS", .n a.val, .s "CMD", .d (ssuDec (s.axisQ k a) (s.axis[a]).sp), .s "ACT",
          .d (ssuDec (s.axisQ k a) (s.axis[a]).pos), .s "FE", .d (ssuDec (s.axisQ k a) ((s.axis[a]).sp - (s.axis[a]).pos))])))) ∧
  (∀ (s : State) (o : Origin) (a : Fin 12) (k : Fin 4), (s.takes o) → (s.axisPermit o a = true) → (s.axisStation a = some k) →
    exec (.servoQuery o a) s = .next ((let x := s.axis[a]
      s.told o ([[.s "SERVO", .n a] ++ servoNames.flatMap fun (n, f) => [.s n, .n ((x.gain.get f).getD (s.fldVal f (s.servoIdx f a)))]]
        ++ (if s.flag .SRV_STAT_PEND a then
          [.s "SHADOW" :: servoNames.flatMap fun (n, f) => if isGain f then [.s n, .n (s.fldVal f (s.servoIdx f a))] else []] else [])
        ++ [[.s "FB POS", .d (ssuDec (s.axisQ k a) x.pos), .s "FE", .d (ssuDec (s.axisQ k a) (x.sp - x.pos)), .s "STAT",
          .s (String.ofList (hexDigits 2 (s.reg .SRV_STAT a 0).toNat))]])))) ∧
  (∀ (s : State) (o : Origin) (a : Fin 12) (frm n : Nat), (s.takes o) → (1 ≤ n ∧ n ≤ 32 ∧ frm ≤ 127) → (s.axisPermit o a = true) → ((s.axisStation a).isNone = false) →
    exec (.compQuery o a frm n) s = .next (s.told o (([.s "COMP", .n a] ++ compNames.flatMap fun (n, f) =>
          [.s n, if f = .SRV_COMP_SCEN ∨ f = .SRV_COMP_BKEN then .s (onOff (s.flag f a)) else .n (s.fldVal f a)])
        :: (((List.range n).map (frm + ·)).filter fun (i : Nat) => decide (i < s.fld .SRV_COMP_N a)).map fun (i : Nat) =>
          [.s "PT", .n i, .n (s.fldInt .SRV_CPT_V a i)]))) ∧
  (∀ (s : State) (o : Origin) (x : String) (rm : Nat) (deg : Bool) (l : List ETok), (s.takes o) → (readExpr x = .ok l) → (rm ≤ 4) →
    exec (.calcQuery o x rm deg) s = .next ((let r := evalExpr rm deg l
      let u := s.bumpWrap .DEC_ISSUED_N 0 0 r.2.2
      let u := match sessionPort o with
        | some p => u.setFld .DEC_SFLAGS_FLAGS (22 + p.val) 0 (u.fld .DEC_SFLAGS_FLAGS (22 + p.val) ||| r.2.1)
        | none => u
      u.told o [[.s (decText (decodeDec (r.1.headD 0)))], .s "FLAGS" :: (flagNames r.2.1).map .s]))) ∧
  (∀ (s : State) (o : Origin), (s.takes o) → ((s.originAuth o).any = true) →
    exec (.decQuery o) s = .next (s.told o [[.s "DEC", .s "WIN", .n (s.fld .DEC_STAT_WIN), .s "HWM", .n (s.fld .DEC_STAT_HWM), .s "ISSUED",
      .n (s.fld .DEC_ISSUED_N), .s "RETRY", .n (s.fld .DEC_CHKS_RETRY), .s "CHKFAIL", .n (s.fld .DEC_CHKS_CHKFAIL)]])) ∧
  (∀ (s : State) (o : Origin) (c : Nat), (s.takes o) → (corePre c = none) → ((s.originAuth o).any = true) →
    exec (.coreQuery o (some c)) s = .next ((s.coreLine c).2.told o [(s.coreLine c).1])) ∧
  (∀ (s : State) (o : Origin), (s.takes o) → ((s.originAuth o).any = true) →
    exec (.coreQuery o none) s = .next ((let r := (List.range 6).foldl (fun (p : List (List Fd) × State) c => (p.1 ++ [(p.2.coreLine c).1], (p.2.coreLine c).2)) ([], s)
      r.2.told o r.1))) ∧
  (∀ (s : State) (o : Origin) (r : Fin 8), (s.takes o) → ((s.originAuth o).any = true) →
    exec (.regionQuery o (some r)) s = .next (s.told o (([r.val]).map fun (q : Nat) => [.s "REGION", .n q, .s "STN", .s (stnName (s.rgnStn q)), .s "STATE",
      .s (regionStateName (s.fld .REB_RGN_STATE q)), .s "IMG", .n (s.fld .REB_RSER_IMG q), .s "SETTLE",
      .n (s.fld .REB_RGN_SETTLE q), .s "LOADS", .n (s.fld .REB_RLOAD_LOADS q)]))) ∧
  (∀ (s : State) (o : Origin), (s.takes o) → ((s.originAuth o).any = true) →
    exec (.regionQuery o none) s = .next (s.told o ((List.range 8).map fun (q : Nat) => [.s "REGION", .n q, .s "STN", .s (stnName (s.rgnStn q)), .s "STATE",
      .s (regionStateName (s.fld .REB_RGN_STATE q)), .s "IMG", .n (s.fld .REB_RSER_IMG q), .s "SETTLE",
      .n (s.fld .REB_RGN_SETTLE q), .s "LOADS", .n (s.fld .REB_RLOAD_LOADS q)])))

/-- A query of routes, converters, outputs, panel, pins, link, storage, images, power and observation that is taken and
permitted is answered with its data lines and OK. Commands: `xptQuery`, `adcQuery`, `filterQuery`, `dacQuery`, `excQuery`,
`panelQuery`, `fioQuery`, `linkQuery`, `linkTxnQuery`, `flashQuery`, `imageQuery`, `imageCheck`, `pwrQuery`, `traceRead`,
`snapQuery`, `obsEngQuery`, `obsRsvopQuery`, `obsProbeQuery`, `obsWatchQuery`, `traceQuery`, `skimQuery`, `peerQuery`. -/
def Obligations.UnitQueriesAnswer : Prop :=
  (∀ (s : State) (o : Origin) (k : Fin 216), (s.takes o) → (s.hasAuth o (s.sinkOwner k) = true) →
    exec (.xptQuery o (some k)) s = .next (s.told o [xptLine s k])) ∧
  (∀ (s : State) (o : Origin), (s.takes o) → ((s.originAuth o).any = true) →
    exec (.xptQuery o none) s = .next (s.told o ((s.routes.filter fun (e : Nat × Nat) => s.hasAuth o (s.sinkOwner e.1)).map fun (e : Nat × Nat) => xptLine s e.1))) ∧
  (∀ (s : State) (o : Origin) (c : Chan), (s.takes o) → (s.hasAuth o (s.chanStn c) = true) →
    exec (.adcQuery o (some c)) s = .next (s.told o [adcLine s c])) ∧
  (∀ (s : State) (o : Origin), (s.takes o) → ((s.originAuth o).any = true) →
    exec (.adcQuery o none) s = .next (s.told o (((List.range 24).filter fun (c : Nat) => s.hasAuth o (s.chanStn c)).map (adcLine s)))) ∧
  (∀ (s : State) (o : Origin) (n : Fin 16), (s.takes o) → (s.hasAuth o (s.chanStn n) = true) →
    exec (.filterQuery o n) s = .next ((let k := n.val / 2 * 2
      s.told o ([[.s "FILTER", .s (chanName n), .s "MODE", .s (filterModeName (s.fld .FCH_CFG_MODE n)), .s "RATE", .n (s.fchRate n), .s "DLY",
        .n (s.fchDly n), .s "VALID", .n (s.fld .ADC_PSTAT_VALID n), .s "BANK",
        .s (if s.flag .FCH_TAPS_ACTB n then "B" else "A"), .s "PEND", .n (s.fld .FCH_TAPS_PEND n)]]
      ++ (if s.fld .FCH_CFG_MODE n = modeResolver then
          [[.s "RES", .s "ANG", .n (s.fld .FCH_ANG_ANGLE k), .s "AMP", .n (s.fld .FCH_RAMP_A k), .s "PHADJ",
            .n (s.fldInt .FCH_RES_PHADJ k), .s "TRK", .n (trkHz (s.fld .FCH_RES_TRK k))]]
        else []))))) ∧
  (∀ (s : State) (o : Origin) (n : Fin 16), (s.takes o) → (s.dacPermit o n = true) →
    exec (.dacQuery o (some n)) s = .next (s.told o [dacLine s n])) ∧
  (∀ (s : State) (o : Origin), (s.takes o) → ((s.originAuth o).any = true) →
    exec (.dacQuery o none) s = .next (s.told o (((List.range 16).filter fun n => s.dacPermit o n).map (dacLine s)))) ∧
  (∀ (s : State) (o : Origin) (x : Fin 4), (s.takes o) → (s.excPermit o x = true) →
    exec (.excQuery o (some x)) s = .next (s.told o [excLine s x])) ∧
  (∀ (s : State) (o : Origin), (s.takes o) → ((s.originAuth o).any = true) →
    exec (.excQuery o none) s = .next (s.told o (((List.range 4).filter fun x => s.excPermit o x).map (excLine s)))) ∧
  (∀ (s : State) (o : Origin), (s.takes o) → ((s.originAuth o).any = true) →
    exec (.panelQuery o .queue) s = .next ((((s.setPanel fun p => { p with kq := [] }).setFld .PNL_KSTAT_QCOUNT 0 0 0).told o
      (s.panel.kq.map fun (e : Nat × Nat) => [.s "KQ", .n e.1, .s (kindName e.2)])))) ∧
  (∀ (s : State) (o : Origin), (s.takes o) → ((s.originAuth o).any = true) →
    exec (.panelQuery o .all) s = .next (s.told o [panelScanLine s, .s "KEYS" :: s.panel.down.map (fun (k : Nat) => .n k), panelDisplayLine s, panelCharLine s])) ∧
  (∀ (s : State) (o : Origin) (n m : Nat), (s.takes o) → (n ≤ m ∧ m ≤ 63) → (((pinRange n m).all fun (p : Nat) => if s.pinStn p = 7 then (s.originAuth o).any else (s.originAuth o).over (s.pinStn p)) = true) →
    exec (.fioQuery o (.pins (some (n, m)))) s = .next (s.told o ((pinRange n m).map (fioLine s)))) ∧
  (∀ (s : State) (o : Origin) (i : Nat), (s.takes o) → (i < 32) → (s.ainMay (s.originAuth o) i = true) →
    exec (.fioQuery o (.ain i)) s = .next (s.told o [ainLine s i])) ∧
  (∀ (s : State) (o : Origin) (x : Nat), (s.takes o) → (x < 8) → ((s.originAuth o).any = true) →
    exec (.fioQuery o (.group x)) s = .next (s.told o [groupLine s x])) ∧
  (∀ (s : State) (o : Origin), (s.takes o) → ((s.originAuth o).any = true) →
    exec (.linkQuery o) s = .next (s.told o ([.s "LINK", .s "ADDR", .n s.ownAddr, .s "MASTER", .n (s.fld .OLK_STAT_MASTER), .s "N", .n (s.fld .OLK_STAT_N),
        .s "PRESENT", .s (hexText 2 (s.fld .OLK_STAT_PRESENT)), .s "SYNCED", .n (s.fld .TC_STATUS_SYNCED), .s "OFS",
        .n (s.fldInt .OLK_SYNC_OFS)]
      :: ((List.range 2).map fun p =>
        [.s ("OL" ++ natText p), .s "STATE", .s (portName (s.fld .OLK_PSTAT_STATE p)), .s "RATE",
          .n (if s.flag .OLK_PSTAT_LOW p then 125 else 250), .s "PAUSED", .n (s.fld .OLK_PSTAT_PAUSED p), .s "RETRIES",
          .n (s.fld .OLK_PCNT_RETRIES p), .s "ERRS", .n (s.fld .OLK_PCNT_ERRS p)])))) ∧
  (∀ (s : State) (o : Origin) (x : Nat) (src : Option Nat) (i : Item) (d : Nat), (s.takes o) → (selErr x (src.getD (s.srcNo o).val) = none) → ((s.originAuth o).any = true) → (s.findItem (s.namedKey o x src none) = some i) → (i.cmd.bind peerDevices = some d) →
    exec (.linkTxnQuery o x src) s = .next ((let m := (s.txnMasks (s.namedKey o x src none)).getD (d, 0, 0, 0)
      s.told o [[.s "TXN", .s (wsnText (src.getD (s.srcNo o).val) x), .s "SRC", .n (src.getD (s.srcNo o).val), .s "STATE", .s (outName i.st), .s "MASK", .s (hexText 2 m.1),
          .s "VOTED", .s (hexText 2 m.2.1), .s "APPLIED", .s (hexText 2 m.2.2.1), .s "LATE", .s (hexText 2 m.2.2.2),
          .s "ERR", .n i.err]]))) ∧
  (∀ (s : State) (o : Origin), (s.takes o) → ((s.originAuth o).any = true) →
    exec (.flashQuery o none) s = .next (s.told o [[.s "FLASH", .s "BANK0", .s (if s.flashBankBad 0 then "FAILED" else "OK"), .s "BANK1", .s (if s.flashBankBad 1 then "FAILED" else "OK"), .s "OP",
      .s (flashOpName (s.fld .FLS_STAT_OP)), .s "SECTOR", .n (s.fld .FLS_STAT_SECT), .s "SUSP",
      .n (s.fld .FLS_STAT_SUSP), .s "QUAR", .n (s.fld .FLS_STAT_QUAR)]])) ∧
  (∀ (s : State) (o : Origin) (n : Nat), (s.takes o) → ((s.originAuth o).any = true) → (n < 64) →
    exec (.flashQuery o (some n)) s = .next (((s.sectShown n).2.2.told o [[.s "FLASH", .s "BANK0", .s (if s.flashBankBad 0 then "FAILED" else "OK"), .s "BANK1", .s (if s.flashBankBad 1 then "FAILED" else "OK"), .s "OP",
      .s (flashOpName (s.fld .FLS_STAT_OP)), .s "SECTOR", .n (s.fld .FLS_STAT_SECT), .s "SUSP",
      .n (s.fld .FLS_STAT_SUSP), .s "QUAR", .n (s.fld .FLS_STAT_QUAR)],
      [.s "SECTOR", .n n, .s "AREA", .s (areaName n), .s "STATE", .s (sectStateName (s.sectShown n).1), .s "ERASES", .n (s.sectShown n).2.1]]))) ∧
  (∀ (s : State) (o : Origin), (s.takes o) → ((s.originAuth o).any = true) →
    exec (.imageQuery o) s = .next (s.told o (s.imageLines false))) ∧
  (∀ (s : State) (o : Origin) (src : Fin 4) (ext : List Byte), (s.takes o) → ((s.originAuth o).any = true) →
    exec (.imageCheck o src ext) s = .next ((let r := (s.checkSource src ext).1
      let n := if r = rRead then 0 else if src.val < 2 then headSerial (s.slotRdr src) else headSerial (extRdr ext)
      s.told o [[.s "CHECK", .s (srcName src), .s "SERIAL", .w8 n, .s "REASON", .s (reasonName r)]]))) ∧
  (∀ (s : State) (o : Origin), (s.takes o) → ((s.originAuth o).any = true) →
    exec (.pwrQuery o) s = .next (s.told o (pwrLines s))) ∧
  (∀ (s : State) (o : Origin) (n : Nat), (s.takes o) → (1 ≤ n ∧ n ≤ 32) → ((s.originAuth o).any = true) → (s.obsErr = none) →
    exec (.traceRead o n) s = .next ((let r := takeVisible (fun x => (s.originAuth o).over x.stn) n s.obs.tb
      ((s.setObs fun x => { x with tb := r.2 }).setFld .OBS_TRSTAT_FILL 0 0 r.2.length).told o (r.1.map fun x => [.s "TR", .s (bytesHex (x.bytes s))])))) ∧
  (∀ (s : State) (o : Origin) (l : List SnapLine), (s.takes o) → ((s.originAuth o).any = true) → (s.obsErr = none) → (s.obs.snap = some l) →
    exec (.snapQuery o false) s = .next (s.told o ((l.filter fun e => e.own == 5 || (s.originAuth o).over e.own).map (·.line)))) ∧
  (∀ (s : State) (o : Origin) (l : List SnapLine), (s.takes o) → ((s.originAuth o).any = true) → (s.obsErr = none) → (s.takeSnap.obs.snap = some l) →
    exec (.snapQuery o true) s = .next (s.takeSnap.told o ((l.filter fun e => e.own == 5 || (s.originAuth o).over e.own).map (·.line)))) ∧
  (∀ (s : State) (o : Origin), (s.takes o) → ((s.originAuth o).any = true) → (s.obsErr = none) →
    exec (.obsEngQuery o none none false) s = .next (s.told o (((List.finRange 33).filter fun (x : Fin 33) => (s.originAuth o).over (s.engOwner x)).map fun (x : Fin 33) => engLine s x))) ∧
  (∀ (s : State) (o : Origin), (s.takes o) → ((s.originAuth o).any = true) → (s.obsErr = none) →
    exec (.obsRsvopQuery o) s = .next (s.told o (((List.range 6).filter fun (c : Nat) => (s.originAuth o).over (s.engOwner c)).map fun (c : Nat) =>
      [.s "RSVOP", .n c, .n (s.fld .OBS_RSVOP_N c)]))) ∧
  (∀ (s : State) (o : Origin) (n : Nat), (s.takes o) → ((s.originAuth o).brd = true) → (s.obsErr = none) → (n < 16) →
    exec (.obsProbeQuery o (some n)) s = .next (s.told o [probeLine s n])) ∧
  (∀ (s : State) (o : Origin) (n : Nat), (s.takes o) → ((s.originAuth o).brd = true) → (s.obsErr = none) → (n < 8) →
    exec (.obsWatchQuery o (some n)) s = .next (s.told o [watchLine s n])) ∧
  (∀ (s : State) (o : Origin), (s.takes o) → ((s.originAuth o).any = true) → (s.obsErr = none) →
    exec (.traceQuery o) s = .next (s.told o [[.s "TRACE", .s "PORT", onOffFd (s.flag .OBS_TRCFG_PORTEN), .s "BUF", onOffFd (s.flag .OBS_TRCFG_BUFEN), .s "RATE",
      .n (traceRate (s.fld .OBS_TRCFG_DIV)), .s "POST", .n (s.fld .OBS_TRCFG_POST), .s "KINDS",
      .s (hexMask (s.fld .OBS_TRKIND_KINDS)), .s "STN", .n (s.fld .OBS_TRCFG_STN), .s "BRD", onOffFd (s.flag .OBS_TRCFG_BRD),
      .s "ENG", .s (hexMask (s.fld .OBS_TRENG_LO_ENG + 2 ^ 32 * s.fld .OBS_TRENG_HI_ENG)), .s "AXES",
      .s (hexMask (s.fld .OBS_TRSET_AXES)), .s "FILL", .n (s.fld .OBS_TRSTAT_FILL), .s "LOST", .n (s.fld .OBS_TRSTAT_LOST)]])) ∧
  (∀ (s : State) (o : Origin) (k : Nat), (s.takes o) → (k < 16) → (s.slotMay (s.originAuth o) k = true) → (s.obsErr = none) →
    exec (.skimQuery o (some k)) s = .next (s.told o [skimLine s k])) ∧
  (∀ (s : State) (o : Origin), (s.takes o) → ((s.originAuth o).any = true) → (s.obsErr = none) →
    exec (.skimQuery o none) s = .next (s.told o (((List.range 16).filter fun (k : Nat) => s.slotMay (s.originAuth o) k).map (skimLine s)))) ∧
  (∀ (s : State) (o : Origin) (d : Fin 8) (x : String), (s.takes o) → ((linePre x true).or (s.dupPre d) = none) → ((s.originAuth o).brd = true) → (s.devPresent d = true) →
    exec (.peerQuery o d x) s = .next (s.startTxn none o d x .query))

/-- In the state that the rules name for it, each of the events of the serial ports completes with the effect that they give.
Commands: `lineTerminated`, `typedCharacter`, `framedCharacter`, `typedBackspace`, `typedLineKill`, `historyPrevious`,
`historyNext`, `xoffReceived`, `xonReceived`, `breakReceived`, `asyncLineSend`, `eventResend`, `serSettingsApply`,
`serEnableClear`, `transmitComplete`, `authLockoutEnd`, `seriesRestart`. -/
def Obligations.SerialEventsComplete : Prop :=
  (∀ (s : State) (p : Fin 2), (s.portLive p = true) → ((s.port[p]).afterCr = true) →
    exec (.lineTerminated p true) s = .next (s.setPort p fun q => { q with afterCr := false })) ∧
  (∀ (s : State) (p : Fin 2) (lf : Bool), (s.portLive p = true) → ((lf && (s.port[p]).afterCr) = false) → ((s.port[p]).line = []) → (charErr s.port[p] = 0) →
    exec (.lineTerminated p lf) s = .next ((let u := s.echoBytes p [0x0D, 0x0A]
      let u := if (s.port[p]).overrun then u.ringFull (cmdRing p) else u
      ((u.setPort p fun q => { clearLine q with afterCr := !lf, recalled := 0 }).servePort p).flowUpdate p))) ∧
  (∀ (s : State) (p : Fin 2) (lf : Bool) (l : List Byte), (s.portLive p = true) → ((lf && (s.port[p]).afterCr) = false) → ((s.port[p]).line = 0x23 :: l) → ((s.port[p]).overrun = false) → (s.ringHeld (cmdRing p) = false) →
    exec (.lineTerminated p lf) s = .next ((let n := min (lineEntries (0x23 :: l).length) (s.ringFree (cmdRing p))
      let t := (s.ringPut (cmdRing p) n).setPort p fun q => { remember q with waiting := q.waiting ++ [⟨q.line, charErr q, n⟩] }
      ((t.setPort p fun q => { clearLine q with afterCr := !lf, recalled := 0 }).servePort p).flowUpdate p))) ∧
  (∀ (s : State) (p : Fin 2) (ch : Byte) (bad : Bool),
    exec (.typedCharacter p ch bad) s = .next (s.typedChar p (s.rxChar p ch) bad)) ∧
  (∀ (s : State) (p : Fin 2) (ch : Byte) (bad : Bool),
    exec (.framedCharacter p ch bad) s = .next (s.framedChar p (s.rxChar p ch) bad)) ∧
  (∀ (s : State) (p : Fin 2), (s.editing p = true) → ((s.port[p]).excess = 0) → ((s.port[p]).line.isEmpty = false) →
    exec (.typedBackspace p) s = .next (((((s.endEsc p).setPort p fun q => { q with line := q.line.dropLast }).echoBytes p [0x08, 0x20, 0x08]).flowUpdate p))) ∧
  (∀ (s : State) (p : Fin 2), (s.editing p = true) → (0 < (s.port[p]).excess) →
    exec (.typedBackspace p) s = .next ((s.endEsc p).setPort p fun q => { q with excess := q.excess - 1 })) ∧
  (∀ (s : State) (p : Fin 2), (s.editing p = true) →
    exec (.typedLineKill p) s = .next (((((s.endEsc p).setPort p fun q => { q with line := [], excess := 0 }).echoBytes p [0x0D, 0x0A]).flowUpdate p))) ∧
  (∀ (s : State) (p : Fin 2) (l : List Byte), (s.editing p = true) → ((s.port[p]).hist[(s.port[p]).recalled]? = some l) →
    exec (.historyPrevious p) s = .next (s.recallTo p ((s.port[p]).recalled + 1) l)) ∧
  (∀ (s : State) (p : Fin 2), (s.editing p = true) → ((s.port[p]).recalled = 1) →
    exec (.historyNext p) s = .next (s.recallTo p 0 [])) ∧
  (∀ (s : State) (p : Fin 2) (n : Nat), (s.editing p = true) → ((s.port[p]).recalled = n + 2) →
    exec (.historyNext p) s = .next (s.recallTo p (n + 1) ((s.port[p]).hist.getD n []))) ∧
  (∀ (s : State) (p : Fin 2), (s.portLive p = true) → (s.portFlow p ≠ 0) →
    exec (.xoffReceived p) s = .next (s.setFlag .SER_STAT_TXSTOP p 0 true)) ∧
  (∀ (s : State) (p : Fin 2), (s.portLive p = true) → (s.portFlow p ≠ 0) →
    exec (.xonReceived p) s = .next ((s.setFlag .SER_STAT_TXSTOP p 0 false).echoFlush p)) ∧
  (∀ (s : State) (p : Fin 2), (s.portLive p = true) →
    exec (.breakReceived p) s = .next (((s.setPort p clearLine).setFlag .SER_STAT_BRK p 0 true).flowUpdate p)) ∧
  (∀ (s : State) (p : Fin 2) (c : EvClass) (r : EvRec), (s.asyncOpen p = true) → (s.ringHeld (rspRing p) = false) → (¬ ((classNo c).val ≠ 0 ∧ (s.dueRec p 0).isSome = true)) → (s.dueRec p (classNo c) = some r) →
    exec (.asyncLineSend p c) s = .next ((s.setPort p fun q => { q with taken := q.taken.set (classNo c) r.seq }).sendAsync p (classNo c) r)) ∧
  (∀ (s : State) (p : Fin 2) (c : EvClass) (seq : Nat) (r : EvRec) (e : SentRec), ((s.ev.q[classNo c]).find? (fun x => x.seq == seq) = some r) → ((s.port[p]).sent.find? (fun x => x.cls == c && x.seq == seq) = some e) → (s.asyncOpen p = true) → (s.ringHeld (rspRing p) = false) → ((if ¬ r.ovf = true ∧ r.w ≠ 0 ∧ e.at_ < r.t + r.w * msCounts ∧ e.rep < r.wrep then decide (r.t + r.w * msCounts ≤ s.clk.now)
      else decide (e.at_ + 100 * msCounts ≤ s.clk.now)) = true) → (r.rep ≠ e.rep) → (s.selects p (classNo c) r = true) →
    exec (.eventResend p c seq) s = .next (s.sendAsync p (classNo c) r)) ∧
  (∀ (s : State) (p : Fin 2), (¬ ((s.port[p]).mode = s.reg .SER_MODE p 0 ∧ (s.port[p]).baud = s.reg .SER_BAUD p 0)) → (s.ownSent p = true) → ((s.port[p]).farChange = true → s.atBoundary p = true) →
    exec (.serSettingsApply p) s = .next ((let t := s.setPort p fun q =>
        let q := { q with mode := s.reg .SER_MODE p 0, baud := s.reg .SER_BAUD p 0, ownChange := none, farChange := false }
        if (s.port[p]).farChange then clearLine q else q
      if s.portFlow p = t.portFlow p then t else t.flowChanged p))) ∧
  (∀ (s : State) (p : Fin 2), ((s.port[p]).on = true) → (s.flag .SER_CTRL_ENABLE p = false) → (s.ownSent p = true) →
    exec (.serEnableClear p) s = .next (s.setPort p fun q => { clearLine q with on := false, driving := false, ownChange := none })) ∧
  (∀ (s : State) (p : Fin 2) (l : OutLine) (r : List OutLine), ((s.port[p]).rsp = l :: r) → (s.portLive p = true) → (s.flag .SER_STAT_TXSTOP p = false) →
    exec (.transmitComplete p) s = .next (
      let t := (s.ringGet (rspRing p) l.entries).setPort p fun q => { markSent s.clk.now l q with rsp := r, wire := q.wire ++ l.bytes }
      ((State.placeWaiting p (t.port[p]).rspWait.length t).echoFlush p).servePort p)) ∧
  (∀ (s : State) (p : Fin 2), (s.authLocked p = false) →
    exec (.authLockoutEnd p) s = .next (s.setSess p fun q => { q with lock := none })) ∧
  (∀ (s : State) (o : Origin), (s.takes o) → ((sessionPort o).isNone = false) → (s.judge o = .next) → (s.seriesClosed (s.srcNo o).val = true) → (s.commitFull = false) →
    exec (.seriesRestart o) s = .next (((s.commitRec.restartSeries (s.srcNo o).val).answer o (acceptLine o (s.candKey o) 0)).raise .fin Cause.WORK_DONE 4
      (src := (s.candKey o).src) (wsn := (s.candKey o).wsn)))

/-- In the state that the rules name for it, each of the events of the journal, and register accesses from outside completes
with the effect that they give. Commands: `journalCommitComplete`, `itemExecutionBegin`, `registerWrite`, `tcCounterReadLatch`.
-/
def Obligations.JournalEventsComplete : Prop :=
  (∀ (s : State) (ns : Nat) (r : CommitRec) (n : Nat) (l : List QEnt), (s.jrn.queue = .item r n :: l) → (r.err = 0) → (isReset r.cmd = false) → (s.flag .JRN_STAT_AFAIL = false) → (s.flag .JRN_STAT_BFAIL = false) →
    exec (.journalCommitComplete true true ns) s = .next (
      let t := s.setFld .JRN_CTIME_NS 0 0 (max (s.fld .JRN_CTIME_NS) (min ns 4095))
      let u := ((({ t with jrn := { t.jrn with queue := l } } : State).ringGet 15 n).accept r).answer r.org (.ok (okTag r.org r.key) false)
      ((({ u with jrn := { u.jrn with ready := u.jrn.ready ++ [r.key] } } : State).answerCopies).liveUpdate.serve).linkWork)) ∧
  (∀ (s : State) (ns : Nat) (r : CommitRec) (n : Nat) (l : List QEnt), (s.jrn.queue = .item r n :: l) → (s.flag .JRN_STAT_AFAIL = false) → (s.flag .JRN_STAT_BFAIL = false) →
    exec (.journalCommitComplete true true ns) s = .next ((s.setFld .JRN_CTIME_NS 0 0 (max (s.fld .JRN_CTIME_NS) (min ns 4095))).commitHead.liveUpdate.serve.linkWork)) ∧
  (∀ (s : State) (ns : Nat) (r : CommitRec) (n : Nat) (l : List QEnt), (s.jrn.queue = .item r n :: l) →
    exec (.journalCommitComplete false false ns) s = .next (((((({ s with jrn := { s.jrn with queue := l } } : State).ringGet 15 n).answer r.org (.busy (originTag r.org))).answerCopies).journalLost).serve.linkWork)) ∧
  (∀ (s : State) (src wsn : Nat) (k : Key) (m : Item) (c : Instr) (w : Work), (s.readyKeys.find? (fun k => k.src == src && k.wsn == wsn) = some k) → (s.mustWait k s.readyKeys = false) → (s.phase = .running) → (s.findItem k = some m) → (m.cmd = some c) → (({ s with jrn := { s.jrn with ready := s.readyKeys.filter fun e => e != k } } : State).workOf (pinStn c m.stn) = some w) →
    exec (.itemExecutionBegin src wsn) s = .next ((({ s with jrn := { s.jrn with ready := s.readyKeys.filter fun e => e != k } } : State).begin_ k w.run).linkWork)) ∧
  (∀ (s : State) (src wsn : Nat) (k : Key) (m : Item) (c : Instr) (w : Work) (t : State), (s.readyKeys.find? (fun k => k.src == src && k.wsn == wsn) = some k) → (s.mustWait k s.readyKeys = false) → (s.phase = .running) → (s.findItem k = some m) → (m.cmd = some c) → (({ s with jrn := { s.jrn with ready := s.readyKeys.filter fun e => e != k } } : State).workOf (pinStn c m.stn) = some w) → (w.run k (({ s with jrn := { s.jrn with ready := s.readyKeys.filter fun e => e != k } } : State).setItem k .running) = .done t) →
    exec (.itemExecutionBegin src wsn) s = .next ((t.workDone k).linkWork)) ∧
  (∀ (s : State) (c : Fin 6) (a v : Nat), (a % 4 = 0) → (inRegBlocks a = true) →
    exec (.registerWrite c a v) s = .next (s.coreAddrWrite c a (v % 2 ^ 32))) ∧
  (∀ (s : State) (c : Fin 6) (a v i j : Nat) (r : Reg), (a % 4 = 0) → (inRegBlocks a = true) → (regAt a = some (r, i, j)) → (r ≠ .CFG_POLICY ∧ r ≠ .DEC_MBX) → (s.mayWrite (.core c) (coreTrim (wholeWrite r i j (v % 2 ^ 32))) = true) → (s.wrErr (coreTrim (wholeWrite r i j (v % 2 ^ 32))) = none) →
    exec (.registerWrite c a v) s = .next (s.wrApply (.core c) (coreTrim (wholeWrite r i j (v % 2 ^ 32))))) ∧
  (∀ (s : State) (c : Fin 6) (a v : Nat), (a % 4 ≠ 0 ∨ inRegBlocks a = false) →
    exec (.registerWrite c a v) s = .next (s.raise .fault Cause.ADDR_UNMAPPED (s.coreStn c) (det := a))) ∧
  (∀ (s : State) (w : LatchPair),
    exec (.tcCounterReadLatch w) s = .next ((s.regRead (latchReg w).1 (latchReg w).2.1 (latchReg w).2.2).2)) ∧
  (∀ (s : State),
    exec (.tcCounterReadLatch .epoch) s = .next ({ s with clk := { s.clk with epochHi := highWord s.clk.epoch } })) ∧
  (∀ (s : State),
    exec (.tcCounterReadLatch .tick) s = .next ({ s with clk := { s.clk with tickHi := highWord s.clk.tick } })) ∧
  (∀ (s : State),
    exec (.tcCounterReadLatch .now) s = .next ({ s with clk := { s.clk with nowHi := highWord s.clk.now } }))

/-- In the state that the rules name for it, each of the events of the reference, the lattice, the TRIP input and `RESET`
completes with the effect that they give. Commands: `refLost`, `refReturn`, `latticeTick`, `latticeOverrun`,
`latticeOverrunTrip`, `slackWindowEnd`, `vcoreHoldEnd`, `rateChangeEffect`, `tripInputAsserted`, `tripInputCleared`, `tripCmp`,
`resetCommandBegin`. -/
def Obligations.TickEventsComplete : Prop :=
  (∀ (s : State), (s.ticking = true) →
    exec (.refLost) s = .next (
      let t := (s.setFlag .TC_STATUS_REFOK 0 0 false).setFlag .TC_STATUS_REFLOST 0 0 true
      let t := (t.setFlag .TC_STATUS_COARSE 0 0 true).setFlag .TC_STATUS_SYNCED 0 0 false
      let t := setLat t fun l => { l with begun := false }
      if t.committed then
        forAll (List.finRange 4) t fun t (k : Fin 4) => if t.configured k then t.deviceTrip k Cause.REF_LOST 0xFFFF 0 else t
      else t)) ∧
  (∀ (s : State) (n : Nat), (s.flag .TC_STATUS_REFOK = false) → (s.clk.taken = true) → (s.phase = .running) →
    exec (.refReturn n) s = .next (
      let t : State := { s with clk := { s.clk with now := s.clk.now + 750 * n } }
      let t := (t.setFlag .TC_STATUS_REFOK 0 0 true).setFlag .TC_STATUS_COARSE 0 0 false
      forAll (List.finRange 4) t fun t k => t.clearTrip k Cause.REF_LOST)) ∧
  (∀ (s : State) (x : TickObs), (s.ticking = true) → let u := (s.advance.setFld .LAT_STAGE_PS 0 0 (min x.stagePs 4095)).wireClear
    (u.committed = true) →
    exec (.latticeTick x) s = .next ((u.committedTick s.clk.tick s.divisor x).obsTick (s.nextTick - s.clk.now) x)) ∧
  (∀ (s : State) (x : TickObs), (s.ticking = true) → let u := (s.advance.setFld .LAT_STAGE_PS 0 0 (min x.stagePs 4095)).wireClear
    (u.committed = false) →
    exec (.latticeTick x) s = .next ((u.measureAll x.meas).obsTick (s.nextTick - s.clk.now) x)) ∧
  (∀ (s : State) (k : Fin 4), (3 ≤ s.fld .LAT_OVR_CONSEC k) → (s.lat.suspended[k] = false) →
    exec (.latticeOverrun k) s = .next (setLat ((s.raise .fault Cause.LATTICE_OVERRUN k).deviceStop k) fun l => { l with suspended := l.suspended.set k true })) ∧
  (∀ (s : State) (k : Fin 4), (11 ≤ s.fld .LAT_OVR_CONSEC k) → ((s.mot[k]).trips.contains Cause.LATTICE_OVERRUN = false) →
    exec (.latticeOverrunTrip k) s = .next (s.deviceTrip k Cause.LATTICE_OVERRUN 0xFFFF 0)) ∧
  (∀ (s : State), (s.ticking = true) → (s.lat.begun = true) → (s.lat.known = false) → (s.lat.winTicks = 63) → ((List.finRange 6).any s.sectionLate = false) →
    exec (.slackWindowEnd) s = .next (
      let n := (s.fresh 13).1
      let t := (s.fresh 13).2
      setLat (t.slackTick t.clk.tick (slackOf t.divisor (n % t.divisor)) false) fun l => { l with known := true })) ∧
  (∀ (s : State), (s.lat.holdLeft = 1) →
    exec (.vcoreHoldEnd) s = .next (setLat s fun l => { l with holdLeft := 0 })) ∧
  (∀ (s : State), (s.flag .LAT_CTRL_PEND = true) → (s.clk.now % 6144 = 0) → (s.lat.rateAt ≤ s.clk.now) →
    exec (.rateChangeEffect) s = .next (
      let t := (s.setFld .LAT_CTRL_RATE 0 0 (s.fld .LAT_CTRL_NEXT)).setFlag .LAT_CTRL_PEND 0 0 false
      (setLat t fun l => { l with winTicks := 0 }).sfRestart)) ∧
  (∀ (s : State), (s.ev.tripIn = false) →
    exec (.tripInputAsserted) s = .next (
      let t : State := { s with ev := { s.ev with tripIn := true } }
      if t.committed then
        forAll (List.finRange 4) t.clampBoard fun t (k : Fin 4) =>
          if t.configured k then (t.tripStation k).raise .trip Cause.TRIP_IN k else t
      else t)) ∧
  (∀ (s : State),
    exec (.tripInputCleared) s = .next ({ s with ev := { s.ev with tripIn := false } })) ∧
  (∀ (s : State) (n : Fin 64), (s.flag .REB_CMODE_TRIP n = true) → (s.fld .REB_CMODE_MODE n = 3) → (s.flag .REB_CSTAT_FROZEN n = false) →
    exec (.tripCmp n) s = .next (
      forAll (List.finRange 4) (s.setFlag .REB_CSTAT_LOUT n 0 true) fun t k =>
        if t.configured k && t.fld .REB_CMODE_TMASK n / 2 ^ k.val % 2 == 1 then t.deviceTrip k Cause.TRIP_CMP n.val 0 else t)) ∧
  (∀ (s : State) (k : Key) (kind : ResetKind), (s.resetReq = some (k, kind)) → (s.phase = .running) → ((s.statusSent k || (s.findItem k).any fun i => decide (i.acc + 100 * msCounts ≤ s.clk.now)) = true) →
    exec (.resetCommandBegin) s = .next (((({ s with resetReq := none } : State).workDone k).beginClose kind Cause.CMD_RESET)))

/-- In the state that the rules name for it, each of the events of tape, block conversion, extension blocks and handshakes
completes with the effect that they give. Commands: `tapeCharacter`, `tapeBlockAccept`, `blockConvert`, `xctlSubmit`, `xctlEnd`,
`xctlReject`, `extTimeout`, `mfinLate`. -/
def Obligations.ProgramEventsComplete : Prop :=
  (∀ (s : State) (c : Byte), (s.flag .SER_TAPE_ENABLE = true) → (s.fld .SER_TAPE_DET = 0) → (s.fld .SER_TAPE_CODE = 0) → (c = 0) →
    exec (.tapeCharacter c) s = .next ((s.setFld .SER_TAPE_DET 0 0 0).bumpWrap .SER_TAPESTAT_CHARS 0 0 1)) ∧
  (∀ (s : State) (c : Byte) (x : Nat), (s.flag .SER_TAPE_ENABLE = true) → (s.fld .SER_TAPE_DET ≠ 0) → (s.tape.drop = false) → (s.tape.buf.length < 512) → (readTape (s.fld .SER_TAPE_DET) c = .text x) →
    exec (.tapeCharacter c) s = .next (
      let t := (s.setFld .SER_TAPE_DET 0 0 (s.fld .SER_TAPE_DET)).bumpWrap .SER_TAPESTAT_CHARS 0 0 1
      ({ t with tape := { t.tape with buf := t.tape.buf ++ [BitVec.ofNat 8 x] } } : State).tapeRun)) ∧
  (∀ (s : State) (c : Byte), (s.flag .SER_TAPE_ENABLE = true) → (s.fld .SER_TAPE_DET ≠ 0) → (s.tape.drop = false) → (512 ≤ s.tape.buf.length) →
    exec (.tapeCharacter c) s = .next (
      let t := ((s.setFld .SER_TAPE_DET 0 0 (s.fld .SER_TAPE_DET)).bumpWrap .SER_TAPESTAT_CHARS 0 0 1).setFlag .SER_TAPESTAT_TOVR 0 0 true
      ({ t with tape := { t.tape with want := false } } : State).tapeRun.raise .attn Cause.TAPE_OVERRUN 4)) ∧
  (∀ (s : State) (q : Key) (b rest : List Byte), (s.tape.item = some q) → (firstBlock s.tape.buf = some (b, rest)) → (s.tape.want = true) → (s.tapeAdmits (bytesText b) = true) → (s.tape.started = false) → (isPercent b = true) →
    exec (.tapeBlockAccept) s = .next (
      let t := ({ s with tape := { s.tape with buf := rest } } : State).tapeBlocked false
      { t with tape := { t.tape with started := true } })) ∧
  (∀ (s : State) (q : Key) (b rest : List Byte) (p : Nat), (s.tape.item = some q) → (firstBlock s.tape.buf = some (b, rest)) → (s.tape.want = true) → (s.tapeAdmits (bytesText b) = true) → (isPercent b = false) → (s.tape.started = true) → (s.tape.seek = false) → (blockErr (bytesText b) = none) → (s.tape.toStn = none) → (s.tape.toProg = some p) → let t := ({ s with tape := { s.tape with buf := rest } } : State).tapeBlocked false
    (t.tapeTextEnds (bytesText b) = false) → let o := t.tapeOrigin
    let key := t.candKey o
    (t.progAddErr p (bytesText b) = none) →
    exec (.tapeBlockAccept) s = .next (
      let u := t.accept ⟨key, o, .progAdd o p (bytesText b), 0, 4, (bytesText b).length⟩
      let u : State := { u with tape := { u.tape with count := u.tape.count + 1, last := bytesText b } }
      u.begin_ key (workProgAdd o p (bytesText b) u).run)) ∧
  (∀ (s : State) (q : Key) (b rest : List Byte) (k : Fin 4) (r : Reader) (c : Conv) (m : MBlock), (s.tape.item = some q) → (firstBlock s.tape.buf = some (b, rest)) → (s.tape.want = true) → (s.tapeAdmits (bytesText b) = true) → (isPercent b = false) → (s.tape.started = true) → (s.tape.seek = false) → (blockErr (bytesText b) = none) → (s.tape.toStn = some k) → ((s.mot[k]).reader = some r) → let t := ({ s with tape := { s.tape with buf := rest } } : State).tapeBlocked false
    (t.tapeTextEnds (bytesText b) = false) → let o := t.tapeOrigin
    let key := t.candKey o
    (t.tapeConv k r.modal key (s.tape.count + 1) (bytesText b) = .ok c) → (c.block = some m) → ((t.textExtends k (bytesText b) && !t.skipped k (bytesText b)) = false) →
    exec (.tapeBlockAccept) s = .next (
      let u := t.accept ⟨key, o, .mdi o (bytesText b) (some k), 0, k, (bytesText b).length⟩
      let u : State := { u with tape := { u.tape with count := s.tape.count + 1, last := bytesText b } }
      let u := (u.modItem key fun i => { i with blk := some (0, s.tape.count + 1, 0) }).applySetting k c.set
      let u := (u.setReader k fun r => { r with modal := c.modal, next := s.tape.count + 2 }).readerRuns k r.key
      u.enqueueBlock k m)) ∧
  (∀ (s : State) (k : Fin 4) (r : Reader), ((s.mot[k]).reader = some r) → (r.kind = .run) → (r.ended = false) → (r.ext = none) → (((s.findItem r.key).map (·.st)) ≠ some .held) → (s.nextText r = .ok none) →
    exec (.blockConvert k) s = .next ((s.setReader k fun r => { r with ended := true }).endReader k)) ∧
  (∀ (s : State) (k : Fin 4) (r : Reader) (x : String) (b : PBlock) (c : Conv), ((s.mot[k]).reader = some r) → (r.kind = .run) → (r.ended = false) → (r.ext = none) → (((s.findItem r.key).map (·.st)) ≠ some .held) → (s.nextText r = .ok (some x)) → (s.skipped k x = false) → (parseBlock x = .ok b) → (s.isExtension k b = false) → (s.convert k r.modal ⟨r.key, false, r.prog, r.next, 0⟩ b = .ok c) → (s.blockWaits k c = false) →
    exec (.blockConvert k) s = .next ((s.readerRuns k r.key).placeBlock k c)) ∧
  (∀ (s : State) (c : Fin 6) (k : Fin 4), (s.xctlAllowed c k = false) →
    exec (.xctlSubmit c k) s = .next (s.xctlDenied k)) ∧
  (∀ (s : State) (c : Fin 6) (k : Fin 4) (r : Reader) (e : Ext) (cv : Conv), (s.xctlAllowed c k = true) → ((s.mot[k]).reader = some r) → (r.ext = some e) → let key : Key := ⟨(s.srcNo (.core c)).val, (s.core[c]).ser, s.fld .MOT_XWSN_WSN k⟩
    (judgeCore (s.srcNo (.core c)) (s.lastOf (s.srcNo (.core c))) key = .next) → (r.ended = false) → (s.accepting = true) → (s.commitFull (s.slotText k).length = false) → (s.replaceErr k r e (s.slotText k) key = .ok cv) → (s.blockWaits k cv = false) →
    exec (.xctlSubmit c k) s = .next ((s.accept ⟨key, .core c, .mdi (.core c) (s.slotText k) (some k), 0, k, (s.slotText k).length⟩).takeReplacement k r e key cv)) ∧
  (∀ (s : State) (c : Fin 6) (k : Fin 4) (r : Reader) (e : Ext), (s.xctlAllowed c k = true) → ((s.mot[k]).reader = some r) → (r.ext = some e) → (r.kind ≠ .tape) →
    exec (.xctlEnd c k) s = .next (((((s.clearExt k).setReader k fun r => { r with next := r.next + 1 }).extItem e 0).endReader k))) ∧
  (∀ (s : State) (c : Fin 6) (k : Fin 4) (r : Reader) (e : Ext), (s.xctlAllowed c k = true) → ((s.mot[k]).reader = some r) → (r.ext = some e) → (r.kind = .tape) → (r.ended = true) →
    exec (.xctlEnd c k) s = .next (((((s.clearExt k).setReader k fun r => { r with next := r.next + 1 }).extItem e 0).tapeEnds 0))) ∧
  (∀ (s : State) (c : Fin 6) (k : Fin 4) (x : Nat) (r : Reader) (e : Ext), (s.xctlAllowed c k = true) → ((s.mot[k]).reader = some r) → (r.ext = some e) → (r.kind ≠ .tape) →
    exec (.xctlReject c k x) s = .next (((s.clearExt k).extItem e (if x = 0 then 251 else x)).readerStops k e.blk (if x = 0 then 251 else x))) ∧
  (∀ (s : State) (c : Fin 6) (k : Fin 4) (x : Nat) (r : Reader) (e : Ext), (s.xctlAllowed c k = true) → ((s.mot[k]).reader = some r) → (r.ext = some e) → (r.kind = .tape) →
    exec (.xctlReject c k x) s = .next (((s.clearExt k).extItem e (if x = 0 then 251 else x)).tapeEnds (if x = 0 then 251 else x))) ∧
  (∀ (s : State) (k : Fin 4) (e : Ext), ((s.mot[k]).reader.bind (·.ext) = some e) → (s.fld .MOT_PGM_XTMO k ≠ 0) → (e.asked = true) → (e.since + s.fld .MOT_PGM_XTMO k * msCounts ≤ s.clk.now) →
    exec (.extTimeout k) s = .next (
      let t := (s.imgLatch k bitXREQ false).setReader k fun r => { r with ext := r.ext.map fun e => { e with asked := false } }
      (t.raise .fault Cause.EXT_TIMEOUT k).deviceStop k)) ∧
  (∀ (s : State) (k : Fin 4) (h : Hand), ((s.mot[k]).hand = some h) → (h.step = .strobed) → (h.late = false) → (s.fld .MOT_MFT_MFT k ≠ 0) → (h.at_ + s.fld .MOT_MFT_MFT k * 100 * msCounts ≤ s.clk.now) →
    exec (.mfinLate k) s = .next ((s.setMot k fun m => { m with hand := some { h with late := true } }).raise .attn Cause.MFIN_LATE k (det := h.code)))

/-- In the state that the rules name for it, each of the events of motion and feedback completes with the effect that they give.
Commands: `brakingComplete`, `motionEnableDelayEnd`, `approachComplete`, `dwellEnd`, `spindleAtSpeed`, `followingError`,
`handwheelDetent`, `encoderCondition`, `encoderIndexCapture`, `outputSat`, `resAmpl`, `tachMismatch`, `feedbackLoss`. -/
def Obligations.MotionEventsComplete : Prop :=
  (∀ (s : State) (k : Fin 4) (b : Brake), ((s.mot[k]).brake = some b) → (s.isBraking k = true) → (b.begun = true) → (s.standsStill k = true) → let t := forAll (s.axesOf k) s fun s a => s.setAxis a AxisSt.jogInterrupted
    (t.interrupted k = true) → let t := (t.setStn k stHeld).setFld .MOT_STATE_WHY k 0 b.why
    let t := (if (t.mot[k]).app.isSome then t else t.pathRecord k).setMot k fun m => { m with brake := none, app := none }
    let t := (forAll b.keys t fun s q => s.workDone q).startWaiting k
    ((t.mot[k]).resume = none) →
    exec (.brakingComplete k) s = .next (t)) ∧
  (∀ (s : State) (k : Fin 4), ((s.mot[k]).delay = true) → ((s.mot[k]).onAt + (s.mot[k]).lim.endly * msCounts ≤ s.clk.now) → ((s.mot[k]).resume = none) →
    exec (.motionEnableDelayEnd k) s = .next (s.setMot k fun m => { m with delay := false })) ∧
  (∀ (s : State) (k : Fin 4) (r : Resume), ((s.mot[k]).delay = true) → ((s.mot[k]).onAt + (s.mot[k]).lim.endly * msCounts ≤ s.clk.now) → ((s.mot[k]).resume = some r) → (r.stage = .drives) →
    exec (.motionEnableDelayEnd k) s = .next ((s.setMot k fun m => { m with delay := false }).beginApproach k r.key)) ∧
  (∀ (s : State) (k : Fin 4) (r : Resume) (p : Approach), ((s.mot[k]).resume = some r) → ((s.mot[k]).app = some p) → (r.stage = .approach) → (s.stnState k = stApproach) → ((s.approachGeo k p).len ≤ p.dist) → (s.standsStill k = true) →
    exec (.approachComplete k) s = .next (
      let t := (s.enterAt k p.blk p.lam).setMot k fun m => { m with resume := none, app := none }
      let t := forAll (t.axesOf k) t fun s a => s.setAxis a fun x => { x with jogNext := x.jogHeld ++ x.jogNext, jogHeld := [] }
      let t := t.startWaiting k
      let dest := if !(t.mot[k]).win.isEmpty || !(t.mot[k]).ring.isEmpty || (t.mot[k]).reader.isSome then stRun
        else if (t.axesOf k).any fun (a : Fin 12) => (t.axis[a]).jog.isSome then stJog else stIdle
      (t.setStn k dest).workDone r.key)) ∧
  (∀ (s : State) (k : Fin 4) (b : MBlock) (l : List MBlock), ((s.mot[k]).win = b :: l) → (b.motion = 5) → ((s.mot[k]).stage = .moving) → ((s.mot[k]).dwell = 0) → (s.stnState k = stRun) →
    exec (.dwellEnd k) s = .next (s.setMot k fun m => { m with lam := pathEnd })) ∧
  (∀ (s : State) (k : Fin 4), (s.atSpeed k = true) → ((s.mot[k]).resume = none) →
    exec (.spindleAtSpeed k) s = .next (s.setMot k fun m => { m with spinWait := false })) ∧
  (∀ (s : State) (k : Fin 4) (r : Resume), (s.atSpeed k = true) → ((s.mot[k]).resume = some r) → (r.stage = .spindle) →
    exec (.spindleAtSpeed k) s = .next ((s.setMot k fun m => { m with spinWait := false }).resumeDrives k r.key)) ∧
  (∀ (s : State) (a : Fin 12) (k : Fin 4), (s.axisStation a = some k) → (2 ≤ (s.axis[a]).feTicks) → (s.flag .MOT_STATE_DRVON k = true) → (s.stnState k ≠ stStopping) →
    exec (.followingError a) s = .next ((s.raise .fault Cause.FOLLOWING_ERROR k a.val).deviceStop k)) ∧
  (∀ (s : State) (n : Fin 2) (d : Int), (d = 1 ∨ d = -1) →
    exec (.handwheelDetent n d) s = .next (
      let d := if s.flag .ENC_HWCFG_DIR n then -d else d
      let t := { s with hwDet := s.hwDet.set n (ofSigned 16 ((s.hwDet[n] : Int) + d)) }
      forAll (List.finRange 12) t fun t a =>
        match t.axisStation a with
        | some k => if t.fld .MOT_AXCTL_HW a = n.val ∧ (t.stnState k = stJog ∨ t.stnState k = stHeld) then t.detentMove k a d else t
        | none => t)) ∧
  (∀ (s : State) (n : Fin 12) (c : EncCond), (s.fld .ENC_CFG_POL n = 0) → (c.illegal = false) →
    exec (.encoderCondition n c) s = .next ((s.setFld .ENC_STAT_LB n 0 0).setFlag .ENC_STAT_AMPL n 0 false)) ∧
  (∀ (s : State) (n : Fin 12) (c : EncCond), (s.fld .ENC_CFG_POL n = 0) → (c.illegal = true) →
    exec (.encoderCondition n c) s = .next ((((s.setFld .ENC_STAT_LB n 0 0).setFlag .ENC_STAT_AMPL n 0 false).bump .ENC_ERRS_ERRS n 0 1).setFlag .ENC_STAT_CNTERR n 0 true)) ∧
  (∀ (s : State) (n : Fin 12) (c : EncCond), (s.fld .ENC_CFG_POL n ≠ 0) → (s.flag .ENC_CFG_ZEN n = false) → (s.fld .ENC_STAT_LB n = 0) → (c.lb.val % 4 ≠ 0) → (c.ampl = false) → (c.illegal = false) →
    exec (.encoderCondition n c) s = .next (
      (((s.setFld .ENC_STAT_LB n 0 (c.lb.val % 4)).setFlag .ENC_STAT_AMPL n 0 false).setFlag .ENC_STAT_LBSEEN n 0 true).raise
        .fault Cause.ENC_LINE (evStn (s.encStn n)) n.val (c.lb.val % 4))) ∧
  (∀ (s : State) (n : Fin 12) (v : Int), (s.flag .ENC_CFG_ZEN n = true) → (s.flag .ENC_CFG_ZARM n = true) → (s.zRefused n = false) →
    exec (.encoderIndexCapture n v) s = .next (((s.setFld .ENC_ZCAP_ZCAP n 0 (ofSigned 32 v)).setFlag .ENC_CFG_ZARM n 0 false).setFlag .ENC_STAT_ZSEEN n 0 true)) ∧
  (∀ (s : State) (a : Fin 12), ((s.axis[a]).satTicks = 64) →
    exec (.outputSat a) s = .next ((s.setAxis a fun x => { x with satTicks := 65 }).raise .attn Cause.OUTPUT_SAT (evStn (s.axisCode a)) a.val)) ∧
  (∀ (s : State) (a : Fin 12), ((s.axis[a]).amplTicks = 4) →
    exec (.resAmpl a) s = .next ((s.setAxis a fun x => { x with amplTicks := 5 }).raise .fault Cause.RES_AMPL (evStn (s.axisCode a)) a.val)) ∧
  (∀ (s : State) (a : Fin 12) (k : Fin 4), (s.axisStation a = some k) → ((s.axis[a]).tachTicks = 16) →
    exec (.tachMismatch a) s = .next (((s.setAxis a fun x => { x with tachTicks := 17 }).raise .fault Cause.TACH_MISMATCH k a.val).deviceStop k)) ∧
  (∀ (s : State) (a : Fin 12) (k : Fin 4), (s.axisStation a = some k) → (s.flag .SRV_STAT_LOSS a = true) → ((s.axis[a]).lossLeft = 0) → (s.axisStands k a = false) → (s.stnState k ≠ stTripped) →
    exec (.feedbackLoss a) s = .next (s.deviceTrip k Cause.FEEDBACK_LOSS a.val 0))

/-- In the state that the rules name for it, each of the events of the decimal engine and the calculator completes with the
effect that they give. Commands: `decRequest`, `decIssue`, `decResult`, `calcComputationDone`, `calcKey`, `calcAutooff`. -/
def Obligations.DecimalEventsComplete : Prop :=
  (∀ (s : State) (r : DecReq), (r.req < 24) → (s.decStalls r.req = false) →
    exec (.decRequest r) s = .next (s.decEnqueue r)) ∧
  (∀ (s : State) (r : DecReq), (s.decWindow.dec.busy = none) → (s.decWindow.decNext = some r) →
    exec (.decIssue) s = .next (
      let t := s.decWindow
      let t := (t.bumpWrap .DEC_ISSUED_N 0 0 1).setFld .DEC_STAT_WIN 0 0 (min (t.dec.win.erase r).length 127)
      { t with dec := { t.dec with win := s.decWindow.dec.win.erase r, busy := some r, out := none } })) ∧
  (∀ (s : State) (r : DecReq) (x : DecRes), (s.dec.busy = some r) → (s.dec.out = some x) → (¬ (4 ≤ r.req ∧ r.req < 10)) → (r.dsten = true) → let t := s.setFld .DEC_SFLAGS_FLAGS r.req 0 (s.fld .DEC_SFLAGS_FLAGS r.req ||| x.flags)
    (t.decDenied r = false) →
    exec (.decResult 0) s = .next (
      let t := t.setDecReg r.dst x.value
      let t := { t with dec := { t.dec with busy := none, out := none } }
      (t.decTaken r.req).decException r x.flags)) ∧
  (∀ (s : State) (j : CalcJob), (s.calcu.job = some j) → (j.goal = .func) →
    exec (.calcComputationDone) s = .next (
      s.setCalc fun c => { c with
        job := none, x := (decOp j.op (s.fld .PNL_CALC_RM) (s.flag .PNL_CALC_ANG) j.a j.b 0).1
        ans := if s.rpn then c.ans else (decOp j.op (s.fld .PNL_CALC_RM) (s.flag .PNL_CALC_ANG) j.a j.b 0).1 })) ∧
  (∀ (s : State) (k : Fin 256) (n : Nat), (s.calcOwns = true) → let t := s.setCalc fun c => { c with blank := false, keyAt := s.clk.now }
    (t.calcFn k = some n) → (n < 10) → (t.calcu.job = none) → (t.calcu.await = none) →
    exec (.calcKey k) s = .next (t.setCalc fun c => c.edit t.rpn (CalcEntry.digit n))) ∧
  (∀ (s : State), (s.phase = .keepOnly) → (s.calcOwns = true) → (s.fld .PNL_CALC_AUTOOFF ≠ 0) → (s.calcu.keyAt + s.fld .PNL_CALC_AUTOOFF * 1000 * msCounts ≤ s.clk.now) →
    exec (.calcAutooff) s = .next (s.setCalc fun c => { c with blank := true }))

/-- A request in operation that names only registers of its requester has its result computed: the value and flags of its
operation over its operands, which come from a register where its source bit is 1. An invalid code delivers the invalid result.
-/
def Obligations.DecimalOperationsComplete : Prop :=
  ∀ (s : State) (r : DecReq), (s.dec.busy = some r) → (s.dec.out = none) → (s.decDenied r = false) →
    let opnd (src : Bool) (n v : Nat) : Nat := if src then s.decReg n else v
    let v := decOp r.op r.rm r.deg (opnd r.asrc r.areg r.a) (opnd r.bsrc r.breg r.b) (opnd r.csrc r.creg r.c)
    let t : State := { s with dec := { s.dec with out := some ⟨v.1, r.tag, v.2⟩ } }
    ((r.op = 1) → exec .decLoad s = .next t) ∧
    ((r.op = 2) → exec .decAdd s = .next t) ∧
    ((r.op = 3) → exec .decSub s = .next t) ∧
    ((r.op = 4) → exec .decMul s = .next t) ∧
    ((r.op = 5) → exec .decDiv s = .next t) ∧
    ((r.op = 6) → exec .decSqrt s = .next t) ∧
    ((r.op = 7) → exec .decFma s = .next t) ∧
    ((r.op = 8) → exec .decQuant s = .next t) ∧
    ((r.op = 9) → exec .decRint s = .next t) ∧
    ((r.op = 10) → exec .decCmp s = .next t) ∧
    ((r.op = 11) → exec .decToint s = .next t) ∧
    ((r.op = 12) → exec .decFromint s = .next t) ∧
    ((r.op = 16) → exec .decSin s = .next t) ∧
    ((r.op = 17) → exec .decCos s = .next t) ∧
    ((r.op = 18) → exec .decTan s = .next t) ∧
    ((r.op = 19) → exec .decAtan s = .next t) ∧
    ((r.op = 20) → exec .decAtan2 s = .next t) ∧
    ((r.op = 21) → exec .decExp s = .next t) ∧
    ((r.op = 22) → exec .decLn s = .next t) ∧
    ((r.op = 23) → exec .decLog10 s = .next t) ∧
    ((r.op = 24) → exec .decPow s = .next t) ∧
    ((decOpValid r.op = false) → exec .decInvalidOp s = .next t)

/-- In the state that the rules name for it, each of the events of the cores: failures, interrupt entry, ticks, checkpoints,
results, answers and load data completes with the effect that they give. Commands: `coreFailed`, `takeoverLate`, `coreLate`,
`interruptEntry`, `waitlTickRelease`, `chkptCommitted`, `dpopResult`, `reqAnswer`, `loadDataArrival`. -/
def Obligations.CoreEventsComplete : Prop :=
  (∀ (s : State) (c k : Fin 6), (s.fld .SYS_CSTAT_STATE c ≠ 4) → let t := (s.setCoreState c 4).setCore c fun x => { x with wait := .none, load := [] }
    let t := t.commitRec.raise .fault Cause.CORE_FAILED (t.coreStn c) (inst := c.val)
    (t.fld .SYS_CFG_SPARE = k.val) → (k ≠ c) → (t.fld .SYS_CSTAT_STATE k ≠ 4) → (t.fld .SYS_CASN_STN c ≠ 7) →
    exec (.coreFailed c) s = .next (
      let u := (t.setFld .SYS_CFG_SPARE 0 0 7).setFld .SYS_CASN_STN k 0 (t.fld .SYS_CASN_STN c)
      let u := u.setFld .SYS_CSTAT_TASK k 0 (u.task c)
      let u := (u.setFld .SYS_CCTL_TICK k 0 (u.fld .SYS_CCTL_TICK c)).setFld .SYS_CCTL_IOSTN k 0 (u.fld .SYS_CCTL_IOSTN c)
      let u := (u.setFld .SYS_CCTL_SUPT k 0 (u.fld .SYS_CCTL_SUPT c)).setFlag .SYS_CCTL_RUN k 0 (u.flag .SYS_CCTL_RUN c)
      { u with take := some ⟨c, k, u.clk.now, false⟩ })) ∧
  (∀ (s : State) (x : Takeover), (s.take = some x) → (x.late = false) → (x.at_ + 8 * s.divisor ≤ s.clk.tick) →
    exec (.takeoverLate) s = .next (
      let t := ({ s with take := some { x with late := true } } : State)
      let t := t.raise .fault Cause.TAKEOVER_LATE (t.coreStn x.spare) (inst := x.spare.val)
      forAll (t.coreStations x.spare) t fun t k => t.deviceStop k)) ∧
  (∀ (s : State) (c : Fin 6), (s.fld .SYS_CCTL_SUPT c ≠ 0) → (s.fld .SYS_CSTAT_STATE c = 1 ∨ s.fld .SYS_CSTAT_STATE c = 2 ∨ s.fld .SYS_CSTAT_STATE c = 3) → ((s.core[c]).sup + s.fld .SYS_CCTL_SUPT c * s.divisor ≤ s.clk.tick) →
    exec (.coreLate c) s = .next ((s.setCore c fun k => { k with sup := s.clk.tick }).raise .attn Cause.CORE_LATE (s.coreStn c) (inst := c.val))) ∧
  (∀ (s : State) (c : Fin 6) (n : Fin 4), ((List.finRange 4).find? (fun (n : Fin 4) => decide (n.val < s.ilv c) && s.levelPending c n) = some n) → ((s.core[c]).wait = .none) → (s.fld .SYS_CSTAT_STATE c = 1) → ((s.core[c]).fb flIE = true) → ((s.core[c]).load = []) →
    exec (.interruptEntry c) s = .next (
      let t := s.setCore c fun k => { k with wait := .none }
      let t := ((t.pushPc c).pushByte c (s.core[c]).fl).pushByte c (BitVec.ofNat 8 (s.ilv c))
      ((t.setIlv c n).setCore c fun k => { k with pc := k.vec[n] }).setCoreState c 1)) ∧
  (∀ (s : State) (c : Fin 6) (w : Nat × Half × Nat) (l : List (Nat × Half × Nat)), ((s.core[c]).wait = .tick) → ((s.core[c]).wl = w :: l) → (¬ s.clk.tick ≤ w.2.2) → ((s.flag .SYS_CCTL_TICK c && (s.coreStations c).any fun k => s.lat.suspended[k]) = false) →
    exec (.waitlTickRelease c) s = .next ((s.setCore c fun k => { k with wait := .none, wl := l, pc := w.2.1 + 2, sect := true }).setCoreState c 1)) ∧
  (∀ (s : State) (c : Fin 6) (r : Checkpoint), ((s.core[c]).wait = .chkpt r) → (s.liveBytes + recBytes 768 ≤ 118784) →
    exec (.chkptCommitted c) s = .next (
      let chk := if h : s.task c < 6 then s.jrn.chk.set (s.task c) (some r) else s.jrn.chk
      let t : State := { s with jrn := { s.jrn with chk := chk } }
      ((t.commitRec.bumpWrap .SYS_CCHK_CHKN c 0 1).setCore c fun k => { k with wait := .none }).setCoreState c 1)) ∧
  (∀ (s : State) (c : Fin 6) (a : Half), ((s.core[c]).wait = .dpop a) → ((s.dec.mbx[c]).isEmpty = false) →
    exec (.dpopResult c) s = .next (((s.dpopTake c a).setCore c fun k => { k with wait := .none, pc := k.pc + 2 }).setCoreState c 1)) ∧
  (∀ (s : State) (c : Fin 6) (cls e : Nat) (w : Nat), ((s.core[c]).wait = .req) → (((s.answers.find? fun x => x.1 == .core c).bind fun x => answerClass x.2) = some (cls, e, some w)) →
    exec (.reqAnswer c) s = .next (
      let t := ({ s with answers := s.answers.filter fun x => x.1 != .core c } : State).nextWc c
      let t := t.setCore c fun k =>
        ((((k.setW 0 (BitVec.ofNat 8 cls)).setX 1 (BitVec.ofNat 16 e)).setQ 1 w).setFb flZ (cls == 0 || (cls == 2 && e == 0)))
      (t.setCore c fun k => { k with wait := .none }).setCoreState c 1)) ∧
  (∀ (s : State) (c : Fin 6), (s.fld .SYS_CSTAT_STATE c = 3) → ((s.core[c]).wait = .none) →
    exec (.loadDataArrival c) s = .next (s.setCoreState c 1))

/-- In the state that the rules name for it, each of the events of the Reedbed and the converters completes with the effect that
they give. Commands: `regionWriteComplete`, `regionEpoch`, `cellSat`, `calibrationDone`, `chainMemoryPassed`, `calDue`,
`adcChannel`, `refCompare`, `firBankSwap`, `sfConversionDone`. -/
def Obligations.FabricEventsComplete : Prop :=
  (∀ (s : State) (r : Fin 8) (l : RegionLoad), (s.loads.find? (fun l => l.cfg.any fun e => e.1 == r.val) = some l) → (l.stage = .writing r false) →
    exec (.regionWriteComplete r false) s = .next ((s.bump .REB_RLOAD_VFAIL r 0 1).setLoad l.key fun l => { l with stage := .writing r true })) ∧
  (∀ (s : State) (r : Fin 8) (l : RegionLoad), (s.loads.find? (fun l => l.cfg.any fun e => e.1 == r.val) = some l) → (l.stage = .writing r true) →
    exec (.regionWriteComplete r false) s = .next (
      let t := s.bump .REB_RLOAD_VFAIL r 0 1
      (t.raise .fault Cause.REGION_VERIFY (evStn (t.rgnStn r)) r.val).undoLoad l.key 433)) ∧
  (∀ (s : State) (r : Fin 8) (l : RegionLoad) (e : Nat × RegionCfg) (b : Bool), (s.loads.find? (fun l => l.cfg.any fun e => e.1 == r.val) = some l) → (l.stage = .writing r b) → (l.cfg.find? (fun e => e.1 == r.val) = some e) →
    exec (.regionWriteComplete r true) s = .next (
      (s.showCfg r e.2).setLoad l.key fun l => { l with stage := match nextRegion l r with
        | some q => .writing q false
        | none => .written })) ∧
  (∀ (s : State) (r : Fin 8) (l : RegionLoad), (s.loads.find? (fun l => decide (l.stage = .due) && l.cfg.any fun e => e.1 == r.val) = some l) → (s.loadLive l.cfg l.newRoutes = true) →
    exec (.regionEpoch r) s = .next (s.undoLoad l.key 531)) ∧
  (∀ (s : State) (r : Fin 8) (l : RegionLoad), (s.loads.find? (fun l => decide (l.stage = .due) && l.cfg.any fun e => e.1 == r.val) = some l) → (s.loadLive l.cfg l.newRoutes = false) →
    exec (.regionEpoch r) s = .next (
      let t := (s.setRoutes l.newRoutes).endLoad l.key
      let t := forAll l.cfg t fun t e =>
        let old := match l.old.find? fun x => x.1 == e.1 with
          | some x => x.2
          | none => ⟨e.2, []⟩
        let t := (t.showHandoff (rgnFin e.1) e.2).releaseRegion e.1 (initOnes e.2 old)
        (t.setFld .REB_RSER_IMG e.1 0 l.img).bump .REB_RLOAD_LOADS e.1 0 1
      let t := { t with clk := { t.clk with epoch := t.clk.tick } }
      (forAll (t.fedChans (l.cfg.flatMap fun e => cellsOfRgn e.1)) t.settleFabric fun t c => t.disturb c).workDone l.key)) ∧
  (∀ (s : State) (n : Fin 64) (b : Bool), ((b && !s.flag .REB_CSTAT_SAT n) = false) →
    exec (.cellSat n b) s = .next (s.setFlag .REB_CSTAT_SAT n 0 b)) ∧
  (∀ (s : State) (n : Fin 64), (s.flag .REB_CSTAT_SAT n = false) →
    exec (.cellSat n true) s = .next ((s.setFlag .REB_CSTAT_SAT n 0 true).raise .attn Cause.CELL_SAT (evStn ((s.setFlag .REB_CSTAT_SAT n 0 true).rgnStn (n.val / 8))) n.val)) ∧
  (∀ (s : State) (c : Chan) (x : Int), (s.calOver c = true) →
    exec (.calibrationDone c true x) s = .next (
      let t := s.setCh .ADC_PSTAT_CALIP .ADC_FSTAT_CALIP c 0
      let t := (t.setCh .ADC_PCALT_T .ADC_FCALT_T c (ofSigned 16 x)).setChan c fun x => { x with due := false }
      let t := t.setCh .ADC_PSTAT_FAILED .ADC_FSTAT_FAILED c 0
      (if c.val < 16 then t.disturb c else t.setValid c (t.chRuns c)).calFinished c)) ∧
  (∀ (s : State) (c : Chan) (x : Int), (s.calOver c = true) →
    exec (.calibrationDone c false x) s = .next (
      let t := s.setCh .ADC_PSTAT_CALIP .ADC_FSTAT_CALIP c 0
      let t := (t.setCh .ADC_PCALT_T .ADC_FCALT_T c (ofSigned 16 x)).setChan c fun x => { x with due := false }
      let t := t.failChan c
      (if c.val < 16 then t.disturb c else t.setValid c (t.chRuns c)).calFinished c)) ∧
  (∀ (s : State) (n : Fin 16), (s.memoryPassed n = true) →
    exec (.chainMemoryPassed n) s = .next (s.setValid n true)) ∧
  (∀ (s : State) (x : Int), ((s.setFldInt .ADC_TEMP_T 0 0 x).fld .ADC_CALCFG_CALDT = 0) →
    exec (.calDue x) s = .next (s.setFldInt .ADC_TEMP_T 0 0 x)) ∧
  (∀ (s : State) (x : Int), ((s.setFldInt .ADC_TEMP_T 0 0 x).fld .ADC_CALCFG_CALDT ≠ 0) →
    exec (.calDue x) s = .next (
      let d := (s.setFldInt .ADC_TEMP_T 0 0 x).fld .ADC_CALCFG_CALDT
      let y := (s.setFldInt .ADC_TEMP_T 0 0 x).fldInt .ADC_TEMP_T 0
      forAll (List.finRange 24) (s.setFldInt .ADC_TEMP_T 0 0 x) fun t (c : Fin 24) =>
        let v : Int := if c.val < 16 then t.fldInt .ADC_PCALT_T c else t.fldInt .ADC_FCALT_T (c.val - 16)
        if 10 * d < (y - v).natAbs ∧ !(t.conv.chan[c]).due then
          (t.setChan c fun x => { x with due := true }).raise .attn Cause.CAL_DUE (evStn (t.chanStn c)) c.val
        else t)) ∧
  (∀ (s : State) (c : Chan),
    exec (.adcChannel c) s = .next (s.failChan c)) ∧
  (∀ (s : State) (d a b : Int), (s.fld .ADC_REF_POL ≠ 0) → (s.flag .ADC_REF_FAILA = false) → (s.flag .ADC_REF_FAILB = false) → (s.conv.refAt + 10 * msCounts ≤ s.clk.now) → (d.natAbs ≤ 80) →
    exec (.refCompare d a b) s = .next (
      let t : State := { s with conv := { s.conv with refAt := s.clk.now } }
      let t := t.setFldInt .ADC_REFDIFF_DIFF 0 0 (clamp16 d)
      let t := (t.setFldInt .ADC_REFCHK_A 0 0 (clamp16 a)).setFldInt .ADC_REFCHK_B 0 0 (clamp16 b)
      { t with conv := { t.conv with diverge := 0 } })) ∧
  (∀ (s : State) (n : Fin 16), (s.flag .FCH_TAPS_PEND n = true) → (s.fld .FCH_CFG_MODE n = 2) →
    exec (.firBankSwap n) s = .next ((s.setFlag .FCH_TAPS_PEND n 0 false).setFlag .FCH_TAPS_ACTB n 0 (!s.flag .FCH_TAPS_ACTB n))) ∧
  (∀ (s : State) (n : Fin 16) (v : Int), (s.sfOver n = true) →
    exec (.sfConversionDone n v) s = .next (
      let t := s.setChan ⟨n.val, by omega⟩ fun x => { x with sfGood := false }
      let w := max (-8388607) (min 8388607 v)
      { t with tickSet := t.tickSet ++ [⟨.ADC_PDATA_VALUE, n, 0, ofSigned 32 w⟩, ⟨.ADC_PSTAT_STALE, n, 0, 0⟩,
        ⟨.ADC_PSTAT_VALID, n, 0, b2n (!t.ainBlocked n)⟩, ⟨.ADC_PSTAT_CLIP, n, 0, b2n (w != v)⟩] }))

/-- In the state that the rules name for it, each of the events of DACs and excitation completes with the effect that they give.
Commands: `spanReconfigured`, `ldacEdge`, `deglitchRelease`, `dacCondition`, `dacShortRetry`, `excRampDone`, `excTableChange`,
`excShort`, `excOff`. -/
def Obligations.OutputEventsComplete : Prop :=
  (∀ (s : State) (n : Fin 16), ((s.dac[n]).spanStep = 2) →
    exec (.spanReconfigured n) s = .next (s.setDac n fun d => { d with spanStep := 3, spanNow := s.fld .DAC_CFG_SPAN n })) ∧
  (∀ (s : State),
    exec (.ldacEdge true) s = .next ({ s with ldacRise := (s.ldacRise).or (some s.clk.now) })) ∧
  (∀ (s : State),
    exec (.ldacEdge false) s = .next ({ s with ldacFall := (s.ldacFall).or (some s.clk.now) })) ∧
  (∀ (s : State) (n : Fin 16), (s.flag .DAC_STAT_DGH n = true) → ((s.dac[n]).dgAt + deglitchCounts ≤ s.clk.now) →
    exec (.deglitchRelease n) s = .next (s.setFlag .DAC_STAT_DGH n 0 false)) ∧
  (∀ (s : State) (n : Fin 16), let t := ((s.setFlag .DAC_STAT_SHORT n 0 false).setFlag .DAC_STAT_COMPL n 0 false).setFlag .DAC_STAT_OPEN n 0 false
    (t.dacAxisStn n = none) →
    exec (.dacCondition n false false false) s = .next (t)) ∧
  (∀ (s : State) (n : Fin 16), (s.flag .DAC_STAT_LATCHOFF n = true) → (s.fld .DAC_STAT_RETRY n < 8) → ((s.dac[n]).shortAt + 1010 * msCounts ≤ s.clk.now) →
    exec (.dacShortRetry n false) s = .next (
      let t := (s.setFld .DAC_STAT_RETRY n 0 (s.fld .DAC_STAT_RETRY n + 1)).setDac n fun d => { d with shortAt := s.clk.now }
      let t := (t.setFlag .DAC_STAT_LATCHOFF n 0 false).setFlag .DAC_STAT_SHORT n 0 false
      (t.setFlag .DAC_HOLD_SAFE n 0 (s.dac[n]).wasSafe).setFlag .DAC_OUT_SAFE n 0 (s.dac[n]).wasSafe)) ∧
  (∀ (s : State) (n : Fin 16), (s.flag .DAC_STAT_LATCHOFF n = true) → (s.fld .DAC_STAT_RETRY n < 7) → ((s.dac[n]).shortAt + 1010 * msCounts ≤ s.clk.now) →
    exec (.dacShortRetry n true) s = .next ((s.setFld .DAC_STAT_RETRY n 0 (s.fld .DAC_STAT_RETRY n + 1)).setDac n fun d => { d with shortAt := s.clk.now })) ∧
  (∀ (s : State) (n : Fin 16), (s.flag .DAC_STAT_LATCHOFF n = true) → (s.fld .DAC_STAT_RETRY n = 7) → ((s.dac[n]).shortAt + 1010 * msCounts ≤ s.clk.now) →
    exec (.dacShortRetry n true) s = .next (
      let t := (s.setFld .DAC_STAT_RETRY n 0 8).setDac n fun d => { d with shortAt := s.clk.now }
      t.raise .fault Cause.DA_SHORT (evStn (t.dacStn n)) n.val 8)) ∧
  (∀ (s : State) (g : Fin 4) (k : Key), (s.excSettled g = true) → (s.flag .EXC_STAT_RAMPING g = true) → ((s.exc[g]).key = some k) →
    exec (.excRampDone g) s = .next (((s.setFlag .EXC_STAT_RAMPING g 0 false).setExc g fun x => { x with key := none }).workDone k)) ∧
  (∀ (s : State) (g : Fin 4), (s.flag .EXC_STAT_TPEND g = true) → (s.excPasses g = true) →
    exec (.excTableChange g) s = .next (
      let t := forAll (s.exc[g]).tab (s.sineShadow g) fun t (i, v) => t.setFld .EXC_TAB_V g i v
      let t := (t.setExc g fun x => { x with tab := s.shadowTab g }).setFlag .EXC_STAT_TPEND g 0 false
      t.setFlag .EXC_STAT_BANK g 0 (!t.flag .EXC_STAT_BANK g))) ∧
  (∀ (s : State) (g : Fin 4) (b : Bool), ((b && !s.flag .EXC_STAT_SHORT g) = false) →
    exec (.excShort g b) s = .next (s.setFlag .EXC_STAT_SHORT g 0 b)) ∧
  (∀ (s : State) (g : Fin 4), (s.flag .EXC_STAT_SHORT g = false) →
    exec (.excShort g true) s = .next (
      let t := ((s.setFlag .EXC_STAT_SHORT g 0 true).setFlag .EXC_STAT_SHORTSEEN g 0 true).setExc g fun x => { x with shortAt := s.clk.now }
      t.raise .fault Cause.EXC_SHORT (evStn (t.excStn g)) g.val)) ∧
  (∀ (s : State) (g : Fin 4), (s.flag .EXC_STAT_SHORT g = true) → ((s.exc[g]).shortAt + 1000 * msCounts ≤ s.clk.now) → (s.flag .EXC_STAT_OFF g = false) →
    exec (.excOff g) s = .next (
      let t := (s.excTarget g .EXC_AMP_AMP 0).setFlag .EXC_STAT_OFF g 0 true
      t.raise .fault Cause.EXC_OFF (evStn (t.excStn g)) g.val))

/-- In the state that the rules name for it, each of the events of the panel completes with the effect that they give. Commands:
`keyAccepted`, `keyRepeat`, `keyLongPress`, `pnlKqRead`, `panelBusy`, `pnlChqWrite`, `chrByteDone`, `chrTimeout`, `combo0Fired`,
`combo1Fired`, `panelActionOffer`. -/
def Obligations.PanelEventsComplete : Prop :=
  (∀ (s : State) (k : Fin 256), (s.powered = true) → (s.keyScanned k = true) → (s.panel.down.contains k.val = false) → ((!s.flag .PNL_SCAN_NKEY && !s.panel.down.isEmpty) = false) →
    exec (.keyAccepted k true) s = .next ((s.setPanel fun p =>
      { p with down := p.down ++ [k.val], holds := p.holds ++ [⟨k, s.clk.now, s.clk.now + s.fld .PNL_RPT_RPTD * 10 * msCounts, false⟩] }).keyEvent k kqPress)) ∧
  (∀ (s : State) (k : Fin 256), ((s.comboUp k).powered = true) → (s.panel.down.contains k.val = true) →
    exec (.keyAccepted k false) s = .next (((s.comboUp k).setPanel fun p =>
      { p with down := p.down.filter (· != k.val), holds := p.holds.filter (·.key != k.val) }).keyEvent k kqRelease)) ∧
  (∀ (s : State) (k : Fin 256), (s.repeatDue k = true) →
    exec (.keyRepeat k) s = .next ((s.setHold k fun h => { h with next := h.next + 1000 * msCounts / max 1 (s.fld .PNL_RPT_RATE) }).keyEvent k kqRepeat)) ∧
  (∀ (s : State) (k : Fin 256), (s.longDue k = true) →
    exec (.keyLongPress k) s = .next ((s.setHold k fun h => { h with long := true }).keyEvent k kqLong)) ∧
  (∀ (s : State) (q : Requester), (s.kqMay (s.reqAuth q) = true) →
    exec (.pnlKqRead q) s = .next (s.kqPop)) ∧
  (∀ (s : State) (i : Fin 16) (a : PanelAct), (s.panel.acts.find? (fun a => a.entry == i.val && decide (a.at_ + 1000 * msCounts ≤ s.clk.now)) = some a) →
    exec (.panelBusy i) s = .next ((s.setPanel fun p => { p with acts := p.acts.erase a }).raise .attn Cause.PANEL_BUSY ((s.setPanel fun p => { p with acts := p.acts.erase a }).fld .PNL_KACT_STN i) a.key)) ∧
  (∀ (s : State) (q : Requester) (v : Nat), (s.mayWrite q (fieldWrites .PNL_CHQ 0 0 [(.PNL_CHQ_BYTE, ((v % 256 : Nat) : Int)), (.PNL_CHQ_RS, ((v / 256 % 2 : Nat) : Int))]) = true) →
    exec (.pnlChqWrite q v) s = .next (s.wrApply q (fieldWrites .PNL_CHQ 0 0 [(.PNL_CHQ_BYTE, ((v % 256 : Nat) : Int)), (.PNL_CHQ_RS, ((v / 256 % 2 : Nat) : Int))]))) ∧
  (∀ (s : State) (b : ChrByte) (l : List ChrByte) (k : Key), (s.panel.chq = b :: l) → (s.fld .PNL_CHCFG_CHMODE ≠ 0) → (s.panel.chrAt + s.chrCounts b ≤ s.clk.now) → (b.key = some k) → (b.last = true) →
    exec (.chrByteDone) s = .next (((s.setPanel fun p => { p with chq := l, chrAt := s.panel.chrAt + s.chrCounts b }).chrFill).workDone k)) ∧
  (∀ (s : State) (b : ChrByte) (l : List ChrByte), (s.panel.chq = b :: l) → (s.fld .PNL_CHCFG_CHMODE ≠ 0) → (s.panel.chrAt + s.chrCounts b ≤ s.clk.now) → (b.last = false) →
    exec (.chrByteDone) s = .next ((s.setPanel fun p => { p with chq := l, chrAt := s.panel.chrAt + s.chrCounts b }).chrFill)) ∧
  (∀ (s : State), (s.fld .PNL_CHCFG_CHMODE = 2) → (s.panel.chq.isEmpty = false) → (s.panel.chrAt + 20 * msCounts ≤ s.clk.now) →
    exec (.chrTimeout) s = .next (
      let keys := (s.panel.chq.filterMap fun b => b.key).eraseDups
      let t := s.setPanel fun p => { p with chq := [], chWait := p.chWait.filter fun b => match b.key with
        | some k => !keys.contains k
        | none => true }
      let t := forAll keys t fun t k => t.workFailed k 434
      (t.chrFill.setFlag .PNL_CHSTAT_TMO 0 0 true).raise .fault Cause.CHR_TIMEOUT 4)) ∧
  (∀ (s : State), (s.comboReady 0 = true) → (s.committed = true) →
    exec (.combo0Fired) s = .next ((s.setFlag .PNL_KSTAT_C0ACT 0 0 true).warmTrigger Cause.COMBO_RESET)) ∧
  (∀ (s : State), (s.phase = .running) → (s.comboReady 1 = true) →
    exec (.combo1Fired) s = .next (
      let t := (s.setFlag .PNL_KSTAT_C1ACT 0 0 true).setFlag .SER_STAT_RESCUE 0 0 true
      let t := (t.setPort 0 fun q => { clearLine q with rsp := [], rspWait := [], echo := [] }).flowChanged 0
      ((t.emptyRings [10]).beginSession 0).raise .attn Cause.COMBO_RESCUE 4)) ∧
  (∀ (s : State) (i : Fin 16) (a : PanelAct) (k : Fin 4) (c : Instr) (w : Work), (s.panel.acts.find? (fun a => a.entry == i.val && decide (s.clk.now < a.at_ + 1000 * msCounts)) = some a) → (s.calcOwns = false) → (k.val = s.fld .PNL_KACT_STN i % 4) → (actCmd (s.fld .PNL_KACT_ACT i) k = some c) → (s.actWork (s.fld .PNL_KACT_ACT i) k = some w) → ((s.offer .panel c w).lastOf 4 ≠ s.lastOf 4) →
    exec (.panelActionOffer i) s = .next ((s.offer .panel c w).setPanel fun p => { p with acts := p.acts.erase a }))

/-- In the state that the rules name for it, each of the events of the field pins and their group supplies completes with the
effect that they give. Commands: `vfgStateChange`, `fioInputChange`, `fioCondition`, `fioRetry`, `fioRetryEnd`, `fioPin`,
`ainTestBurst`, `ainCondition`. -/
def Obligations.PinEventsComplete : Prop :=
  (∀ (s : State) (g : Fin 8), (s.groupState g ≠ 0) → (s.fio.firstUv[g] = true ∨ s.fio.leftAt[g] + 100 * msCounts ≤ s.clk.now) →
    exec (.vfgStateChange g 0) s = .next (
      let t := (s.setFld .FIO_GSTAT_STATE g 0 (0 : Fin 4)).setFio fun x => { x with firstUv := x.firstUv.set g false, leftAt := x.leftAt.set g s.clk.now }
      forAll ((List.finRange 64).filter fun (n : Fin 64) => n.val / 8 == g.val) t fun t n => t.setPin n fun p =>
        { p with stale := true, offAt := if t.flag .FIO_STAT_LATCHOFF n then t.clk.now else p.offAt })) ∧
  (∀ (s : State) (g : Fin 8) (x : Fin 4), (s.groupState g = 0) → (x ≠ 0) →
    exec (.vfgStateChange g x) s = .next (
      let t := ((s.setFld .FIO_GSTAT_STATE g 0 x).setFio fun y => { y with firstUv := y.firstUv.set g false, leftAt := y.leftAt.set g s.clk.now }).setFlag .FIO_GSTAT_LOSSEEN g 0 true
      let t := forAll ((List.finRange 64).filter fun (n : Fin 64) => n.val / 8 == g.val) t fun t n => t.dropRetry n
      if t.fieldLive then t.groupEvent g else t)) ∧
  (∀ (s : State) (n : Fin 64) (v : Bool), (s.pinFn n ≠ 0) → ((s.isInput n && !s.groupOk n) = false) →
    exec (.fioInputChange n v) s = .next ((s.setInBit n v).setPin n fun p => { p with stale := false })) ∧
  (∀ (s : State) (n : Fin 64) (c : Fin 7), (s.fieldLive = true) → (s.groupOk n = true) → (s.condBit n c = true) →
    exec (.fioCondition n c false) s = .next (s.setCond n c false)) ∧
  (∀ (s : State) (n : Fin 64) (c : Fin 7), (s.fieldLive = true) → (s.groupOk n = true) → (s.condBit n c = false) → (s.condNow n c = true) → (c.val ≠ 2) →
    exec (.fioCondition n c true) s = .next (
      let t := s.setCond n c true
      (t.setFld .FIO_STAT_SEEN n 0 (bitTo (t.fld .FIO_STAT_SEEN n) c true)).actCond n c)) ∧
  (∀ (s : State) (n : Fin 64), ((s.flag .FIO_STAT_LATCHOFF n && !(s.fio.pin[n]).retrying && !s.isEnable n && s.pinPol n == 2 && s.fld .FIO_STAT_RETRY n != 8
      && !s.pinForced n && s.isOut n && bitFind s.fio.foutDev n && decide ((s.fio.pin[n]).offAt + 1000 * msCounts ≤ s.clk.tick)) = true) →
    exec (.fioRetry n) s = .next (s.setPin n fun p => { p with retrying := true, retryAt := s.clk.now })) ∧
  (∀ (s : State) (n : Fin 64), ((s.fio.pin[n]).retrying = true) → (s.pinForced n = false) →
    exec (.fioRetryEnd n true) s = .next (s.retryFail n)) ∧
  (∀ (s : State) (n : Fin 64), ((s.fio.pin[n]).retrying = true) → (s.pinForced n = false) → ((s.fio.pin[n]).retryAt + 10 * msCounts ≤ s.clk.now) →
    exec (.fioRetryEnd n false) s = .next (
      let t := s.setCond n (s.fio.pin[n]).cond false
      ((t.setFlag .FIO_STAT_LATCHOFF n 0 false).setFld .FIO_STAT_RETRY n 0 0).setPin n fun p => { p with retrying := false })) ∧
  (∀ (s : State) (n : Fin 64), (s.flag .FIO_STAT_FAILED n = false) → (s.pinFn n ≠ 0) → let t := s.setFlag .FIO_STAT_FAILED n 0 true
    let t := t.raise .fault Cause.FIO_PIN (evStn (s.pinStn n)) n.val
    (t.enableStn n = none) →
    exec (.fioPin n) s = .next (t)) ∧
  (∀ (s : State) (i : Fin 32), ((s.fieldLive && s.flag .FIO_ACFG_OWEN i && s.fld .FIO_ACFG_POL i != 0
      && ((s.ainChans i).isEmpty || (s.ainChans i).any fun (c : Fin 24) => !s.chanAsleep c)
      && decide (s.fio.burst[i] + s.fld .FIO_ACFG_TPER i * 10 * msCounts ≤ s.clk.tick)) = true) →
    exec (.ainTestBurst i) s = .next (s.setFio fun x => { x with burst := x.burst.set i s.clk.tick })) ∧
  (∀ (s : State) (i : Fin 32), (s.fieldLive = true) → (s.fld .FIO_ASTAT_COND i / 2 ^ (1 : Fin 3).val % 2 = 1) → let t := s.setFld .FIO_ASTAT_COND i 0 (bitTo (s.fld .FIO_ASTAT_COND i) (1 : Fin 3) false)
    (t.fld .FIO_ACFG_POL i ≠ 2) →
    exec (.ainCondition i 1 false) s = .next (t))

/-- In the state that the rules name for it, each of the events of the link layer completes with the effect that they give.
Commands: `portTrained`, `portDown`, `portRetrain`, `linkRate`, `topo`, `dataFrameReceived`, `ack`, `nak`, `attemptTimeout`,
`pause`, `pauseExpiry`, `pauseRefresh`, `nakFullResend`, `sync`, `syncSend`, `syncLost`, `freezeFrame`, `mirror`. -/
def Obligations.LinkEventsComplete : Prop :=
  (∀ (s : State) (p : Fin 2) (b : Bool) (d : Fin 8) (n : Nat), (s.linkOn = true) → (s.portUp p = false) → (s.fld .OLK_PSTAT_STATE p ≠ 3) →
    exec (.portTrained p b d n) s = .next (
      let t := ((s.setFld .OLK_PSTAT_STATE p 0 2).setFlag .OLK_PSTAT_LOW p 0 b).setFld .OLK_PDLY_DLY p 0 (min n 65535)
      (t.setLPort p fun q => { q with nbr := some d, seen := none, bad := false }).ringView.sendTopo.sendHello.pump)) ∧
  (∀ (s : State) (p : Fin 2), (s.fld .OLK_PSTAT_STATE p = 1 ∨ s.fld .OLK_PSTAT_STATE p = 2) →
    exec (.portDown p) s = .next (s.segmentDown p (if (s.lnk.port[p]).bad then 3 else 0))) ∧
  (∀ (s : State) (p : Fin 2), (s.linkOn = true) → (s.fld .OLK_PSTAT_STATE p = 0) → (((s.lnk.port[p]).downAt.map fun t => decide (t + 100 * msCounts ≤ s.clk.now)).getD true = true) →
    exec (.portRetrain p) s = .next (s.setFld .OLK_PSTAT_STATE p 0 1)) ∧
  (∀ (s : State) (p : Fin 2) (l : List Nat), (s.portUp p = true) → (s.flag .OLK_PSTAT_LOW p = false) → ((s.lnk.port[p]).errAt.filter (fun t => decide (s.clk.now < t + 1000 * msCounts)) = l) →
    exec (.linkRate p) s = .next (s.symErrs p (8 - l.length))) ∧
  (∀ (s : State) (p : Fin 2) (l : List Nat), (s.portUp p = true) → (s.flag .OLK_PSTAT_LOW p = false) → ((s.lnk.port[p]).errAt.filter (fun t => decide (s.clk.now < t + 1000 * msCounts)) = l) → (l.length ≤ 8) → let t := (s.bump .OLK_PCNT_ERRS p 0 (8 - l.length)).setLPort p fun q => { q with errAt := l ++ List.replicate (8 - l.length) s.clk.now }
    (t.flag .OLK_PSTAT_LOW p = false) → (t.portUp p = true) →
    exec (.linkRate p) s = .next (t.rateAct p)) ∧
  (∀ (s : State) (r : LinkRx) (u : State), (s.takeRx typTopo = some (r, u)) → (r.f.src = u.ownAddr) → (u.flag .OLK_STAT_ADDRDUP = false) →
    exec (.topo) s = .next ((match Config.topoPayload (r.f.payload.map (·.toNat)) with
      | none => u
      | some i => if i = u.ownInfo then u else (u.setFlag .OLK_STAT_ADDRDUP 0 0 true).raise .fault Cause.LINK_ADDR 4))) ∧
  (∀ (s : State) (p : Fin 2) (l : List Byte), (s.linkOn = true) → (s.portUp p = true) → (parseFrame l = none) →
    exec (.dataFrameReceived p l) s = .next ((s.nakFrame p (leAt l 4 2) false).symErrs p 1)) ∧
  (∀ (s : State) (p : Fin 2) (l : List Byte) (f : LinkFrame) (q n : Nat), (s.linkOn = true) → (s.portUp p = true) → (parseFrame l = some (f, q)) → (¬ (f.hops = 0 ∧ f.dmask / 2 ^ s.ownAddr % 2 = 0)) → ((s.lnk.port[p]).seen = some n) → (q = (n + 1) % 65536) →
    exec (.dataFrameReceived p l) s = .next (s.takeFrame p f q)) ∧
  (∀ (s : State) (p : Fin 2) (l : List Byte) (f : LinkFrame) (q n : Nat), (s.linkOn = true) → (s.portUp p = true) → (parseFrame l = some (f, q)) → (¬ (f.hops = 0 ∧ f.dmask / 2 ^ s.ownAddr % 2 = 0)) → ((s.lnk.port[p]).seen = some n) → (q ≠ (n + 1) % 65536) → ((n + 65536 - q) % 65536 < 32768) →
    exec (.dataFrameReceived p l) s = .next (s.sendCtl p (.ack q))) ∧
  (∀ (s : State) (p : Fin 2) (q : Nat),
    exec (.ack p q) s = .next ((s.setLPort p fun x => { x with win := x.win.filter fun e => e.lseq != q }).pump)) ∧
  (∀ (s : State) (p : Fin 2) (q : Nat),
    exec (.nak p q true) s = .next (s.setLPort p fun x =>
      { x with win := x.win.map fun e => if e.lseq = q ∧ e.out then { e with out := false, full := true, tries := e.tries - 1 } else e })) ∧
  (∀ (s : State) (p : Fin 2) (q : Nat),
    exec (.nak p q false) s = .next (s.attemptFailed p q)) ∧
  (∀ (s : State) (p : Fin 2) (q : Nat),
    exec (.attemptTimeout p q) s = .next (s.attemptFailed p q)) ∧
  (∀ (s : State) (p : Fin 2) (n : Nat), (n % 65536 ≠ 0) →
    exec (.pause p n) s = .next ((s.setLPort p fun q => { q with pauseQ := n % 65536 }).setFlag .OLK_PSTAT_PAUSED p 0 (n % 65536 != 0))) ∧
  (∀ (s : State) (p : Fin 2) (n : Nat), (n % 65536 = 0) →
    exec (.pause p n) s = .next (((s.setLPort p fun q => { q with pauseQ := 0 }).setFlag .OLK_PSTAT_PAUSED p 0 false).fullAgain p fun _ => true)) ∧
  (∀ (s : State) (p : Fin 2), ((s.lnk.port[p]).pauseQ ≠ 0) →
    exec (.pauseExpiry p) s = .next (((s.setLPort p fun q => { q with pauseQ := 0 }).setFlag .OLK_PSTAT_PAUSED p 0 false).fullAgain p fun _ => true)) ∧
  (∀ (s : State) (p : Fin 2), ((s.portUp p && (s.lnk.port[p]).pausing && s.congested p) = true) →
    exec (.pauseRefresh p) s = .next (s.sendCtl p (.pause (s.fld .OLK_CFG2_PQ)))) ∧
  (∀ (s : State) (p : Fin 2), ((s.portUp p && (s.lnk.port[p]).pausing && s.congested p) = false) →
    exec (.pauseRefresh p) s = .next (s.pauseUpdate)) ∧
  (∀ (s : State) (p : Fin 2) (q : Nat), ((s.lnk.port[p]).pauseQ = 0) →
    exec (.nakFullResend p q) s = .next (s.fullAgain p fun e => e.lseq == q)) ∧
  (∀ (s : State) (p : Fin 2) (v : Nat) (d : Int), (s.portUp p = true) → (s.isMaster = false) →
    exec (.sync p v d) s = .next ((if s.portUp (otherPort p) then s.sendCtl (otherPort p) (.sync (v % 2 ^ 48)) else s).syncSeen d)) ∧
  (∀ (s : State), (s.isMaster = true) → ((s.portUp 0 || s.portUp 1) = true) → ((s.lnk.lastSync.map fun t => decide (t + msCounts ≤ s.clk.now)).getD true = true) →
    exec (.syncSend) s = .next (
      let t := forAll [(0 : Fin 2), 1] s fun t p => if t.portUp p then t.sendCtl p (.sync (t.clk.now % 2 ^ 48)) else t
      (t.setFld .OLK_INFO_SYNC 0 0 t.othersMask).syncSeen 0)) ∧
  (∀ (s : State), (s.flag .TC_STATUS_SYNCED = true) → ((s.lnk.lastSync.map fun t => decide (s.clk.now < t + 10 * msCounts)).getD false = false) →
    exec (.syncLost) s = .next (((s.setLnk fun l => { l with good := 0 }).setFlag .TC_STATUS_SYNCED 0 0 false).raise .attn Cause.SYNC_LOST 4)) ∧
  (∀ (s : State) (p : Fin 2), (s.portUp p = true) →
    exec (.freezeFrame p) s = .next ((s.sendFreeze [otherPort p]).obsFreeze 4 0)) ∧
  (∀ (s : State) (r : LinkRx) (u : State), (s.takeRx typMirror = some (r, u)) → ((u.flag .OLK_MIRROR_INEN && u.fld .OLK_MIRROR_IN == r.f.src && r.f.payload.length == 96) = true) →
    exec (.mirror) s = .next (forAll (List.range 24) u fun t g => t.setFld .PNL_DRAW_SEG g 0 (leAt r.f.payload (4 * g) 4)))

/-- In the state that the rules name for it, each of the events of link transactions and two-phase multicast completes with the
effect that they give. Commands: `line`, `answer`, `result`, `statusq`, `statusa`, `prepare`, `vote`, `commit`, `abort`,
`hello`, `series`, `txnTimeout`, `statusQueryRetry`, `peerBusyResend`, `multicastTimeout`, `decisionResend`, `multicastApply`.
-/
def Obligations.PeerEventsComplete : Prop :=
  (∀ (s : State) (r : LinkRx) (u : State) (d : Fin 8) (i : Instr), (s.answering = true) → (s.takeRx typLine = some (r, u)) → (srcDev r.f.src = some d) → (r.f.q = true) → (((u.openLine ⟨16 + d.val, 0, queryMark r.f.txn⟩ d r.f.txn).setLnk fun l => { l with auth := r.auth }).accepting = true) → (((u.openLine ⟨16 + d.val, 0, queryMark r.f.txn⟩ d r.f.txn).setLnk fun l => { l with auth := r.auth }).peerText (.peer d (queryMark r.f.txn)) d true r.f.payload = .ok i) →
    exec (.line) s = .next (
      let t := (u.openLine ⟨16 + d.val, 0, queryMark r.f.txn⟩ d r.f.txn).setLnk fun l => { l with auth := r.auth }
      ((t.runCommand (.peer d (queryMark r.f.txn)) i r.f.payload.length).setLnk fun l => { l with auth := none }).linkWork)) ∧
  (∀ (s : State) (r : LinkRx) (u : State) (x : Txn), (s.takeRx typAnswer = some (r, u)) → (u.findTxn r.f.txn = some x) → (x.d.val = r.f.src) →
    exec (.answer) s = .next ((forAll ((answerLines r.f.payload).filterMap replyOf) u fun t y => t.txnReply r.f.txn y).linkWork)) ∧
  (∀ (s : State) (r : LinkRx) (u : State) (x : Txn), (s.takeRx typResult = some (r, u)) → (u.findMc r.f.txn = none) → (u.findTxn r.f.txn = some x) → (x.d.val = r.f.src) → (x.st ≠ .query) →
    exec (.result) s = .next ((u.endTxn x (if byteAt r.f.payload 0 = 2 then 0 else leAt r.f.payload 2 2)).linkWork)) ∧
  (∀ (s : State) (r : LinkRx) (u : State) (d : Fin 8) (m : Item), (s.takeRx typStatusq = some (r, u)) → (srcDev r.f.src = some d) → (u.findItem ⟨16 + d.val, (u.source (16 + d.val)).ser, r.f.wsn⟩ = some m) → (4 ≤ stateCode m.st) →
    exec (.statusq) s = .next (u.frameTo d typStatusa false r.f.wsn r.f.txn (leBytes 2 (stateCode m.st) ++ leBytes 2 m.err) noAuth)) ∧
  (∀ (s : State) (r : LinkRx) (u : State) (x : Txn) (n : Nat), (s.takeRx typStatusa = some (r, u)) → (u.findTxn r.f.txn = some x) → (x.st = .inDoubt n) → (x.d.val = r.f.src) → (byteAt r.f.payload 0 = 4) →
    exec (.statusa) s = .next (u.endTxn x 0)) ∧
  (∀ (s : State) (r : LinkRx) (u : State) (d : Fin 8) (n : Nat), (s.answering = true) → (s.takeRx typPrepare = some (r, u)) → (srcDev r.f.src = some d) → (u.accepting = true) → (u.peerText (.peer d (leAt r.f.payload (4 * u.ownAddr) 4)) d false (r.f.payload.drop 32) = .error n) →
    exec (.prepare) s = .next (u.sendVote d r.f.txn 1 n)) ∧
  (∀ (s : State) (r : LinkRx) (u : State) (d : Fin 8) (i : Instr) (w : Work), (s.answering = true) → (s.takeRx typPrepare = some (r, u)) → (srcDev r.f.src = some d) → (u.accepting = true) → (u.peerText (.peer d (leAt r.f.payload (4 * u.ownAddr) 4)) d false (r.f.payload.drop 32) = .ok i) → (((u.measured i).2.setLnk fun l => { l with auth := r.auth }).workOf (u.measured i).1 = some w) → ((((u.measured i).2.setLnk fun l => { l with auth := r.auth }).legOf (u.candKey (.peer d (leAt r.f.payload (4 * u.ownAddr) 4)))).isSome = false) →
    exec (.prepare) s = .next (
      let o : Origin := .peer d (leAt r.f.payload (4 * u.ownAddr) 4)
      let t := ((u.measured i).2.setLnk fun l => { l with auth := r.auth }).openLine (u.candKey o) d r.f.txn
      let t := t.setLnk fun l => { l with staged := l.staged ++ [⟨u.candKey o, d, r.f.txn, none, false, true⟩] }
      let t := t.offerAs o (u.measured i).1 (stagedWork w (r.auth.isNone && !t.flag .TC_STATUS_SYNCED)) true r.f.payload.length
      (t.setLnk fun l => { l with auth := none }).linkWork)) ∧
  (∀ (s : State) (r : LinkRx) (u : State) (m : Multicast), (s.takeRx typVote = some (r, u)) → let v := (u.modMc r.f.txn (modLeg r.f.src fun e => { e with vote := some (byteAt r.f.payload 0, leAt r.f.payload 2 2) })).commitRec
    (v.findMc r.f.txn = some m) → (m.dec = .open_) → (m.legs.any (fun e => e.d.val == r.f.src) = true) → (byteAt r.f.payload 0 = 1) →
    exec (.vote) s = .next (v.decide_ m (.abort (leAt r.f.payload 2 2)))) ∧
  (∀ (s : State) (r : LinkRx) (u : State), (s.takeRx typCommit = some (r, u)) →
    exec (.commit) s = .next (
      let c := leAt r.f.payload 0 8
      let t := u.reAck r.f.src r.f.txn
      let legs := t.lnk.staged.filter fun (e : StagedLeg) => isLeg r.f.src r.f.txn e && e.live && e.count.isNone
      (forAll legs t fun t (e : StagedLeg) =>
        let t := if (t.findItem e.key).map (·.st) = some .held then t.setItem e.key .pending else t
        if firstMultiple c t.divisor ≤ t.clk.now then
          (t.modStaged e.key fun e => { e with count := some (t.clk.now + 1), late := true }).raise .fault Cause.MC_LATE 4
        else t.modStaged e.key fun e => { e with count := some c }).linkWork)) ∧
  (∀ (s : State) (r : LinkRx) (u : State), (s.takeRx typAbort = some (r, u)) →
    exec (.abort) s = .next (
      let t := u.reAck r.f.src r.f.txn
      let legs := t.lnk.staged.filter fun (e : StagedLeg) => isLeg r.f.src r.f.txn e && e.live
      (forAll legs t fun t (e : StagedLeg) => (t.modStaged e.key fun e => { e with live := false }).workFailed e.key 707).linkWork.pruneStaged)) ∧
  (∀ (s : State) (r : LinkRx) (u : State) (d : Fin 8), (s.takeRx typHello = some (r, u)) → (srcDev r.f.src = some d) → ((leAt r.f.payload (6 * u.ownAddr) 2 != (u.source (16 + d.val)).ser || decide (leAt r.f.payload (6 * u.ownAddr + 2) 4 < (u.source (16 + d.val)).last)) = false) →
    exec (.hello) s = .next (u.setLnk fun l => { l with mism := l.mism.set d false })) ∧
  (∀ (s : State) (r : LinkRx) (u : State) (d : Fin 8), (s.takeRx typHello = some (r, u)) → (srcDev r.f.src = some d) → ((leAt r.f.payload (6 * u.ownAddr) 2 != (u.source (16 + d.val)).ser || decide (leAt r.f.payload (6 * u.ownAddr + 2) 4 < (u.source (16 + d.val)).last)) = true) →
    exec (.hello) s = .next ((u.setLnk fun l => { l with mism := l.mism.set d true }).raise .attn Cause.LINK_SERIES 4 (inst := d.val))) ∧
  (∀ (s : State) (r : LinkRx) (u : State) (d : Fin 8), (s.answering = true) → (s.takeRx typSeries = some (r, u)) → (srcDev r.f.src = some d) → (u.accepting = true) → (u.seriesClosed (16 + d.val) = true) → (u.commitFull = false) →
    exec (.series) s = .next (
      let t := u.commitRec.restartSeries (16 + d.val)
      let t : State := { t with jrn := { t.jrn with src := if h : 16 + d.val < 24 then t.jrn.src.set (16 + d.val) ⟨leAt r.f.payload 0 2, 0⟩ else t.jrn.src } }
      (t.setLnk fun l => { l with mism := l.mism.set d false }).sendAnswer d 0 r.f.txn [.ok .none false])) ∧
  (∀ (s : State) (n : Nat) (x : Txn), (s.findTxn n = some x) → (s.timedOut x.at_ = true) → (x.st = .query) →
    exec (.txnTimeout n) s = .next (s.queryReply x (.er 705))) ∧
  (∀ (s : State) (n : Nat) (x : Txn), (s.findTxn n = some x) → (s.timedOut x.at_ = true) → (x.st = .sent) → (x.d.val ≠ s.ownAddr) → ((((x.key.bind s.findItem).map (·.st)) == some .held) = false) →
    exec (.txnTimeout n) s = .next ((((s.giveUp n).modTxn n fun t => { t with st := .inDoubt 1, at_ := s.clk.now }).doubt x).askStatus x)) ∧
  (∀ (s : State) (n q : Nat) (x : Txn), (s.findTxn n = some x) → (x.st = .inDoubt q) → (q < 8) → ((if q = 0 then s.portUp 0 || s.portUp 1 else s.timedOut x.at_) = true) →
    exec (.statusQueryRetry n) s = .next ((s.modTxn n fun t => { t with st := .inDoubt (q + 1), at_ := s.clk.now }).askStatus x)) ∧
  (∀ (s : State) (n : Nat) (x : Txn), (s.findTxn n = some x) → (x.st = .inDoubt 8) → (s.timedOut x.at_ = true) →
    exec (.statusQueryRetry n) s = .next ((s.modTxn n fun t => { t with st := .inDoubt 9, at_ := s.clk.now }).raise .fault Cause.LINK_INDOUBT 4)) ∧
  (∀ (s : State) (n : Nat) (x : Txn), (s.findTxn n = some x) → (x.st = .busy) →
    exec (.peerBusyResend n) s = .next ((s.modTxn n fun t => { t with st := .sent }).sendTxn x)) ∧
  (∀ (s : State) (n : Nat) (m : Multicast), (s.findMc n = some m) → (m.dec = .open_) → (s.timedOut m.at_ = true) →
    exec (.multicastTimeout n) s = .next (s.decide_ m (.abort 705))) ∧
  (∀ (s : State) (n : Nat) (m : Multicast), (s.findMc n = some m) → ((m.legs.foldl (fun (t : Nat) (e : McLeg) => if e.acked then t else t + 2 ^ e.d.val) 0) ≠ 0) →
    exec (.decisionResend n) s = .next (s.sendDecision m (m.legs.foldl (fun (t : Nat) (e : McLeg) => if e.acked then t else t + 2 ^ e.d.val) 0))) ∧
  (∀ (s : State), (s.flag .TC_STATUS_REFOK = true) → (s.phase = .running) →
    exec (.multicastApply) s = .next (
      let due := s.lnk.staged.filter fun (e : StagedLeg) =>
        e.live && (e.count.map fun c => decide (firstMultiple c s.divisor ≤ s.clk.tick)) == some true
      (forAll due s fun t (e : StagedLeg) =>
        let t := t.modStaged e.key fun e => { e with live := false }
        let t := t.setLnk fun l => { l with open_ := l.open_.map fun (o : PeerOpen) => if o.key = e.key then { o with late := e.late } else o }
        match (t.findItem e.key).bind fun i => i.cmd.bind fun c => t.workOf (pinStn c i.stn) with
        | some w => t.begin_ e.key w.run
        | none => t).linkWork.pruneStaged))

/-- In the state that the rules name for it, each of the events of flash and SRAM completes with the effect that they give.
Commands: `flashOpDone`, `flashAutoResume`, `stewardIdle`, `sramUncorr`, `sramBank`, `sramScrub`. -/
def Obligations.StoreEventsComplete : Prop :=
  (∀ (s : State) (x : FlashOp) (l : List FlashOp) (k : Key), (s.flash.ops = x :: l) → (s.flag .FLS_STAT_SUSP = false) → (x.key = some k) →
    exec (.flashOpDone false) s = .next (
      let t := (s.setFlash fun f => { f with ops := l.filter fun r => s.phase != .console && (x.key.isNone || r.key != x.key) }).sectorFail x.sect
      (((t.addEnded k false).workFailed k 435).flashStart.flashWaiting).consoleDone false)) ∧
  (∀ (s : State) (x : FlashOp) (l : List FlashOp), (s.flash.ops = x :: l) → (s.flag .FLS_STAT_SUSP = false) → (s.flashBankBad (bankOfSect x.sect) = false) → (x.key = none) →
    exec (.flashOpDone true) s = .next (
      let t := ((s.flashApply x).commitRec).setFlash fun f => { f with ops := l }
      ((if t.fld .JRN_STAT_FILL ≥ t.fld .JRN_CFG_FILLWARN then t.archive else t).flashStart.flashWaiting).consoleDone true)) ∧
  (∀ (s : State), (s.flag .FLS_STAT_XSUSP = false) →
    exec (.flashAutoResume) s = .next (s.setFlag .FLS_STAT_SUSP 0 0 false)) ∧
  (∀ (s : State), (s.flash.ops = []) → (s.phase = .running) → (s.flash.restAt + 10 * msCounts ≤ s.clk.now) →
    exec (.stewardIdle) s = .next (
      s.archive.flashQueue (((List.range 64).filter fun (n : Nat) => s.sectState n == sectQuar && !s.flashBankBad (bankOfSect n)).map
        fun (n : Nat) => (⟨.repair, n, s.archive.keptGranules n, none, true⟩ : FlashOp)))) ∧
  (∀ (s : State) (a : Nat) (x : StnCode), (inSram a = true) → (s.wordFails a = false) → (a / 0x200000 = 0) → (generalPage a = none) →
    exec (.sramUncorr a x) s = .next (
      let t := (s.bump .SYS_SECC_UNCORR 0 0 1).setFld .SYS_SADDR_ADDR 0 0 a
      { t with sram := { t.sram with unc := t.sram.unc.set 0 (some (a / 8, t.clk.now)) } })) ∧
  (∀ (s : State) (b : Fin 2),
    exec (.sramBank b) s = .next (s.bankDown b)) ∧
  (∀ (s : State) (n : Nat) (l : List (Fin 16)), (n ≠ 0) →
    exec (.sramScrub ⟨n, l⟩) s = .next ((List.range (min n 65535)).foldl (fun t _ => t.raise .attn Cause.SRAM_CORR 4)
      ((l.foldl State.metaDiffers s).bump .SYS_SECC_CORR 0 0 n))) ∧
  (∀ (s : State) (l : List (Fin 16)),
    exec (.sramScrub ⟨0, l⟩) s = .next (l.foldl State.metaDiffers s))

/-- In the state that the rules name for it, each of the events of supplies, resets, start-up, images and replay completes with
the effect that they give. Commands: `powerUp`, `keepLoss`, `brownOut`, `nreset`, `watchdog`, `warmReset`, `warmStop`,
`resetRelease`, `refStartTimeout`, `refSourceTaken`, `sramSelfTestDone`, `startupCalibrationDone`, `candidateVerified`,
`cfgDoneRelease`, `cfgDoneHigh`, `commitRegionRelease`, `cfgTimeout`, `journalReplayDone`, `imagePut`, `imageWrite`. -/
def Obligations.StartUpEventsComplete : Prop :=
  (∀ (s : State) (c n : Nat), (s.phase = .keepOnly) →
    exec (.powerUp (some c) n) s = .next (
      let t : State := { s with clk := { s.clk with now := s.clk.now + 750 * n } }
      let t := (((t.setFlag .PWR_STAT_VINOK 0 0 true).setFld .PWR_DOM_ON 0 0 (if t.flag .PWR_DOM_OBSEN then 0xFF else 0x7F)).setFld .PWR_HOLDC_C 0 0 (min c 4095)).holdShown
      { t with phase := .inReset, tap := State.reset.tap })) ∧
  (∀ (s : State) (n : Nat), (s.phase = .off) →
    exec (.powerUp none n) s = .next (
      let t := ((s.setFlag .PWR_STAT_VINOK 0 0 true).setFld .PWR_DOM_ON 0 0 (if s.flag .PWR_DOM_OBSEN then 0xFF else 0x7F)).holdShown
      { t with phase := .inReset, tap := State.reset.tap })) ∧
  (∀ (s : State), (s.phase = .keepOnly) →
    exec (.keepLoss) s = .next ({ linkBad ((setPwr s fun p => { p with keep := false, cause := s.pwr.cause }).coldReset true) with phase := .off })) ∧
  (∀ (s : State) (d : Fin 6), (s.phase = .inReset) →
    exec (.brownOut d) s = .next ({ s.calcDark with phase := .keepOnly })) ∧
  (∀ (s : State) (d : Fin 6), (s.phase = .running) →
    exec (.brownOut d) s = .next (
      let t := s.bump .PWR_RCNT_BROWNOUT 0 0 1
      let t := if t.committed then
          forAll (List.finRange 4) t fun t (k : Fin 4) =>
            if t.configured k then
              let t := if t.atRest k then t.clampStation k else t.pathRecord k
              t.raise .trip Cause.BROWNOUT k (det := d.val)
            else t
        else t
      { ((t.journalCounts.commitRec.goCold Cause.BROWNOUT true).calcDark.setFlag .PWR_STAT_VINOK 0 0 false).setFld .PWR_DOM_ON 0 0 1 with phase := .keepOnly })) ∧
  (∀ (s : State), (s.phase = .running) →
    exec (.nreset) s = .next (s.goCold Cause.NRESET false)) ∧
  (∀ (s : State) (n : Nat), (s.pwr.wdt = some n) → (n ≤ s.clk.now) →
    exec (.watchdog) s = .next (s.warmTrigger Cause.WATCHDOG)) ∧
  (∀ (s : State) (n : Nat), (s.pwr.closing = some (.warm, n)) → (s.phase = .closing) → (s.allAtRest = true) →
    exec (.warmReset) s = .next (
      let t := (s.warmSafe).warmCore
      let t := if t.pwr.reduce then t.reduce else t.rebuildRings
      let t := setPwr { t with phase := .replaying } fun p => { p with
        closing := none, reduce := false, rest := Vector.replicate 4 none, wake := Vector.replicate 4 [] }
      t.restartRecord 1 2 n)) ∧
  (∀ (s : State) (k : Fin 4), (s.phase = .closing) → (s.atRest k = false) → (s.pwr.closeAt + 2000 * msCounts ≤ s.clk.now) →
    exec (.warmStop k) s = .next ((s.tripStation k).raise .trip Cause.WARM_STOP k)) ∧
  (∀ (s : State) (b : Bool) (x : Fin 4) (d : Fin 8), (s.coldClosed.phase = .inReset) → (s.coldClosed.fld .TC_REFSEL_SEL = 0) →
    exec (.resetRelease b x d) s = .next (
      let s := s.coldClosed
      let t := ((s.setFld .CFG_STAT_CFGSRC 0 0 x).setFld .OLK_STAT_ADDR 0 0 d).bootPolicy
      let t : State := { t with phase := .waitRef, clk := { t.clk with chosen := if b then .refin else .xtal, taken := false, startTimeout := false } }
      let t := (t.setFlag .TC_STATUS_REFOK 0 0 false).setFlag .TC_STATUS_COARSE 0 0 true
      let t := setBoot t fun b => { b with cands := t.candidates x, doneLow := true, errHigh := false }
      let t := t.restartRecord (if !s.pwr.keep then 2 else 0) (if !s.pwr.keep then 3 else if t.pwr.closed then 1 else 0) t.pwr.cause
      setPwr t fun p => { p with keep := true })) ∧
  (∀ (s : State), (s.phase = .waitRef) → (s.clk.startTimeout = false) →
    exec (.refStartTimeout true) s = .next (({ s with clk := { s.clk with startTimeout := true } } : State).takeRef (otherRef s.clk.chosen))) ∧
  (∀ (s : State), (s.phase = .waitRef) → (s.clk.startTimeout = false) →
    exec (.refStartTimeout false) s = .next (setBoot { s with clk := { s.clk with startTimeout := true } } fun b => { b with errHigh := true })) ∧
  (∀ (s : State) (x : RefSrc), (s.phase = .waitRef) → (x = s.clk.chosen ∨ s.clk.startTimeout = true) →
    exec (.refSourceTaken x) s = .next (s.takeRef x)) ∧
  (∀ (s : State) (a b : Bool), (s.phase = .waitRef ∨ s.phase = .loading) → (s.boot.tested = false) →
    exec (.sramSelfTestDone a b) s = .next (
      let t := if a then s else s.sramFail 0
      let t := if b then t else t.sramFail 1
      setBoot t fun b => { b with tested := true })) ∧
  (∀ (s : State) (l : List Chan) (x : Int), (s.phase = .loading) → (s.boot.calibrated = false) →
    exec (.startupCalibrationDone l x) s = .next (
      let t := s.setFldInt .ADC_TEMP_T 0 0 x
      let t := forAll (List.range 16) t fun t c => t.setFldInt .ADC_PCALT_T c 0 x
      let t := forAll (List.range 8) t fun t c => t.setFldInt .ADC_FCALT_T c 0 x
      setBoot (forAll l t fun t c => t.failChan c) fun b => { b with calibrated := true })) ∧
  (∀ (s : State) (l : List Byte) (x y : Vector Nat 12), (s.phase = .loading) → (s.boot.cand = none) → (s.boot.cands = []) →
    exec (.candidateVerified false ⟨l, x, y⟩) s = .next (s.noCandidate)) ∧
  (∀ (s : State) (l : List Byte) (c : Candidate) (m : Image) (r : List Candidate) (x y : Vector Nat 12), (s.phase = .loading) → (s.boot.cand = none) → (s.boot.cands = c :: r) → (c.skip = false) → (s.checkSource c.src l = (0, some m)) → (s.contentBad (m.withOwners x.toList y.toList) = false) →
    exec (.candidateVerified false ⟨l, x, y⟩) s = .next (
      let t := ((s.setFlag .CFG_TRY_TRIED c.pos 0 true).setFld .CFG_TRY_SRC c.pos 0 c.src).setFld .CFG_TRY_REASON c.pos 0 rPassed
      let t := setBoot t fun b => { b with cands := r }
      let t := (t.setFld .CFG_STAT_SRC 0 0 c.src).setFlag .CFG_STAT_FALLBACK 0 0 (c.pos != 0)
      setBoot t fun b => { b with cand := some (c, m.withOwners x.toList y.toList) })) ∧
  (∀ (s : State) (l : List Byte) (c d : Candidate) (r : List Candidate) (x y : Vector Nat 12), (s.phase = .loading) → (s.boot.cand = none) → (s.boot.cands = c :: d :: r) →
    exec (.candidateVerified true ⟨l, x, y⟩) s = .next (
      let t := ((s.setFlag .CFG_TRY_TRIED c.pos 0 true).setFld .CFG_TRY_SRC c.pos 0 c.src).setFld .CFG_TRY_REASON c.pos 0 rRead
      (setBoot t fun b => { b with cands := d :: r }).raise .fault Cause.CFG_FAIL 4 (inst := c.pos) (det := rRead))) ∧
  (∀ (s : State), (s.phase = .loading) → (s.boot.cand.isSome = true) → (s.boot.tested = true) → (s.boot.calibrated = true) →
    exec (.cfgDoneRelease) s = .next ((setBoot { s with phase := .waiting } fun b => { b with doneLow := false, waitAt := s.clk.now }).setFld .CFG_STAT_STATE 0 0 1)) ∧
  (∀ (s : State) (c : Candidate) (m : Image), (s.phase = .waiting) → (s.boot.cand = some (c, m)) → (m.regions = []) →
    exec (.cfgDoneHigh) s = .next (
      let t := (s.setFlag .PNL_CALC_ON 0 0 false).setCalc fun x => { x with job := none, blank := false }
      let t := t.applyImage m
      let t : State := { t with phase := .committing, lat := { t.lat with resetHold := false } }
      let t := setBoot t fun b => { b with cand := none, run := some m }
      let t := ((t.setFld .CFG_STAT_STATE 0 0 2).setFlag .CFG_STAT_DEV 0 0 m.mono).setFld .CFG_SERIAL_SERIAL 0 0 m.serial
      let t := ((t.layout).activate).configurePort 0 |>.configurePort 1
      let t := (forAll (List.finRange 24) t fun t c => (t.setValid c false).disturb c).commitEvents c.pos m.mono
      let t := { t with fio := { t.fio with commitAt := some t.clk.now } }
      { (setBoot t.commitOutputs fun b => { b with settle := none }).wdtStart with phase := .replaying })) ∧
  (∀ (s : State) (m : Image), (s.committed = true) → (s.boot.settle = some 0) → (s.boot.run = some m) →
    exec (.commitRegionRelease) s = .next (
      let t := setBoot s fun b => { b with settle := none }
      let t := forAll m.regions t fun t e => t.releaseRegion e.1 (initOnes e.2 ⟨offCfg, []⟩)
      let t : State := { t with clk := { t.clk with epoch := t.clk.tick } }
      let t := forAll (t.fedChans (m.regions.flatMap fun e => cellsOfRgn e.1)) t.settleFabric fun t c => t.disturb c
      if t.phase == .committing then { t with phase := .replaying } else t)) ∧
  (∀ (s : State), (s.phase = .waiting) → (s.boot.late = false) → (s.boot.waitAt + s.fld .CFG_POLICY_WAIT * 1000 * msCounts ≤ s.clk.now) →
    exec (.cfgTimeout) s = .next ((setBoot s fun b => { b with late := true }).raise .fault Cause.CFG_TIMEOUT 4)) ∧
  (∀ (s : State), (s.phase = .replaying) →
    exec (.journalReplayDone 0 0 false) s = .next (
      let t := s.bump .JRN_REPAIR_N 0 0 0
      let warm := t.fld .PWR_STAT_LAST == 2
      let t := (((if warm then t else t.coldReplay).holdAll).quarantine).linkReplay warm
      let t := forAll (List.finRange 12) t fun t a => t.restoreAxis a warm
      let t := forAll (List.finRange 4) t fun t k => (t.slotBlock k).comeUp k
      let t := if t.ev.tripIn then t else forAll ((t.dacsOf 4) ++ (t.dacsOf 7)) t fun t n => t.releaseDac n
      let t : State := { t with phase := .running, stopped := t.flag .JRN_STAT_LOST, lat := { t.lat with resetHold := false } }
      let t := forAll (List.finRange 6) t fun t c => t.lostTask c
      let t := (t.beginSession 0).beginSession 1
      if t.pwr.wdt.isSome then t else t.wdtStart)) ∧
  (∀ (s : State) (n : Nat) (l : List Nat), (s.phase = .console) → ((l.isEmpty ∨ 16 < l.length ∨ n % 4 ≠ 0 ∨ 1048576 < n + 4 * l.length ∨ l.any (fun w => 2 ^ 32 ≤ w)) = False) →
    exec (.imagePut n l) s = .next (
      let bytes := l.flatMap (leBytes 4 ·)
      let buf := (List.range bytes.length).foldl (fun b i =>
        let v := bytes.getD i 0
        sparsePut b (n + i) (if v = 0 then none else some v)) s.boot.buf
      ({ s with boot := { s.boot with buf := buf } } : State).consoleSay 0)) ∧
  (∀ (s : State) (x : Fin 2) (m : Image), (s.phase = .console) → (s.flash.ops = []) → (s.flashBankBad x = false) → (s.checkStream s.bufRdr true 1 = (0, some m)) → (s.contentBad m = false) →
    exec (.imageWrite x) s = .next (
      let len := rdLe s.bufRdr (if m.mono then 4 else 24) 4
      let erases := (List.range 16).map fun n => (⟨.erase, 32 * x.val + n, [], none, false⟩ : FlashOp)
      s.flashQueue (erases ++ streamOps (slotBase x) (fun off => s.bufRdr off 16) len)))

/-- In the state that the rules name for it, each of the events of station idle, supply monitors, the die, skim counts and the
test port completes with the effect that they give. Commands: `stationIdleEntry`, `wakeComplete`, `vbatMonitor`, `dieHot`,
`dieOvertemp`, `skimCountDone`, `frzPin`, `extest`, `idcode`, `samplePreload`, `bypass`, `testLogicReset`. -/
def Obligations.PowerEventsComplete : Prop :=
  (∀ (s : State) (k : Fin 4),
    exec (.stationIdleEntry k) s = .next (s.idleEntry k)) ∧
  (∀ (s : State) (k : Fin 4), (s.fld .PWR_IDLE_NOW k = 3) → (((s.fbChans k).all (fun c => s.chFld .ADC_PSTAT_VALID .ADC_FSTAT_VALID c != 0)
    && (s.fbExcs k).all fun g => !s.flag .EXC_STAT_RAMPING g) = true) →
    exec (.wakeComplete k) s = .next (
      let t := s.setFld .PWR_IDLE_NOW k 0 0
      (forAll ((t.axesOf k).filter fun (a : Fin 12) => t.fld .SRV_FB_KIND a == 2) t fun t a => t.restoreAxis a false).wakeDone k)) ∧
  (∀ (s : State) (n : Nat), (s.phase ≠ .off) → (¬ n < 2400) →
    exec (.vbatMonitor n) s = .next (((s.setFld .PWR_VBAT_V 0 0 (min n 4095)).setFlag .PWR_STAT_VBATLOW 0 0 false).setFlag .PWR_STAT_VBATOK 0 0 (decide (500 ≤ n)))) ∧
  (∀ (s : State) (n : Nat), (n < 2400) → (s.phase ≠ .off) → (s.flag .PWR_STAT_VBATLOW = false) → (s.flag .PWR_STAT_VINOK = true) →
    exec (.vbatMonitor n) s = .next ((((s.setFld .PWR_VBAT_V 0 0 (min n 4095)).setFlag .PWR_STAT_VBATLOW 0 0 true).setFlag .PWR_STAT_VBATOK 0 0 (decide (500 ≤ n))).raise .attn Cause.VBAT_LOW 4)) ∧
  (∀ (s : State), (s.pwr.hot = false) → (s.committed = true) →
    exec (.dieHot) s = .next ((setPwr (s.dieAt 1300) fun p => { p with hot := true }).raise .attn Cause.DIE_HOT 4)) ∧
  (∀ (s : State), (s.committed = true) →
    exec (.dieOvertemp) s = .next (forAll (List.finRange 4) (s.dieAt 1450) fun t (k : Fin 4) =>
      if t.configured k && !(t.mot[k]).trips.contains Cause.DIE_OVERTEMP then t.deviceTrip k Cause.DIE_OVERTEMP 0xFFFF 0 else t)) ∧
  (∀ (s : State) (k : Fin 16), (s.skimRuns k = true) → (s.skimFull k = true) →
    exec (.skimCountDone k) s = .next (s.setFlag .OBS_SKCFG_RUN k 0 false)) ∧
  (∀ (s : State), (s.flag .OBS_FRZ_PINEN = true) →
    exec (.frzPin) s = .next (s.obsFreeze 1 0)) ∧
  (∀ (s : State),
    exec (.extest) s = .next (setTap s .extest)) ∧
  (∀ (s : State),
    exec (.idcode) s = .next (setTap s .idcode)) ∧
  (∀ (s : State) (c : BitVec 256),
    exec (.samplePreload c) s = .next ({ s with tap := ⟨.sample, c, (List.range 256).map c.getLsbD⟩ })) ∧
  (∀ (s : State) (n : Nat), (3 ≤ n % 64) →
    exec (.bypass n) s = .next (setTap s .bypass)) ∧
  (∀ (s : State) (n : Nat), (n % 64 = 0) →
    exec (.bypass n) s = .next (setTap s .extest)) ∧
  (∀ (s : State),
    exec (.testLogicReset) s = .next (setTap s .idcode))

/-- A write that its requester may make, and that no rule refuses, to each write-only field that is a row of its own has the
effect of the field. Commands: `ringClr`, `servoApply`, `decClr`, `wdtKick`, `obsTrmark`, `latClrLow`, `latClrOvr`, `serClrRej`,
`serClrAlost`, `sysSclr`, `jrnClr`, `nocPclr`, `decMbxPop`. -/
def Obligations.WriteOnlyRowsComplete : Prop :=
  (∀ (s : State) (q : Requester) (r : Fin 16), (s.mayWrite q (fieldWrites .RING_CLR r 0 [(.RING_CLR_CLR, 1)]) = true) → (s.wrErr (fieldWrites .RING_CLR r 0 [(.RING_CLR_CLR, 1)]) = none) →
    exec (.ringClr q r) s = .next (s.wrApply q (fieldWrites .RING_CLR r 0 [(.RING_CLR_CLR, 1)]))) ∧
  (∀ (s : State) (q : Requester) (a : Fin 12), (s.mayWrite q (fieldWrites .SRV_APPLY a 0 [(.SRV_APPLY_APPLY, 1)]) = true) → (s.wrErr (fieldWrites .SRV_APPLY a 0 [(.SRV_APPLY_APPLY, 1)]) = none) →
    exec (.servoApply q a) s = .next (s.wrApply q (fieldWrites .SRV_APPLY a 0 [(.SRV_APPLY_APPLY, 1)]))) ∧
  (∀ (s : State) (q : Requester), (s.mayWrite q (fieldWrites .DEC_CLR 0 0 [(.DEC_CLR_CLR, 1)]) = true) → (s.wrErr (fieldWrites .DEC_CLR 0 0 [(.DEC_CLR_CLR, 1)]) = none) →
    exec (.decClr q) s = .next (s.wrApply q (fieldWrites .DEC_CLR 0 0 [(.DEC_CLR_CLR, 1)]))) ∧
  (∀ (s : State) (q : Requester) (v : Nat), (s.mayWrite q (fieldWrites .PWR_WDT 0 0 [(.PWR_WDT_KICK, ((v % 256 : Nat) : Int))]) = true) → (s.wrErr (fieldWrites .PWR_WDT 0 0 [(.PWR_WDT_KICK, ((v % 256 : Nat) : Int))]) = none) →
    exec (.wdtKick q v) s = .next (s.wrApply q (fieldWrites .PWR_WDT 0 0 [(.PWR_WDT_KICK, ((v % 256 : Nat) : Int))]))) ∧
  (∀ (s : State) (q : Requester) (v : Nat), (s.mayWrite q (fieldWrites .OBS_TRMARK 0 0 [(.OBS_TRMARK_V, ((v % 2 ^ 32 : Nat) : Int))]) = true) → (s.wrErr (fieldWrites .OBS_TRMARK 0 0 [(.OBS_TRMARK_V, ((v % 2 ^ 32 : Nat) : Int))]) = none) →
    exec (.obsTrmark q v) s = .next (s.wrApply q (fieldWrites .OBS_TRMARK 0 0 [(.OBS_TRMARK_V, ((v % 2 ^ 32 : Nat) : Int))]))) ∧
  (∀ (s : State) (q : Requester), (s.mayWrite q (fieldWrites .LAT_CLR 0 0 [(.LAT_CLR_CLR_LOW, 1)]) = true) → (s.wrErr (fieldWrites .LAT_CLR 0 0 [(.LAT_CLR_CLR_LOW, 1)]) = none) →
    exec (.latClrLow q) s = .next (s.wrApply q (fieldWrites .LAT_CLR 0 0 [(.LAT_CLR_CLR_LOW, 1)]))) ∧
  (∀ (s : State) (q : Requester) (k : Fin 4), (s.mayWrite q (fieldWrites .LAT_CLR 0 0 [(.LAT_CLR_CLR_OVR, ((2 ^ k.val : Nat) : Int))]) = true) → (s.wrErr (fieldWrites .LAT_CLR 0 0 [(.LAT_CLR_CLR_OVR, ((2 ^ k.val : Nat) : Int))]) = none) →
    exec (.latClrOvr q k) s = .next (s.wrApply q (fieldWrites .LAT_CLR 0 0 [(.LAT_CLR_CLR_OVR, ((2 ^ k.val : Nat) : Int))]))) ∧
  (∀ (s : State) (q : Requester) (p : Fin 2), (s.mayWrite q (fieldWrites .SER_CLR p 0 [(.SER_CLR_CLR_REJ, 1)]) = true) → (s.wrErr (fieldWrites .SER_CLR p 0 [(.SER_CLR_CLR_REJ, 1)]) = none) →
    exec (.serClrRej q p) s = .next (s.wrApply q (fieldWrites .SER_CLR p 0 [(.SER_CLR_CLR_REJ, 1)]))) ∧
  (∀ (s : State) (q : Requester) (p : Fin 2), (s.mayWrite q (fieldWrites .SER_CLR p 0 [(.SER_CLR_CLR_ALOST, 1)]) = true) → (s.wrErr (fieldWrites .SER_CLR p 0 [(.SER_CLR_CLR_ALOST, 1)]) = none) →
    exec (.serClrAlost q p) s = .next (s.wrApply q (fieldWrites .SER_CLR p 0 [(.SER_CLR_CLR_ALOST, 1)]))) ∧
  (∀ (s : State) (q : Requester), (s.mayWrite q (fieldWrites .SYS_SCLR 0 0 [(.SYS_SCLR_CLR, 1)]) = true) → (s.wrErr (fieldWrites .SYS_SCLR 0 0 [(.SYS_SCLR_CLR, 1)]) = none) →
    exec (.sysSclr q) s = .next (s.wrApply q (fieldWrites .SYS_SCLR 0 0 [(.SYS_SCLR_CLR, 1)]))) ∧
  (∀ (s : State) (q : Requester), (s.mayWrite q (fieldWrites .JRN_CLR 0 0 [(.JRN_CLR_CLR, 1)]) = true) → (s.wrErr (fieldWrites .JRN_CLR 0 0 [(.JRN_CLR_CLR, 1)]) = none) →
    exec (.jrnClr q) s = .next (s.wrApply q (fieldWrites .JRN_CLR 0 0 [(.JRN_CLR_CLR, 1)]))) ∧
  (∀ (s : State) (q : Requester) (n : Fin 16), (s.mayWrite q (fieldWrites .NOC_PCLR n 0 [(.NOC_PCLR_CLR, 1)]) = true) → (s.wrErr (fieldWrites .NOC_PCLR n 0 [(.NOC_PCLR_CLR, 1)]) = none) →
    exec (.nocPclr q n) s = .next (s.wrApply q (fieldWrites .NOC_PCLR n 0 [(.NOC_PCLR_CLR, 1)]))) ∧
  (∀ (s : State) (q : Requester) (c : Fin 6), (s.mayWrite q (fieldWrites .DEC_MBX c 5 []) = true) →
    exec (.decMbxPop q c) s = .next (s.mbxPop c))

/-- A core that runs and may fetch executes the system instructions, moves, special registers, branches and reserved encodings
with the effect of Tables 12.1 to 12.11, loads on their way arriving as R301 says. Commands: `nop`, `ei`, `di`, `bfset`,
`bfclr`, `bfnot`, `bfc`, `cbf`, `bldw`, `bstw`, `jmp`, `setam`, `mov`, `movi`, `movx`, `rds`, `wrs`, `bcc`, `bra`, `take`,
`movxi`, `jmpImm`, `waitl`, `chkpt`, `reservedOpcode`. -/
def Obligations.CoreControlCompletes : Prop :=
  (∀ (s : State) (c : Fin 6), s.executes c 1 →
    exec (.nop c) s = .next ((s.fetched c 1).retired s c)) ∧
  (∀ (s : State) (c : Fin 6), s.executes c 1 →
    let t := s.fetched c 1
    exec (.ei c) s = .next (State.retired
      (t.setCore c fun k => k.setFb flIE true) s c)) ∧
  (∀ (s : State) (c : Fin 6), s.executes c 1 →
    let t := s.fetched c 1
    exec (.di c) s = .next (State.retired
      (t.setCore c fun k => k.setFb flIE false) s c)) ∧
  (∀ (s : State) (c : Fin 6), s.executes c 1 →
    let t := s.fetched c 1
    exec (.bfset c) s = .next (State.retired
      (t.setCore c fun k => k.setFb flBF true) s c)) ∧
  (∀ (s : State) (c : Fin 6), s.executes c 1 →
    let t := s.fetched c 1
    exec (.bfclr c) s = .next (State.retired
      (t.setCore c fun k => k.setFb flBF false) s c)) ∧
  (∀ (s : State) (c : Fin 6), s.executes c 1 →
    let t := s.fetched c 1
    exec (.bfnot c) s = .next (State.retired
      (t.setCore c fun k => k.setFb flBF (!k.fb flBF)) s c)) ∧
  (∀ (s : State) (c : Fin 6), s.executes c 1 →
    let t := s.fetched c 1
    exec (.bfc c) s = .next (State.retired
      (t.setCore c fun k => k.setFb flBF (k.fb flC)) s c)) ∧
  (∀ (s : State) (c : Fin 6), s.executes c 1 →
    let t := s.fetched c 1
    exec (.cbf c) s = .next (State.retired
      (t.setCore c fun k => k.setFb flC (k.fb flBF)) s c)) ∧
  (∀ (s : State) (c : Fin 6) (d : Fin 16) (b : Fin 8), s.executes c 1 →
    let t := s.fetched c 1
    exec (.bldw c d b) s = .next (State.retired
      (t.setCore c fun k => k.setFb flBF ((k.getW d).getLsbD b)) s c)) ∧
  (∀ (s : State) (c : Fin 6) (d : Fin 16) (b : Fin 8), s.executes c 1 →
    let t := s.fetched c 1
    exec (.bstw c d b) s = .next (State.retired
      (t.setCore c fun k => k.setW d (bytePut (k.getW d) b (k.fb flBF))) s c)) ∧
  (∀ (s : State) (c : Fin 6) (x : Fin 8), s.executes c 1 →
    let t := s.fetched c 1
    exec (.jmp c x) s = .next (State.retired
      (t.setCore c fun k => { k with pc := k.getX x }) s c)) ∧
  (∀ (s : State) (c : Fin 6) (v : BitVec 6), s.executes c 1 →
    let t := s.fetched c 1
    exec (.setam c v) s = .next (State.retired
      (t.setCore c fun k => { k with am := flMask v.toNat }) s c)) ∧
  (∀ (s : State) (c : Fin 6) (d s_ : Fin 16), s.executes c 1 →
    let t := s.fetched c 1
    exec (.mov c d s_) s = .next (State.retired
      (t.setCore c fun k => k.setW d (k.getW s_)) s c)) ∧
  (∀ (s : State) (c : Fin 6) (d : Fin 16) (v : Byte), s.executes c 1 →
    let t := s.fetched c 1
    exec (.movi c d v) s = .next (State.retired
      (t.setCore c fun k => k.setW d v) s c)) ∧
  (∀ (s : State) (c : Fin 6) (d s_ : Fin 8), s.executes c 1 →
    let t := s.fetched c 1
    exec (.movx c d s_) s = .next (State.retired
      (t.setCore c fun k => k.setX d (k.getX s_)) s c)) ∧
  (∀ (s : State) (c : Fin 6) (d : Fin 8) (r : Fin 15), s.executes c 1 →
    let t := s.fetched c 1
    exec (.rds c d r) s = .next (State.retired
      (t.setCore c fun k => k.putX d (t.special c r)) s c)) ∧
  (∀ (s : State) (c : Fin 6) (r : Fin 12) (s_ : Fin 8), s.executes c 1 →
    let t := s.fetched c 1
    exec (.wrs c r s_) s = .next (State.retired
      (t.setCore c fun k => k.setSpecial r (k.getX s_)) s c)) ∧
  (∀ (s : State) (c : Fin 6) (cc : Fin 16) (v : Byte), s.executes c 1 →
    let t := s.fetched c 1
    exec (.bcc c cc v) s = .next (State.retired
      (t.setCore c fun k => if k.cond cc then k.branch v.toInt else k) s c)) ∧
  (∀ (s : State) (c : Fin 6) (v : BitVec 11), s.executes c 1 →
    let t := s.fetched c 1
    exec (.bra c v) s = .next (State.retired
      (t.setCore c fun k => k.branch v.toInt) s c)) ∧
  (∀ (s : State) (c : Fin 6) (q : Fin 4), s.executes c 1 →
    let t := s.fetched c 1
    exec (.take c q) s = .next (State.retired (
        let t := t.nextWc c
        t.setCore c fun k => k.setQ q (t.fld .SYS_CWSN_WC c)) s c)) ∧
  (∀ (s : State) (c : Fin 6) (d : Fin 8) (v : Half), s.executes c 2 →
    let t := s.fetched c 2
    exec (.movxi c d v) s = .next (State.retired
      (t.setCore c fun k => k.setX d v) s c)) ∧
  (∀ (s : State) (c : Fin 6) (a : Half), s.executes c 2 →
    let t := s.fetched c 2
    exec (.jmpImm c a) s = .next (State.retired
      (t.setCore c fun k => { k with pc := a }) s c)) ∧
  (∀ (s : State) (c : Fin 6), (s.executes c 1) → (((s.fetched c 1).core[c]).wl = []) → ((s.fetched c 1).take = none) →
    exec (.waitl c) s = .next (
      (let t := s.fetched c 1
      let w := (t.ilv c, (t.core[c]).pc - 2, t.clk.now)
      ((t.setCore c fun k => { k with pc := w.2.1, wait := .tick, wl := [w], sup := t.clk.tick, sect := false, late := false }).setCoreState c 2).retired s c))) ∧
  (∀ (s : State) (c : Fin 6), (s.executes c 1) → ((s.fetched c 1).ilv c ≠ 7) →
    exec (.chkpt c) s = .next (((s.fetched c 1).setCore c fun k => k.setFb flV true).retired s c)) ∧
  (∀ (s : State) (c : Fin 6), (s.executes c 1) → ((s.fetched c 1).ilv c = 7) →
    exec (.chkpt c) s = .next (
      (let t := s.fetched c 1
      let t := t.setCore c fun k => { (k.setFb flV false).settle (s.core[c]).load with sup := t.clk.tick }
      ((t.setCore c fun k => { k with wait := .chkpt (t.checkpointOf c) }).setCoreState c 3).retired s c))) ∧
  (∀ (s : State) (c : Fin 6) (w0 w1 : Half), (s.executes c 1) → (isReserved w0.toNat w1.toNat = true) →
    exec (.reservedOpcode c w0 w1) s = .next (((s.fetched c 1).reservedEffect c |>.countRsvop c (s.core[c]).pc.toNat (w0.toNat + 65536 * w1.toNat)).retired s c))

/-- A core that runs and may fetch executes the stack, window, far and absolute accesses with the effect of Tables 12.1 to
12.11, loads on their way arriving as R301 says. Commands: `reti`, `ret`, `push`, `pop`, `call`, `ld`, `st`, `ldx`, `stx`,
`bsr`, `ldf8`, `stf8`, `ldf16`, `stf16`, `ldf32`, `stf32`, `lda`, `sta`, `ldax`, `stax`, `callImm`. -/
def Obligations.CoreMemoryCompletes : Prop :=
  (∀ (s : State) (c : Fin 6), s.executes c 1 →
    let t := s.fetched c 1
    exec (.reti c) s = .next (State.retired (
        let p := t.popByte c
        let q := p.2.popByte c
        ((q.2.setIlv c (p.1 % 8)).setCore c fun k => { k with fl := flMask q.1 }).popPc c) s c)) ∧
  (∀ (s : State) (c : Fin 6), s.executes c 1 →
    let t := s.fetched c 1
    exec (.ret c) s = .next (State.retired
      (t.popPc c) s c)) ∧
  (∀ (s : State) (c : Fin 6) (d : Fin 16), s.executes c 1 →
    let t := s.fetched c 1
    exec (.push c d) s = .next (State.retired
      (t.pushByte c ((t.core[c]).getW d)) s c)) ∧
  (∀ (s : State) (c : Fin 6) (d : Fin 16), s.executes c 1 →
    let t := s.fetched c 1
    exec (.pop c d) s = .next (State.retired
      ((t.popByte c).2.loadW c d (t.popByte c).1) s c)) ∧
  (∀ (s : State) (c : Fin 6) (x : Fin 8), s.executes c 1 →
    let t := s.fetched c 1
    exec (.call c x) s = .next (State.retired
      ((t.pushPc c).setCore c fun k => { k with pc := k.getX x }) s c)) ∧
  (∀ (s : State) (c : Fin 6) (m : WinMode) (r : Fin 16) (x : Fin 8), s.executes c (winWords m) →
    let t := s.fetched c (winWords m)
    exec (.ld c m r x) s = .next (State.retired (
        let u := t.setCore c fun k => (k.winOp m x 1).2
        let p := u.winRead c ((t.core[c]).winOp m x 1).1 1
        p.2.loadW c r p.1) s c)) ∧
  (∀ (s : State) (c : Fin 6) (m : WinMode) (r : Fin 16) (x : Fin 8), s.executes c (winWords m) →
    let t := s.fetched c (winWords m)
    exec (.st c m r x) s = .next (State.retired (
        let u := t.setCore c fun k => (k.winOp m x 1).2
        u.winWrite c ((t.core[c]).winOp m x 1).1 (leBytes 1 ((t.core[c]).getW r).toNat)) s c)) ∧
  (∀ (s : State) (c : Fin 6) (m : WinMode) (r : Fin 8) (x : Fin 8), s.executes c (winWords m) →
    let t := s.fetched c (winWords m)
    exec (.ldx c m r x) s = .next (State.retired (
        let u := t.setCore c fun k => (k.winOp m x 2).2
        let p := u.winRead c ((t.core[c]).winOp m x 2).1 2
        p.2.loadX c r p.1) s c)) ∧
  (∀ (s : State) (c : Fin 6) (m : WinMode) (r : Fin 8) (x : Fin 8), s.executes c (winWords m) →
    let t := s.fetched c (winWords m)
    exec (.stx c m r x) s = .next (State.retired (
        let u := t.setCore c fun k => (k.winOp m x 2).2
        u.winWrite c ((t.core[c]).winOp m x 2).1 (leBytes 2 ((t.core[c]).getX r).toNat)) s c)) ∧
  (∀ (s : State) (c : Fin 6) (v : BitVec 11), s.executes c 1 →
    let t := s.fetched c 1
    exec (.bsr c v) s = .next (State.retired
      ((t.pushPc c).setCore c fun k => k.branch v.toInt) s c)) ∧
  (∀ (s : State) (c : Fin 6) (d : Fin 16) (k : Fin 4) (off : Half), s.executes c 2 →
    let t := s.fetched c 2
    exec (.ldf8 c d k off) s = .next (State.retired (
        let p := t.busRead c false 4 ((t.core[c]).farAddr k off) 1
        p.2.loadW c d p.1) s c)) ∧
  (∀ (s : State) (c : Fin 6) (d : Fin 16) (k : Fin 4) (off : Half), s.executes c 2 →
    let t := s.fetched c 2
    exec (.stf8 c d k off) s = .next (State.retired
      (t.busWrite c false 4 ((t.core[c]).farAddr k off) (leBytes 1 ((t.core[c]).getW d).toNat)) s c)) ∧
  (∀ (s : State) (c : Fin 6) (d : Fin 8) (k : Fin 4) (off : Half), s.executes c 2 →
    let t := s.fetched c 2
    exec (.ldf16 c d k off) s = .next (State.retired (
        let p := t.busRead c false 4 ((t.core[c]).farAddr k off) 2
        p.2.loadX c d p.1) s c)) ∧
  (∀ (s : State) (c : Fin 6) (d : Fin 8) (k : Fin 4) (off : Half), s.executes c 2 →
    let t := s.fetched c 2
    exec (.stf16 c d k off) s = .next (State.retired
      (t.busWrite c false 4 ((t.core[c]).farAddr k off) (leBytes 2 ((t.core[c]).getX d).toNat)) s c)) ∧
  (∀ (s : State) (c : Fin 6) (q : Fin 4) (k : Fin 4) (off : Half), s.executes c 2 →
    let t := s.fetched c 2
    exec (.ldf32 c q k off) s = .next (State.retired (
        let p := t.busRead c false 4 ((t.core[c]).farAddr k off) 4
        p.2.loadQ c q p.1) s c)) ∧
  (∀ (s : State) (c : Fin 6) (q : Fin 4) (k : Fin 4) (off : Half), s.executes c 2 →
    let t := s.fetched c 2
    exec (.stf32 c q k off) s = .next (State.retired
      (t.busWrite c false 4 ((t.core[c]).farAddr k off) (leBytes 4 ((t.core[c]).getQ q))) s c)) ∧
  (∀ (s : State) (c : Fin 6) (d : Fin 16) (a : Half), s.executes c 2 →
    let t := s.fetched c 2
    exec (.lda c d a) s = .next (State.retired
      ((t.winRead c a 1).2.loadW c d (t.winRead c a 1).1) s c)) ∧
  (∀ (s : State) (c : Fin 6) (d : Fin 16) (a : Half), s.executes c 2 →
    let t := s.fetched c 2
    exec (.sta c d a) s = .next (State.retired
      (t.winWrite c a [(t.core[c]).getW d]) s c)) ∧
  (∀ (s : State) (c : Fin 6) (d : Fin 8) (a : Half), s.executes c 2 →
    let t := s.fetched c 2
    exec (.ldax c d a) s = .next (State.retired
      ((t.winRead c a 2).2.loadX c d (t.winRead c a 2).1) s c)) ∧
  (∀ (s : State) (c : Fin 6) (d : Fin 8) (a : Half), s.executes c 2 →
    let t := s.fetched c 2
    exec (.stax c d a) s = .next (State.retired
      (t.winWrite c a (leBytes 2 ((t.core[c]).getX d).toNat)) s c)) ∧
  (∀ (s : State) (c : Fin 6) (a : Half), s.executes c 2 →
    let t := s.fetched c 2
    exec (.callImm c a) s = .next (State.retired
      ((t.pushPc c).setCore c fun k => { k with pc := a }) s c))

/-- A core that runs and may fetch executes the 8-bit and 16-bit arithmetic, logic, shifts and MULU with the effect of Tables
12.1 to 12.11, loads on their way arriving as R301 says. Commands: `add`, `adc`, `sub`, `sbc`, `cmp`, `and`, `or`, `xor`, `tst`,
`not`, `neg`, `shl`, `shr`, `asr`, `roc`, `addi`, `cmpi`, `mulu`, `andi`, `ori`, `xori`, `tsti`, `addx`, `subx`, `cmpx`, `incx`,
`decx`, `addxi`, `cmpxi`. -/
def Obligations.CoreArithmeticCompletes : Prop :=
  (∀ (s : State) (c : Fin 6) (d s_ : Fin 16), s.executes c 1 →
    let t := s.fetched c 1
    exec (.add c d s_) s = .next (State.retired
      (t.setCore c fun k => k.addW d (k.getW s_).toNat 0) s c)) ∧
  (∀ (s : State) (c : Fin 6) (d s_ : Fin 16), s.executes c 1 →
    let t := s.fetched c 1
    exec (.adc c d s_) s = .next (State.retired
      (t.setCore c fun k => k.addW d (k.getW s_).toNat k.carry) s c)) ∧
  (∀ (s : State) (c : Fin 6) (d s_ : Fin 16), s.executes c 1 →
    let t := s.fetched c 1
    exec (.sub c d s_) s = .next (State.retired
      (t.setCore c fun k => k.subW d (k.getW s_).toNat 0 true) s c)) ∧
  (∀ (s : State) (c : Fin 6) (d s_ : Fin 16), s.executes c 1 →
    let t := s.fetched c 1
    exec (.sbc c d s_) s = .next (State.retired
      (t.setCore c fun k => k.subW d (k.getW s_).toNat k.carry true) s c)) ∧
  (∀ (s : State) (c : Fin 6) (d s_ : Fin 16), s.executes c 1 →
    let t := s.fetched c 1
    exec (.cmp c d s_) s = .next (State.retired
      (t.setCore c fun k => k.subW d (k.getW s_).toNat 0 false) s c)) ∧
  (∀ (s : State) (c : Fin 6) (d s_ : Fin 16), s.executes c 1 →
    let t := s.fetched c 1
    exec (.and c d s_) s = .next (State.retired
      (t.setCore c fun k => k.logicW d (k.getW s_) (· &&& ·) true) s c)) ∧
  (∀ (s : State) (c : Fin 6) (d s_ : Fin 16), s.executes c 1 →
    let t := s.fetched c 1
    exec (.or c d s_) s = .next (State.retired
      (t.setCore c fun k => k.logicW d (k.getW s_) (· ||| ·) true) s c)) ∧
  (∀ (s : State) (c : Fin 6) (d s_ : Fin 16), s.executes c 1 →
    let t := s.fetched c 1
    exec (.xor c d s_) s = .next (State.retired
      (t.setCore c fun k => k.logicW d (k.getW s_) (· ^^^ ·) true) s c)) ∧
  (∀ (s : State) (c : Fin 6) (d s_ : Fin 16), s.executes c 1 →
    let t := s.fetched c 1
    exec (.tst c d s_) s = .next (State.retired
      (t.setCore c fun k => k.logicW d (k.getW s_) (· &&& ·) false) s c)) ∧
  (∀ (s : State) (c : Fin 6) (d : Fin 16), s.executes c 1 →
    let t := s.fetched c 1
    exec (.not c d) s = .next (State.retired
      (t.setCore c fun k => k.logicW d 0 (fun (a _ : Byte) => ~~~ a) true) s c)) ∧
  (∀ (s : State) (c : Fin 6) (d : Fin 16), s.executes c 1 →
    let t := s.fetched c 1
    exec (.neg c d) s = .next (State.retired
      (t.setCore c fun k =>
      let (r, k) := k.subFlags 8 0 (k.getW d).toNat 0
      k.putW d r) s c)) ∧
  (∀ (s : State) (c : Fin 6) (d : Fin 16), s.executes c 1 →
    let t := s.fetched c 1
    exec (.shl c d) s = .next (State.retired
      (t.setCore c fun k =>
      let v := (k.getW d).toNat
      let r := v * 2 % 256
      (k.shiftFlags r (decide (128 ≤ v))).putW d r) s c)) ∧
  (∀ (s : State) (c : Fin 6) (d : Fin 16), s.executes c 1 →
    let t := s.fetched c 1
    exec (.shr c d) s = .next (State.retired
      (t.setCore c fun k =>
      let v := (k.getW d).toNat
      let r := v / 2
      (k.shiftFlags r (v % 2 == 1)).putW d r) s c)) ∧
  (∀ (s : State) (c : Fin 6) (d : Fin 16), s.executes c 1 →
    let t := s.fetched c 1
    exec (.asr c d) s = .next (State.retired
      (t.setCore c fun k =>
      let v := (k.getW d).toNat
      let r := v / 2 + v / 128 * 128
      (k.shiftFlags r (v % 2 == 1)).putW d r) s c)) ∧
  (∀ (s : State) (c : Fin 6) (d : Fin 16), s.executes c 1 →
    let t := s.fetched c 1
    exec (.roc c d) s = .next (State.retired
      (t.setCore c fun k =>
      let v := (k.getW d).toNat
      let r := v / 2 + k.carry * 128
      (k.shiftFlags r (v % 2 == 1)).putW d r) s c)) ∧
  (∀ (s : State) (c : Fin 6) (d : Fin 16) (v : Byte), s.executes c 1 →
    let t := s.fetched c 1
    exec (.addi c d v) s = .next (State.retired
      (t.setCore c fun k => k.addW d v.toNat 0) s c)) ∧
  (∀ (s : State) (c : Fin 6) (d : Fin 16) (v : Byte), s.executes c 1 →
    let t := s.fetched c 1
    exec (.cmpi c d v) s = .next (State.retired
      (t.setCore c fun k => k.subW d v.toNat 0 false) s c)) ∧
  (∀ (s : State) (c : Fin 6) (d : Fin 8) (s_ : Fin 16), s.executes c 1 →
    let t := s.fetched c 1
    exec (.mulu c d s_) s = .next (State.retired
      (t.setCore c fun k =>
      let r := (k.getX d).toNat % 256 * (k.getW s_).toNat
      (k.setZN 16 r).putX d r) s c)) ∧
  (∀ (s : State) (c : Fin 6) (d : Fin 16) (v : Byte), s.executes c 2 →
    let t := s.fetched c 2
    exec (.andi c d v) s = .next (State.retired
      (t.setCore c fun k => k.logicW d v (· &&& ·) true) s c)) ∧
  (∀ (s : State) (c : Fin 6) (d : Fin 16) (v : Byte), s.executes c 2 →
    let t := s.fetched c 2
    exec (.ori c d v) s = .next (State.retired
      (t.setCore c fun k => k.logicW d v (· ||| ·) true) s c)) ∧
  (∀ (s : State) (c : Fin 6) (d : Fin 16) (v : Byte), s.executes c 2 →
    let t := s.fetched c 2
    exec (.xori c d v) s = .next (State.retired
      (t.setCore c fun k => k.logicW d v (· ^^^ ·) true) s c)) ∧
  (∀ (s : State) (c : Fin 6) (d : Fin 16) (v : Byte), s.executes c 2 →
    let t := s.fetched c 2
    exec (.tsti c d v) s = .next (State.retired
      (t.setCore c fun k => k.logicW d v (· &&& ·) false) s c)) ∧
  (∀ (s : State) (c : Fin 6) (d s_ : Fin 8), s.executes c 1 →
    let t := s.fetched c 1
    exec (.addx c d s_) s = .next (State.retired
      (t.setCore c fun k => k.addXv d (k.getX s_).toNat) s c)) ∧
  (∀ (s : State) (c : Fin 6) (d s_ : Fin 8), s.executes c 1 →
    let t := s.fetched c 1
    exec (.subx c d s_) s = .next (State.retired
      (t.setCore c fun k => k.subXv d (k.getX s_).toNat true) s c)) ∧
  (∀ (s : State) (c : Fin 6) (d s_ : Fin 8), s.executes c 1 →
    let t := s.fetched c 1
    exec (.cmpx c d s_) s = .next (State.retired
      (t.setCore c fun k => k.subXv d (k.getX s_).toNat false) s c)) ∧
  (∀ (s : State) (c : Fin 6) (d : Fin 8), s.executes c 1 →
    let t := s.fetched c 1
    exec (.incx c d) s = .next (State.retired
      (t.setCore c fun k => (k.setZN 16 ((k.getX d).toNat + 1)).putX d ((k.getX d).toNat + 1)) s c)) ∧
  (∀ (s : State) (c : Fin 6) (d : Fin 8), s.executes c 1 →
    let t := s.fetched c 1
    exec (.decx c d) s = .next (State.retired
      (t.setCore c fun k => (k.setZN 16 ((k.getX d).toNat + 65535)).putX d ((k.getX d).toNat + 65535)) s c)) ∧
  (∀ (s : State) (c : Fin 6) (d : Fin 8) (v : Half), s.executes c 2 →
    let t := s.fetched c 2
    exec (.addxi c d v) s = .next (State.retired
      (t.setCore c fun k => k.addXv d v.toNat) s c)) ∧
  (∀ (s : State) (c : Fin 6) (d : Fin 8) (v : Half), s.executes c 2 →
    let t := s.fetched c 2
    exec (.cmpxi c d v) s = .next (State.retired
      (t.setCore c fun k => k.subXv d v.toNat false) s c))

/-- A core that runs and may fetch executes the bit instructions, block repeats, DREQ, DPOP and REQ with the effect of Tables
12.1 to 12.11, loads on their way arriving as R301 says. Commands: `ldb`, `ldbn`, `andb`, `andbn`, `orb`, `orbn`, `xorb`, `stb`,
`stbn`, `setb`, `clrb`, `tglb`, `tsetb`, `tclrb`, `setbc`, `clrbc`, `movs`, `cmps`, `fils`, `scns`, `dreq`, `dpop`, `req`. -/
def Obligations.CoreBitsAndRepeatsComplete : Prop :=
  (∀ (s : State) (c : Fin 6) (a : BitVec 13), s.executes c 2 →
    let t := s.fetched c 2
    exec (.ldb c a) s = .next (State.retired
      ((t.bitRead c a.toNat).2.setCore c fun k => k.setFb flBF ((t.bitRead c a.toNat).1)) s c)) ∧
  (∀ (s : State) (c : Fin 6) (a : BitVec 13), s.executes c 2 →
    let t := s.fetched c 2
    exec (.ldbn c a) s = .next (State.retired
      ((t.bitRead c a.toNat).2.setCore c fun k => k.setFb flBF (!(t.bitRead c a.toNat).1)) s c)) ∧
  (∀ (s : State) (c : Fin 6) (a : BitVec 13), s.executes c 2 →
    let t := s.fetched c 2
    exec (.andb c a) s = .next (State.retired
      ((t.bitRead c a.toNat).2.setCore c fun k => k.setFb flBF ((k.fb flBF) && (t.bitRead c a.toNat).1)) s c)) ∧
  (∀ (s : State) (c : Fin 6) (a : BitVec 13), s.executes c 2 →
    let t := s.fetched c 2
    exec (.andbn c a) s = .next (State.retired
      ((t.bitRead c a.toNat).2.setCore c fun k => k.setFb flBF ((k.fb flBF) && !(t.bitRead c a.toNat).1)) s c)) ∧
  (∀ (s : State) (c : Fin 6) (a : BitVec 13), s.executes c 2 →
    let t := s.fetched c 2
    exec (.orb c a) s = .next (State.retired
      ((t.bitRead c a.toNat).2.setCore c fun k => k.setFb flBF ((k.fb flBF) || (t.bitRead c a.toNat).1)) s c)) ∧
  (∀ (s : State) (c : Fin 6) (a : BitVec 13), s.executes c 2 →
    let t := s.fetched c 2
    exec (.orbn c a) s = .next (State.retired
      ((t.bitRead c a.toNat).2.setCore c fun k => k.setFb flBF ((k.fb flBF) || !(t.bitRead c a.toNat).1)) s c)) ∧
  (∀ (s : State) (c : Fin 6) (a : BitVec 13), s.executes c 2 →
    let t := s.fetched c 2
    exec (.xorb c a) s = .next (State.retired
      ((t.bitRead c a.toNat).2.setCore c fun k => k.setFb flBF ((k.fb flBF) != (t.bitRead c a.toNat).1)) s c)) ∧
  (∀ (s : State) (c : Fin 6) (a : BitVec 13), s.executes c 2 →
    let t := s.fetched c 2
    exec (.stb c a) s = .next (State.retired
      (t.bitWrite c a.toNat ((t.core[c]).fb flBF)) s c)) ∧
  (∀ (s : State) (c : Fin 6) (a : BitVec 13), s.executes c 2 →
    let t := s.fetched c 2
    exec (.stbn c a) s = .next (State.retired
      (t.bitWrite c a.toNat (!((t.core[c]).fb flBF))) s c)) ∧
  (∀ (s : State) (c : Fin 6) (a : BitVec 13), s.executes c 2 →
    let t := s.fetched c 2
    exec (.setb c a) s = .next (State.retired
      (t.bitWrite c a.toNat true) s c)) ∧
  (∀ (s : State) (c : Fin 6) (a : BitVec 13), s.executes c 2 →
    let t := s.fetched c 2
    exec (.clrb c a) s = .next (State.retired
      (t.bitWrite c a.toNat false) s c)) ∧
  (∀ (s : State) (c : Fin 6) (a : BitVec 13), s.executes c 2 →
    let t := s.fetched c 2
    exec (.tglb c a) s = .next (State.retired (
        let b := t.bitOk c a.toNat false && t.bitGet c a.toNat
        let u := if t.bitOk c a.toNat false && t.bitOk c a.toNat true then t.bitSet c a.toNat (!b) else t.denied c a.toNat
        u) s c)) ∧
  (∀ (s : State) (c : Fin 6) (a : BitVec 13), s.executes c 2 →
    let t := s.fetched c 2
    exec (.tsetb c a) s = .next (State.retired (
        let b := t.bitOk c a.toNat false && t.bitGet c a.toNat
        let u := if t.bitOk c a.toNat false && t.bitOk c a.toNat true then t.bitSet c a.toNat true else t.denied c a.toNat
        u.setCore c fun k => k.setFb flBF b) s c)) ∧
  (∀ (s : State) (c : Fin 6) (a : BitVec 13), s.executes c 2 →
    let t := s.fetched c 2
    exec (.tclrb c a) s = .next (State.retired (
        let b := t.bitOk c a.toNat false && t.bitGet c a.toNat
        let u := if t.bitOk c a.toNat false && t.bitOk c a.toNat true then t.bitSet c a.toNat false else t.denied c a.toNat
        u.setCore c fun k => k.setFb flBF b) s c)) ∧
  (∀ (s : State) (c : Fin 6) (a : BitVec 13), s.executes c 2 →
    let t := s.fetched c 2
    exec (.setbc c a) s = .next (State.retired
      (if ((t.core[c]).fb flBF) then t.bitWrite c a.toNat true else t) s c)) ∧
  (∀ (s : State) (c : Fin 6) (a : BitVec 13), s.executes c 2 →
    let t := s.fetched c 2
    exec (.clrbc c a) s = .next (State.retired
      (if ((t.core[c]).fb flBF) then t.bitWrite c a.toNat false else t) s c)) ∧
  (∀ (s : State) (c : Fin 6) (sdec ddec : Bool), s.executes c 1 → ((s.core[c]).cnt = 0) →
    exec (.movs c sdec ddec) s = .next ((s.fetched c 1).retired s c)) ∧
  (∀ (s : State) (c : Fin 6) (sdec ddec : Bool), s.executes c 1 → ((s.core[c]).cnt ≠ 0) → (s.mayBreak c = false) →
    let t := s.fetched c 1
    exec (.movs c sdec ddec) s = .next (State.retired
      (t.movsLoop c sdec ddec (s.core[c]).cnt.toNat) s c)) ∧
  (∀ (s : State) (c : Fin 6) (sdec ddec : Bool), s.executes c 1 → ((s.core[c]).cnt ≠ 0) → (s.mayBreak c = true) →
    let t := s.fetched c 1
    exec (.movs c sdec ddec) s = .next (State.retired
      (t.repeatPart c (fun _ => false) fun u n => u.movsLoop c sdec ddec n) s c)) ∧
  (∀ (s : State) (c : Fin 6) (sdec ddec : Bool), s.executes c 1 → ((s.core[c]).cnt = 0) →
    exec (.cmps c sdec ddec) s = .next ((s.fetched c 1).retired s c)) ∧
  (∀ (s : State) (c : Fin 6) (sdec ddec : Bool), s.executes c 1 → ((s.core[c]).cnt ≠ 0) → (s.mayBreak c = false) →
    let t := s.fetched c 1
    exec (.cmps c sdec ddec) s = .next (State.retired
      (t.cmpsLoop c sdec ddec (s.core[c]).cnt.toNat) s c)) ∧
  (∀ (s : State) (c : Fin 6) (sdec ddec : Bool), s.executes c 1 → ((s.core[c]).cnt ≠ 0) → (s.mayBreak c = true) →
    let t := s.fetched c 1
    exec (.cmps c sdec ddec) s = .next (State.retired
      (t.repeatPart c (fun k => !k.fb flZ) fun u n => u.cmpsLoop c sdec ddec n) s c)) ∧
  (∀ (s : State) (c : Fin 6) (sdec ddec : Bool) (v : Fin 16), s.executes c 1 → ((s.core[c]).cnt = 0) →
    exec (.fils c sdec ddec v) s = .next ((s.fetched c 1).retired s c)) ∧
  (∀ (s : State) (c : Fin 6) (sdec ddec : Bool) (v : Fin 16), s.executes c 1 → ((s.core[c]).cnt ≠ 0) → (s.mayBreak c = false) →
    let t := s.fetched c 1
    exec (.fils c sdec ddec v) s = .next (State.retired
      (t.filsLoop c ddec ((t.core[c]).getW v) (s.core[c]).cnt.toNat) s c)) ∧
  (∀ (s : State) (c : Fin 6) (sdec ddec : Bool) (v : Fin 16), s.executes c 1 → ((s.core[c]).cnt ≠ 0) → (s.mayBreak c = true) →
    let t := s.fetched c 1
    exec (.fils c sdec ddec v) s = .next (State.retired
      (t.repeatPart c (fun _ => false) fun u n => u.filsLoop c ddec ((u.core[c]).getW v) n) s c)) ∧
  (∀ (s : State) (c : Fin 6) (sdec ddec : Bool) (v : Fin 16), s.executes c 1 → ((s.core[c]).cnt = 0) →
    exec (.scns c sdec ddec v) s = .next ((s.fetched c 1).retired s c)) ∧
  (∀ (s : State) (c : Fin 6) (sdec ddec : Bool) (v : Fin 16), s.executes c 1 → ((s.core[c]).cnt ≠ 0) → (s.mayBreak c = false) →
    let t := s.fetched c 1
    exec (.scns c sdec ddec v) s = .next (State.retired
      (t.scnsLoop c sdec ((t.core[c]).getW v).toNat (s.core[c]).cnt.toNat) s c)) ∧
  (∀ (s : State) (c : Fin 6) (sdec ddec : Bool) (v : Fin 16), s.executes c 1 → ((s.core[c]).cnt ≠ 0) → (s.mayBreak c = true) →
    let t := s.fetched c 1
    exec (.scns c sdec ddec v) s = .next (State.retired
      (t.repeatPart c (fun k => k.fb flZ) fun u n => u.scnsLoop c sdec ((u.core[c]).getW v).toNat n) s c)) ∧
  (∀ (s : State) (c : Fin 6) (x : Fin 8), (s.executes c 1) → (s.decStalls (c.val + 4) = false) →
    exec (.dreq c x) s = .next (
      (let t := s.fetched c 1
      let p := t.winRead c ((t.core[c]).getX x) 64
      (p.2.decEnqueue (p.2.dreqOf c p.1)).retired s c))) ∧
  (∀ (s : State) (c : Fin 6) (x : Fin 8), (s.executes c 1) → ((s.fetched c 1).fld .DEC_OUT_OUT (c.val + 4) = 0) →
    exec (.dpop c x) s = .next (((s.fetched c 1).setCore c fun k => k.setFb flZ true).retired s c)) ∧
  (∀ (s : State) (c : Fin 6) (x : Fin 8), (s.executes c 1) → ((s.fetched c 1).fld .DEC_OUT_OUT (c.val + 4) ≠ 0) → (((s.fetched c 1).dec.mbx[c]).isEmpty = false) →
    exec (.dpop c x) s = .next (((s.fetched c 1).dpopTake c (((s.fetched c 1).core[c]).getX x)).retired s c)) ∧
  (∀ (s : State) (c : Fin 6) (x : Fin 8), (s.executes c 1) →
    exec (.req c x) s = .next (
      (let t := s.fetched c 1
      let a := (t.core[c]).getX x
      let p := t.winRead c a 1
      let q := p.2.winRead c (a + 1) p.1
      let u := (q.2.setCore c fun k => { k with wait := .req }).setCoreState c 3
      (if p.1 = 0 then u.refuse (.core c) 109 else u.coreText c (leBytes p.1 q.1)).retired s c)))
end

