-- ==== Sys2Proof/Laws/Sparse.lean ====
section
/-! SUPPORT. Laws of sparse tables and of memory: a read after a write, other keys, and the canonical form. -/
namespace Sys2Proof.Machine
open Sys2Proof

variable {α : Type}

theorem sparseFind_put_some (l : List (Nat × α)) (k : Nat) (v : α) : sparseFind (sparsePut l k (some v)) k = some v := by
  induction l with
  | nil => simp [sparsePut, sparseFind]
  | cons e l ih =>
    obtain ⟨a, w⟩ := e
    by_cases h : a < k
    · simp [sparsePut, sparseFind, h, ih, Nat.ne_of_lt h]
    · simp [sparsePut, sparseFind, h]

theorem sparseFind_put_ne (l : List (Nat × α)) (k j : Nat) (o : Option α) (h : j ≠ k) :
    sparseFind (sparsePut l k o) j = sparseFind l j := by
  induction l with
  | nil => cases o <;> simp [sparsePut, sparseFind, Ne.symm h]
  | cons e l ih =>
    obtain ⟨a, w⟩ := e
    by_cases h1 : a < k
    · simp [sparsePut, sparseFind, h1, ih]
    · by_cases h2 : a = k
      · subst h2; cases o <;> simp [sparsePut, sparseFind, Ne.symm h]
      · cases o <;> simp [sparsePut, sparseFind, h1, h2, Ne.symm h]

/-- No key below `k` or at it is listed. -/
theorem sparseFind_none_of_lt (l : List (Nat × α)) (k : Nat) (h : ∀ e ∈ l, k < e.1) : sparseFind l k = none := by
  induction l with
  | nil => rfl
  | cons e l ih =>
    obtain ⟨a, w⟩ := e
    have := h (a, w) (by simp)
    simp only [sparseFind]
    rw [if_neg (by simp at this; omega)]
    exact ih fun e he => h e (by simp [he])

/-- The keys rise strictly. -/
def sparseSorted : List (Nat × α) → Prop := List.Pairwise fun a b => a.1 < b.1

theorem sparseFind_put_none (l : List (Nat × α)) (k : Nat) (h : sparseSorted l) : sparseFind (sparsePut l k none) k = none := by
  induction l with
  | nil => rfl
  | cons e l ih =>
    obtain ⟨a, w⟩ := e
    obtain ⟨h1, h2⟩ := List.pairwise_cons.mp h
    by_cases h3 : a < k
    · simp [sparsePut, sparseFind, h3, ih h2, Nat.ne_of_lt h3]
    · by_cases h4 : a = k
      · subst h4
        simpa [sparsePut] using sparseFind_none_of_lt l a h1
      · have : k < a := by omega
        simp only [sparsePut, h3, if_false, h4]
        simp only [sparseFind, h4, if_false]
        exact sparseFind_none_of_lt l k fun e he => Nat.lt_trans this (h1 e he)

theorem mem_sparsePut (l : List (Nat × α)) (k : Nat) (o : Option α) (e : Nat × α) (h : e ∈ sparsePut l k o) :
    e ∈ l ∨ (e.1 = k ∧ o = some e.2) := by
  induction l with
  | nil => cases o <;> simp_all [sparsePut]
  | cons d l ih =>
    obtain ⟨a, w⟩ := d
    by_cases h1 : a < k
    · simp only [sparsePut, h1, if_true, List.mem_cons] at h
      rcases h with h | h
      · exact .inl (by simp [h])
      · rcases ih h with h | h
        · exact .inl (by simp [h])
        · exact .inr h
    · by_cases h2 : a = k <;> cases o <;> simp [sparsePut, h1, h2] at h
      · exact .inl (by simp [h])
      · rcases h with h | h
        · exact .inr (by simp [h])
        · exact .inl (by simp [h])
      · exact .inl (by simpa using h)
      · rcases h with h | h | h
        · exact .inr (by simp [h])
        · exact .inl (by simp [h])
        · exact .inl (by simp [h])

theorem sparsePut_sorted (l : List (Nat × α)) (k : Nat) (o : Option α) (h : sparseSorted l) : sparseSorted (sparsePut l k o) := by
  induction l with
  | nil => cases o <;> simp [sparsePut, sparseSorted]
  | cons e l ih =>
    obtain ⟨a, w⟩ := e
    obtain ⟨h1, h2⟩ := List.pairwise_cons.mp h
    by_cases h3 : a < k
    · simp only [sparsePut, h3, if_true]
      refine List.pairwise_cons.mpr ⟨fun e he => ?_, ih h2⟩
      rcases mem_sparsePut l k o e he with h | h
      · exact h1 e h
      · simp only [h.1]; exact h3
    · by_cases h4 : a = k
      · subst h4
        cases o with
        | none => rw [show sparsePut ((a, w) :: l) a none = l by simp [sparsePut]]; exact h2
        | some v =>
          rw [show sparsePut ((a, w) :: l) a (some v) = (a, v) :: l by simp [sparsePut]]
          exact List.pairwise_cons.mpr ⟨h1, h2⟩
      · have h5 : k < a := by omega
        cases o with
        | none => simpa [sparsePut, h3, h4] using h
        | some v =>
          simp only [sparsePut, h3, if_false, h4]
          refine List.pairwise_cons.mpr ⟨fun e he => ?_, h⟩
          rcases List.mem_cons.mp he with rfl | he
          · exact h5
          · exact Nat.lt_trans h5 (h1 e he)

/-- The canonical form: keys rising, and no entry equal to its default. -/
theorem sparseWf_iff [DecidableEq α] (d : Nat → α) (l : List (Nat × α)) :
    sparseWf d l = true ↔ sparseSorted l ∧ ∀ e ∈ l, e.2 ≠ d e.1 := by
  induction l with
  | nil => simp [sparseWf, sparseSorted]
  | cons e l ih =>
    obtain ⟨a, w⟩ := e
    simp only [sparseWf, Bool.and_eq_true, decide_eq_true_eq, List.all_eq_true, ih, sparseSorted, List.pairwise_cons,
      List.mem_cons, forall_eq_or_imp]
    exact ⟨fun ⟨⟨h1, h2⟩, h3, h4⟩ => ⟨⟨h2, h3⟩, h1, h4⟩, fun ⟨⟨h1, h2⟩, h3, h4⟩ => ⟨⟨h3, h1⟩, h2, h4⟩⟩

theorem sparsePut_wf [DecidableEq α] (d : Nat → α) (l : List (Nat × α)) (k : Nat) (o : Option α) (h : sparseWf d l = true)
    (ho : ∀ v, o = some v → v ≠ d k) : sparseWf d (sparsePut l k o) = true := by
  rw [sparseWf_iff] at h ⊢
  refine ⟨sparsePut_sorted l k o h.1, fun e he => ?_⟩
  rcases mem_sparsePut l k o e he with h' | ⟨h1, h2⟩
  · exact h.2 e h'
  · rw [h1]; exact ho e.2 h2

/-- Dropping entries keeps the canonical form. -/
theorem sparseFilter_wf [DecidableEq α] (d : Nat → α) (l : List (Nat × α)) (p : Nat × α → Bool) (h : sparseWf d l = true) :
    sparseWf d (l.filter p) = true := by
  rw [sparseWf_iff] at h ⊢
  exact ⟨h.1.sublist List.filter_sublist, fun e he => h.2 e (List.mem_filter.mp he).1⟩

/-! ## Memory -/

/-- Writing a byte keeps memory in its canonical form. -/
theorem memSet_wf (s : State) (a : Nat) (b : Byte) (h : memWf s.mem = true) : memWf (s.memSet a b).mem = true := by
  refine sparsePut_wf _ _ _ _ h fun v hv => ?_
  split at hv
  · cases hv
  · next hb => cases hv; exact hb

/-- Writing bytes keeps memory in its canonical form. -/
theorem memPut_wf (l : List Byte) (s : State) (a : Nat) (h : memWf s.mem = true) : memWf (s.memPut a l).mem = true := by
  induction l generalizing s a with
  | nil => exact h
  | cons b l ih => exact ih _ _ (memSet_wf s a b h)

/-- The byte that a write leaves at its own address. -/
theorem memGet_memSet_same (s : State) (a : Nat) (b : Byte) (h : memWf s.mem = true) : (s.memSet a b).memGet a = b := by
  by_cases hb : b = memDefault a
  · simp [State.memGet, State.memSet, hb, sparseFind_put_none _ _ ((sparseWf_iff _ _).mp h).1]
  · simp [State.memGet, State.memSet, hb, sparseFind_put_some]

/-- A write of a byte leaves every other address alone. -/
theorem memGet_memSet_ne (s : State) (a j : Nat) (b : Byte) (h : j ≠ a) : (s.memSet a b).memGet j = s.memGet j := by
  simp [State.memGet, State.memSet, sparseFind_put_ne _ _ _ _ h]

/-- A write of bytes leaves every address outside them alone. -/
theorem memGet_memPut_out (l : List Byte) (s : State) (a j : Nat) (h : j < a ∨ a + l.length ≤ j) :
    (s.memPut a l).memGet j = s.memGet j := by
  induction l generalizing s a with
  | nil => rfl
  | cons b l ih =>
    simp only [List.length_cons] at h
    rw [State.memPut, ih _ _ (by omega), memGet_memSet_ne _ _ _ _ (by omega)]

/-- Memory at reset lists nothing. -/
theorem memWf_reset : memWf State.reset.mem = true := rfl

end Sys2Proof.Machine
end

