-- ==== Sys2Proof/Laws/Answers.lean ====
section
/-! SUPPORT. What an answer changes: lines on their way, and the registers that count them. -/
namespace Sys2Proof.Machine
open Sys2Proof

theorem answersOnly_refl (s : State) : s.answersOnly s := ⟨rfl, fun _ => rfl, fun _ _ => rfl⟩

/-- Two steps of answers are one. -/
theorem answersOnly_trans {a b c : State} (h : a.answersOnly b) (k : b.answersOnly c) : a.answersOnly c := by
  obtain ⟨h1, h2, h3⟩ := h
  obtain ⟨k1, k2, k3⟩ := k
  refine ⟨?_, ?_, ?_⟩
  · rw [← h1, ← k1]
  · intro p; rw [← h2 p, ← k2 p]
  · intro x hx; rw [k3 x hx, h3 x hx]

/-- A write to a register of the answers. -/
theorem answersOnly_setReg (s : State) (r : Reg) (i j : Nat) (w : Word) (h : answerReg (regAddr r i j)) :
    s.answersOnly (s.setReg r i j w) := by
  refine ⟨rfl, fun _ => rfl, fun x hx => ?_⟩
  simp only [State.setReg]
  exact sparseFind_put_ne _ _ _ _ (fun e => hx (e ▸ h))

/-- A line on its way to its origin. -/
theorem answersOnly_answer (s : State) (o : Origin) (l : RLine) : s.answersOnly (s.answer o l) := by
  have port (p : Fin 2) (s : State) (f : Port → Port) (hf : ∀ q, { f q with rsp := q.rsp, rspWait := q.rspWait } = q) :
      s.answersOnly (s.setPort p f) := by
    refine ⟨rfl, fun q => ?_, fun _ _ => rfl⟩
    simp only [State.setPort]
    by_cases h : q = p
    · subst h; simp [hf]
    · have : (s.port.set p (f s.port[p]))[q] = s.port[q] := by
        simp only [Fin.getElem_fin]; exact Vector.getElem_set_ne _ _ (by omega)
      rw [this]
  have pl (p : Fin 2) (s : State) : s.answersOnly (s.portLine p l) := by
    unfold State.portLine
    split
    · unfold State.rspPut
      refine answersOnly_trans ?_ (port p _ _ fun q => rfl)
      unfold State.ringPut
      refine answersOnly_trans (answersOnly_setReg _ _ _ _ _ ⟨p, .inl rfl⟩) (answersOnly_setReg _ _ _ _ _ ⟨p, .inr (.inl rfl)⟩)
    · exact port p _ _ fun q => rfl
  unfold State.answer
  cases o with
  | framed p w => exact pl p s
  | typed p => exact pl p s
  | panel => exact answersOnly_refl s
  | core c => exact ⟨rfl, fun _ => rfl, fun _ _ => rfl⟩
  | peer d w => exact ⟨rfl, fun _ => rfl, fun _ _ => rfl⟩

/-- A refused line is counted. -/
theorem answersOnly_countRej (s : State) (o : Origin) (e : Nat) : s.answersOnly (s.countRej o e) := by
  unfold State.countRej
  split <;> try split
  all_goals first | exact answersOnly_refl s | exact answersOnly_setReg _ _ _ _ _ ⟨_, .inr (.inr rfl)⟩

/-- A refusal. -/
theorem answersOnly_refuse (s : State) (o : Origin) (e : Nat) : s.answersOnly (s.refuse o e) :=
  answersOnly_trans (answersOnly_countRej s o e) (answersOnly_answer _ _ _)

/-- Data lines. -/
theorem answersOnly_fold (o : Origin) (ls : List (List Fd)) (s : State) :
    s.answersOnly (ls.foldl (fun t l => t.answer o (.data l)) s) := by
  induction ls generalizing s with
  | nil => exact answersOnly_refl s
  | cons l ls ih => exact answersOnly_trans (answersOnly_answer s o _) (ih _)

/-- A query that leaves the block as it is. -/
theorem answersOnly_ask (s : State) (o : Origin) (pre : Option Nat) (permit : Bool) (f : State → Nat × List (List Fd) × State)
    (hf : (f s).2.2 = s) : s.answersOnly (s.ask o pre permit f) := by
  unfold State.ask
  split
  · exact answersOnly_refl s
  split
  · exact answersOnly_refuse ..
  split
  · exact answersOnly_answer ..
  split
  · exact answersOnly_refuse ..
  split
  · exact answersOnly_answer ..
  split
  · rename_i ls t ht
    rw [ht] at hf
    cases hf
    exact answersOnly_trans (answersOnly_fold ..) (answersOnly_answer ..)
  · rename_i e l t _ ht
    rw [ht] at hf
    cases hf
    exact answersOnly_trans (answersOnly_countRej ..) (answersOnly_answer ..)

/-- A query that only reads. -/
theorem answersOnly_askPure (s : State) (o : Origin) (pre : Option Nat) (permit : Bool) (f : State → Nat × List (List Fd)) :
    s.answersOnly (s.askPure o pre permit f) := answersOnly_ask _ _ _ _ _ rfl

end Sys2Proof.Machine
end

