-- ==== Sys2Proof/Laws/State.lean ====
section
/-! SUPPORT. What each update of the state leaves alone, and what it leaves in the part it sets. -/
namespace Sys2Proof.Machine
open Sys2Proof

variable (s : State)

/-! ## Frames of the updates: every other field -/

@[simp] theorem setPort_frame (p : Fin 2) (f : Port → Port) :
    (s.setPort p f).phase = s.phase ∧ (s.setPort p f).stopped = s.stopped ∧ (s.setPort p f).regs = s.regs ∧
    (s.setPort p f).clk = s.clk ∧ (s.setPort p f).lat = s.lat ∧ (s.setPort p f).conf = s.conf ∧
    (s.setPort p f).jrn = s.jrn ∧ (s.setPort p f).ev = s.ev ∧ (s.setPort p f).evWait = s.evWait ∧
    (s.setPort p f).ringChg = s.ringChg ∧ (s.setPort p f).ringBase = s.ringBase ∧
    (s.setPort p f).tickSet = s.tickSet ∧ (s.setPort p f).sess = s.sess ∧ (s.setPort p f).tape = s.tape ∧
    (s.setPort p f).answers = s.answers ∧ (s.setPort p f).rtc = s.rtc ∧ (s.setPort p f).resetReq = s.resetReq ∧
    (s.setPort p f).freeCtr = s.freeCtr ∧ (s.setPort p f).mem = s.mem ∧ (s.setPort p f).img = s.img ∧
    (s.setPort p f).flags = s.flags ∧ (s.setPort p f).progs = s.progs ∧ (s.setPort p f).mot = s.mot ∧
    (s.setPort p f).axis = s.axis ∧ (s.setPort p f).hwDet = s.hwDet ∧ (s.setPort p f).dac = s.dac ∧
    (s.setPort p f).exc = s.exc ∧ (s.setPort p f).ldacRise = s.ldacRise ∧ (s.setPort p f).ldacFall = s.ldacFall ∧
    (s.setPort p f).loadReq = s.loadReq ∧ (s.setPort p f).rgn = s.rgn ∧ (s.setPort p f).loads = s.loads ∧
    (s.setPort p f).staged = s.staged ∧ (s.setPort p f).conv = s.conv ∧ (s.setPort p f).dec = s.dec ∧
    (s.setPort p f).calcu = s.calcu ∧ (s.setPort p f).panel = s.panel ∧ (s.setPort p f).fio = s.fio ∧
    (s.setPort p f).lnk = s.lnk ∧ (s.setPort p f).obs = s.obs ∧ (s.setPort p f).core = s.core ∧
    (s.setPort p f).take = s.take ∧ (s.setPort p f).flash = s.flash ∧ (s.setPort p f).sram = s.sram ∧
    (s.setPort p f).boot = s.boot ∧ (s.setPort p f).pwr = s.pwr ∧ (s.setPort p f).tap = s.tap ∧
    (s.setPort p f).pending = s.pending :=
    ⟨rfl, rfl, rfl, rfl, rfl, rfl, rfl, rfl, rfl, rfl, rfl, rfl, rfl, rfl, rfl, rfl, rfl, rfl, rfl, rfl, rfl, rfl,
    rfl, rfl, rfl, rfl, rfl, rfl, rfl, rfl, rfl, rfl, rfl, rfl, rfl, rfl, rfl, rfl, rfl, rfl, rfl, rfl, rfl, rfl,
    rfl, rfl, rfl, rfl⟩

@[simp] theorem setSess_frame (p : Fin 2) (f : Session → Session) :
    (s.setSess p f).phase = s.phase ∧ (s.setSess p f).stopped = s.stopped ∧ (s.setSess p f).regs = s.regs ∧
    (s.setSess p f).clk = s.clk ∧ (s.setSess p f).lat = s.lat ∧ (s.setSess p f).conf = s.conf ∧
    (s.setSess p f).jrn = s.jrn ∧ (s.setSess p f).ev = s.ev ∧ (s.setSess p f).evWait = s.evWait ∧
    (s.setSess p f).ringChg = s.ringChg ∧ (s.setSess p f).ringBase = s.ringBase ∧
    (s.setSess p f).tickSet = s.tickSet ∧ (s.setSess p f).port = s.port ∧ (s.setSess p f).tape = s.tape ∧
    (s.setSess p f).answers = s.answers ∧ (s.setSess p f).rtc = s.rtc ∧ (s.setSess p f).resetReq = s.resetReq ∧
    (s.setSess p f).freeCtr = s.freeCtr ∧ (s.setSess p f).mem = s.mem ∧ (s.setSess p f).img = s.img ∧
    (s.setSess p f).flags = s.flags ∧ (s.setSess p f).progs = s.progs ∧ (s.setSess p f).mot = s.mot ∧
    (s.setSess p f).axis = s.axis ∧ (s.setSess p f).hwDet = s.hwDet ∧ (s.setSess p f).dac = s.dac ∧
    (s.setSess p f).exc = s.exc ∧ (s.setSess p f).ldacRise = s.ldacRise ∧ (s.setSess p f).ldacFall = s.ldacFall ∧
    (s.setSess p f).loadReq = s.loadReq ∧ (s.setSess p f).rgn = s.rgn ∧ (s.setSess p f).loads = s.loads ∧
    (s.setSess p f).staged = s.staged ∧ (s.setSess p f).conv = s.conv ∧ (s.setSess p f).dec = s.dec ∧
    (s.setSess p f).calcu = s.calcu ∧ (s.setSess p f).panel = s.panel ∧ (s.setSess p f).fio = s.fio ∧
    (s.setSess p f).lnk = s.lnk ∧ (s.setSess p f).obs = s.obs ∧ (s.setSess p f).core = s.core ∧
    (s.setSess p f).take = s.take ∧ (s.setSess p f).flash = s.flash ∧ (s.setSess p f).sram = s.sram ∧
    (s.setSess p f).boot = s.boot ∧ (s.setSess p f).pwr = s.pwr ∧ (s.setSess p f).tap = s.tap ∧
    (s.setSess p f).pending = s.pending :=
    ⟨rfl, rfl, rfl, rfl, rfl, rfl, rfl, rfl, rfl, rfl, rfl, rfl, rfl, rfl, rfl, rfl, rfl, rfl, rfl, rfl, rfl, rfl,
    rfl, rfl, rfl, rfl, rfl, rfl, rfl, rfl, rfl, rfl, rfl, rfl, rfl, rfl, rfl, rfl, rfl, rfl, rfl, rfl, rfl, rfl,
    rfl, rfl, rfl, rfl⟩

@[simp] theorem setMot_frame (k : Fin 4) (f : StnMot → StnMot) :
    (s.setMot k f).phase = s.phase ∧ (s.setMot k f).stopped = s.stopped ∧ (s.setMot k f).regs = s.regs ∧
    (s.setMot k f).clk = s.clk ∧ (s.setMot k f).lat = s.lat ∧ (s.setMot k f).conf = s.conf ∧
    (s.setMot k f).jrn = s.jrn ∧ (s.setMot k f).ev = s.ev ∧ (s.setMot k f).evWait = s.evWait ∧
    (s.setMot k f).ringChg = s.ringChg ∧ (s.setMot k f).ringBase = s.ringBase ∧ (s.setMot k f).tickSet = s.tickSet ∧
    (s.setMot k f).sess = s.sess ∧ (s.setMot k f).port = s.port ∧ (s.setMot k f).tape = s.tape ∧
    (s.setMot k f).answers = s.answers ∧ (s.setMot k f).rtc = s.rtc ∧ (s.setMot k f).resetReq = s.resetReq ∧
    (s.setMot k f).freeCtr = s.freeCtr ∧ (s.setMot k f).mem = s.mem ∧ (s.setMot k f).img = s.img ∧
    (s.setMot k f).flags = s.flags ∧ (s.setMot k f).progs = s.progs ∧ (s.setMot k f).axis = s.axis ∧
    (s.setMot k f).hwDet = s.hwDet ∧ (s.setMot k f).dac = s.dac ∧ (s.setMot k f).exc = s.exc ∧
    (s.setMot k f).ldacRise = s.ldacRise ∧ (s.setMot k f).ldacFall = s.ldacFall ∧ (s.setMot k f).loadReq = s.loadReq ∧
    (s.setMot k f).rgn = s.rgn ∧ (s.setMot k f).loads = s.loads ∧ (s.setMot k f).staged = s.staged ∧
    (s.setMot k f).conv = s.conv ∧ (s.setMot k f).dec = s.dec ∧ (s.setMot k f).calcu = s.calcu ∧
    (s.setMot k f).panel = s.panel ∧ (s.setMot k f).fio = s.fio ∧ (s.setMot k f).lnk = s.lnk ∧
    (s.setMot k f).obs = s.obs ∧ (s.setMot k f).core = s.core ∧ (s.setMot k f).take = s.take ∧
    (s.setMot k f).flash = s.flash ∧ (s.setMot k f).sram = s.sram ∧ (s.setMot k f).boot = s.boot ∧
    (s.setMot k f).pwr = s.pwr ∧ (s.setMot k f).tap = s.tap ∧ (s.setMot k f).pending = s.pending :=
    ⟨rfl, rfl, rfl, rfl, rfl, rfl, rfl, rfl, rfl, rfl, rfl, rfl, rfl, rfl, rfl, rfl, rfl, rfl, rfl, rfl, rfl, rfl,
    rfl, rfl, rfl, rfl, rfl, rfl, rfl, rfl, rfl, rfl, rfl, rfl, rfl, rfl, rfl, rfl, rfl, rfl, rfl, rfl, rfl, rfl,
    rfl, rfl, rfl, rfl⟩

@[simp] theorem setReader_frame (k : Fin 4) (f : Reader → Reader) :
    (s.setReader k f).phase = s.phase ∧ (s.setReader k f).stopped = s.stopped ∧ (s.setReader k f).regs = s.regs ∧
    (s.setReader k f).clk = s.clk ∧ (s.setReader k f).lat = s.lat ∧ (s.setReader k f).conf = s.conf ∧
    (s.setReader k f).jrn = s.jrn ∧ (s.setReader k f).ev = s.ev ∧ (s.setReader k f).evWait = s.evWait ∧
    (s.setReader k f).ringChg = s.ringChg ∧ (s.setReader k f).ringBase = s.ringBase ∧
    (s.setReader k f).tickSet = s.tickSet ∧ (s.setReader k f).sess = s.sess ∧ (s.setReader k f).port = s.port ∧
    (s.setReader k f).tape = s.tape ∧ (s.setReader k f).answers = s.answers ∧ (s.setReader k f).rtc = s.rtc ∧
    (s.setReader k f).resetReq = s.resetReq ∧ (s.setReader k f).freeCtr = s.freeCtr ∧ (s.setReader k f).mem = s.mem ∧
    (s.setReader k f).img = s.img ∧ (s.setReader k f).flags = s.flags ∧ (s.setReader k f).progs = s.progs ∧
    (s.setReader k f).axis = s.axis ∧ (s.setReader k f).hwDet = s.hwDet ∧ (s.setReader k f).dac = s.dac ∧
    (s.setReader k f).exc = s.exc ∧ (s.setReader k f).ldacRise = s.ldacRise ∧
    (s.setReader k f).ldacFall = s.ldacFall ∧ (s.setReader k f).loadReq = s.loadReq ∧ (s.setReader k f).rgn = s.rgn ∧
    (s.setReader k f).loads = s.loads ∧ (s.setReader k f).staged = s.staged ∧ (s.setReader k f).conv = s.conv ∧
    (s.setReader k f).dec = s.dec ∧ (s.setReader k f).calcu = s.calcu ∧ (s.setReader k f).panel = s.panel ∧
    (s.setReader k f).fio = s.fio ∧ (s.setReader k f).lnk = s.lnk ∧ (s.setReader k f).obs = s.obs ∧
    (s.setReader k f).core = s.core ∧ (s.setReader k f).take = s.take ∧ (s.setReader k f).flash = s.flash ∧
    (s.setReader k f).sram = s.sram ∧ (s.setReader k f).boot = s.boot ∧ (s.setReader k f).pwr = s.pwr ∧
    (s.setReader k f).tap = s.tap ∧ (s.setReader k f).pending = s.pending :=
    ⟨rfl, rfl, rfl, rfl, rfl, rfl, rfl, rfl, rfl, rfl, rfl, rfl, rfl, rfl, rfl, rfl, rfl, rfl, rfl, rfl, rfl, rfl,
    rfl, rfl, rfl, rfl, rfl, rfl, rfl, rfl, rfl, rfl, rfl, rfl, rfl, rfl, rfl, rfl, rfl, rfl, rfl, rfl, rfl, rfl,
    rfl, rfl, rfl, rfl⟩

@[simp] theorem setAxis_frame (a : Fin 12) (f : AxisSt → AxisSt) :
    (s.setAxis a f).phase = s.phase ∧ (s.setAxis a f).stopped = s.stopped ∧ (s.setAxis a f).regs = s.regs ∧
    (s.setAxis a f).clk = s.clk ∧ (s.setAxis a f).lat = s.lat ∧ (s.setAxis a f).conf = s.conf ∧
    (s.setAxis a f).jrn = s.jrn ∧ (s.setAxis a f).ev = s.ev ∧ (s.setAxis a f).evWait = s.evWait ∧
    (s.setAxis a f).ringChg = s.ringChg ∧ (s.setAxis a f).ringBase = s.ringBase ∧
    (s.setAxis a f).tickSet = s.tickSet ∧ (s.setAxis a f).sess = s.sess ∧ (s.setAxis a f).port = s.port ∧
    (s.setAxis a f).tape = s.tape ∧ (s.setAxis a f).answers = s.answers ∧ (s.setAxis a f).rtc = s.rtc ∧
    (s.setAxis a f).resetReq = s.resetReq ∧ (s.setAxis a f).freeCtr = s.freeCtr ∧ (s.setAxis a f).mem = s.mem ∧
    (s.setAxis a f).img = s.img ∧ (s.setAxis a f).flags = s.flags ∧ (s.setAxis a f).progs = s.progs ∧
    (s.setAxis a f).mot = s.mot ∧ (s.setAxis a f).hwDet = s.hwDet ∧ (s.setAxis a f).dac = s.dac ∧
    (s.setAxis a f).exc = s.exc ∧ (s.setAxis a f).ldacRise = s.ldacRise ∧ (s.setAxis a f).ldacFall = s.ldacFall ∧
    (s.setAxis a f).loadReq = s.loadReq ∧ (s.setAxis a f).rgn = s.rgn ∧ (s.setAxis a f).loads = s.loads ∧
    (s.setAxis a f).staged = s.staged ∧ (s.setAxis a f).conv = s.conv ∧ (s.setAxis a f).dec = s.dec ∧
    (s.setAxis a f).calcu = s.calcu ∧ (s.setAxis a f).panel = s.panel ∧ (s.setAxis a f).fio = s.fio ∧
    (s.setAxis a f).lnk = s.lnk ∧ (s.setAxis a f).obs = s.obs ∧ (s.setAxis a f).core = s.core ∧
    (s.setAxis a f).take = s.take ∧ (s.setAxis a f).flash = s.flash ∧ (s.setAxis a f).sram = s.sram ∧
    (s.setAxis a f).boot = s.boot ∧ (s.setAxis a f).pwr = s.pwr ∧ (s.setAxis a f).tap = s.tap ∧
    (s.setAxis a f).pending = s.pending :=
    ⟨rfl, rfl, rfl, rfl, rfl, rfl, rfl, rfl, rfl, rfl, rfl, rfl, rfl, rfl, rfl, rfl, rfl, rfl, rfl, rfl, rfl, rfl,
    rfl, rfl, rfl, rfl, rfl, rfl, rfl, rfl, rfl, rfl, rfl, rfl, rfl, rfl, rfl, rfl, rfl, rfl, rfl, rfl, rfl, rfl,
    rfl, rfl, rfl, rfl⟩

@[simp] theorem setDac_frame (n : Fin 16) (f : DacSt → DacSt) :
    (s.setDac n f).phase = s.phase ∧ (s.setDac n f).stopped = s.stopped ∧ (s.setDac n f).regs = s.regs ∧
    (s.setDac n f).clk = s.clk ∧ (s.setDac n f).lat = s.lat ∧ (s.setDac n f).conf = s.conf ∧
    (s.setDac n f).jrn = s.jrn ∧ (s.setDac n f).ev = s.ev ∧ (s.setDac n f).evWait = s.evWait ∧
    (s.setDac n f).ringChg = s.ringChg ∧ (s.setDac n f).ringBase = s.ringBase ∧ (s.setDac n f).tickSet = s.tickSet ∧
    (s.setDac n f).sess = s.sess ∧ (s.setDac n f).port = s.port ∧ (s.setDac n f).tape = s.tape ∧
    (s.setDac n f).answers = s.answers ∧ (s.setDac n f).rtc = s.rtc ∧ (s.setDac n f).resetReq = s.resetReq ∧
    (s.setDac n f).freeCtr = s.freeCtr ∧ (s.setDac n f).mem = s.mem ∧ (s.setDac n f).img = s.img ∧
    (s.setDac n f).flags = s.flags ∧ (s.setDac n f).progs = s.progs ∧ (s.setDac n f).mot = s.mot ∧
    (s.setDac n f).axis = s.axis ∧ (s.setDac n f).hwDet = s.hwDet ∧ (s.setDac n f).exc = s.exc ∧
    (s.setDac n f).ldacRise = s.ldacRise ∧ (s.setDac n f).ldacFall = s.ldacFall ∧ (s.setDac n f).loadReq = s.loadReq ∧
    (s.setDac n f).rgn = s.rgn ∧ (s.setDac n f).loads = s.loads ∧ (s.setDac n f).staged = s.staged ∧
    (s.setDac n f).conv = s.conv ∧ (s.setDac n f).dec = s.dec ∧ (s.setDac n f).calcu = s.calcu ∧
    (s.setDac n f).panel = s.panel ∧ (s.setDac n f).fio = s.fio ∧ (s.setDac n f).lnk = s.lnk ∧
    (s.setDac n f).obs = s.obs ∧ (s.setDac n f).core = s.core ∧ (s.setDac n f).take = s.take ∧
    (s.setDac n f).flash = s.flash ∧ (s.setDac n f).sram = s.sram ∧ (s.setDac n f).boot = s.boot ∧
    (s.setDac n f).pwr = s.pwr ∧ (s.setDac n f).tap = s.tap ∧ (s.setDac n f).pending = s.pending :=
    ⟨rfl, rfl, rfl, rfl, rfl, rfl, rfl, rfl, rfl, rfl, rfl, rfl, rfl, rfl, rfl, rfl, rfl, rfl, rfl, rfl, rfl, rfl,
    rfl, rfl, rfl, rfl, rfl, rfl, rfl, rfl, rfl, rfl, rfl, rfl, rfl, rfl, rfl, rfl, rfl, rfl, rfl, rfl, rfl, rfl,
    rfl, rfl, rfl, rfl⟩

@[simp] theorem setExc_frame (g : Fin 4) (f : ExcSt → ExcSt) :
    (s.setExc g f).phase = s.phase ∧ (s.setExc g f).stopped = s.stopped ∧ (s.setExc g f).regs = s.regs ∧
    (s.setExc g f).clk = s.clk ∧ (s.setExc g f).lat = s.lat ∧ (s.setExc g f).conf = s.conf ∧
    (s.setExc g f).jrn = s.jrn ∧ (s.setExc g f).ev = s.ev ∧ (s.setExc g f).evWait = s.evWait ∧
    (s.setExc g f).ringChg = s.ringChg ∧ (s.setExc g f).ringBase = s.ringBase ∧ (s.setExc g f).tickSet = s.tickSet ∧
    (s.setExc g f).sess = s.sess ∧ (s.setExc g f).port = s.port ∧ (s.setExc g f).tape = s.tape ∧
    (s.setExc g f).answers = s.answers ∧ (s.setExc g f).rtc = s.rtc ∧ (s.setExc g f).resetReq = s.resetReq ∧
    (s.setExc g f).freeCtr = s.freeCtr ∧ (s.setExc g f).mem = s.mem ∧ (s.setExc g f).img = s.img ∧
    (s.setExc g f).flags = s.flags ∧ (s.setExc g f).progs = s.progs ∧ (s.setExc g f).mot = s.mot ∧
    (s.setExc g f).axis = s.axis ∧ (s.setExc g f).hwDet = s.hwDet ∧ (s.setExc g f).dac = s.dac ∧
    (s.setExc g f).ldacRise = s.ldacRise ∧ (s.setExc g f).ldacFall = s.ldacFall ∧ (s.setExc g f).loadReq = s.loadReq ∧
    (s.setExc g f).rgn = s.rgn ∧ (s.setExc g f).loads = s.loads ∧ (s.setExc g f).staged = s.staged ∧
    (s.setExc g f).conv = s.conv ∧ (s.setExc g f).dec = s.dec ∧ (s.setExc g f).calcu = s.calcu ∧
    (s.setExc g f).panel = s.panel ∧ (s.setExc g f).fio = s.fio ∧ (s.setExc g f).lnk = s.lnk ∧
    (s.setExc g f).obs = s.obs ∧ (s.setExc g f).core = s.core ∧ (s.setExc g f).take = s.take ∧
    (s.setExc g f).flash = s.flash ∧ (s.setExc g f).sram = s.sram ∧ (s.setExc g f).boot = s.boot ∧
    (s.setExc g f).pwr = s.pwr ∧ (s.setExc g f).tap = s.tap ∧ (s.setExc g f).pending = s.pending :=
    ⟨rfl, rfl, rfl, rfl, rfl, rfl, rfl, rfl, rfl, rfl, rfl, rfl, rfl, rfl, rfl, rfl, rfl, rfl, rfl, rfl, rfl, rfl,
    rfl, rfl, rfl, rfl, rfl, rfl, rfl, rfl, rfl, rfl, rfl, rfl, rfl, rfl, rfl, rfl, rfl, rfl, rfl, rfl, rfl, rfl,
    rfl, rfl, rfl, rfl⟩

@[simp] theorem setCore_frame (c : Fin 6) (f : CoreSt → CoreSt) :
    (s.setCore c f).phase = s.phase ∧ (s.setCore c f).stopped = s.stopped ∧ (s.setCore c f).regs = s.regs ∧
    (s.setCore c f).clk = s.clk ∧ (s.setCore c f).lat = s.lat ∧ (s.setCore c f).conf = s.conf ∧
    (s.setCore c f).jrn = s.jrn ∧ (s.setCore c f).ev = s.ev ∧ (s.setCore c f).evWait = s.evWait ∧
    (s.setCore c f).ringChg = s.ringChg ∧ (s.setCore c f).ringBase = s.ringBase ∧
    (s.setCore c f).tickSet = s.tickSet ∧ (s.setCore c f).sess = s.sess ∧ (s.setCore c f).port = s.port ∧
    (s.setCore c f).tape = s.tape ∧ (s.setCore c f).answers = s.answers ∧ (s.setCore c f).rtc = s.rtc ∧
    (s.setCore c f).resetReq = s.resetReq ∧ (s.setCore c f).freeCtr = s.freeCtr ∧ (s.setCore c f).mem = s.mem ∧
    (s.setCore c f).img = s.img ∧ (s.setCore c f).flags = s.flags ∧ (s.setCore c f).progs = s.progs ∧
    (s.setCore c f).mot = s.mot ∧ (s.setCore c f).axis = s.axis ∧ (s.setCore c f).hwDet = s.hwDet ∧
    (s.setCore c f).dac = s.dac ∧ (s.setCore c f).exc = s.exc ∧ (s.setCore c f).ldacRise = s.ldacRise ∧
    (s.setCore c f).ldacFall = s.ldacFall ∧ (s.setCore c f).loadReq = s.loadReq ∧ (s.setCore c f).rgn = s.rgn ∧
    (s.setCore c f).loads = s.loads ∧ (s.setCore c f).staged = s.staged ∧ (s.setCore c f).conv = s.conv ∧
    (s.setCore c f).dec = s.dec ∧ (s.setCore c f).calcu = s.calcu ∧ (s.setCore c f).panel = s.panel ∧
    (s.setCore c f).fio = s.fio ∧ (s.setCore c f).lnk = s.lnk ∧ (s.setCore c f).obs = s.obs ∧
    (s.setCore c f).take = s.take ∧ (s.setCore c f).flash = s.flash ∧ (s.setCore c f).sram = s.sram ∧
    (s.setCore c f).boot = s.boot ∧ (s.setCore c f).pwr = s.pwr ∧ (s.setCore c f).tap = s.tap ∧
    (s.setCore c f).pending = s.pending :=
    ⟨rfl, rfl, rfl, rfl, rfl, rfl, rfl, rfl, rfl, rfl, rfl, rfl, rfl, rfl, rfl, rfl, rfl, rfl, rfl, rfl, rfl, rfl,
    rfl, rfl, rfl, rfl, rfl, rfl, rfl, rfl, rfl, rfl, rfl, rfl, rfl, rfl, rfl, rfl, rfl, rfl, rfl, rfl, rfl, rfl,
    rfl, rfl, rfl, rfl⟩

@[simp] theorem setFio_frame (f : FioSt → FioSt) :
    (s.setFio f).phase = s.phase ∧ (s.setFio f).stopped = s.stopped ∧ (s.setFio f).regs = s.regs ∧
    (s.setFio f).clk = s.clk ∧ (s.setFio f).lat = s.lat ∧ (s.setFio f).conf = s.conf ∧ (s.setFio f).jrn = s.jrn ∧
    (s.setFio f).ev = s.ev ∧ (s.setFio f).evWait = s.evWait ∧ (s.setFio f).ringChg = s.ringChg ∧
    (s.setFio f).ringBase = s.ringBase ∧ (s.setFio f).tickSet = s.tickSet ∧ (s.setFio f).sess = s.sess ∧
    (s.setFio f).port = s.port ∧ (s.setFio f).tape = s.tape ∧ (s.setFio f).answers = s.answers ∧
    (s.setFio f).rtc = s.rtc ∧ (s.setFio f).resetReq = s.resetReq ∧ (s.setFio f).freeCtr = s.freeCtr ∧
    (s.setFio f).mem = s.mem ∧ (s.setFio f).img = s.img ∧ (s.setFio f).flags = s.flags ∧
    (s.setFio f).progs = s.progs ∧ (s.setFio f).mot = s.mot ∧ (s.setFio f).axis = s.axis ∧
    (s.setFio f).hwDet = s.hwDet ∧ (s.setFio f).dac = s.dac ∧ (s.setFio f).exc = s.exc ∧
    (s.setFio f).ldacRise = s.ldacRise ∧ (s.setFio f).ldacFall = s.ldacFall ∧ (s.setFio f).loadReq = s.loadReq ∧
    (s.setFio f).rgn = s.rgn ∧ (s.setFio f).loads = s.loads ∧ (s.setFio f).staged = s.staged ∧
    (s.setFio f).conv = s.conv ∧ (s.setFio f).dec = s.dec ∧ (s.setFio f).calcu = s.calcu ∧
    (s.setFio f).panel = s.panel ∧ (s.setFio f).lnk = s.lnk ∧ (s.setFio f).obs = s.obs ∧ (s.setFio f).core = s.core ∧
    (s.setFio f).take = s.take ∧ (s.setFio f).flash = s.flash ∧ (s.setFio f).sram = s.sram ∧
    (s.setFio f).boot = s.boot ∧ (s.setFio f).pwr = s.pwr ∧ (s.setFio f).tap = s.tap ∧
    (s.setFio f).pending = s.pending :=
    ⟨rfl, rfl, rfl, rfl, rfl, rfl, rfl, rfl, rfl, rfl, rfl, rfl, rfl, rfl, rfl, rfl, rfl, rfl, rfl, rfl, rfl, rfl,
    rfl, rfl, rfl, rfl, rfl, rfl, rfl, rfl, rfl, rfl, rfl, rfl, rfl, rfl, rfl, rfl, rfl, rfl, rfl, rfl, rfl, rfl,
    rfl, rfl, rfl, rfl⟩

@[simp] theorem setPin_frame (n : Fin 64) (f : PinSt → PinSt) :
    (s.setPin n f).phase = s.phase ∧ (s.setPin n f).stopped = s.stopped ∧ (s.setPin n f).regs = s.regs ∧
    (s.setPin n f).clk = s.clk ∧ (s.setPin n f).lat = s.lat ∧ (s.setPin n f).conf = s.conf ∧
    (s.setPin n f).jrn = s.jrn ∧ (s.setPin n f).ev = s.ev ∧ (s.setPin n f).evWait = s.evWait ∧
    (s.setPin n f).ringChg = s.ringChg ∧ (s.setPin n f).ringBase = s.ringBase ∧ (s.setPin n f).tickSet = s.tickSet ∧
    (s.setPin n f).sess = s.sess ∧ (s.setPin n f).port = s.port ∧ (s.setPin n f).tape = s.tape ∧
    (s.setPin n f).answers = s.answers ∧ (s.setPin n f).rtc = s.rtc ∧ (s.setPin n f).resetReq = s.resetReq ∧
    (s.setPin n f).freeCtr = s.freeCtr ∧ (s.setPin n f).mem = s.mem ∧ (s.setPin n f).img = s.img ∧
    (s.setPin n f).flags = s.flags ∧ (s.setPin n f).progs = s.progs ∧ (s.setPin n f).mot = s.mot ∧
    (s.setPin n f).axis = s.axis ∧ (s.setPin n f).hwDet = s.hwDet ∧ (s.setPin n f).dac = s.dac ∧
    (s.setPin n f).exc = s.exc ∧ (s.setPin n f).ldacRise = s.ldacRise ∧ (s.setPin n f).ldacFall = s.ldacFall ∧
    (s.setPin n f).loadReq = s.loadReq ∧ (s.setPin n f).rgn = s.rgn ∧ (s.setPin n f).loads = s.loads ∧
    (s.setPin n f).staged = s.staged ∧ (s.setPin n f).conv = s.conv ∧ (s.setPin n f).dec = s.dec ∧
    (s.setPin n f).calcu = s.calcu ∧ (s.setPin n f).panel = s.panel ∧ (s.setPin n f).lnk = s.lnk ∧
    (s.setPin n f).obs = s.obs ∧ (s.setPin n f).core = s.core ∧ (s.setPin n f).take = s.take ∧
    (s.setPin n f).flash = s.flash ∧ (s.setPin n f).sram = s.sram ∧ (s.setPin n f).boot = s.boot ∧
    (s.setPin n f).pwr = s.pwr ∧ (s.setPin n f).tap = s.tap ∧ (s.setPin n f).pending = s.pending :=
    ⟨rfl, rfl, rfl, rfl, rfl, rfl, rfl, rfl, rfl, rfl, rfl, rfl, rfl, rfl, rfl, rfl, rfl, rfl, rfl, rfl, rfl, rfl,
    rfl, rfl, rfl, rfl, rfl, rfl, rfl, rfl, rfl, rfl, rfl, rfl, rfl, rfl, rfl, rfl, rfl, rfl, rfl, rfl, rfl, rfl,
    rfl, rfl, rfl, rfl⟩

@[simp] theorem setPanel_frame (f : PanelSt → PanelSt) :
    (s.setPanel f).phase = s.phase ∧ (s.setPanel f).stopped = s.stopped ∧ (s.setPanel f).regs = s.regs ∧
    (s.setPanel f).clk = s.clk ∧ (s.setPanel f).lat = s.lat ∧ (s.setPanel f).conf = s.conf ∧
    (s.setPanel f).jrn = s.jrn ∧ (s.setPanel f).ev = s.ev ∧ (s.setPanel f).evWait = s.evWait ∧
    (s.setPanel f).ringChg = s.ringChg ∧ (s.setPanel f).ringBase = s.ringBase ∧ (s.setPanel f).tickSet = s.tickSet ∧
    (s.setPanel f).sess = s.sess ∧ (s.setPanel f).port = s.port ∧ (s.setPanel f).tape = s.tape ∧
    (s.setPanel f).answers = s.answers ∧ (s.setPanel f).rtc = s.rtc ∧ (s.setPanel f).resetReq = s.resetReq ∧
    (s.setPanel f).freeCtr = s.freeCtr ∧ (s.setPanel f).mem = s.mem ∧ (s.setPanel f).img = s.img ∧
    (s.setPanel f).flags = s.flags ∧ (s.setPanel f).progs = s.progs ∧ (s.setPanel f).mot = s.mot ∧
    (s.setPanel f).axis = s.axis ∧ (s.setPanel f).hwDet = s.hwDet ∧ (s.setPanel f).dac = s.dac ∧
    (s.setPanel f).exc = s.exc ∧ (s.setPanel f).ldacRise = s.ldacRise ∧ (s.setPanel f).ldacFall = s.ldacFall ∧
    (s.setPanel f).loadReq = s.loadReq ∧ (s.setPanel f).rgn = s.rgn ∧ (s.setPanel f).loads = s.loads ∧
    (s.setPanel f).staged = s.staged ∧ (s.setPanel f).conv = s.conv ∧ (s.setPanel f).dec = s.dec ∧
    (s.setPanel f).calcu = s.calcu ∧ (s.setPanel f).fio = s.fio ∧ (s.setPanel f).lnk = s.lnk ∧
    (s.setPanel f).obs = s.obs ∧ (s.setPanel f).core = s.core ∧ (s.setPanel f).take = s.take ∧
    (s.setPanel f).flash = s.flash ∧ (s.setPanel f).sram = s.sram ∧ (s.setPanel f).boot = s.boot ∧
    (s.setPanel f).pwr = s.pwr ∧ (s.setPanel f).tap = s.tap ∧ (s.setPanel f).pending = s.pending :=
    ⟨rfl, rfl, rfl, rfl, rfl, rfl, rfl, rfl, rfl, rfl, rfl, rfl, rfl, rfl, rfl, rfl, rfl, rfl, rfl, rfl, rfl, rfl,
    rfl, rfl, rfl, rfl, rfl, rfl, rfl, rfl, rfl, rfl, rfl, rfl, rfl, rfl, rfl, rfl, rfl, rfl, rfl, rfl, rfl, rfl,
    rfl, rfl, rfl, rfl⟩

@[simp] theorem setObs_frame (f : ObsSt → ObsSt) :
    (s.setObs f).phase = s.phase ∧ (s.setObs f).stopped = s.stopped ∧ (s.setObs f).regs = s.regs ∧
    (s.setObs f).clk = s.clk ∧ (s.setObs f).lat = s.lat ∧ (s.setObs f).conf = s.conf ∧ (s.setObs f).jrn = s.jrn ∧
    (s.setObs f).ev = s.ev ∧ (s.setObs f).evWait = s.evWait ∧ (s.setObs f).ringChg = s.ringChg ∧
    (s.setObs f).ringBase = s.ringBase ∧ (s.setObs f).tickSet = s.tickSet ∧ (s.setObs f).sess = s.sess ∧
    (s.setObs f).port = s.port ∧ (s.setObs f).tape = s.tape ∧ (s.setObs f).answers = s.answers ∧
    (s.setObs f).rtc = s.rtc ∧ (s.setObs f).resetReq = s.resetReq ∧ (s.setObs f).freeCtr = s.freeCtr ∧
    (s.setObs f).mem = s.mem ∧ (s.setObs f).img = s.img ∧ (s.setObs f).flags = s.flags ∧
    (s.setObs f).progs = s.progs ∧ (s.setObs f).mot = s.mot ∧ (s.setObs f).axis = s.axis ∧
    (s.setObs f).hwDet = s.hwDet ∧ (s.setObs f).dac = s.dac ∧ (s.setObs f).exc = s.exc ∧
    (s.setObs f).ldacRise = s.ldacRise ∧ (s.setObs f).ldacFall = s.ldacFall ∧ (s.setObs f).loadReq = s.loadReq ∧
    (s.setObs f).rgn = s.rgn ∧ (s.setObs f).loads = s.loads ∧ (s.setObs f).staged = s.staged ∧
    (s.setObs f).conv = s.conv ∧ (s.setObs f).dec = s.dec ∧ (s.setObs f).calcu = s.calcu ∧
    (s.setObs f).panel = s.panel ∧ (s.setObs f).fio = s.fio ∧ (s.setObs f).lnk = s.lnk ∧ (s.setObs f).core = s.core ∧
    (s.setObs f).take = s.take ∧ (s.setObs f).flash = s.flash ∧ (s.setObs f).sram = s.sram ∧
    (s.setObs f).boot = s.boot ∧ (s.setObs f).pwr = s.pwr ∧ (s.setObs f).tap = s.tap ∧
    (s.setObs f).pending = s.pending :=
    ⟨rfl, rfl, rfl, rfl, rfl, rfl, rfl, rfl, rfl, rfl, rfl, rfl, rfl, rfl, rfl, rfl, rfl, rfl, rfl, rfl, rfl, rfl,
    rfl, rfl, rfl, rfl, rfl, rfl, rfl, rfl, rfl, rfl, rfl, rfl, rfl, rfl, rfl, rfl, rfl, rfl, rfl, rfl, rfl, rfl,
    rfl, rfl, rfl, rfl⟩

@[simp] theorem setLnk_frame (f : LinkSt → LinkSt) :
    (s.setLnk f).phase = s.phase ∧ (s.setLnk f).stopped = s.stopped ∧ (s.setLnk f).regs = s.regs ∧
    (s.setLnk f).clk = s.clk ∧ (s.setLnk f).lat = s.lat ∧ (s.setLnk f).conf = s.conf ∧ (s.setLnk f).jrn = s.jrn ∧
    (s.setLnk f).ev = s.ev ∧ (s.setLnk f).evWait = s.evWait ∧ (s.setLnk f).ringChg = s.ringChg ∧
    (s.setLnk f).ringBase = s.ringBase ∧ (s.setLnk f).tickSet = s.tickSet ∧ (s.setLnk f).sess = s.sess ∧
    (s.setLnk f).port = s.port ∧ (s.setLnk f).tape = s.tape ∧ (s.setLnk f).answers = s.answers ∧
    (s.setLnk f).rtc = s.rtc ∧ (s.setLnk f).resetReq = s.resetReq ∧ (s.setLnk f).freeCtr = s.freeCtr ∧
    (s.setLnk f).mem = s.mem ∧ (s.setLnk f).img = s.img ∧ (s.setLnk f).flags = s.flags ∧
    (s.setLnk f).progs = s.progs ∧ (s.setLnk f).mot = s.mot ∧ (s.setLnk f).axis = s.axis ∧
    (s.setLnk f).hwDet = s.hwDet ∧ (s.setLnk f).dac = s.dac ∧ (s.setLnk f).exc = s.exc ∧
    (s.setLnk f).ldacRise = s.ldacRise ∧ (s.setLnk f).ldacFall = s.ldacFall ∧ (s.setLnk f).loadReq = s.loadReq ∧
    (s.setLnk f).rgn = s.rgn ∧ (s.setLnk f).loads = s.loads ∧ (s.setLnk f).staged = s.staged ∧
    (s.setLnk f).conv = s.conv ∧ (s.setLnk f).dec = s.dec ∧ (s.setLnk f).calcu = s.calcu ∧
    (s.setLnk f).panel = s.panel ∧ (s.setLnk f).fio = s.fio ∧ (s.setLnk f).obs = s.obs ∧ (s.setLnk f).core = s.core ∧
    (s.setLnk f).take = s.take ∧ (s.setLnk f).flash = s.flash ∧ (s.setLnk f).sram = s.sram ∧
    (s.setLnk f).boot = s.boot ∧ (s.setLnk f).pwr = s.pwr ∧ (s.setLnk f).tap = s.tap ∧
    (s.setLnk f).pending = s.pending :=
    ⟨rfl, rfl, rfl, rfl, rfl, rfl, rfl, rfl, rfl, rfl, rfl, rfl, rfl, rfl, rfl, rfl, rfl, rfl, rfl, rfl, rfl, rfl,
    rfl, rfl, rfl, rfl, rfl, rfl, rfl, rfl, rfl, rfl, rfl, rfl, rfl, rfl, rfl, rfl, rfl, rfl, rfl, rfl, rfl, rfl,
    rfl, rfl, rfl, rfl⟩

@[simp] theorem setLPort_frame (p : Fin 2) (f : LinkPort → LinkPort) :
    (s.setLPort p f).phase = s.phase ∧ (s.setLPort p f).stopped = s.stopped ∧ (s.setLPort p f).regs = s.regs ∧
    (s.setLPort p f).clk = s.clk ∧ (s.setLPort p f).lat = s.lat ∧ (s.setLPort p f).conf = s.conf ∧
    (s.setLPort p f).jrn = s.jrn ∧ (s.setLPort p f).ev = s.ev ∧ (s.setLPort p f).evWait = s.evWait ∧
    (s.setLPort p f).ringChg = s.ringChg ∧ (s.setLPort p f).ringBase = s.ringBase ∧
    (s.setLPort p f).tickSet = s.tickSet ∧ (s.setLPort p f).sess = s.sess ∧ (s.setLPort p f).port = s.port ∧
    (s.setLPort p f).tape = s.tape ∧ (s.setLPort p f).answers = s.answers ∧ (s.setLPort p f).rtc = s.rtc ∧
    (s.setLPort p f).resetReq = s.resetReq ∧ (s.setLPort p f).freeCtr = s.freeCtr ∧ (s.setLPort p f).mem = s.mem ∧
    (s.setLPort p f).img = s.img ∧ (s.setLPort p f).flags = s.flags ∧ (s.setLPort p f).progs = s.progs ∧
    (s.setLPort p f).mot = s.mot ∧ (s.setLPort p f).axis = s.axis ∧ (s.setLPort p f).hwDet = s.hwDet ∧
    (s.setLPort p f).dac = s.dac ∧ (s.setLPort p f).exc = s.exc ∧ (s.setLPort p f).ldacRise = s.ldacRise ∧
    (s.setLPort p f).ldacFall = s.ldacFall ∧ (s.setLPort p f).loadReq = s.loadReq ∧ (s.setLPort p f).rgn = s.rgn ∧
    (s.setLPort p f).loads = s.loads ∧ (s.setLPort p f).staged = s.staged ∧ (s.setLPort p f).conv = s.conv ∧
    (s.setLPort p f).dec = s.dec ∧ (s.setLPort p f).calcu = s.calcu ∧ (s.setLPort p f).panel = s.panel ∧
    (s.setLPort p f).fio = s.fio ∧ (s.setLPort p f).obs = s.obs ∧ (s.setLPort p f).core = s.core ∧
    (s.setLPort p f).take = s.take ∧ (s.setLPort p f).flash = s.flash ∧ (s.setLPort p f).sram = s.sram ∧
    (s.setLPort p f).boot = s.boot ∧ (s.setLPort p f).pwr = s.pwr ∧ (s.setLPort p f).tap = s.tap ∧
    (s.setLPort p f).pending = s.pending :=
    ⟨rfl, rfl, rfl, rfl, rfl, rfl, rfl, rfl, rfl, rfl, rfl, rfl, rfl, rfl, rfl, rfl, rfl, rfl, rfl, rfl, rfl, rfl,
    rfl, rfl, rfl, rfl, rfl, rfl, rfl, rfl, rfl, rfl, rfl, rfl, rfl, rfl, rfl, rfl, rfl, rfl, rfl, rfl, rfl, rfl,
    rfl, rfl, rfl, rfl⟩

@[simp] theorem setCalc_frame (f : CalcSt → CalcSt) :
    (s.setCalc f).phase = s.phase ∧ (s.setCalc f).stopped = s.stopped ∧ (s.setCalc f).regs = s.regs ∧
    (s.setCalc f).clk = s.clk ∧ (s.setCalc f).lat = s.lat ∧ (s.setCalc f).conf = s.conf ∧ (s.setCalc f).jrn = s.jrn ∧
    (s.setCalc f).ev = s.ev ∧ (s.setCalc f).evWait = s.evWait ∧ (s.setCalc f).ringChg = s.ringChg ∧
    (s.setCalc f).ringBase = s.ringBase ∧ (s.setCalc f).tickSet = s.tickSet ∧ (s.setCalc f).sess = s.sess ∧
    (s.setCalc f).port = s.port ∧ (s.setCalc f).tape = s.tape ∧ (s.setCalc f).answers = s.answers ∧
    (s.setCalc f).rtc = s.rtc ∧ (s.setCalc f).resetReq = s.resetReq ∧ (s.setCalc f).freeCtr = s.freeCtr ∧
    (s.setCalc f).mem = s.mem ∧ (s.setCalc f).img = s.img ∧ (s.setCalc f).flags = s.flags ∧
    (s.setCalc f).progs = s.progs ∧ (s.setCalc f).mot = s.mot ∧ (s.setCalc f).axis = s.axis ∧
    (s.setCalc f).hwDet = s.hwDet ∧ (s.setCalc f).dac = s.dac ∧ (s.setCalc f).exc = s.exc ∧
    (s.setCalc f).ldacRise = s.ldacRise ∧ (s.setCalc f).ldacFall = s.ldacFall ∧ (s.setCalc f).loadReq = s.loadReq ∧
    (s.setCalc f).rgn = s.rgn ∧ (s.setCalc f).loads = s.loads ∧ (s.setCalc f).staged = s.staged ∧
    (s.setCalc f).conv = s.conv ∧ (s.setCalc f).dec = s.dec ∧ (s.setCalc f).panel = s.panel ∧
    (s.setCalc f).fio = s.fio ∧ (s.setCalc f).lnk = s.lnk ∧ (s.setCalc f).obs = s.obs ∧ (s.setCalc f).core = s.core ∧
    (s.setCalc f).take = s.take ∧ (s.setCalc f).flash = s.flash ∧ (s.setCalc f).sram = s.sram ∧
    (s.setCalc f).boot = s.boot ∧ (s.setCalc f).pwr = s.pwr ∧ (s.setCalc f).tap = s.tap ∧
    (s.setCalc f).pending = s.pending :=
    ⟨rfl, rfl, rfl, rfl, rfl, rfl, rfl, rfl, rfl, rfl, rfl, rfl, rfl, rfl, rfl, rfl, rfl, rfl, rfl, rfl, rfl, rfl,
    rfl, rfl, rfl, rfl, rfl, rfl, rfl, rfl, rfl, rfl, rfl, rfl, rfl, rfl, rfl, rfl, rfl, rfl, rfl, rfl, rfl, rfl,
    rfl, rfl, rfl, rfl⟩

@[simp] theorem setFlash_frame (f : FlashSt → FlashSt) :
    (s.setFlash f).phase = s.phase ∧ (s.setFlash f).stopped = s.stopped ∧ (s.setFlash f).regs = s.regs ∧
    (s.setFlash f).clk = s.clk ∧ (s.setFlash f).lat = s.lat ∧ (s.setFlash f).conf = s.conf ∧
    (s.setFlash f).jrn = s.jrn ∧ (s.setFlash f).ev = s.ev ∧ (s.setFlash f).evWait = s.evWait ∧
    (s.setFlash f).ringChg = s.ringChg ∧ (s.setFlash f).ringBase = s.ringBase ∧ (s.setFlash f).tickSet = s.tickSet ∧
    (s.setFlash f).sess = s.sess ∧ (s.setFlash f).port = s.port ∧ (s.setFlash f).tape = s.tape ∧
    (s.setFlash f).answers = s.answers ∧ (s.setFlash f).rtc = s.rtc ∧ (s.setFlash f).resetReq = s.resetReq ∧
    (s.setFlash f).freeCtr = s.freeCtr ∧ (s.setFlash f).mem = s.mem ∧ (s.setFlash f).img = s.img ∧
    (s.setFlash f).flags = s.flags ∧ (s.setFlash f).progs = s.progs ∧ (s.setFlash f).mot = s.mot ∧
    (s.setFlash f).axis = s.axis ∧ (s.setFlash f).hwDet = s.hwDet ∧ (s.setFlash f).dac = s.dac ∧
    (s.setFlash f).exc = s.exc ∧ (s.setFlash f).ldacRise = s.ldacRise ∧ (s.setFlash f).ldacFall = s.ldacFall ∧
    (s.setFlash f).loadReq = s.loadReq ∧ (s.setFlash f).rgn = s.rgn ∧ (s.setFlash f).loads = s.loads ∧
    (s.setFlash f).staged = s.staged ∧ (s.setFlash f).conv = s.conv ∧ (s.setFlash f).dec = s.dec ∧
    (s.setFlash f).calcu = s.calcu ∧ (s.setFlash f).panel = s.panel ∧ (s.setFlash f).fio = s.fio ∧
    (s.setFlash f).lnk = s.lnk ∧ (s.setFlash f).obs = s.obs ∧ (s.setFlash f).core = s.core ∧
    (s.setFlash f).take = s.take ∧ (s.setFlash f).sram = s.sram ∧ (s.setFlash f).boot = s.boot ∧
    (s.setFlash f).pwr = s.pwr ∧ (s.setFlash f).tap = s.tap ∧ (s.setFlash f).pending = s.pending :=
    ⟨rfl, rfl, rfl, rfl, rfl, rfl, rfl, rfl, rfl, rfl, rfl, rfl, rfl, rfl, rfl, rfl, rfl, rfl, rfl, rfl, rfl, rfl,
    rfl, rfl, rfl, rfl, rfl, rfl, rfl, rfl, rfl, rfl, rfl, rfl, rfl, rfl, rfl, rfl, rfl, rfl, rfl, rfl, rfl, rfl,
    rfl, rfl, rfl, rfl⟩

@[simp] theorem setPwr_frame (f : PowerSt → PowerSt) :
    (setPwr s f).phase = s.phase ∧ (setPwr s f).stopped = s.stopped ∧ (setPwr s f).regs = s.regs ∧
    (setPwr s f).clk = s.clk ∧ (setPwr s f).lat = s.lat ∧ (setPwr s f).conf = s.conf ∧ (setPwr s f).jrn = s.jrn ∧
    (setPwr s f).ev = s.ev ∧ (setPwr s f).evWait = s.evWait ∧ (setPwr s f).ringChg = s.ringChg ∧
    (setPwr s f).ringBase = s.ringBase ∧ (setPwr s f).tickSet = s.tickSet ∧ (setPwr s f).sess = s.sess ∧
    (setPwr s f).port = s.port ∧ (setPwr s f).tape = s.tape ∧ (setPwr s f).answers = s.answers ∧
    (setPwr s f).rtc = s.rtc ∧ (setPwr s f).resetReq = s.resetReq ∧ (setPwr s f).freeCtr = s.freeCtr ∧
    (setPwr s f).mem = s.mem ∧ (setPwr s f).img = s.img ∧ (setPwr s f).flags = s.flags ∧
    (setPwr s f).progs = s.progs ∧ (setPwr s f).mot = s.mot ∧ (setPwr s f).axis = s.axis ∧
    (setPwr s f).hwDet = s.hwDet ∧ (setPwr s f).dac = s.dac ∧ (setPwr s f).exc = s.exc ∧
    (setPwr s f).ldacRise = s.ldacRise ∧ (setPwr s f).ldacFall = s.ldacFall ∧ (setPwr s f).loadReq = s.loadReq ∧
    (setPwr s f).rgn = s.rgn ∧ (setPwr s f).loads = s.loads ∧ (setPwr s f).staged = s.staged ∧
    (setPwr s f).conv = s.conv ∧ (setPwr s f).dec = s.dec ∧ (setPwr s f).calcu = s.calcu ∧
    (setPwr s f).panel = s.panel ∧ (setPwr s f).fio = s.fio ∧ (setPwr s f).lnk = s.lnk ∧ (setPwr s f).obs = s.obs ∧
    (setPwr s f).core = s.core ∧ (setPwr s f).take = s.take ∧ (setPwr s f).flash = s.flash ∧
    (setPwr s f).sram = s.sram ∧ (setPwr s f).boot = s.boot ∧ (setPwr s f).tap = s.tap ∧
    (setPwr s f).pending = s.pending :=
    ⟨rfl, rfl, rfl, rfl, rfl, rfl, rfl, rfl, rfl, rfl, rfl, rfl, rfl, rfl, rfl, rfl, rfl, rfl, rfl, rfl, rfl, rfl,
    rfl, rfl, rfl, rfl, rfl, rfl, rfl, rfl, rfl, rfl, rfl, rfl, rfl, rfl, rfl, rfl, rfl, rfl, rfl, rfl, rfl, rfl,
    rfl, rfl, rfl, rfl⟩

@[simp] theorem setBoot_frame (f : BootSt → BootSt) :
    (setBoot s f).phase = s.phase ∧ (setBoot s f).stopped = s.stopped ∧ (setBoot s f).regs = s.regs ∧
    (setBoot s f).clk = s.clk ∧ (setBoot s f).lat = s.lat ∧ (setBoot s f).conf = s.conf ∧ (setBoot s f).jrn = s.jrn ∧
    (setBoot s f).ev = s.ev ∧ (setBoot s f).evWait = s.evWait ∧ (setBoot s f).ringChg = s.ringChg ∧
    (setBoot s f).ringBase = s.ringBase ∧ (setBoot s f).tickSet = s.tickSet ∧ (setBoot s f).sess = s.sess ∧
    (setBoot s f).port = s.port ∧ (setBoot s f).tape = s.tape ∧ (setBoot s f).answers = s.answers ∧
    (setBoot s f).rtc = s.rtc ∧ (setBoot s f).resetReq = s.resetReq ∧ (setBoot s f).freeCtr = s.freeCtr ∧
    (setBoot s f).mem = s.mem ∧ (setBoot s f).img = s.img ∧ (setBoot s f).flags = s.flags ∧
    (setBoot s f).progs = s.progs ∧ (setBoot s f).mot = s.mot ∧ (setBoot s f).axis = s.axis ∧
    (setBoot s f).hwDet = s.hwDet ∧ (setBoot s f).dac = s.dac ∧ (setBoot s f).exc = s.exc ∧
    (setBoot s f).ldacRise = s.ldacRise ∧ (setBoot s f).ldacFall = s.ldacFall ∧ (setBoot s f).loadReq = s.loadReq ∧
    (setBoot s f).rgn = s.rgn ∧ (setBoot s f).loads = s.loads ∧ (setBoot s f).staged = s.staged ∧
    (setBoot s f).conv = s.conv ∧ (setBoot s f).dec = s.dec ∧ (setBoot s f).calcu = s.calcu ∧
    (setBoot s f).panel = s.panel ∧ (setBoot s f).fio = s.fio ∧ (setBoot s f).lnk = s.lnk ∧
    (setBoot s f).obs = s.obs ∧ (setBoot s f).core = s.core ∧ (setBoot s f).take = s.take ∧
    (setBoot s f).flash = s.flash ∧ (setBoot s f).sram = s.sram ∧ (setBoot s f).pwr = s.pwr ∧
    (setBoot s f).tap = s.tap ∧ (setBoot s f).pending = s.pending :=
    ⟨rfl, rfl, rfl, rfl, rfl, rfl, rfl, rfl, rfl, rfl, rfl, rfl, rfl, rfl, rfl, rfl, rfl, rfl, rfl, rfl, rfl, rfl,
    rfl, rfl, rfl, rfl, rfl, rfl, rfl, rfl, rfl, rfl, rfl, rfl, rfl, rfl, rfl, rfl, rfl, rfl, rfl, rfl, rfl, rfl,
    rfl, rfl, rfl, rfl⟩

@[simp] theorem setLat_frame (f : Lattice → Lattice) :
    (setLat s f).phase = s.phase ∧ (setLat s f).stopped = s.stopped ∧ (setLat s f).regs = s.regs ∧
    (setLat s f).clk = s.clk ∧ (setLat s f).conf = s.conf ∧ (setLat s f).jrn = s.jrn ∧ (setLat s f).ev = s.ev ∧
    (setLat s f).evWait = s.evWait ∧ (setLat s f).ringChg = s.ringChg ∧ (setLat s f).ringBase = s.ringBase ∧
    (setLat s f).tickSet = s.tickSet ∧ (setLat s f).sess = s.sess ∧ (setLat s f).port = s.port ∧
    (setLat s f).tape = s.tape ∧ (setLat s f).answers = s.answers ∧ (setLat s f).rtc = s.rtc ∧
    (setLat s f).resetReq = s.resetReq ∧ (setLat s f).freeCtr = s.freeCtr ∧ (setLat s f).mem = s.mem ∧
    (setLat s f).img = s.img ∧ (setLat s f).flags = s.flags ∧ (setLat s f).progs = s.progs ∧
    (setLat s f).mot = s.mot ∧ (setLat s f).axis = s.axis ∧ (setLat s f).hwDet = s.hwDet ∧ (setLat s f).dac = s.dac ∧
    (setLat s f).exc = s.exc ∧ (setLat s f).ldacRise = s.ldacRise ∧ (setLat s f).ldacFall = s.ldacFall ∧
    (setLat s f).loadReq = s.loadReq ∧ (setLat s f).rgn = s.rgn ∧ (setLat s f).loads = s.loads ∧
    (setLat s f).staged = s.staged ∧ (setLat s f).conv = s.conv ∧ (setLat s f).dec = s.dec ∧
    (setLat s f).calcu = s.calcu ∧ (setLat s f).panel = s.panel ∧ (setLat s f).fio = s.fio ∧
    (setLat s f).lnk = s.lnk ∧ (setLat s f).obs = s.obs ∧ (setLat s f).core = s.core ∧ (setLat s f).take = s.take ∧
    (setLat s f).flash = s.flash ∧ (setLat s f).sram = s.sram ∧ (setLat s f).boot = s.boot ∧
    (setLat s f).pwr = s.pwr ∧ (setLat s f).tap = s.tap ∧ (setLat s f).pending = s.pending :=
    ⟨rfl, rfl, rfl, rfl, rfl, rfl, rfl, rfl, rfl, rfl, rfl, rfl, rfl, rfl, rfl, rfl, rfl, rfl, rfl, rfl, rfl, rfl,
    rfl, rfl, rfl, rfl, rfl, rfl, rfl, rfl, rfl, rfl, rfl, rfl, rfl, rfl, rfl, rfl, rfl, rfl, rfl, rfl, rfl, rfl,
    rfl, rfl, rfl, rfl⟩

@[simp] theorem setTap_frame (i : TapIr) :
    (setTap s i).phase = s.phase ∧ (setTap s i).stopped = s.stopped ∧ (setTap s i).regs = s.regs ∧
    (setTap s i).clk = s.clk ∧ (setTap s i).lat = s.lat ∧ (setTap s i).conf = s.conf ∧ (setTap s i).jrn = s.jrn ∧
    (setTap s i).ev = s.ev ∧ (setTap s i).evWait = s.evWait ∧ (setTap s i).ringChg = s.ringChg ∧
    (setTap s i).ringBase = s.ringBase ∧ (setTap s i).tickSet = s.tickSet ∧ (setTap s i).sess = s.sess ∧
    (setTap s i).port = s.port ∧ (setTap s i).tape = s.tape ∧ (setTap s i).answers = s.answers ∧
    (setTap s i).rtc = s.rtc ∧ (setTap s i).resetReq = s.resetReq ∧ (setTap s i).freeCtr = s.freeCtr ∧
    (setTap s i).mem = s.mem ∧ (setTap s i).img = s.img ∧ (setTap s i).flags = s.flags ∧
    (setTap s i).progs = s.progs ∧ (setTap s i).mot = s.mot ∧ (setTap s i).axis = s.axis ∧
    (setTap s i).hwDet = s.hwDet ∧ (setTap s i).dac = s.dac ∧ (setTap s i).exc = s.exc ∧
    (setTap s i).ldacRise = s.ldacRise ∧ (setTap s i).ldacFall = s.ldacFall ∧ (setTap s i).loadReq = s.loadReq ∧
    (setTap s i).rgn = s.rgn ∧ (setTap s i).loads = s.loads ∧ (setTap s i).staged = s.staged ∧
    (setTap s i).conv = s.conv ∧ (setTap s i).dec = s.dec ∧ (setTap s i).calcu = s.calcu ∧
    (setTap s i).panel = s.panel ∧ (setTap s i).fio = s.fio ∧ (setTap s i).lnk = s.lnk ∧ (setTap s i).obs = s.obs ∧
    (setTap s i).core = s.core ∧ (setTap s i).take = s.take ∧ (setTap s i).flash = s.flash ∧
    (setTap s i).sram = s.sram ∧ (setTap s i).boot = s.boot ∧ (setTap s i).pwr = s.pwr ∧
    (setTap s i).pending = s.pending :=
    ⟨rfl, rfl, rfl, rfl, rfl, rfl, rfl, rfl, rfl, rfl, rfl, rfl, rfl, rfl, rfl, rfl, rfl, rfl, rfl, rfl, rfl, rfl,
    rfl, rfl, rfl, rfl, rfl, rfl, rfl, rfl, rfl, rfl, rfl, rfl, rfl, rfl, rfl, rfl, rfl, rfl, rfl, rfl, rfl, rfl,
    rfl, rfl, rfl, rfl⟩

@[simp] theorem setChan_frame (c : Fin 24) (f : ChanSt → ChanSt) :
    (s.setChan c f).phase = s.phase ∧ (s.setChan c f).stopped = s.stopped ∧ (s.setChan c f).regs = s.regs ∧
    (s.setChan c f).clk = s.clk ∧ (s.setChan c f).lat = s.lat ∧ (s.setChan c f).conf = s.conf ∧
    (s.setChan c f).jrn = s.jrn ∧ (s.setChan c f).ev = s.ev ∧ (s.setChan c f).evWait = s.evWait ∧
    (s.setChan c f).ringChg = s.ringChg ∧ (s.setChan c f).ringBase = s.ringBase ∧
    (s.setChan c f).tickSet = s.tickSet ∧ (s.setChan c f).sess = s.sess ∧ (s.setChan c f).port = s.port ∧
    (s.setChan c f).tape = s.tape ∧ (s.setChan c f).answers = s.answers ∧ (s.setChan c f).rtc = s.rtc ∧
    (s.setChan c f).resetReq = s.resetReq ∧ (s.setChan c f).freeCtr = s.freeCtr ∧ (s.setChan c f).mem = s.mem ∧
    (s.setChan c f).img = s.img ∧ (s.setChan c f).flags = s.flags ∧ (s.setChan c f).progs = s.progs ∧
    (s.setChan c f).mot = s.mot ∧ (s.setChan c f).axis = s.axis ∧ (s.setChan c f).hwDet = s.hwDet ∧
    (s.setChan c f).dac = s.dac ∧ (s.setChan c f).exc = s.exc ∧ (s.setChan c f).ldacRise = s.ldacRise ∧
    (s.setChan c f).ldacFall = s.ldacFall ∧ (s.setChan c f).loadReq = s.loadReq ∧ (s.setChan c f).rgn = s.rgn ∧
    (s.setChan c f).loads = s.loads ∧ (s.setChan c f).staged = s.staged ∧ (s.setChan c f).dec = s.dec ∧
    (s.setChan c f).calcu = s.calcu ∧ (s.setChan c f).panel = s.panel ∧ (s.setChan c f).fio = s.fio ∧
    (s.setChan c f).lnk = s.lnk ∧ (s.setChan c f).obs = s.obs ∧ (s.setChan c f).core = s.core ∧
    (s.setChan c f).take = s.take ∧ (s.setChan c f).flash = s.flash ∧ (s.setChan c f).sram = s.sram ∧
    (s.setChan c f).boot = s.boot ∧ (s.setChan c f).pwr = s.pwr ∧ (s.setChan c f).tap = s.tap ∧
    (s.setChan c f).pending = s.pending :=
    ⟨rfl, rfl, rfl, rfl, rfl, rfl, rfl, rfl, rfl, rfl, rfl, rfl, rfl, rfl, rfl, rfl, rfl, rfl, rfl, rfl, rfl, rfl,
    rfl, rfl, rfl, rfl, rfl, rfl, rfl, rfl, rfl, rfl, rfl, rfl, rfl, rfl, rfl, rfl, rfl, rfl, rfl, rfl, rfl, rfl,
    rfl, rfl, rfl, rfl⟩

@[simp] theorem setReg_frame (r : Reg) (i j : Nat) (w : Word) :
    (s.setReg r i j w).phase = s.phase ∧ (s.setReg r i j w).stopped = s.stopped ∧ (s.setReg r i j w).clk = s.clk ∧
    (s.setReg r i j w).lat = s.lat ∧ (s.setReg r i j w).conf = s.conf ∧ (s.setReg r i j w).jrn = s.jrn ∧
    (s.setReg r i j w).ev = s.ev ∧ (s.setReg r i j w).evWait = s.evWait ∧ (s.setReg r i j w).ringChg = s.ringChg ∧
    (s.setReg r i j w).ringBase = s.ringBase ∧ (s.setReg r i j w).tickSet = s.tickSet ∧
    (s.setReg r i j w).sess = s.sess ∧ (s.setReg r i j w).port = s.port ∧ (s.setReg r i j w).tape = s.tape ∧
    (s.setReg r i j w).answers = s.answers ∧ (s.setReg r i j w).rtc = s.rtc ∧
    (s.setReg r i j w).resetReq = s.resetReq ∧ (s.setReg r i j w).freeCtr = s.freeCtr ∧
    (s.setReg r i j w).mem = s.mem ∧ (s.setReg r i j w).img = s.img ∧ (s.setReg r i j w).flags = s.flags ∧
    (s.setReg r i j w).progs = s.progs ∧ (s.setReg r i j w).mot = s.mot ∧ (s.setReg r i j w).axis = s.axis ∧
    (s.setReg r i j w).hwDet = s.hwDet ∧ (s.setReg r i j w).dac = s.dac ∧ (s.setReg r i j w).exc = s.exc ∧
    (s.setReg r i j w).ldacRise = s.ldacRise ∧ (s.setReg r i j w).ldacFall = s.ldacFall ∧
    (s.setReg r i j w).loadReq = s.loadReq ∧ (s.setReg r i j w).rgn = s.rgn ∧ (s.setReg r i j w).loads = s.loads ∧
    (s.setReg r i j w).staged = s.staged ∧ (s.setReg r i j w).conv = s.conv ∧ (s.setReg r i j w).dec = s.dec ∧
    (s.setReg r i j w).calcu = s.calcu ∧ (s.setReg r i j w).panel = s.panel ∧ (s.setReg r i j w).fio = s.fio ∧
    (s.setReg r i j w).lnk = s.lnk ∧ (s.setReg r i j w).obs = s.obs ∧ (s.setReg r i j w).core = s.core ∧
    (s.setReg r i j w).take = s.take ∧ (s.setReg r i j w).flash = s.flash ∧ (s.setReg r i j w).sram = s.sram ∧
    (s.setReg r i j w).boot = s.boot ∧ (s.setReg r i j w).pwr = s.pwr ∧ (s.setReg r i j w).tap = s.tap ∧
    (s.setReg r i j w).pending = s.pending :=
    ⟨rfl, rfl, rfl, rfl, rfl, rfl, rfl, rfl, rfl, rfl, rfl, rfl, rfl, rfl, rfl, rfl, rfl, rfl, rfl, rfl, rfl, rfl,
    rfl, rfl, rfl, rfl, rfl, rfl, rfl, rfl, rfl, rfl, rfl, rfl, rfl, rfl, rfl, rfl, rfl, rfl, rfl, rfl, rfl, rfl,
    rfl, rfl, rfl, rfl⟩

@[simp] theorem setFld_frame (f : Fld) (i j v : Nat) :
    (s.setFld f i j v).phase = s.phase ∧ (s.setFld f i j v).stopped = s.stopped ∧ (s.setFld f i j v).clk = s.clk ∧
    (s.setFld f i j v).lat = s.lat ∧ (s.setFld f i j v).conf = s.conf ∧ (s.setFld f i j v).jrn = s.jrn ∧
    (s.setFld f i j v).ev = s.ev ∧ (s.setFld f i j v).evWait = s.evWait ∧ (s.setFld f i j v).ringChg = s.ringChg ∧
    (s.setFld f i j v).ringBase = s.ringBase ∧ (s.setFld f i j v).tickSet = s.tickSet ∧
    (s.setFld f i j v).sess = s.sess ∧ (s.setFld f i j v).port = s.port ∧ (s.setFld f i j v).tape = s.tape ∧
    (s.setFld f i j v).answers = s.answers ∧ (s.setFld f i j v).rtc = s.rtc ∧
    (s.setFld f i j v).resetReq = s.resetReq ∧ (s.setFld f i j v).freeCtr = s.freeCtr ∧
    (s.setFld f i j v).mem = s.mem ∧ (s.setFld f i j v).img = s.img ∧ (s.setFld f i j v).flags = s.flags ∧
    (s.setFld f i j v).progs = s.progs ∧ (s.setFld f i j v).mot = s.mot ∧ (s.setFld f i j v).axis = s.axis ∧
    (s.setFld f i j v).hwDet = s.hwDet ∧ (s.setFld f i j v).dac = s.dac ∧ (s.setFld f i j v).exc = s.exc ∧
    (s.setFld f i j v).ldacRise = s.ldacRise ∧ (s.setFld f i j v).ldacFall = s.ldacFall ∧
    (s.setFld f i j v).loadReq = s.loadReq ∧ (s.setFld f i j v).rgn = s.rgn ∧ (s.setFld f i j v).loads = s.loads ∧
    (s.setFld f i j v).staged = s.staged ∧ (s.setFld f i j v).conv = s.conv ∧ (s.setFld f i j v).dec = s.dec ∧
    (s.setFld f i j v).calcu = s.calcu ∧ (s.setFld f i j v).panel = s.panel ∧ (s.setFld f i j v).fio = s.fio ∧
    (s.setFld f i j v).lnk = s.lnk ∧ (s.setFld f i j v).obs = s.obs ∧ (s.setFld f i j v).core = s.core ∧
    (s.setFld f i j v).take = s.take ∧ (s.setFld f i j v).flash = s.flash ∧ (s.setFld f i j v).sram = s.sram ∧
    (s.setFld f i j v).boot = s.boot ∧ (s.setFld f i j v).pwr = s.pwr ∧ (s.setFld f i j v).tap = s.tap ∧
    (s.setFld f i j v).pending = s.pending :=
    ⟨rfl, rfl, rfl, rfl, rfl, rfl, rfl, rfl, rfl, rfl, rfl, rfl, rfl, rfl, rfl, rfl, rfl, rfl, rfl, rfl, rfl, rfl,
    rfl, rfl, rfl, rfl, rfl, rfl, rfl, rfl, rfl, rfl, rfl, rfl, rfl, rfl, rfl, rfl, rfl, rfl, rfl, rfl, rfl, rfl,
    rfl, rfl, rfl, rfl⟩

@[simp] theorem setFldInt_frame (f : Fld) (i j : Nat) (v : Int) :
    (s.setFldInt f i j v).phase = s.phase ∧ (s.setFldInt f i j v).stopped = s.stopped ∧
    (s.setFldInt f i j v).clk = s.clk ∧ (s.setFldInt f i j v).lat = s.lat ∧ (s.setFldInt f i j v).conf = s.conf ∧
    (s.setFldInt f i j v).jrn = s.jrn ∧ (s.setFldInt f i j v).ev = s.ev ∧ (s.setFldInt f i j v).evWait = s.evWait ∧
    (s.setFldInt f i j v).ringChg = s.ringChg ∧ (s.setFldInt f i j v).ringBase = s.ringBase ∧
    (s.setFldInt f i j v).tickSet = s.tickSet ∧ (s.setFldInt f i j v).sess = s.sess ∧
    (s.setFldInt f i j v).port = s.port ∧ (s.setFldInt f i j v).tape = s.tape ∧
    (s.setFldInt f i j v).answers = s.answers ∧ (s.setFldInt f i j v).rtc = s.rtc ∧
    (s.setFldInt f i j v).resetReq = s.resetReq ∧ (s.setFldInt f i j v).freeCtr = s.freeCtr ∧
    (s.setFldInt f i j v).mem = s.mem ∧ (s.setFldInt f i j v).img = s.img ∧ (s.setFldInt f i j v).flags = s.flags ∧
    (s.setFldInt f i j v).progs = s.progs ∧ (s.setFldInt f i j v).mot = s.mot ∧ (s.setFldInt f i j v).axis = s.axis ∧
    (s.setFldInt f i j v).hwDet = s.hwDet ∧ (s.setFldInt f i j v).dac = s.dac ∧ (s.setFldInt f i j v).exc = s.exc ∧
    (s.setFldInt f i j v).ldacRise = s.ldacRise ∧ (s.setFldInt f i j v).ldacFall = s.ldacFall ∧
    (s.setFldInt f i j v).loadReq = s.loadReq ∧ (s.setFldInt f i j v).rgn = s.rgn ∧
    (s.setFldInt f i j v).loads = s.loads ∧ (s.setFldInt f i j v).staged = s.staged ∧
    (s.setFldInt f i j v).conv = s.conv ∧ (s.setFldInt f i j v).dec = s.dec ∧ (s.setFldInt f i j v).calcu = s.calcu ∧
    (s.setFldInt f i j v).panel = s.panel ∧ (s.setFldInt f i j v).fio = s.fio ∧ (s.setFldInt f i j v).lnk = s.lnk ∧
    (s.setFldInt f i j v).obs = s.obs ∧ (s.setFldInt f i j v).core = s.core ∧ (s.setFldInt f i j v).take = s.take ∧
    (s.setFldInt f i j v).flash = s.flash ∧ (s.setFldInt f i j v).sram = s.sram ∧
    (s.setFldInt f i j v).boot = s.boot ∧ (s.setFldInt f i j v).pwr = s.pwr ∧ (s.setFldInt f i j v).tap = s.tap ∧
    (s.setFldInt f i j v).pending = s.pending :=
    ⟨rfl, rfl, rfl, rfl, rfl, rfl, rfl, rfl, rfl, rfl, rfl, rfl, rfl, rfl, rfl, rfl, rfl, rfl, rfl, rfl, rfl, rfl,
    rfl, rfl, rfl, rfl, rfl, rfl, rfl, rfl, rfl, rfl, rfl, rfl, rfl, rfl, rfl, rfl, rfl, rfl, rfl, rfl, rfl, rfl,
    rfl, rfl, rfl, rfl⟩

@[simp] theorem setFlag_frame (f : Fld) (i j : Nat) (b : Bool) :
    (s.setFlag f i j b).phase = s.phase ∧ (s.setFlag f i j b).stopped = s.stopped ∧ (s.setFlag f i j b).clk = s.clk ∧
    (s.setFlag f i j b).lat = s.lat ∧ (s.setFlag f i j b).conf = s.conf ∧ (s.setFlag f i j b).jrn = s.jrn ∧
    (s.setFlag f i j b).ev = s.ev ∧ (s.setFlag f i j b).evWait = s.evWait ∧ (s.setFlag f i j b).ringChg = s.ringChg ∧
    (s.setFlag f i j b).ringBase = s.ringBase ∧ (s.setFlag f i j b).tickSet = s.tickSet ∧
    (s.setFlag f i j b).sess = s.sess ∧ (s.setFlag f i j b).port = s.port ∧ (s.setFlag f i j b).tape = s.tape ∧
    (s.setFlag f i j b).answers = s.answers ∧ (s.setFlag f i j b).rtc = s.rtc ∧
    (s.setFlag f i j b).resetReq = s.resetReq ∧ (s.setFlag f i j b).freeCtr = s.freeCtr ∧
    (s.setFlag f i j b).mem = s.mem ∧ (s.setFlag f i j b).img = s.img ∧ (s.setFlag f i j b).flags = s.flags ∧
    (s.setFlag f i j b).progs = s.progs ∧ (s.setFlag f i j b).mot = s.mot ∧ (s.setFlag f i j b).axis = s.axis ∧
    (s.setFlag f i j b).hwDet = s.hwDet ∧ (s.setFlag f i j b).dac = s.dac ∧ (s.setFlag f i j b).exc = s.exc ∧
    (s.setFlag f i j b).ldacRise = s.ldacRise ∧ (s.setFlag f i j b).ldacFall = s.ldacFall ∧
    (s.setFlag f i j b).loadReq = s.loadReq ∧ (s.setFlag f i j b).rgn = s.rgn ∧ (s.setFlag f i j b).loads = s.loads ∧
    (s.setFlag f i j b).staged = s.staged ∧ (s.setFlag f i j b).conv = s.conv ∧ (s.setFlag f i j b).dec = s.dec ∧
    (s.setFlag f i j b).calcu = s.calcu ∧ (s.setFlag f i j b).panel = s.panel ∧ (s.setFlag f i j b).fio = s.fio ∧
    (s.setFlag f i j b).lnk = s.lnk ∧ (s.setFlag f i j b).obs = s.obs ∧ (s.setFlag f i j b).core = s.core ∧
    (s.setFlag f i j b).take = s.take ∧ (s.setFlag f i j b).flash = s.flash ∧ (s.setFlag f i j b).sram = s.sram ∧
    (s.setFlag f i j b).boot = s.boot ∧ (s.setFlag f i j b).pwr = s.pwr ∧ (s.setFlag f i j b).tap = s.tap ∧
    (s.setFlag f i j b).pending = s.pending :=
    ⟨rfl, rfl, rfl, rfl, rfl, rfl, rfl, rfl, rfl, rfl, rfl, rfl, rfl, rfl, rfl, rfl, rfl, rfl, rfl, rfl, rfl, rfl,
    rfl, rfl, rfl, rfl, rfl, rfl, rfl, rfl, rfl, rfl, rfl, rfl, rfl, rfl, rfl, rfl, rfl, rfl, rfl, rfl, rfl, rfl,
    rfl, rfl, rfl, rfl⟩

@[simp] theorem bump_frame (f : Fld) (i j n : Nat) :
    (s.bump f i j n).phase = s.phase ∧ (s.bump f i j n).stopped = s.stopped ∧ (s.bump f i j n).clk = s.clk ∧
    (s.bump f i j n).lat = s.lat ∧ (s.bump f i j n).conf = s.conf ∧ (s.bump f i j n).jrn = s.jrn ∧
    (s.bump f i j n).ev = s.ev ∧ (s.bump f i j n).evWait = s.evWait ∧ (s.bump f i j n).ringChg = s.ringChg ∧
    (s.bump f i j n).ringBase = s.ringBase ∧ (s.bump f i j n).tickSet = s.tickSet ∧ (s.bump f i j n).sess = s.sess ∧
    (s.bump f i j n).port = s.port ∧ (s.bump f i j n).tape = s.tape ∧ (s.bump f i j n).answers = s.answers ∧
    (s.bump f i j n).rtc = s.rtc ∧ (s.bump f i j n).resetReq = s.resetReq ∧ (s.bump f i j n).freeCtr = s.freeCtr ∧
    (s.bump f i j n).mem = s.mem ∧ (s.bump f i j n).img = s.img ∧ (s.bump f i j n).flags = s.flags ∧
    (s.bump f i j n).progs = s.progs ∧ (s.bump f i j n).mot = s.mot ∧ (s.bump f i j n).axis = s.axis ∧
    (s.bump f i j n).hwDet = s.hwDet ∧ (s.bump f i j n).dac = s.dac ∧ (s.bump f i j n).exc = s.exc ∧
    (s.bump f i j n).ldacRise = s.ldacRise ∧ (s.bump f i j n).ldacFall = s.ldacFall ∧
    (s.bump f i j n).loadReq = s.loadReq ∧ (s.bump f i j n).rgn = s.rgn ∧ (s.bump f i j n).loads = s.loads ∧
    (s.bump f i j n).staged = s.staged ∧ (s.bump f i j n).conv = s.conv ∧ (s.bump f i j n).dec = s.dec ∧
    (s.bump f i j n).calcu = s.calcu ∧ (s.bump f i j n).panel = s.panel ∧ (s.bump f i j n).fio = s.fio ∧
    (s.bump f i j n).lnk = s.lnk ∧ (s.bump f i j n).obs = s.obs ∧ (s.bump f i j n).core = s.core ∧
    (s.bump f i j n).take = s.take ∧ (s.bump f i j n).flash = s.flash ∧ (s.bump f i j n).sram = s.sram ∧
    (s.bump f i j n).boot = s.boot ∧ (s.bump f i j n).pwr = s.pwr ∧ (s.bump f i j n).tap = s.tap ∧
    (s.bump f i j n).pending = s.pending :=
    ⟨rfl, rfl, rfl, rfl, rfl, rfl, rfl, rfl, rfl, rfl, rfl, rfl, rfl, rfl, rfl, rfl, rfl, rfl, rfl, rfl, rfl, rfl,
    rfl, rfl, rfl, rfl, rfl, rfl, rfl, rfl, rfl, rfl, rfl, rfl, rfl, rfl, rfl, rfl, rfl, rfl, rfl, rfl, rfl, rfl,
    rfl, rfl, rfl, rfl⟩

@[simp] theorem bumpWrap_frame (f : Fld) (i j n : Nat) :
    (s.bumpWrap f i j n).phase = s.phase ∧ (s.bumpWrap f i j n).stopped = s.stopped ∧
    (s.bumpWrap f i j n).clk = s.clk ∧ (s.bumpWrap f i j n).lat = s.lat ∧ (s.bumpWrap f i j n).conf = s.conf ∧
    (s.bumpWrap f i j n).jrn = s.jrn ∧ (s.bumpWrap f i j n).ev = s.ev ∧ (s.bumpWrap f i j n).evWait = s.evWait ∧
    (s.bumpWrap f i j n).ringChg = s.ringChg ∧ (s.bumpWrap f i j n).ringBase = s.ringBase ∧
    (s.bumpWrap f i j n).tickSet = s.tickSet ∧ (s.bumpWrap f i j n).sess = s.sess ∧
    (s.bumpWrap f i j n).port = s.port ∧ (s.bumpWrap f i j n).tape = s.tape ∧
    (s.bumpWrap f i j n).answers = s.answers ∧ (s.bumpWrap f i j n).rtc = s.rtc ∧
    (s.bumpWrap f i j n).resetReq = s.resetReq ∧ (s.bumpWrap f i j n).freeCtr = s.freeCtr ∧
    (s.bumpWrap f i j n).mem = s.mem ∧ (s.bumpWrap f i j n).img = s.img ∧ (s.bumpWrap f i j n).flags = s.flags ∧
    (s.bumpWrap f i j n).progs = s.progs ∧ (s.bumpWrap f i j n).mot = s.mot ∧ (s.bumpWrap f i j n).axis = s.axis ∧
    (s.bumpWrap f i j n).hwDet = s.hwDet ∧ (s.bumpWrap f i j n).dac = s.dac ∧ (s.bumpWrap f i j n).exc = s.exc ∧
    (s.bumpWrap f i j n).ldacRise = s.ldacRise ∧ (s.bumpWrap f i j n).ldacFall = s.ldacFall ∧
    (s.bumpWrap f i j n).loadReq = s.loadReq ∧ (s.bumpWrap f i j n).rgn = s.rgn ∧
    (s.bumpWrap f i j n).loads = s.loads ∧ (s.bumpWrap f i j n).staged = s.staged ∧
    (s.bumpWrap f i j n).conv = s.conv ∧ (s.bumpWrap f i j n).dec = s.dec ∧ (s.bumpWrap f i j n).calcu = s.calcu ∧
    (s.bumpWrap f i j n).panel = s.panel ∧ (s.bumpWrap f i j n).fio = s.fio ∧ (s.bumpWrap f i j n).lnk = s.lnk ∧
    (s.bumpWrap f i j n).obs = s.obs ∧ (s.bumpWrap f i j n).core = s.core ∧ (s.bumpWrap f i j n).take = s.take ∧
    (s.bumpWrap f i j n).flash = s.flash ∧ (s.bumpWrap f i j n).sram = s.sram ∧ (s.bumpWrap f i j n).boot = s.boot ∧
    (s.bumpWrap f i j n).pwr = s.pwr ∧ (s.bumpWrap f i j n).tap = s.tap ∧ (s.bumpWrap f i j n).pending = s.pending :=
    ⟨rfl, rfl, rfl, rfl, rfl, rfl, rfl, rfl, rfl, rfl, rfl, rfl, rfl, rfl, rfl, rfl, rfl, rfl, rfl, rfl, rfl, rfl,
    rfl, rfl, rfl, rfl, rfl, rfl, rfl, rfl, rfl, rfl, rfl, rfl, rfl, rfl, rfl, rfl, rfl, rfl, rfl, rfl, rfl, rfl,
    rfl, rfl, rfl, rfl⟩

@[simp] theorem setCoreState_frame (c : Fin 6) (n : Nat) :
    (s.setCoreState c n).phase = s.phase ∧ (s.setCoreState c n).stopped = s.stopped ∧
    (s.setCoreState c n).clk = s.clk ∧ (s.setCoreState c n).lat = s.lat ∧ (s.setCoreState c n).conf = s.conf ∧
    (s.setCoreState c n).jrn = s.jrn ∧ (s.setCoreState c n).ev = s.ev ∧ (s.setCoreState c n).evWait = s.evWait ∧
    (s.setCoreState c n).ringChg = s.ringChg ∧ (s.setCoreState c n).ringBase = s.ringBase ∧
    (s.setCoreState c n).tickSet = s.tickSet ∧ (s.setCoreState c n).sess = s.sess ∧
    (s.setCoreState c n).port = s.port ∧ (s.setCoreState c n).tape = s.tape ∧
    (s.setCoreState c n).answers = s.answers ∧ (s.setCoreState c n).rtc = s.rtc ∧
    (s.setCoreState c n).resetReq = s.resetReq ∧ (s.setCoreState c n).freeCtr = s.freeCtr ∧
    (s.setCoreState c n).mem = s.mem ∧ (s.setCoreState c n).img = s.img ∧ (s.setCoreState c n).flags = s.flags ∧
    (s.setCoreState c n).progs = s.progs ∧ (s.setCoreState c n).mot = s.mot ∧ (s.setCoreState c n).axis = s.axis ∧
    (s.setCoreState c n).hwDet = s.hwDet ∧ (s.setCoreState c n).dac = s.dac ∧ (s.setCoreState c n).exc = s.exc ∧
    (s.setCoreState c n).ldacRise = s.ldacRise ∧ (s.setCoreState c n).ldacFall = s.ldacFall ∧
    (s.setCoreState c n).loadReq = s.loadReq ∧ (s.setCoreState c n).rgn = s.rgn ∧
    (s.setCoreState c n).loads = s.loads ∧ (s.setCoreState c n).staged = s.staged ∧
    (s.setCoreState c n).conv = s.conv ∧ (s.setCoreState c n).dec = s.dec ∧ (s.setCoreState c n).calcu = s.calcu ∧
    (s.setCoreState c n).panel = s.panel ∧ (s.setCoreState c n).fio = s.fio ∧ (s.setCoreState c n).lnk = s.lnk ∧
    (s.setCoreState c n).obs = s.obs ∧ (s.setCoreState c n).core = s.core ∧ (s.setCoreState c n).take = s.take ∧
    (s.setCoreState c n).flash = s.flash ∧ (s.setCoreState c n).sram = s.sram ∧ (s.setCoreState c n).boot = s.boot ∧
    (s.setCoreState c n).pwr = s.pwr ∧ (s.setCoreState c n).tap = s.tap ∧ (s.setCoreState c n).pending = s.pending :=
    ⟨rfl, rfl, rfl, rfl, rfl, rfl, rfl, rfl, rfl, rfl, rfl, rfl, rfl, rfl, rfl, rfl, rfl, rfl, rfl, rfl, rfl, rfl,
    rfl, rfl, rfl, rfl, rfl, rfl, rfl, rfl, rfl, rfl, rfl, rfl, rfl, rfl, rfl, rfl, rfl, rfl, rfl, rfl, rfl, rfl,
    rfl, rfl, rfl, rfl⟩

@[simp] theorem setIlv_frame (c : Fin 6) (n : Nat) :
    (s.setIlv c n).phase = s.phase ∧ (s.setIlv c n).stopped = s.stopped ∧ (s.setIlv c n).clk = s.clk ∧
    (s.setIlv c n).lat = s.lat ∧ (s.setIlv c n).conf = s.conf ∧ (s.setIlv c n).jrn = s.jrn ∧
    (s.setIlv c n).ev = s.ev ∧ (s.setIlv c n).evWait = s.evWait ∧ (s.setIlv c n).ringChg = s.ringChg ∧
    (s.setIlv c n).ringBase = s.ringBase ∧ (s.setIlv c n).tickSet = s.tickSet ∧ (s.setIlv c n).sess = s.sess ∧
    (s.setIlv c n).port = s.port ∧ (s.setIlv c n).tape = s.tape ∧ (s.setIlv c n).answers = s.answers ∧
    (s.setIlv c n).rtc = s.rtc ∧ (s.setIlv c n).resetReq = s.resetReq ∧ (s.setIlv c n).freeCtr = s.freeCtr ∧
    (s.setIlv c n).mem = s.mem ∧ (s.setIlv c n).img = s.img ∧ (s.setIlv c n).flags = s.flags ∧
    (s.setIlv c n).progs = s.progs ∧ (s.setIlv c n).mot = s.mot ∧ (s.setIlv c n).axis = s.axis ∧
    (s.setIlv c n).hwDet = s.hwDet ∧ (s.setIlv c n).dac = s.dac ∧ (s.setIlv c n).exc = s.exc ∧
    (s.setIlv c n).ldacRise = s.ldacRise ∧ (s.setIlv c n).ldacFall = s.ldacFall ∧ (s.setIlv c n).loadReq = s.loadReq ∧
    (s.setIlv c n).rgn = s.rgn ∧ (s.setIlv c n).loads = s.loads ∧ (s.setIlv c n).staged = s.staged ∧
    (s.setIlv c n).conv = s.conv ∧ (s.setIlv c n).dec = s.dec ∧ (s.setIlv c n).calcu = s.calcu ∧
    (s.setIlv c n).panel = s.panel ∧ (s.setIlv c n).fio = s.fio ∧ (s.setIlv c n).lnk = s.lnk ∧
    (s.setIlv c n).obs = s.obs ∧ (s.setIlv c n).core = s.core ∧ (s.setIlv c n).take = s.take ∧
    (s.setIlv c n).flash = s.flash ∧ (s.setIlv c n).sram = s.sram ∧ (s.setIlv c n).boot = s.boot ∧
    (s.setIlv c n).pwr = s.pwr ∧ (s.setIlv c n).tap = s.tap ∧ (s.setIlv c n).pending = s.pending :=
    ⟨rfl, rfl, rfl, rfl, rfl, rfl, rfl, rfl, rfl, rfl, rfl, rfl, rfl, rfl, rfl, rfl, rfl, rfl, rfl, rfl, rfl, rfl,
    rfl, rfl, rfl, rfl, rfl, rfl, rfl, rfl, rfl, rfl, rfl, rfl, rfl, rfl, rfl, rfl, rfl, rfl, rfl, rfl, rfl, rfl,
    rfl, rfl, rfl, rfl⟩

@[simp] theorem commitRec_frame :
    (s.commitRec).phase = s.phase ∧ (s.commitRec).stopped = s.stopped ∧ (s.commitRec).clk = s.clk ∧
    (s.commitRec).lat = s.lat ∧ (s.commitRec).conf = s.conf ∧ (s.commitRec).jrn = s.jrn ∧ (s.commitRec).ev = s.ev ∧
    (s.commitRec).evWait = s.evWait ∧ (s.commitRec).ringChg = s.ringChg ∧ (s.commitRec).ringBase = s.ringBase ∧
    (s.commitRec).tickSet = s.tickSet ∧ (s.commitRec).sess = s.sess ∧ (s.commitRec).port = s.port ∧
    (s.commitRec).tape = s.tape ∧ (s.commitRec).answers = s.answers ∧ (s.commitRec).rtc = s.rtc ∧
    (s.commitRec).resetReq = s.resetReq ∧ (s.commitRec).freeCtr = s.freeCtr ∧ (s.commitRec).mem = s.mem ∧
    (s.commitRec).img = s.img ∧ (s.commitRec).flags = s.flags ∧ (s.commitRec).progs = s.progs ∧
    (s.commitRec).mot = s.mot ∧ (s.commitRec).axis = s.axis ∧ (s.commitRec).hwDet = s.hwDet ∧
    (s.commitRec).dac = s.dac ∧ (s.commitRec).exc = s.exc ∧ (s.commitRec).ldacRise = s.ldacRise ∧
    (s.commitRec).ldacFall = s.ldacFall ∧ (s.commitRec).loadReq = s.loadReq ∧ (s.commitRec).rgn = s.rgn ∧
    (s.commitRec).loads = s.loads ∧ (s.commitRec).staged = s.staged ∧ (s.commitRec).conv = s.conv ∧
    (s.commitRec).dec = s.dec ∧ (s.commitRec).calcu = s.calcu ∧ (s.commitRec).panel = s.panel ∧
    (s.commitRec).fio = s.fio ∧ (s.commitRec).lnk = s.lnk ∧ (s.commitRec).obs = s.obs ∧ (s.commitRec).core = s.core ∧
    (s.commitRec).take = s.take ∧ (s.commitRec).flash = s.flash ∧ (s.commitRec).sram = s.sram ∧
    (s.commitRec).boot = s.boot ∧ (s.commitRec).pwr = s.pwr ∧ (s.commitRec).tap = s.tap ∧
    (s.commitRec).pending = s.pending :=
    ⟨rfl, rfl, rfl, rfl, rfl, rfl, rfl, rfl, rfl, rfl, rfl, rfl, rfl, rfl, rfl, rfl, rfl, rfl, rfl, rfl, rfl, rfl,
    rfl, rfl, rfl, rfl, rfl, rfl, rfl, rfl, rfl, rfl, rfl, rfl, rfl, rfl, rfl, rfl, rfl, rfl, rfl, rfl, rfl, rfl,
    rfl, rfl, rfl, rfl⟩

@[simp] theorem ringPut_frame (r n : Nat) :
    (s.ringPut r n).phase = s.phase ∧ (s.ringPut r n).stopped = s.stopped ∧ (s.ringPut r n).clk = s.clk ∧
    (s.ringPut r n).lat = s.lat ∧ (s.ringPut r n).conf = s.conf ∧ (s.ringPut r n).jrn = s.jrn ∧
    (s.ringPut r n).ev = s.ev ∧ (s.ringPut r n).evWait = s.evWait ∧ (s.ringPut r n).ringChg = s.ringChg ∧
    (s.ringPut r n).ringBase = s.ringBase ∧ (s.ringPut r n).tickSet = s.tickSet ∧ (s.ringPut r n).sess = s.sess ∧
    (s.ringPut r n).port = s.port ∧ (s.ringPut r n).tape = s.tape ∧ (s.ringPut r n).answers = s.answers ∧
    (s.ringPut r n).rtc = s.rtc ∧ (s.ringPut r n).resetReq = s.resetReq ∧ (s.ringPut r n).freeCtr = s.freeCtr ∧
    (s.ringPut r n).mem = s.mem ∧ (s.ringPut r n).img = s.img ∧ (s.ringPut r n).flags = s.flags ∧
    (s.ringPut r n).progs = s.progs ∧ (s.ringPut r n).mot = s.mot ∧ (s.ringPut r n).axis = s.axis ∧
    (s.ringPut r n).hwDet = s.hwDet ∧ (s.ringPut r n).dac = s.dac ∧ (s.ringPut r n).exc = s.exc ∧
    (s.ringPut r n).ldacRise = s.ldacRise ∧ (s.ringPut r n).ldacFall = s.ldacFall ∧
    (s.ringPut r n).loadReq = s.loadReq ∧ (s.ringPut r n).rgn = s.rgn ∧ (s.ringPut r n).loads = s.loads ∧
    (s.ringPut r n).staged = s.staged ∧ (s.ringPut r n).conv = s.conv ∧ (s.ringPut r n).dec = s.dec ∧
    (s.ringPut r n).calcu = s.calcu ∧ (s.ringPut r n).panel = s.panel ∧ (s.ringPut r n).fio = s.fio ∧
    (s.ringPut r n).lnk = s.lnk ∧ (s.ringPut r n).obs = s.obs ∧ (s.ringPut r n).core = s.core ∧
    (s.ringPut r n).take = s.take ∧ (s.ringPut r n).flash = s.flash ∧ (s.ringPut r n).sram = s.sram ∧
    (s.ringPut r n).boot = s.boot ∧ (s.ringPut r n).pwr = s.pwr ∧ (s.ringPut r n).tap = s.tap ∧
    (s.ringPut r n).pending = s.pending :=
    ⟨rfl, rfl, rfl, rfl, rfl, rfl, rfl, rfl, rfl, rfl, rfl, rfl, rfl, rfl, rfl, rfl, rfl, rfl, rfl, rfl, rfl, rfl,
    rfl, rfl, rfl, rfl, rfl, rfl, rfl, rfl, rfl, rfl, rfl, rfl, rfl, rfl, rfl, rfl, rfl, rfl, rfl, rfl, rfl, rfl,
    rfl, rfl, rfl, rfl⟩

@[simp] theorem ringGet_frame (r n : Nat) :
    (s.ringGet r n).phase = s.phase ∧ (s.ringGet r n).stopped = s.stopped ∧ (s.ringGet r n).clk = s.clk ∧
    (s.ringGet r n).lat = s.lat ∧ (s.ringGet r n).conf = s.conf ∧ (s.ringGet r n).jrn = s.jrn ∧
    (s.ringGet r n).ev = s.ev ∧ (s.ringGet r n).evWait = s.evWait ∧ (s.ringGet r n).ringChg = s.ringChg ∧
    (s.ringGet r n).ringBase = s.ringBase ∧ (s.ringGet r n).tickSet = s.tickSet ∧ (s.ringGet r n).sess = s.sess ∧
    (s.ringGet r n).port = s.port ∧ (s.ringGet r n).tape = s.tape ∧ (s.ringGet r n).answers = s.answers ∧
    (s.ringGet r n).rtc = s.rtc ∧ (s.ringGet r n).resetReq = s.resetReq ∧ (s.ringGet r n).freeCtr = s.freeCtr ∧
    (s.ringGet r n).mem = s.mem ∧ (s.ringGet r n).img = s.img ∧ (s.ringGet r n).flags = s.flags ∧
    (s.ringGet r n).progs = s.progs ∧ (s.ringGet r n).mot = s.mot ∧ (s.ringGet r n).axis = s.axis ∧
    (s.ringGet r n).hwDet = s.hwDet ∧ (s.ringGet r n).dac = s.dac ∧ (s.ringGet r n).exc = s.exc ∧
    (s.ringGet r n).ldacRise = s.ldacRise ∧ (s.ringGet r n).ldacFall = s.ldacFall ∧
    (s.ringGet r n).loadReq = s.loadReq ∧ (s.ringGet r n).rgn = s.rgn ∧ (s.ringGet r n).loads = s.loads ∧
    (s.ringGet r n).staged = s.staged ∧ (s.ringGet r n).conv = s.conv ∧ (s.ringGet r n).dec = s.dec ∧
    (s.ringGet r n).calcu = s.calcu ∧ (s.ringGet r n).panel = s.panel ∧ (s.ringGet r n).fio = s.fio ∧
    (s.ringGet r n).lnk = s.lnk ∧ (s.ringGet r n).obs = s.obs ∧ (s.ringGet r n).core = s.core ∧
    (s.ringGet r n).take = s.take ∧ (s.ringGet r n).flash = s.flash ∧ (s.ringGet r n).sram = s.sram ∧
    (s.ringGet r n).boot = s.boot ∧ (s.ringGet r n).pwr = s.pwr ∧ (s.ringGet r n).tap = s.tap ∧
    (s.ringGet r n).pending = s.pending :=
    ⟨rfl, rfl, rfl, rfl, rfl, rfl, rfl, rfl, rfl, rfl, rfl, rfl, rfl, rfl, rfl, rfl, rfl, rfl, rfl, rfl, rfl, rfl,
    rfl, rfl, rfl, rfl, rfl, rfl, rfl, rfl, rfl, rfl, rfl, rfl, rfl, rfl, rfl, rfl, rfl, rfl, rfl, rfl, rfl, rfl,
    rfl, rfl, rfl, rfl⟩

@[simp] theorem note_frame (f : Fld) (i j : Nat) :
    (s.note f i j).phase = s.phase ∧ (s.note f i j).stopped = s.stopped ∧
    (s.note f i j).clk = s.clk ∧ (s.note f i j).lat = s.lat ∧ (s.note f i j).conf = s.conf ∧
    (s.note f i j).ev = s.ev ∧ (s.note f i j).evWait = s.evWait ∧ (s.note f i j).ringChg = s.ringChg ∧
    (s.note f i j).ringBase = s.ringBase ∧ (s.note f i j).tickSet = s.tickSet ∧ (s.note f i j).sess = s.sess ∧
    (s.note f i j).port = s.port ∧ (s.note f i j).tape = s.tape ∧ (s.note f i j).answers = s.answers ∧
    (s.note f i j).rtc = s.rtc ∧ (s.note f i j).resetReq = s.resetReq ∧ (s.note f i j).freeCtr = s.freeCtr ∧
    (s.note f i j).mem = s.mem ∧ (s.note f i j).img = s.img ∧ (s.note f i j).flags = s.flags ∧
    (s.note f i j).progs = s.progs ∧ (s.note f i j).mot = s.mot ∧ (s.note f i j).axis = s.axis ∧
    (s.note f i j).hwDet = s.hwDet ∧ (s.note f i j).dac = s.dac ∧ (s.note f i j).exc = s.exc ∧
    (s.note f i j).ldacRise = s.ldacRise ∧ (s.note f i j).ldacFall = s.ldacFall ∧ (s.note f i j).loadReq = s.loadReq ∧
    (s.note f i j).rgn = s.rgn ∧ (s.note f i j).loads = s.loads ∧ (s.note f i j).staged = s.staged ∧
    (s.note f i j).conv = s.conv ∧ (s.note f i j).dec = s.dec ∧ (s.note f i j).calcu = s.calcu ∧
    (s.note f i j).panel = s.panel ∧ (s.note f i j).fio = s.fio ∧ (s.note f i j).lnk = s.lnk ∧
    (s.note f i j).obs = s.obs ∧ (s.note f i j).core = s.core ∧ (s.note f i j).take = s.take ∧
    (s.note f i j).flash = s.flash ∧ (s.note f i j).sram = s.sram ∧ (s.note f i j).boot = s.boot ∧
    (s.note f i j).pwr = s.pwr ∧ (s.note f i j).tap = s.tap ∧ (s.note f i j).pending = s.pending :=
    ⟨rfl, rfl, rfl, rfl, rfl, rfl, rfl, rfl, rfl, rfl, rfl, rfl, rfl, rfl, rfl, rfl, rfl, rfl, rfl, rfl, rfl,
    rfl, rfl, rfl, rfl, rfl, rfl, rfl, rfl, rfl, rfl, rfl, rfl, rfl, rfl, rfl, rfl, rfl, rfl, rfl, rfl, rfl, rfl,
    rfl, rfl, rfl, rfl⟩

@[simp] theorem modItem_frame (k : Key) (f : Item → Item) :
    (s.modItem k f).phase = s.phase ∧ (s.modItem k f).stopped = s.stopped ∧ (s.modItem k f).regs = s.regs ∧
    (s.modItem k f).clk = s.clk ∧ (s.modItem k f).lat = s.lat ∧ (s.modItem k f).conf = s.conf ∧
    (s.modItem k f).ev = s.ev ∧ (s.modItem k f).evWait = s.evWait ∧ (s.modItem k f).ringChg = s.ringChg ∧
    (s.modItem k f).ringBase = s.ringBase ∧ (s.modItem k f).tickSet = s.tickSet ∧ (s.modItem k f).sess = s.sess ∧
    (s.modItem k f).port = s.port ∧ (s.modItem k f).tape = s.tape ∧ (s.modItem k f).answers = s.answers ∧
    (s.modItem k f).rtc = s.rtc ∧ (s.modItem k f).resetReq = s.resetReq ∧ (s.modItem k f).freeCtr = s.freeCtr ∧
    (s.modItem k f).mem = s.mem ∧ (s.modItem k f).img = s.img ∧ (s.modItem k f).flags = s.flags ∧
    (s.modItem k f).progs = s.progs ∧ (s.modItem k f).mot = s.mot ∧ (s.modItem k f).axis = s.axis ∧
    (s.modItem k f).hwDet = s.hwDet ∧ (s.modItem k f).dac = s.dac ∧ (s.modItem k f).exc = s.exc ∧
    (s.modItem k f).ldacRise = s.ldacRise ∧ (s.modItem k f).ldacFall = s.ldacFall ∧
    (s.modItem k f).loadReq = s.loadReq ∧ (s.modItem k f).rgn = s.rgn ∧ (s.modItem k f).loads = s.loads ∧
    (s.modItem k f).staged = s.staged ∧ (s.modItem k f).conv = s.conv ∧ (s.modItem k f).dec = s.dec ∧
    (s.modItem k f).calcu = s.calcu ∧ (s.modItem k f).panel = s.panel ∧ (s.modItem k f).fio = s.fio ∧
    (s.modItem k f).lnk = s.lnk ∧ (s.modItem k f).obs = s.obs ∧ (s.modItem k f).core = s.core ∧
    (s.modItem k f).take = s.take ∧ (s.modItem k f).flash = s.flash ∧ (s.modItem k f).sram = s.sram ∧
    (s.modItem k f).boot = s.boot ∧ (s.modItem k f).pwr = s.pwr ∧ (s.modItem k f).tap = s.tap ∧
    (s.modItem k f).pending = s.pending :=
    ⟨rfl, rfl, rfl, rfl, rfl, rfl, rfl, rfl, rfl, rfl, rfl, rfl, rfl, rfl, rfl, rfl, rfl, rfl, rfl, rfl, rfl, rfl,
    rfl, rfl, rfl, rfl, rfl, rfl, rfl, rfl, rfl, rfl, rfl, rfl, rfl, rfl, rfl, rfl, rfl, rfl, rfl, rfl, rfl, rfl,
    rfl, rfl, rfl, rfl⟩

@[simp] theorem setItem_frame (k : Key) (x : OutState) :
    (s.setItem k x).phase = s.phase ∧ (s.setItem k x).stopped = s.stopped ∧
    (s.setItem k x).clk = s.clk ∧ (s.setItem k x).lat = s.lat ∧ (s.setItem k x).conf = s.conf ∧
    (s.setItem k x).ev = s.ev ∧ (s.setItem k x).evWait = s.evWait ∧ (s.setItem k x).ringChg = s.ringChg ∧
    (s.setItem k x).ringBase = s.ringBase ∧ (s.setItem k x).tickSet = s.tickSet ∧ (s.setItem k x).sess = s.sess ∧
    (s.setItem k x).port = s.port ∧ (s.setItem k x).tape = s.tape ∧ (s.setItem k x).answers = s.answers ∧
    (s.setItem k x).rtc = s.rtc ∧ (s.setItem k x).resetReq = s.resetReq ∧ (s.setItem k x).freeCtr = s.freeCtr ∧
    (s.setItem k x).mem = s.mem ∧ (s.setItem k x).img = s.img ∧ (s.setItem k x).flags = s.flags ∧
    (s.setItem k x).progs = s.progs ∧ (s.setItem k x).mot = s.mot ∧ (s.setItem k x).axis = s.axis ∧
    (s.setItem k x).hwDet = s.hwDet ∧ (s.setItem k x).dac = s.dac ∧ (s.setItem k x).exc = s.exc ∧
    (s.setItem k x).ldacRise = s.ldacRise ∧ (s.setItem k x).ldacFall = s.ldacFall ∧
    (s.setItem k x).loadReq = s.loadReq ∧ (s.setItem k x).rgn = s.rgn ∧ (s.setItem k x).loads = s.loads ∧
    (s.setItem k x).staged = s.staged ∧ (s.setItem k x).conv = s.conv ∧ (s.setItem k x).dec = s.dec ∧
    (s.setItem k x).calcu = s.calcu ∧ (s.setItem k x).panel = s.panel ∧ (s.setItem k x).fio = s.fio ∧
    (s.setItem k x).lnk = s.lnk ∧ (s.setItem k x).obs = s.obs ∧ (s.setItem k x).core = s.core ∧
    (s.setItem k x).take = s.take ∧ (s.setItem k x).flash = s.flash ∧ (s.setItem k x).sram = s.sram ∧
    (s.setItem k x).boot = s.boot ∧ (s.setItem k x).pwr = s.pwr ∧ (s.setItem k x).tap = s.tap ∧
    (s.setItem k x).pending = s.pending :=
    ⟨rfl, rfl, rfl, rfl, rfl, rfl, rfl, rfl, rfl, rfl, rfl, rfl, rfl, rfl, rfl, rfl, rfl, rfl, rfl, rfl, rfl,
    rfl, rfl, rfl, rfl, rfl, rfl, rfl, rfl, rfl, rfl, rfl, rfl, rfl, rfl, rfl, rfl, rfl, rfl, rfl, rfl, rfl, rfl,
    rfl, rfl, rfl, rfl⟩

@[simp] theorem memSet_frame (a : Nat) (b : Byte) :
    (s.memSet a b).phase = s.phase ∧ (s.memSet a b).stopped = s.stopped ∧ (s.memSet a b).regs = s.regs ∧
    (s.memSet a b).clk = s.clk ∧ (s.memSet a b).lat = s.lat ∧ (s.memSet a b).conf = s.conf ∧
    (s.memSet a b).jrn = s.jrn ∧ (s.memSet a b).ev = s.ev ∧ (s.memSet a b).evWait = s.evWait ∧
    (s.memSet a b).ringChg = s.ringChg ∧ (s.memSet a b).ringBase = s.ringBase ∧ (s.memSet a b).tickSet = s.tickSet ∧
    (s.memSet a b).sess = s.sess ∧ (s.memSet a b).port = s.port ∧ (s.memSet a b).tape = s.tape ∧
    (s.memSet a b).answers = s.answers ∧ (s.memSet a b).rtc = s.rtc ∧ (s.memSet a b).resetReq = s.resetReq ∧
    (s.memSet a b).freeCtr = s.freeCtr ∧ (s.memSet a b).img = s.img ∧ (s.memSet a b).flags = s.flags ∧
    (s.memSet a b).progs = s.progs ∧ (s.memSet a b).mot = s.mot ∧ (s.memSet a b).axis = s.axis ∧
    (s.memSet a b).hwDet = s.hwDet ∧ (s.memSet a b).dac = s.dac ∧ (s.memSet a b).exc = s.exc ∧
    (s.memSet a b).ldacRise = s.ldacRise ∧ (s.memSet a b).ldacFall = s.ldacFall ∧ (s.memSet a b).loadReq = s.loadReq ∧
    (s.memSet a b).rgn = s.rgn ∧ (s.memSet a b).loads = s.loads ∧ (s.memSet a b).staged = s.staged ∧
    (s.memSet a b).conv = s.conv ∧ (s.memSet a b).dec = s.dec ∧ (s.memSet a b).calcu = s.calcu ∧
    (s.memSet a b).panel = s.panel ∧ (s.memSet a b).fio = s.fio ∧ (s.memSet a b).lnk = s.lnk ∧
    (s.memSet a b).obs = s.obs ∧ (s.memSet a b).core = s.core ∧ (s.memSet a b).take = s.take ∧
    (s.memSet a b).flash = s.flash ∧ (s.memSet a b).sram = s.sram ∧ (s.memSet a b).boot = s.boot ∧
    (s.memSet a b).pwr = s.pwr ∧ (s.memSet a b).tap = s.tap ∧ (s.memSet a b).pending = s.pending :=
    ⟨rfl, rfl, rfl, rfl, rfl, rfl, rfl, rfl, rfl, rfl, rfl, rfl, rfl, rfl, rfl, rfl, rfl, rfl, rfl, rfl, rfl, rfl,
    rfl, rfl, rfl, rfl, rfl, rfl, rfl, rfl, rfl, rfl, rfl, rfl, rfl, rfl, rfl, rfl, rfl, rfl, rfl, rfl, rfl, rfl,
    rfl, rfl, rfl, rfl⟩

/-! ## What the updates set -/

@[simp] theorem setPort_same (p : Fin 2) (f : Port → Port) : (s.setPort p f).port[p] = f s.port[p] := by simp [State.setPort]

theorem setPort_other (p : Fin 2) (f : Port → Port) (q : Fin 2) (h : p ≠ q) : (s.setPort p f).port[q] = s.port[q] := by
  simp only [State.setPort, Fin.getElem_fin]
  exact Vector.getElem_set_ne _ _ fun e => h (Fin.ext e)

@[simp] theorem setSess_same (p : Fin 2) (f : Session → Session) : (s.setSess p f).sess[p] = f s.sess[p] := by simp [State.setSess]

theorem setSess_other (p : Fin 2) (f : Session → Session) (q : Fin 2) (h : p ≠ q) : (s.setSess p f).sess[q] = s.sess[q] := by
  simp only [State.setSess, Fin.getElem_fin]
  exact Vector.getElem_set_ne _ _ fun e => h (Fin.ext e)

@[simp] theorem setMot_same (p : Fin 4) (f : StnMot → StnMot) : (s.setMot p f).mot[p] = f s.mot[p] := by simp [State.setMot]

theorem setMot_other (p : Fin 4) (f : StnMot → StnMot) (q : Fin 4) (h : p ≠ q) : (s.setMot p f).mot[q] = s.mot[q] := by
  simp only [State.setMot, Fin.getElem_fin]
  exact Vector.getElem_set_ne _ _ fun e => h (Fin.ext e)

@[simp] theorem setAxis_same (p : Fin 12) (f : AxisSt → AxisSt) : (s.setAxis p f).axis[p] = f s.axis[p] := by simp [State.setAxis]

theorem setAxis_other (p : Fin 12) (f : AxisSt → AxisSt) (q : Fin 12) (h : p ≠ q) : (s.setAxis p f).axis[q] = s.axis[q] := by
  simp only [State.setAxis, Fin.getElem_fin]
  exact Vector.getElem_set_ne _ _ fun e => h (Fin.ext e)

@[simp] theorem setDac_same (p : Fin 16) (f : DacSt → DacSt) : (s.setDac p f).dac[p] = f s.dac[p] := by simp [State.setDac]

theorem setDac_other (p : Fin 16) (f : DacSt → DacSt) (q : Fin 16) (h : p ≠ q) : (s.setDac p f).dac[q] = s.dac[q] := by
  simp only [State.setDac, Fin.getElem_fin]
  exact Vector.getElem_set_ne _ _ fun e => h (Fin.ext e)

@[simp] theorem setExc_same (p : Fin 4) (f : ExcSt → ExcSt) : (s.setExc p f).exc[p] = f s.exc[p] := by simp [State.setExc]

theorem setExc_other (p : Fin 4) (f : ExcSt → ExcSt) (q : Fin 4) (h : p ≠ q) : (s.setExc p f).exc[q] = s.exc[q] := by
  simp only [State.setExc, Fin.getElem_fin]
  exact Vector.getElem_set_ne _ _ fun e => h (Fin.ext e)

@[simp] theorem setCore_same (p : Fin 6) (f : CoreSt → CoreSt) : (s.setCore p f).core[p] = f s.core[p] := by simp [State.setCore]

theorem setCore_other (p : Fin 6) (f : CoreSt → CoreSt) (q : Fin 6) (h : p ≠ q) : (s.setCore p f).core[q] = s.core[q] := by
  simp only [State.setCore, Fin.getElem_fin]
  exact Vector.getElem_set_ne _ _ fun e => h (Fin.ext e)

@[simp] theorem setFio_same (f : FioSt → FioSt) : (s.setFio f).fio = f s.fio := rfl

@[simp] theorem setPanel_same (f : PanelSt → PanelSt) : (s.setPanel f).panel = f s.panel := rfl

@[simp] theorem setObs_same (f : ObsSt → ObsSt) : (s.setObs f).obs = f s.obs := rfl

@[simp] theorem setLnk_same (f : LinkSt → LinkSt) : (s.setLnk f).lnk = f s.lnk := rfl

@[simp] theorem setCalc_same (f : CalcSt → CalcSt) : (s.setCalc f).calcu = f s.calcu := rfl

@[simp] theorem setFlash_same (f : FlashSt → FlashSt) : (s.setFlash f).flash = f s.flash := rfl

@[simp] theorem setPwr_same (f : PowerSt → PowerSt) : (setPwr s f).pwr = f s.pwr := rfl

@[simp] theorem setBoot_same (f : BootSt → BootSt) : (setBoot s f).boot = f s.boot := rfl

@[simp] theorem setLat_same (f : Lattice → Lattice) : (setLat s f).lat = f s.lat := rfl

end Sys2Proof.Machine
end

