-- ==== Sys2Proof/Laws/Commands.lean ====
section
/-! SUPPORT. What the shared operations of the commands do, said once: a work item that is accepted and begins, a query that is
answered, an instruction of a core, and the front of the queue. -/
namespace Sys2Proof.Machine
open Sys2Proof

/-- A candidate accepted whole begins at once, unless it waits for an event of its own. -/
theorem offer_next {s : State} {o : Origin} {cmd : Instr} {w : Work} (h : s.offers o w) :
    s.offer o cmd w =
      if w.auto then
        match w.run (s.candKey o) (s.taken o cmd w.stn) with
        | .done t => t.workDone (s.candKey o)
        | .running t => t
        | .fail e t => t.workFailed (s.candKey o) e
      else (s.accept ⟨s.candKey o, o, cmd, 0, w.stn, offerLen o⟩).answer o (acceptLine o (s.candKey o) 0) := by
  obtain ⟨⟨h1, h2, h3⟩, h4, h5, h6, h7, h8, h9, h10, h11⟩ := h
  have herr : w.err = 0 := by simp [Work.err, h7, h8]
  simp only [State.offer, State.offerAs, h1, h2, h3, h4, h5, h6, h9, herr, Bool.not_true, Bool.false_eq_true, if_false,
    Bool.false_and, State.enter, h10, h11, List.isEmpty_nil, List.any_nil, Bool.not_false, Bool.and_self, if_true,
    State.taken]
  cases w.auto <;> rfl

/-- A permitted query that is taken is answered with its lines, or with its error. -/
theorem ask_next {s : State} {o : Origin} {f : State → Nat × List (List Fd) × State} (h : s.takes o) :
    s.ask o none true f =
      match f s with
      | (0, ls, t) => t.told o ls
      | (e, _, t) => (t.countRej o e).answer o (.er (originTag o) e false) := by
  obtain ⟨h1, h2, h3⟩ := h
  simp only [State.ask, h1, h2, h3, Bool.not_true, Bool.false_eq_true, if_false]
  rfl

/-- A query without a local error that is permitted. -/
theorem ask_of {s : State} {o : Origin} {pre : Option Nat} {ok : Bool} {f : State → Nat × List (List Fd) × State}
    (h : s.takes o) (hp : pre = none) (hk : ok = true) :
    s.ask o pre ok f =
      match f s with
      | (0, ls, t) => t.told o ls
      | (e, _, t) => (t.countRej o e).answer o (.er (originTag o) e false) := by
  subst hp hk; exact ask_next h

theorem askPure_next {s : State} {o : Origin} {f : State → Nat × List (List Fd)} {ls : List (List Fd)} (h : s.takes o)
    (hf : f s = (0, ls)) : s.askPure o none true f = s.told o ls := by
  simp only [State.askPure, ask_next h, hf]

/-- An instruction that the core executes has its effect, and the loads before it reach their registers. -/
theorem instr_next {s : State} {c : Fin 6} {n : Nat} {f : State → State} (h : s.executes c n) :
    s.instr c n f = (f (s.fetched c n)).retired s c := by
  obtain ⟨h1, h2, h3⟩ := h
  simp only [State.instr, h1, h2, Bool.not_true, Bool.false_eq_true, if_false]
  by_cases hn : n = 2
  · simp only [hn, h3 hn, Bool.false_eq_true, and_false, if_false]; rfl
  · simp only [hn, false_and, if_false]; rfl

/-- An instruction that touches only the core's registers. -/
theorem regInstr_next {s : State} {c : Fin 6} {n : Nat} {f : CoreSt → CoreSt} (h : s.executes c n) :
    s.regInstr c n f = ((s.fetched c n).setCore c f).retired s c := instr_next h

/-- A window load: the base register is stepped, the bytes are read, and `g` delivers them. -/
theorem winLoad_next {s : State} {c : Fin 6} {m : WinMode} {x : Fin 8} {n : Nat} {g : State → Nat → State}
    (h : s.executes c (winWords m)) :
    s.winLoad c m x n g =
      (let t := s.fetched c (winWords m)
       let p := (t.setCore c fun k => (k.winOp m x n).2).winRead c ((t.core[c]).winOp m x n).1 n
       g p.2 p.1).retired s c := instr_next h

/-- A window store of the bytes that the register held. -/
theorem winStore_next {s : State} {c : Fin 6} {m : WinMode} {x : Fin 8} {n : Nat} {v : CoreSt → Nat}
    (h : s.executes c (winWords m)) :
    s.winStore c m x n v =
      (let t := s.fetched c (winWords m)
       (t.setCore c fun k => (k.winOp m x n).2).winWrite c ((t.core[c]).winOp m x n).1 (leBytes n (v t.core[c]))).retired
        s c := instr_next h

/-- A far load. -/
theorem farLoad_next {s : State} {c : Fin 6} {p : Fin 4} {off : Half} {n : Nat} {g : State → Nat → State}
    (h : s.executes c 2) :
    s.farLoad c p off n g =
      (let t := s.fetched c 2
       let r := t.busRead c false 4 ((t.core[c]).farAddr p off) n
       g r.2 r.1).retired s c := instr_next h

/-- A far store. -/
theorem farStore_next {s : State} {c : Fin 6} {p : Fin 4} {off : Half} {n : Nat} {v : CoreSt → Nat}
    (h : s.executes c 2) :
    s.farStore c p off n v =
      (let t := s.fetched c 2
       t.busWrite c false 4 ((t.core[c]).farAddr p off) (leBytes n (v t.core[c]))).retired s c := instr_next h

/-- A bit that is read into BF. -/
theorem bitLoad_next {s : State} {c : Fin 6} {a : BitVec 13} {f : Bool → Bool → Bool} (h : s.executes c 2) :
    s.bitLoad c a f =
      (let t := s.fetched c 2
       (t.bitRead c a.toNat).2.setCore c fun k => k.setFb flBF (f (k.fb flBF) (t.bitRead c a.toNat).1)).retired s c :=
  instr_next h

/-- CNT is as before the fetch. -/
theorem fetched_cnt (s : State) (c : Fin 6) (n : Nat) : ((s.fetched c n).core[c]).cnt = (s.core[c]).cnt := by
  simp only [State.fetched, setCore_same]; rfl

/-- A block repeat of a CNT that is not 0, which no interrupt breaks, handles all its elements. -/
theorem repeat_next {s : State} {c : Fin 6} {d : CoreSt → Bool} {f : State → Nat → State} (h : s.executes c 1)
    (hc : (s.core[c]).cnt ≠ 0) (hb : s.mayBreak c = false) :
    s.repeat_ c d f = (f (s.fetched c 1) (s.core[c]).cnt.toNat).retired s c := by
  unfold State.repeat_
  rw [instr_next h]
  dsimp only
  rw [fetched_cnt, if_neg, hb]
  · rfl
  · intro hh
    exact hc (BitVec.eq_of_toNat_eq hh)

/-- One that an interrupt may break. -/
theorem repeat_breaks {s : State} {c : Fin 6} {d : CoreSt → Bool} {f : State → Nat → State} (h : s.executes c 1)
    (hc : (s.core[c]).cnt ≠ 0) (hb : s.mayBreak c = true) :
    s.repeat_ c d f = ((s.fetched c 1).repeatPart c d f).retired s c := by
  unfold State.repeat_
  rw [instr_next h]
  dsimp only
  rw [fetched_cnt, if_neg, hb]
  · rfl
  · intro hh
    exact hc (BitVec.eq_of_toNat_eq hh)

/-- The front of the queue runs with the queue's rest. -/
theorem step_cons {s : State} {c : Instr} {l : List Instr} (h : s.pending = c :: l) :
    step s = exec c { s with pending := l } := by
  simp only [step, h]

/-- With an empty queue the block idles. -/
theorem step_nil {s : State} (h : s.pending = []) : step s = .next s.idle := by
  simp only [step, h]

end Sys2Proof.Machine
end

