-- ==== Sys2Proof/Laws/Cores.lean ====
section
/-! SUPPORT. The registers and flags of a core, read after a write, and the core after an instruction of its own registers. -/
namespace Sys2Proof.Machine
open Sys2Proof

@[simp] theorem setFb_load (k : CoreSt) (n : Nat) (b : Bool) : (k.setFb n b).load = k.load := rfl

@[simp] theorem setW_load (k : CoreSt) (d : Fin 16) (b : Byte) : (k.setW d b).load = k.load := rfl

@[simp] theorem setFb_ser (k : CoreSt) (n : Nat) (b : Bool) : (k.setFb n b).ser = k.ser := rfl

@[simp] theorem setW_ser (k : CoreSt) (d : Fin 16) (b : Byte) : (k.setW d b).ser = k.ser := rfl

@[simp] theorem setFb_bits (k : CoreSt) (n : Nat) (b : Bool) : (k.setFb n b).bits = k.bits := rfl

@[simp] theorem setW_bits (k : CoreSt) (d : Fin 16) (b : Byte) : (k.setW d b).bits = k.bits := rfl

@[simp] theorem setFb_vec (k : CoreSt) (n : Nat) (b : Bool) : (k.setFb n b).vec = k.vec := rfl

@[simp] theorem setW_vec (k : CoreSt) (d : Fin 16) (b : Byte) : (k.setW d b).vec = k.vec := rfl

@[simp] theorem setFb_wait (k : CoreSt) (n : Nat) (b : Bool) : (k.setFb n b).wait = k.wait := rfl

@[simp] theorem setW_wait (k : CoreSt) (d : Fin 16) (b : Byte) : (k.setW d b).wait = k.wait := rfl

@[simp] theorem getW_setFb (k : CoreSt) (n : Nat) (b : Bool) (e : Fin 16) : (k.setFb n b).getW e = k.getW e := rfl

@[simp] theorem wrote_setFb (k : CoreSt) (n : Nat) (b : Bool) : (k.setFb n b).wrote = k.wrote := rfl

@[simp] theorem pc_setFb (k : CoreSt) (n : Nat) (b : Bool) : (k.setFb n b).pc = k.pc := rfl

@[simp] theorem settle_fb (k : CoreSt) (l : List (Fin 16 × Byte)) (n : Nat) : (k.settle l).fb n = k.fb n := rfl

@[simp] theorem settle_pc (k : CoreSt) (l : List (Fin 16 × Byte)) : (k.settle l).pc = k.pc := rfl

@[simp] theorem setW_fb (k : CoreSt) (d : Fin 16) (b : Byte) (n : Nat) : (k.setW d b).fb n = k.fb n := rfl

/-- A register after the loads before have arrived: what the instruction wrote, or the last of them to it (R301). -/
theorem settle_getW (k : CoreSt) (l : List (Fin 16 × Byte)) (e : Fin 16) :
    (k.settle l).getW e = if k.wrote.contains e then k.getW e else ((l.filter fun x => x.1 == e).getLast?.map (·.2)).getD (k.getW e) := by
  simp only [CoreSt.settle, CoreSt.getW]
  have : ∀ (w : Vector Byte 16), (l.foldl (fun w e => if k.wrote.contains e.1 then w else w.set e.1 e.2) w)[e] =
      if k.wrote.contains e then w[e] else ((l.filter fun x => x.1 == e).getLast?.map (·.2)).getD w[e] := by
    induction l with
    | nil => intro w; simp
    | cons a l ih =>
      intro w
      simp only [List.foldl_cons]
      rw [ih]
      by_cases hc : k.wrote.contains e
      · simp only [hc, if_true]
        split
        · rfl
        · rename_i h2
          have : a.1 ≠ e := by intro h; rw [h] at h2; exact h2 hc
          simp only [Fin.getElem_fin]
          rw [Vector.getElem_set_ne]; intro h; exact this (Fin.ext h)
      · simp only [hc, if_false, Bool.false_eq_true]
        by_cases ha : a.1 = e
        · subst ha
          simp only [hc, if_false, Bool.false_eq_true]
          simp only [List.filter_cons, beq_self_eq_true, if_true]
          cases hh : (l.filter fun x => x.1 == a.1) with
          | nil => simp
          | cons b m =>
            obtain ⟨z, hz⟩ : ∃ z, (b :: m).getLast? = some z := ⟨_, List.getLast?_eq_some_getLast (by simp)⟩
            rw [hz, show (a :: b :: m).getLast? = some z from by rw [List.getLast?_cons_cons, hz]]; simp
        · simp only [List.filter_cons, beq_iff_eq, ha, if_false]
          have : (if (k.wrote.contains a.1) = true then w else w.set a.1 a.2)[e] = w[e] := by
            split
            · rfl
            · simp only [Fin.getElem_fin]; rw [Vector.getElem_set_ne]; intro h; exact ha (Fin.ext h)
          rw [this]
  exact this k.w

/-- The core after an instruction that touches only its registers. -/
theorem regInstr_core {s : State} {c : Fin 6} {n : Nat} {f : CoreSt → CoreSt} (h : s.executes c n) :
    (s.regInstr c n f).core[c] =
      (f { s.core[c] with load := [], wrote := [], pc := (s.core[c]).pc + BitVec.ofNat 16 (2 * n) }).settle (s.core[c]).load := by
  rw [regInstr_next h]
  simp only [State.retired, setCore_same, State.fetched]
  rfl

/-- One register is written. -/
theorem getW_setW (k : CoreSt) (d e : Fin 16) (b : Byte) : (k.setW d b).getW e = if e = d then b else k.getW e := by
  simp only [CoreSt.setW, CoreSt.getW]
  split
  · rename_i h; subst h; simp
  · rename_i h
    simp only [Fin.getElem_fin]; rw [Vector.getElem_set_ne]; intro h'; exact h (Fin.ext h'.symm)

end Sys2Proof.Machine
end

