-- ==== Sys2Proof/Laws/Memory.lean ====
section
/-! SUPPORT. Every operation that empties or fills a stretch of memory keeps its canonical form: an erased sector, a written
granule, a page's initial contents, and a cold reset. -/
namespace Sys2Proof.Machine
open Sys2Proof

/-- An erased sector. -/
theorem eraseSector_wf (s : State) (n : Nat) (h : memWf s.mem = true) : memWf (s.eraseSector n).mem = true :=
  sparseFilter_wf memDefault s.mem _ h

/-- A written granule. -/
theorem writeGranule_wf (s : State) (g : Nat × List Byte) (h : memWf s.mem = true) : memWf (s.writeGranule g).mem = true :=
  memPut_wf g.2 s g.1 h

/-- A page that takes its initial contents. -/
theorem loadPage_wf (s : State) (i j : Nat) (h : memWf s.mem = true) : memWf (s.loadPage i j).mem = true := by
  unfold State.loadPage
  simp only
  split
  · exact memPut_wf _ _ _ (sparseFilter_wf memDefault s.mem _ h)
  · exact sparseFilter_wf memDefault s.mem _ h

/-- What every round of a loop keeps, the loop keeps. -/
theorem forAll_keeps {α β : Type} (g : State → β) (l : List α) (s : State) (f : State → α → State)
    (h : ∀ s a, g (f s a) = g s) : g (forAll l s f) = g s := by
  unfold forAll
  induction l generalizing s with
  | nil => rfl
  | cons a l ih => rw [List.foldl_cons, ih, h]

/-- A register field is no memory. -/
theorem setFld_mem (s : State) (f : Fld) (i j v : Nat) : (s.setFld f i j v).mem = s.mem := rfl

theorem setFlag_mem (s : State) (f : Fld) (i j : Nat) (b : Bool) : (s.setFlag f i j b).mem = s.mem := rfl

/-- A cold reset writes no memory while it sets registers. -/
theorem coldRegs_mem (s t : State) (k : Bool) : (s.coldRegs t k).mem = t.mem := by
  simp only [State.coldRegs]
  rw [forAll_keeps State.mem _ _ _ fun _ _ => by simp only [setFlag_mem]]
  simp only [setFlag_mem, setFld_mem]
  rw [forAll_keeps State.mem _ _ _ fun _ _ => by simp only [setFld_mem],
    forAll_keeps State.mem _ _ _ fun _ _ => by split <;> simp only [setFld_mem],
    forAll_keeps State.mem _ _ _ fun _ _ => by simp only [setFld_mem]]

/-- A cold reset keeps flash alone of memory. -/
theorem coldReset_wf (s : State) (k : Bool) (h : memWf s.commitInFlight.mem = true) : memWf (s.coldReset k).mem = true := by
  unfold State.coldReset
  simp only [coldRegs_mem]
  exact sparseFilter_wf memDefault _ _ h

end Sys2Proof.Machine
end

