-- ==== Sys2Proof/Laws/Registers.lean ====
section
/-! SUPPORT. A register and its fields, read after a write. -/
namespace Sys2Proof.Machine
open Sys2Proof

/-- A field of a word reads what was put into it. -/
theorem fldOf_put_same (w : Word) (f : Fld) (v : Nat) (h : f.lo + f.wd ≤ 32) (hv : v < 2 ^ f.wd) :
    fldOf (fldPut w f v) f = v := by
  apply Nat.eq_of_testBit_eq
  intro i
  simp only [fldOf, fldPut, fldMask, Nat.testBit_mod_two_pow]
  by_cases hi : i < f.wd
  · simp only [hi, decide_true, Bool.true_and, BitVec.testBit_toNat, BitVec.getLsbD_ushiftRight, BitVec.getLsbD_or,
      BitVec.getLsbD_and, BitVec.getLsbD_not, BitVec.getLsbD_shiftLeft, BitVec.getLsbD_ofNat, Nat.testBit_two_pow_sub_one]
    have h1 : f.lo + i < 32 := by omega
    have h2 : ¬ (f.lo + i < f.lo) := by omega
    have h3 : f.lo + i - f.lo = i := by omega
    have h4 : i < 32 := by omega
    simp [h1, h2, h3, h4, hi]
  · have : v.testBit i = false := Nat.testBit_lt_two_pow (Nat.lt_of_lt_of_le hv (Nat.pow_le_pow_right (by omega) (by omega)))
    simp [hi, this]

/-- A field that shares no bit with the one put stands. -/
theorem fldOf_put_apart (w : Word) (f g : Fld) (v : Nat) (hg : g.lo + g.wd ≤ 32) (h : fieldsApart f g) :
    fldOf (fldPut w f v) g = fldOf w g := by
  apply Nat.eq_of_testBit_eq
  intro i
  simp only [fldOf, fldPut, fldMask, Nat.testBit_mod_two_pow]
  by_cases hi : i < g.wd
  · simp only [hi, decide_true, Bool.true_and, BitVec.testBit_toNat, BitVec.getLsbD_ushiftRight, BitVec.getLsbD_or,
      BitVec.getLsbD_and, BitVec.getLsbD_not, BitVec.getLsbD_shiftLeft, BitVec.getLsbD_ofNat, Nat.testBit_two_pow_sub_one]
    unfold fieldsApart at h
    have h1 : g.lo + i < 32 := by omega
    rcases h with h | h
    · have h2 : ¬ (g.lo + i < f.lo) := by omega
      have h3 : ¬ (g.lo + i - f.lo < f.wd) := by omega
      simp [h1, h2, h3]
    · have h2 : (g.lo + i < f.lo) := by omega
      simp [h1, h2]
  · simp [hi]

/-- A register reads what was written to it. -/
theorem reg_setReg (s : State) (r : Reg) (i j : Nat) (w : Word) (h : regsSorted s.regs) :
    (s.setReg r i j w).reg r i j = w := by
  simp only [State.reg, State.setReg]
  split
  · rename_i e; rw [sparseFind_put_none _ _ h]; simp [e]
  · rw [sparseFind_put_some]; rfl

end Sys2Proof.Machine
end

