-- ==== Sys2Proof/Machine/Pins.lean ====
section
/-! DEFINITION. The ball grid and the boundary chain (R607 to R611, R614): what each position of the package holds, the
order of the scanned balls, and the level of an output ball with EXTEST in force. -/
namespace Sys2Proof.Machine

/-- What a position of the grid holds (Tables 23.2 to 23.4). -/
inductive Ball where
  | gnd | agnd | vfg (g : Nat) | fio (n : Nat) | vin24 | vhold | vbat | trip | hw (i : Nat) (b : Bool)
  | xin | xout | refin | nreset | frz | ldacIn | kc (n : Nat) | kr (n : Nat) | nev (k : Nat)
  | cfgDone | cfgErr | cfgSrc (n : Nat) | addr (n : Nat) | dsg (n : Nat) | dgr (n : Nat) | chd (n : Nat) | che | chrs | chrw
  | en (n : Nat) (line : Nat) | ol (n : Nat) (rx neg : Bool) | sp (p : Nat) (b : SerBall) | trclk | trd (n : Nat)
  | tpd (n : Nat) | tpspr | tprun | tck | tms | tdi | tdo | ntrst | cfgSck | ncfgCs | cfgMosi | cfgMiso
  | ex (n : Nat) (neg : Bool) | da (n : Nat) | ain (n : Nat)
deriving DecidableEq, Repr

/-! ## The grid. Rows A to AD are numbered 0 to 22, in the order of R607; columns are 1 to 23 -/

def rowName (r : Nat) : String :=
  (["A", "B", "C", "D", "E", "F", "G", "H", "J", "K", "L", "M", "N", "P", "T", "U", "V", "W", "Y", "AA", "AB", "AC", "AD"]).getD r ""

/-- The place of a position of ring 1 along the ring: the top row, then the right column, the bottom row and the left column. -/
def ringPlace (r c : Nat) : Nat :=
  if r = 0 then c - 1 else if c = 23 then 22 + r else if r = 22 then 44 + (23 - c) else 66 + (22 - r)

/-- R608: eleven positions for a group, its supply at the first, the sixth and the eleventh. -/
def ring1Ball (r c : Nat) : Ball :=
  let i := ringPlace r c
  let g := i / 11
  match i % 11 with
  | 0 | 5 | 10 => .vfg g
  | j => .fio (8 * g + (if j < 5 then j - 1 else j - 2))

/-- R609: ring 2 (rows B and AC are 1 and 21). -/
def ring2Ball (r c : Nat) : Option Ball :=
  if r = 1 then
    match c with
    | 2 | 6 | 16 | 18 | 22 => none
    | 8 | 10 => some .vin24
    | 12 | 14 => some .vhold
    | 20 => some .trip
    | _ => if c % 2 = 1 then none else some .gnd
  else if r = 21 then
    match c with
    | 18 => some (.hw 0 false) | 16 => some (.hw 0 true) | 14 => some (.hw 1 false) | 12 => some (.hw 1 true)
    | _ => if c % 2 = 1 then none else some .gnd
  else if r % 2 = 0 then none else some .gnd

/-- Columns 9 to 11 and 14 to 15 of rows K to T (n from 0 to 5). -/
def midBall (n c : Nat) : Ball :=
  match n, c with
  | 0, 9 => .ol 0 false false | 0, 10 => .ol 0 false true | 0, 14 => .sp 0 .y | 0, 15 => .sp 0 .z
  | 1, 9 => .ol 0 true false | 1, 10 => .ol 0 true true | 1, 14 => .sp 0 .a | 1, 15 => .sp 0 .b
  | 2, 9 => .ol 1 false false | 2, 10 => .ol 1 false true | 2, 14 => .sp 0 .rts | 2, 15 => .sp 0 .cts
  | 3, 9 => .ol 1 true false | 3, 10 => .ol 1 true true | 3, 14 => .sp 1 .y | 3, 15 => .sp 1 .z
  | 4, 9 => .trclk | 4, 10 => .trd 0 | 4, 11 => .trd 1 | 4, 14 => .sp 1 .a | 4, 15 => .sp 1 .b
  | 5, 9 => .trd 2 | 5, 10 => .trd 3 | 5, 14 => .sp 1 .rts | 5, 15 => .sp 1 .cts
  | _, _ => .gnd

/-- R610: the inner area, rows C to AB (2 to 20) and columns 3 to 21. -/
def innerBall (r c : Nat) : Ball :=
  let first (l : List Ball) (rest : Ball) : Ball := l.getD (c - 3) rest
  let last (l : List Ball) : Ball := l.getD (c - 19) .gnd
  match r with
  | 2 => match c with
    | 3 => .xin | 4 => .xout | 5 => .refin | 16 => .nreset | 17 => .frz | 18 => .ldacIn | _ => .gnd
  | 3 => if c < 19 then .kc (c - 3) else last [.vbat]
  | 4 => if c < 19 then .kr (c - 3) else last [.nev 0, .nev 1, .nev 2]
  | 5 => if c < 19 then .dsg (c - 3) else last [.nev 3, .cfgDone, .cfgErr]
  | 6 => if c < 19 then .dsg (c + 13) else last [.cfgSrc 0, .cfgSrc 1, .addr 0]
  | 7 => if c < 19 then .dgr (c - 3) else last [.addr 1, .addr 2]
  | 8 => if c < 11 then .dgr (c + 13) else if c < 19 then .chd (c - 11) else last [.che, .chrs, .chrw]
  | 15 => first [.tpd 0, .tpd 1, .tpd 2, .tpd 3, .tpd 4, .tpd 5, .tpd 6, .tpd 7, .tpspr, .tprun, .tck, .tms, .tdi, .tdo, .ntrst,
      .cfgSck, .ncfgCs, .cfgMosi, .cfgMiso] .gnd
  | 16 => first [.ex 0 false, .ex 0 true, .ex 1 false, .ex 1 true, .ex 2 false, .ex 2 true, .ex 3 false, .ex 3 true] .agnd
  | 17 => if c < 19 then .da (c - 3) else .agnd
  | 18 => if c < 19 then .ain (c - 3) else .agnd
  | 19 => if c < 19 then .ain (c + 13) else .agnd
  | 20 => if c < 11 then .agnd else .gnd
  | _ =>
    if c < 9 then .en (r - 9) (c - 3) else if 16 ≤ c then .en (r - 3) (c - 16) else midBall (r - 9) c

/-- R607: the ball at a position, or none where it is empty. -/
def ballAt (r c : Nat) : Option Ball :=
  if r = 0 ∨ r = 22 ∨ c = 1 ∨ c = 23 then some (ring1Ball r c)
  else if r = 1 ∨ r = 21 ∨ c = 2 ∨ c = 22 then ring2Ball r c
  else some (innerBall r c)

/-- Every position, row by row and in ascending column. -/
def grid : List (Option Ball) := (List.range 23).flatMap fun r => (List.range 23).map fun c => ballAt r (c + 1)

/-! ## Signal types (Table 23.5) -/

/-- The type and direction of a ball. -/
inductive BallKind where
  | supply | analogue | highVoltage | pair | input | output | openDrain | bidir
deriving DecidableEq, Repr

def Ball.kind : Ball → BallKind
  | .gnd | .agnd | .vfg _ | .vin24 | .vhold | .vbat => .supply
  | .fio _ | .trip | .hw _ _ => .highVoltage
  | .ain _ | .da _ | .ex _ _ | .xin | .xout => .analogue
  | .en _ _ | .ol _ _ _ => .pair
  | .kc _ | .nev _ | .cfgDone => .openDrain
  | .chd _ => .bidir
  | .dsg _ | .dgr _ | .che | .chrs | .chrw | .sp _ .y | .sp _ .z | .sp _ .rts | .trclk | .trd _ | .tprun | .cfgErr | .cfgSck
  | .ncfgCs | .cfgMosi | .tdo => .output
  | .refin | .nreset | .frz | .ldacIn | .kr _ | .cfgSrc _ | .addr _ | .sp _ .a | .sp _ .b | .sp _ .cts | .tpd _ | .tpspr | .tck
  | .tms | .tdi | .ntrst | .cfgMiso => .input

/-! ## The boundary chain (R614) -/

/-- The cells of a ball, in their order. -/
inductive CellKind where
  | input | data | enable
deriving DecidableEq, Repr

/-- R614: whether a ball is in the chain: a low-voltage signal ball but the reference and the TAP balls. -/
def Ball.scanned (b : Ball) : Bool :=
  match b with
  | .refin | .tck | .tms | .tdi | .tdo | .ntrst => false
  | _ => match b.kind with
    | .input | .output | .openDrain | .bidir => true
    | _ => false

def Ball.cells (b : Ball) : List CellKind :=
  match b.kind with
  | .input => [.input]
  | .output | .openDrain => [.data, .enable]
  | .bidir => [.input, .data, .enable]
  | _ => []

/-- The scanned balls from TDI to TDO: rows C to U. -/
def scanBalls : List Ball :=
  ((List.range 14).flatMap fun r => (List.range 19).map fun c => innerBall (r + 2) (c + 3)).filter Ball.scanned

/-- The 256 cells from TDI to TDO. -/
def scanCells : List (Ball × CellKind) := scanBalls.flatMap fun b => b.cells.map fun k => (b, k)

/-- A cell of the boundary register: bit 0 is the cell next to TDO. -/
def State.cell (s : State) (b : Ball) (k : CellKind) : Bool :=
  match scanCells.idxOf? (b, k) with
  | some i => s.tap.bnd.getLsbD (255 - i)
  | none => false

/-- R614: the level of an output ball, none for high impedance: the function's, or with EXTEST in force that of the ball's
cells. An open-drain ball never drives high. Which value of an enable cell drives is open (log entry 62). -/
def State.scanOut (s : State) (b : Ball) (fn : Option Bool) : Option Bool :=
  if s.tap.ir == .extest && b.scanned then
    if s.cell b .enable != Config.scanDrives then none
    else if b.kind == .openDrain && s.cell b .data then none
    else some (s.cell b .data)
  else fn

/-! ## The outputs whose level State gives (Table 23.5) -/

/-- An open-drain output that is driven low or released. -/
def openDrain (low : Bool) : Option Bool := if low then some false else none

def State.evBall (s : State) (k : Fin 4) : Option Bool := s.scanOut (.nev k.val) (openDrain (s.evPinLow k))
def State.cfgDoneBall (s : State) : Option Bool := s.scanOut .cfgDone (openDrain s.boot.doneLow)
def State.cfgErrBall (s : State) : Option Bool := s.scanOut .cfgErr (some s.boot.errHigh)
def State.tprunBall (s : State) : Option Bool := s.scanOut .tprun (some (s.flag .SER_TAPESTAT_RUN))

/-- A segment ball while grid `g` is lit. -/
def State.segBall (s : State) (g n : Nat) : Option Bool := s.scanOut (.dsg n) (some (s.segLine g n))

/-- R82, R92: a serial driver with the level that its line gives it, `lv`. -/
def State.serBallOut (s : State) (p : Fin 2) (b : SerBall) (lv : Bool) : Option Bool :=
  s.scanOut (.sp p.val b) (if s.ballUse p b == .drives then some (if b == .rts then s.rtsOut p else lv) else none)

end Sys2Proof.Machine
end

