-- ==== Sys2Proof/WellFormed.lean ====
section
/-! DEFINITION. When a command is well formed: what its operand types do not say already of what a line, a frame, a register
access or a tick can carry. Ranges that the part itself checks are no part of it: the meanings answer them with errors. -/
namespace Sys2Proof

/-- A 32-bit word: a WSN (R55), a register value or an address (R7). -/
def wordOk (n : Nat) : Bool := decide (n < 2 ^ 32)

def originOk : Origin → Bool
  | .framed _ w | .peer _ w => wordOk w
  | .typed _ | .panel | .core _ => true

def requesterOk : Requester → Bool
  | .core _ => true
  | .line o => originOk o

/-- No element twice. -/
def distinct {α : Type} [BEq α] : List α → Bool
  | [] => true
  | x :: l => !l.contains x && distinct l

/-- A line names a setting once (R95). -/
def setsOk (l : List FieldSet) : Bool := distinct (l.map (·.fld))

/-- The fields of a decimal request as Table 10.4 lays them out. -/
def decReqOk (r : DecReq) : Bool :=
  decide (r.req < 24) && decide (r.op < 256) && decide (r.rm < 8) && decide (r.dst < 256) && decide (r.areg < 256)
    && decide (r.breg < 256) && decide (r.creg < 256) && decide (r.tag < 65536) && decide (r.a < 2 ^ 128)
    && decide (r.b < 2 ^ 128) && decide (r.c < 2 ^ 128)

/-- A tick shows each channel once. -/
def tickObsOk (o : TickObs) : Bool :=
  distinct o.lateSet && distinct o.lateCh && distinct (o.enc.map (·.1)) && distinct (o.res.map (·.1)) && distinct (o.pa.map (·.1))
    && distinct (o.fa.map (·.1)) && distinct (o.lout.map (·.1)) && distinct (o.eng.map (·.e)) && distinct (o.blocked.map (·.1))

def Instr.wellFormed : Instr → Bool
  | .auth o _ => originOk o
  | .authOff o => originOk o
  | .authQuery o => originOk o
  | .stnSelect o _ => originOk o
  | .stnQuery o => originOk o
  | .authset o _ _ => originOk o
  | .idQuery o => originOk o
  | .timeQuery o => originOk o
  | .timeRtc o _ => originOk o
  | .reg o _ _ => originOk o
  | .regQuery o _ _ => originOk o
  | .wsnQuery o _ => originOk o
  | .outcomeQuery o _ _ _ _ => originOk o
  | .cancel o _ _ _ => originOk o
  | .release o _ _ _ => originOk o
  | .seriesRestart o => originOk o
  | .jrnQuery o => originOk o
  | .jrnSourcesQuery o => originOk o
  | .resetWarm o => originOk o
  | .resetCold o => originOk o
  | .policy o _ _ _ _ => originOk o
  | .policyQuery o _ _ _ => originOk o
  | .ringDepth o _ _ => originOk o
  | .ringQuery o _ => originOk o
  | .eventAck o _ _ => originOk o
  | .eventQuery o _ _ _ => originOk o
  | .progNew o _ _ => originOk o
  | .progAdd o _ _ => originOk o
  | .progEnd o _ => originOk o
  | .progDel o _ => originOk o
  | .progQuery o _ _ _ => originOk o
  | .run o _ _ _ => originOk o
  | .mdi o _ _ => originOk o
  | .tapeRead o _ => originOk o
  | .tapeRun o _ => originOk o
  | .tapeStop o => originOk o
  | .tapeQuery o => originOk o
  | .mfin o _ => originOk o
  | .hold o _ _ => originOk o
  | .stop o _ => originOk o
  | .resume o _ => originOk o
  | .ovr o _ _ _ _ => originOk o
  | .ovrQuery o _ => originOk o
  | .limitAxis o _ _ => originOk o
  | .limitStn o _ _ => originOk o
  | .limitQuery o _ _ => originOk o
  | .axisJog o _ _ _ _ => originOk o
  | .axisJogStop o _ => originOk o
  | .axisHw o _ _ _ => originOk o
  | .axisHwOff o _ => originOk o
  | .axisRef o _ _ => originOk o
  | .stateQuery o _ => originOk o
  | .servo o _ sets => originOk o && setsOk sets
  | .servoRescal o _ => originOk o
  | .servoQuery o _ => originOk o
  | .comp o _ sets => originOk o && setsOk sets
  | .compPt o _ _ _ => originOk o
  | .compQuery o _ _ _ => originOk o
  | .calcQuery o _ _ _ => originOk o
  | .decQuery o => originOk o
  | .coreAssign o _ _ => originOk o
  | .coreSpare o _ => originOk o
  | .coreHalt o _ => originOk o
  | .coreStart o _ => originOk o
  | .coreClear o _ => originOk o
  | .coreQuery o _ => originOk o
  | .regionLoad o _ _ => originOk o
  | .regionHandoffCell o _ _ => originOk o
  | .regionHandoffRg o _ _ _ => originOk o
  | .regionRef o _ _ => originOk o
  | .regionQuery o _ => originOk o
  | .xpt o routes => originOk o && distinct (routes.map (·.1))
  | .xptQuery o _ => originOk o
  | .adcAssign o _ _ => originOk o
  | .adcQuery o _ => originOk o
  | .cal o _ => originOk o
  | .calRef o _ _ _ => originOk o
  | .filterPreset o _ _ _ => originOk o
  | .filterCustom o _ _ _ _ => originOk o
  | .filterPhase o _ _ _ => originOk o
  | .filterTaps o _ _ _ => originOk o
  | .filterCoef o _ _ _ _ => originOk o
  | .filterSwap o _ => originOk o
  | .filterResolver o _ _ _ => originOk o
  | .filterResphase o _ _ => originOk o
  | .filterQuery o _ => originOk o
  | .dacConfig o _ _ => originOk o
  | .dacValue o _ _ _ => originOk o
  | .dacSafe o _ => originOk o
  | .dacLoad o _ => originOk o
  | .dacLdg o _ _ => originOk o
  | .dacQuery o _ => originOk o
  | .exc o _ _ => originOk o
  | .excTable o _ _ _ => originOk o
  | .excTableSine o _ => originOk o
  | .excTableSwap o _ => originOk o
  | .excQuery o _ => originOk o
  | .disp o _ _ _ => originOk o
  | .dispFault o _ _ _ => originOk o
  | .dispClear o _ => originOk o
  | .dispChr o _ => originOk o
  | .dispChrCmd o _ => originOk o
  | .panelScan o sets => originOk o && setsOk sets
  | .panelRepeat o sets => originOk o && setsOk sets
  | .panelKey o _ _ => originOk o
  | .panelCombo o _ sets => originOk o && setsOk sets
  | .panelAction o _ sets => originOk o && setsOk sets
  | .panelOwner o sets => originOk o && setsOk sets
  | .panelDisplay o sets => originOk o && setsOk sets
  | .panelFont o _ sets => originOk o && setsOk sets
  | .panelChar o sets => originOk o && setsOk sets
  | .panelQuery o _ => originOk o
  | .fio o _ _ sets => originOk o && setsOk sets
  | .fioOut o _ _ => originOk o
  | .fioClear o _ => originOk o
  | .fioAin o _ sets => originOk o && setsOk sets
  | .fioQuery o _ => originOk o
  | .peer o _ _ => originOk o
  | .peerQuery o _ _ => originOk o
  | .peerMask o _ _ => originOk o
  | .linkCfg o sets => originOk o && setsOk sets
  | .linkClear o _ => originOk o
  | .linkPortRate o _ _ => originOk o
  | .linkRestart o _ => originOk o
  | .linkAuth o _ _ _ => originOk o
  | .linkMirror o _ _ => originOk o
  | .linkQuery o => originOk o
  | .linkTxnQuery o _ _ => originOk o
  | .flashErase o _ => originOk o
  | .flashProg o _ _ => originOk o
  | .flashSuspend o => originOk o
  | .flashResume o => originOk o
  | .flashQuery o _ => originOk o
  | .imagePolicy o sets => originOk o && setsOk sets
  | .imageKeySet o _ _ => originOk o
  | .imageKeyRevoke o _ => originOk o
  | .imageLock o => originOk o
  | .imageStage o _ _ => originOk o
  | .imageUnstage o _ => originOk o
  | .imageQuery o => originOk o
  | .imageCheck o _ _ => originOk o
  | .pwrStnIdle o _ sets => originOk o && setsOk sets
  | .pwrStnOn o _ => originOk o
  | .pwrObs o _ => originOk o
  | .pwrWdt o _ _ => originOk o
  | .pwrHoldmin o _ => originOk o
  | .pwrQuery o => originOk o
  | .obsClear o _ => originOk o
  | .obsEngQuery o _ _ _ => originOk o
  | .obsRsvopQuery o => originOk o
  | .obsProbe o _ sets => originOk o && setsOk sets
  | .obsWatch o _ sets => originOk o && setsOk sets
  | .obsProbeQuery o _ => originOk o
  | .obsWatchQuery o _ => originOk o
  | .trace o sets => originOk o && setsOk sets
  | .traceQuery o => originOk o
  | .traceRead o _ => originOk o
  | .skim o _ _ _ => originOk o
  | .skimStart o _ _ => originOk o
  | .skimStop o _ => originOk o
  | .skimQuery o _ => originOk o
  | .freeze o => originOk o
  | .freezeOff o => originOk o
  | .snapQuery o _ => originOk o
  | .refLost => true
  | .refReturn _ => true
  | .latticeTick obs => tickObsOk obs
  | .latticeOverrun _ => true
  | .latticeOverrunTrip _ => true
  | .slackWindowEnd => true
  | .vcoreHoldEnd => true
  | .rateChangeEffect => true
  | .tripInputAsserted => true
  | .tripInputCleared => true
  | .tripCmp _ => true
  | .lineTerminated _ _ => true
  | .journalCommitComplete _ _ _ => true
  | .itemExecutionBegin _ wsn => wordOk wsn
  | .typedCharacter _ _ _ => true
  | .typedBackspace _ => true
  | .typedLineKill _ => true
  | .historyPrevious _ => true
  | .historyNext _ => true
  | .xoffReceived _ => true
  | .xonReceived _ => true
  | .breakReceived _ => true
  | .asyncLineSend _ _ => true
  | .serSettingsApply _ => true
  | .serEnableClear _ => true
  | .tapeCharacter _ => true
  | .tapeBlockAccept => true
  | .authLockoutEnd _ => true
  | .registerWrite _ a v => wordOk a && wordOk v
  | .tcCounterReadLatch _ => true
  | .resetCommandBegin => true
  | .ringClr q _ => requesterOk q
  | .eventResend _ _ _ => true
  | .blockConvert _ => true
  | .xctlSubmit _ _ => true
  | .xctlEnd _ _ => true
  | .xctlReject _ _ _ => true
  | .extTimeout _ => true
  | .mfinLate _ => true
  | .brakingComplete _ => true
  | .motionEnableDelayEnd _ => true
  | .approachComplete _ => true
  | .dwellEnd _ => true
  | .spindleAtSpeed _ => true
  | .followingError _ => true
  | .handwheelDetent _ d => (decide (d = 1) || decide (d = -1))
  | .servoApply q _ => requesterOk q
  | .encoderCondition _ _ => true
  | .encoderIndexCapture _ _ => true
  | .outputSat _ => true
  | .resAmpl _ => true
  | .tachMismatch _ => true
  | .feedbackLoss _ => true
  | .decRequest r => decReqOk r
  | .decIssue => true
  | .decResult _ => true
  | .decLoad => true
  | .decAdd => true
  | .decSub => true
  | .decMul => true
  | .decDiv => true
  | .decSqrt => true
  | .decFma => true
  | .decQuant => true
  | .decRint => true
  | .decCmp => true
  | .decToint => true
  | .decFromint => true
  | .decSin => true
  | .decCos => true
  | .decTan => true
  | .decAtan => true
  | .decAtan2 => true
  | .decExp => true
  | .decLn => true
  | .decLog10 => true
  | .decPow => true
  | .decInvalidOp => true
  | .decMbxPop q _ => requesterOk q
  | .decClr q => requesterOk q
  | .calcKey _ => true
  | .calcComputationDone => true
  | .calcAutooff => true
  | .coreFailed _ => true
  | .takeoverLate => true
  | .coreLate _ => true
  | .interruptEntry _ => true
  | .nop _ => true
  | .waitl _ => true
  | .waitlTickRelease _ => true
  | .chkpt _ => true
  | .chkptCommitted _ => true
  | .reti _ => true
  | .ret _ => true
  | .ei _ => true
  | .di _ => true
  | .bfset _ => true
  | .bfclr _ => true
  | .bfnot _ => true
  | .bfc _ => true
  | .cbf _ => true
  | .bldw _ _ _ => true
  | .bstw _ _ _ => true
  | .push _ _ => true
  | .pop _ _ => true
  | .jmp _ _ => true
  | .call _ _ => true
  | .setam _ _ => true
  | .mov _ _ _ => true
  | .add _ _ _ => true
  | .adc _ _ _ => true
  | .sub _ _ _ => true
  | .sbc _ _ _ => true
  | .cmp _ _ _ => true
  | .and _ _ _ => true
  | .or _ _ _ => true
  | .xor _ _ _ => true
  | .tst _ _ _ => true
  | .not _ _ => true
  | .neg _ _ => true
  | .shl _ _ => true
  | .shr _ _ => true
  | .asr _ _ => true
  | .roc _ _ => true
  | .movi _ _ _ => true
  | .addi _ _ _ => true
  | .cmpi _ _ _ => true
  | .movx _ _ _ => true
  | .addx _ _ _ => true
  | .subx _ _ _ => true
  | .cmpx _ _ _ => true
  | .incx _ _ => true
  | .decx _ _ => true
  | .rds _ _ _ => true
  | .wrs _ _ _ => true
  | .mulu _ _ _ => true
  | .ld _ _ _ _ => true
  | .st _ _ _ _ => true
  | .ldx _ _ _ _ => true
  | .stx _ _ _ _ => true
  | .bcc _ _ _ => true
  | .bra _ _ => true
  | .bsr _ _ => true
  | .ldb _ _ => true
  | .ldbn _ _ => true
  | .andb _ _ => true
  | .andbn _ _ => true
  | .orb _ _ => true
  | .orbn _ _ => true
  | .xorb _ _ => true
  | .stb _ _ => true
  | .stbn _ _ => true
  | .setb _ _ => true
  | .clrb _ _ => true
  | .tglb _ _ => true
  | .tsetb _ _ => true
  | .tclrb _ _ => true
  | .setbc _ _ => true
  | .clrbc _ _ => true
  | .ldf8 _ _ _ _ => true
  | .stf8 _ _ _ _ => true
  | .ldf16 _ _ _ _ => true
  | .stf16 _ _ _ _ => true
  | .ldf32 _ _ _ _ => true
  | .stf32 _ _ _ _ => true
  | .movs _ _ _ => true
  | .cmps _ _ _ => true
  | .fils _ _ _ _ => true
  | .scns _ _ _ _ => true
  | .dreq _ _ => true
  | .dpop _ _ => true
  | .dpopResult _ => true
  | .req _ _ => true
  | .reqAnswer _ => true
  | .take _ _ => true
  | .lda _ _ _ => true
  | .sta _ _ _ => true
  | .ldax _ _ _ => true
  | .stax _ _ _ => true
  | .movxi _ _ _ => true
  | .addxi _ _ _ => true
  | .cmpxi _ _ _ => true
  | .andi _ _ _ => true
  | .ori _ _ _ => true
  | .xori _ _ _ => true
  | .tsti _ _ _ => true
  | .jmpImm _ _ => true
  | .callImm _ _ => true
  | .reservedOpcode _ _ _ => true
  | .regionWriteComplete _ _ => true
  | .regionEpoch _ => true
  | .cellSat _ _ => true
  | .calibrationDone _ _ _ => true
  | .chainMemoryPassed _ => true
  | .calDue _ => true
  | .adcChannel _ => true
  | .refCompare _ _ _ => true
  | .firBankSwap _ => true
  | .sfConversionDone _ _ => true
  | .spanReconfigured _ => true
  | .ldacEdge _ => true
  | .deglitchRelease _ => true
  | .dacCondition _ _ _ _ => true
  | .dacShortRetry _ _ => true
  | .excRampDone _ => true
  | .excTableChange _ => true
  | .excShort _ _ => true
  | .excOff _ => true
  | .keyAccepted _ _ => true
  | .keyRepeat _ => true
  | .keyLongPress _ => true
  | .pnlKqRead q => requesterOk q
  | .panelActionOffer _ => true
  | .panelBusy _ => true
  | .combo0Fired => true
  | .combo1Fired => true
  | .pnlChqWrite q v => requesterOk q && wordOk v
  | .chrByteDone => true
  | .chrTimeout => true
  | .vfgStateChange _ _ => true
  | .fioInputChange _ _ => true
  | .fioCondition _ _ _ => true
  | .fioRetry _ => true
  | .fioRetryEnd _ _ => true
  | .fioPin _ => true
  | .ainTestBurst _ => true
  | .ainCondition _ _ _ => true
  | .portTrained _ _ _ _ => true
  | .portDown _ => true
  | .portRetrain _ => true
  | .linkRate _ => true
  | .topo => true
  | .dataFrameReceived _ bytes => decide (bytes.length ≤ 276)
  | .ack _ lseq => decide (lseq < 65536)
  | .nak _ lseq _ => decide (lseq < 65536)
  | .attemptTimeout _ lseq => decide (lseq < 65536)
  | .pause _ quanta => decide (quanta < 65536)
  | .pauseExpiry _ => true
  | .sync _ _ _ => true
  | .syncSend => true
  | .syncLost => true
  | .freezeFrame _ => true
  | .line => true
  | .answer => true
  | .result => true
  | .statusq => true
  | .statusa => true
  | .prepare => true
  | .vote => true
  | .commit => true
  | .abort => true
  | .hello => true
  | .series => true
  | .mirror => true
  | .txnTimeout _ => true
  | .statusQueryRetry _ => true
  | .peerBusyResend _ => true
  | .multicastTimeout _ => true
  | .decisionResend _ => true
  | .multicastApply => true
  | .pauseRefresh _ => true
  | .nakFullResend _ lseq => decide (lseq < 65536)
  | .flashOpDone _ => true
  | .flashAutoResume => true
  | .stewardIdle => true
  | .sramUncorr _ _ => true
  | .sramBank _ => true
  | .sramScrub _ => true
  | .powerUp _ _ => true
  | .keepLoss => true
  | .brownOut _ => true
  | .nreset => true
  | .watchdog => true
  | .warmReset => true
  | .warmStop _ => true
  | .resetRelease _ _ _ => true
  | .refStartTimeout _ => true
  | .refSourceTaken _ => true
  | .sramSelfTestDone _ _ => true
  | .startupCalibrationDone _ _ => true
  | .candidateVerified _ seen => seen.axes.all (fun c => c < 4 || c == 7) && seen.encs.all fun c => c ≤ 4 || c == 7
  | .cfgDoneRelease => true
  | .cfgDoneHigh => true
  | .commitRegionRelease => true
  | .cfgTimeout => true
  | .journalReplayDone _ _ _ => true
  | .imagePut _ _ => true
  | .imageWrite _ => true
  | .stationIdleEntry _ => true
  | .wakeComplete _ => true
  | .wdtKick q v => requesterOk q && wordOk v
  | .vbatMonitor _ => true
  | .dieHot => true
  | .dieOvertemp => true
  | .obsTrmark q v => requesterOk q && wordOk v
  | .skimCountDone _ => true
  | .frzPin => true
  | .extest => true
  | .idcode => true
  | .samplePreload _ => true
  | .bypass _ => true
  | .latClrLow q => requesterOk q
  | .latClrOvr q _ => requesterOk q
  | .serClrRej q _ => requesterOk q
  | .serClrAlost q _ => requesterOk q
  | .sysSclr q => requesterOk q
  | .jrnClr q => requesterOk q
  | .nocPclr q _ => requesterOk q
  | .transmitComplete _ => true
  | .framedCharacter _ _ _ => true
  | .loadDataArrival _ => true
  | .testLogicReset => true

end Sys2Proof
end

