-- ==== Sys2Proof/Tests/Slice0.lean ====
section
/-! SUPPORT. The model's own tests: the refusals of ill-formed terms, worked examples of the spec, and for every statement that
has hypotheses a state that meets them. -/
namespace Sys2Proof.Tests
set_option Elab.async false
set_option linter.unreachableTactic false
set_option linter.unusedTactic false
open Sys2Proof Sys2Proof.Machine


theorem ok_of {α ε : Type} [DecidableEq α] {x : Except ε α} {v : α}
    (h : (match x with | .ok a => decide (a = v) | .error _ => false) = true) : x = .ok v := by
  cases x with
  | ok a => simpa using h
  | error e => cases h

theorem err_of {α ε : Type} [DecidableEq ε] {x : Except ε α} {v : ε}
    (h : (match x with | .error a => decide (a = v) | .ok _ => false) = true) : x = .error v := by
  cases x with
  | error a => simpa using h
  | ok e => cases h

/-! The states of the witnesses. -/

def w0 : State := { State.reset with phase := .running, lnk := { State.reset.lnk with auth := some fullAuth } }
def wJ : State := { w0 with jrn := { w0.jrn with src := w0.jrn.src.set 16 ⟨1, 1⟩ } }
def wItem : Item := ⟨⟨16, 1, 1⟩, .pending, 0, 0, 4, 0, 0, none, 0, some (.timeRtc (.peer 0 1) ⟨2026, 1, 2, 3, 4, 5⟩), none, 0⟩
def wHeldItem : Item := { wItem with st := .held }
def w1 : State := { wJ with jrn := { wJ.jrn with items := [wHeldItem] } }
def prog1 : Prog := ⟨1, "", [], false, 0, 0, []⟩
def wProg : State := { w0 with progs := [prog1] }
def prog2 : Prog := ⟨1, "", ["M5"], true, 0, 0, []⟩
def wProg2 : State := { w0 with progs := [prog2] }
def wRun : State := wProg2
def wMdi : State := w0
def wTapeItem : Item := { wItem with st := .running, cmd := some (.tapeRun (.peer 0 1) none) }
def wTapeBusy : State := { wJ with jrn := { wJ.jrn with items := [wTapeItem] }, tape := { wJ.tape with item := some ⟨16, 1, 1⟩ } }
def wHand : Hand := ⟨false, 5, true, .strobed, 0, false, false⟩
def wMfin : State := w0.setMot 0 fun m => { m with hand := some wHand }
def wMoving : State := w0.setStn 0 stRun
def wTrip : State := (w0.setStn 0 stTripped).setFlag .TC_STATUS_REFOK 0 0 true
def wAxis : State := { w0 with conf := { w0.conf with axisStn := w0.conf.axisStn.set 0 (some 0) } }
def wJog : State := (wAxis.setAxis 0 fun x => { x with lim := { x.lim with vmax := 100, vrap := 100, amax := 100, jmax := 100, jogf := 10 } }).setFld .ENC_HWCFG_STN 0 0 0
def wRes : State := ((((wAxis.setFld .SRV_FB_KIND 0 0 2).setFld .FCH_RAMP_A 0 0 5000).setFld .EXC_INC_INC 0 0 3500000).setFld .FCH_CFG_MODE 0 0 modeResolver)
def wComp : State := wAxis.setFld .SRV_COMP_N 0 0 2
def wStagedImg : Staged := ⟨1, 0, 0, 0, []⟩
def wStaged : State := { w0 with staged := [wStagedImg] }
def wX : State := w0
def wDac : State := w0
def wExc : State := w0
def wPan : State := w0
def wPin : State := (((w0.setFld .FIO_CFG_FN 0 0 5).setFld .FIO_CFG_ENAX 0 0 15).setFld .FIO_CFG_STN 0 0 4)
def wPeer : State := w0.setFld .OLK_STAT_PRESENT 0 0 3
def wKey : State := w0
def wSleep : State := w0.setFld .PWR_IDLE_NOW 0 0 2
def wObs : State := w0
def wKeys : State := { w0 with jrn := { w0.jrn with boardKey := some 7 } }
def wProg3 : State := wProg2
def prog3 : Prog := prog2
def txnItem : Item := { wItem with cmd := some (.peer (.peer 0 1) 1 "HOLD") }
def wTxn : State := { wJ with jrn := { wJ.jrn with items := [txnItem] } }
def wSnap : State := { w0 with obs := { w0.obs with snap := some [] } }
def wLive : State := (w0.setFlag .TC_STATUS_REFOK 0 0 true).setPort 0 fun q => { q with on := true }
def wCr : State := wLive.setPort 0 fun q => { q with afterCr := true }
def wHash : State := wLive.setPort 0 fun q => { q with line := [0x23] }
def wTyped : State := wLive.setPort 0 fun q => { q with line := [65] }
def wExcess : State := wLive.setPort 0 fun q => { q with excess := 1 }
def wHist : State := wLive.setPort 0 fun q => { q with hist := [[65]] }
def wHist1 : State := wLive.setPort 0 fun q => { q with hist := [[65]], recalled := 1 }
def wHist2 : State := wLive.setPort 0 fun q => { q with hist := [[65], [66]], recalled := 2 }
def wFlow : State := wLive.setPort 0 fun q => { q with mode := fldPut q.mode .SER_MODE_FLOW 2 }
def evRec1 : EvRec := ⟨0, 1, 4, 1, 0, 0, false, false, 0, 0, 1, 0, 1⟩
def wAsync : State := { (((wLive.setFld .SER_ASYNC_CLS 0 0 15).setFlag .SER_ASYNC_BRD 0 0 true).setSess 0 fun x => { x with own := fullAuth }) with ev := { wLive.ev with q := wLive.ev.q.set 0 [evRec1] } }
def sent1 : SentRec := ⟨.trip, 1, 0, 0⟩
def wResend : State := { (wAsync.setPort 0 fun q => { q with sent := [sent1] }) with clk := { wAsync.clk with now := 100 * msCounts } }
def wBaud : State := w0.setPort 0 fun q => { q with baud := 1 }
def wOn : State := (w0.setPort 1 fun q => { q with on := true }).setFlag .SER_CTRL_ENABLE 1 0 false
def outl1 : OutLine := ⟨.ok .none false, false, false⟩
def wRsp : State := wLive.setPort 0 fun q => { q with rsp := [outl1] }
def wSeries : State := w0
def rec1 : CommitRec := ⟨⟨16, 1, 1⟩, .peer 0 1, .tapeStop (.peer 0 1), 0, 4, 0⟩
def wQueue : State := { w0 with jrn := { w0.jrn with queue := [.item rec1 1] } }
def readyItem : Item := { wItem with cmd := some (.tapeStop (.peer 0 1)) }
def wReady : State := { wJ with jrn := { wJ.jrn with items := [readyItem], ready := [⟨16, 1, 1⟩] } }
def wCore : State := ((w0.setCoreState 0 1).setFld .SYS_CASN_STN 0 0 4).setReg .SYS_SPG 0 0 4
def wCore4 : State := wCore
def wTick : State := w0.setFlag .TC_STATUS_REFOK 0 0 true
def wTaken : State := { w0 with clk := { w0.clk with taken := true } }
def obs0 : TickObs := ⟨0, [], [], 0, [], [], [], [], [], [], [], [], []⟩
def wLoadTick : State := { wTick with phase := .waiting }
def wOvr : State := w0.setFld .LAT_OVR_CONSEC 0 0 11
def wWin : State := setLat wTick fun l => { l with begun := true, known := false, winTicks := 63 }
def wHoldLeft : State := { w0 with lat := { w0.lat with holdLeft := 1 } }
def wRate : State := w0.setFlag .LAT_CTRL_PEND 0 0 true
def wCmp : State := (w0.setFlag .REB_CMODE_TRIP 0 0 true).setFld .REB_CMODE_MODE 0 0 3
def wReset : State := { w0 with resetReq := some (⟨16, 1, 1⟩, .warm) }
def wTape0 : State := w0.setFlag .SER_TAPE_ENABLE 0 0 true
def wTape : State := (wTape0.setFld .SER_TAPE_DET 0 0 1)
def wTapeFull : State := { wTape with tape := { wTape.tape with buf := List.replicate 512 (0x41 : Byte) } }
def wTapeB : State := { w0 with tape := { w0.tape with buf := [0x25, 0x0A], want := true, item := some ⟨16, 1, 1⟩ } }
def wTapeBase : State := { w0 with tape := { w0.tape with buf := [0x4D, 0x35, 0x0A], want := true, started := true, item := some ⟨16, 1, 1⟩ }, jrn := { w0.jrn with items := [wTapeItem] } }
def wTapeProg : State := { wTapeBase with tape := { wTapeBase.tape with toProg := some 1 }, progs := [prog1] }
def modal0 : Modal := w0.freshModal 0
def reader1 : Reader := ⟨⟨16, 1, 1⟩, .run, 1, 1, modal0, false, 0, 0, none, true⟩
def reader4 : Reader := { reader1 with kind := .tape, begun := true }
def wTapeStn : State := { wTapeBase with tape := { wTapeBase.tape with toStn := some 0 } }.setMot 0 fun m => { m with reader := some reader4 }
def wReader : State := w0.setMot 0 fun m => { m with reader := some reader1 }
def wProgRun : State := { wReader with progs := [prog2] }
def ext1 : Ext := ⟨1, "M5", 0, true, 0, none⟩
def reader2 : Reader := { reader1 with ext := some ext1 }
def wExt : State := ((w0.setMot 0 fun m => { m with reader := some reader2 }).setFld .MOT_PGM_XCORE 0 0 0)
def wExtSub : State := (((wExt.setFld .MOT_XWSN_WSN 0 0 1).memPut (w0.xslot 0 + 256) [(2 : Byte), 0x4D, 0x30]))
def reader3 : Reader := reader2
def reader5 : Reader := { reader4 with ended := true, ext := some ext1 }
def wExtTape : State := ((w0.setMot 0 fun m => { m with reader := some reader5 }).setFld .MOT_PGM_XCORE 0 0 0)
def wExtLate : State := { (wExt.setFld .MOT_PGM_XTMO 0 0 1) with clk := { w0.clk with now := msCounts } }
def hand1 : Hand := ⟨false, 5, true, .strobed, 0, false, false⟩
def wMfinLate : State := { ((w0.setMot 0 fun m => { m with hand := some hand1 }).setFld .MOT_MFT_MFT 0 0 1) with clk := { w0.clk with now := 100 * msCounts } }
def brake1 : Brake := ⟨false, [], none, false, 1, true⟩
def block1 : MBlock := ⟨⟨16, 1, 1⟩, false, 1, 1, 0, 0, false, false, false, false, false, 1, 0, 0, [], none, none, none, none, none, [], 0⟩
def wBrake : State := (w0.setStn 0 stHolding).setMot 0 fun m => { m with brake := some brake1, win := [block1] }
def ripe : State → State := fun s => { s with clk := { s.clk with now := 100000000000 } }
def wDelay : State := ripe (w0.setMot 0 fun m => { m with delay := true })
def wDelayR : State := ripe (w0.setMot 0 fun m => { m with delay := true, resume := some ⟨⟨16, 1, 1⟩, .drives⟩ })
def app1 : Approach := ⟨Vector.replicate 6 0, Vector.replicate 6 0, 0, 1, 0⟩
def wAppr : State := (w0.setStn 0 stApproach).setMot 0 fun m => { m with resume := some ⟨⟨16, 1, 1⟩, .approach⟩, win := [block1], app := some app1 }
def block5 : MBlock := { block1 with motion := 5 }
def wDwell : State := (w0.setStn 0 stRun).setMot 0 fun m => { m with win := [block5], stage := .moving }
def wSpin : State := w0.setMot 0 fun m => { m with resume := some ⟨⟨16, 1, 1⟩, .spindle⟩ }
def wFe : State := ((wAxis.setAxis 0 fun x => { x with feTicks := 2 }).setFlag .MOT_STATE_DRVON 0 0 true)
def wEnc0 : State := w0.setFld .ENC_CFG_POL 0 0 0
def wEnc : State := w0.setFld .ENC_CFG_POL 0 0 1
def wZ : State := (w0.setFlag .ENC_CFG_ZEN 0 0 true).setFlag .ENC_CFG_ZARM 0 0 true
def wSat : State := wAxis.setAxis 0 fun x => { x with satTicks := 64, amplTicks := 4, tachTicks := 16 }
def wLoss : State := (((wAxis.setStn 0 stStopping).setMot 0 fun m => { m with vel := 1 }).setFlag .SRV_STAT_LOSS 0 0 true)
def decReq1 : DecReq := ⟨0, 2, 0, false, false, false, false, true, 50, 0, 0, 0, 5, 0, 0, 0, false⟩
def wDecWin : State := { w0 with dec := { w0.dec with win := [decReq1] } }
def wDecOut : State := { w0 with dec := { w0.dec with busy := some decReq1, out := some ⟨0, 5, 0⟩ } }
def wJob : State := { w0 with calcu := { w0.calcu with job := some ⟨6, 0, 0, .func⟩ } }
def wCalc : State := ((w0.setFlag .PNL_CALC_ON 0 0 true).setFlag .PNL_CKEY_VALID 0 0 true).setFld .PNL_CKEY_FUNC 0 0 5
def wCalcOff : State := ripe { ((w0.setFlag .PNL_CALC_OFFEN 0 0 true).setFld .PNL_CALC_AUTOOFF 0 0 1) with phase := .keepOnly }
def wSpare : State := ((w0.setFld .SYS_CASN_STN 0 0 4).setFld .SYS_CFG_SPARE 0 0 1)
def wTake : State := { w0 with take := some ⟨0, 1, 0, false⟩, clk := { w0.clk with tick := 8 * w0.divisor } }
def wSupt : State := { ((w0.setCoreState 0 1).setFld .SYS_CCTL_SUPT 0 0 1) with clk := { w0.clk with tick := w0.divisor } }
def evRec3 : EvRec := ⟨0, 1, 0, 1, 0, 0, false, false, 0, 0, 1, 0, 1⟩
def wInt : State := { ((((w0.setCoreState 0 1).setFld .SYS_CASN_STN 0 0 4).setFld .EVT_IMASK_MASK 0 0 8).setFld .SYS_CSTAT_ILV 0 0 7).setCore 0 (fun k => k.setFb flIE true) with ev := { w0.ev with q := w0.ev.q.set 3 [evRec3] } }
def wWl : State := { (w0.setCore 0 fun k => { k with wait := .tick, wl := [(7, 0, 0)] }) with clk := { w0.clk with tick := 1 } }
def wChk : State := w0.setCore 0 fun k => { k with wait := .chkpt (State.reset.checkpointOf 0) }
def wDpop : State := { (w0.setCore 0 fun k => { k with wait := .dpop 0 }) with dec := { w0.dec with mbx := w0.dec.mbx.set 0 [⟨0, 0, 0⟩] } }
def wReqA : State := { (w0.setCore 0 fun k => { k with wait := .req }) with answers := [(.core 0, .ok (.typed 1) false)] }
def wStall : State := w0.setCoreState 0 3
def load0 : RegionLoad := ⟨⟨16, 1, 1⟩, 1, [(0, offCfg)], none, .writing 0 false, [], [], [], [], 0⟩
def wLoadW : State := { w0 with loads := [load0] }
def load1 : RegionLoad := { load0 with stage := .writing 0 true }
def wLoadW2 : State := { w0 with loads := [load1] }
def load2 : RegionLoad := { load0 with stage := .due }
def cfgT : RegionCfg := { offCfg with cells := [⟨3, 0, 0, true, 1, 0, 0⟩] }
def load4 : RegionLoad := { load2 with cfg := [(0, cfgT)] }
def wLoadT : State := { (w0.setStn 0 stRun) with loads := [load4] }
def wLoadD : State := { w0 with loads := [load2] }
def wCal : State := ripe (w0.setFld .ADC_PSTAT_CALIP 0 0 1)
def wRunCh : State := ripe ((w0.setFld .ADC_PCFG_STN 0 0 4).setFld .FCH_CFG_MODE 0 0 1)
def wNoDt : State := w0.setFld .ADC_CALCFG_CALDT 0 0 0
def wDt : State := w0.setFld .ADC_CALCFG_CALDT 0 0 5
def wRef : State := ripe (w0.setFld .ADC_REF_POL 0 0 1)
def wPend : State := (w0.setFlag .FCH_TAPS_PEND 0 0 true).setFld .FCH_CFG_MODE 0 0 2
def wSf : State := ripe { ((w0.setFld .ADC_PCFG_STN 0 0 4).setFld .FCH_CFG_MODE 0 0 3) with conv := { w0.conv with chan := w0.conv.chan.set 0 { (w0.conv.chan[0]) with sfGood := true } } }
def wSpan : State := w0.setDac 0 fun d => { d with spanStep := 2 }
def wDgh : State := { (w0.setFlag .DAC_STAT_DGH 0 0 true) with clk := { w0.clk with now := deglitchCounts } }
def wLatch : State := ripe (w0.setFlag .DAC_STAT_LATCHOFF 0 0 true)
def wLatch7 : State := wLatch.setFld .DAC_STAT_RETRY 0 0 7
def wRamp : State := (w0.setFlag .EXC_STAT_RAMPING 0 0 true).setExc 0 fun x => { x with key := some ⟨16, 1, 1⟩, amp := w0.excGoal 0, inc := w0.fld .EXC_INC_INC 0 * excIncUnit, phase := w0.fld .EXC_PHASE_PHASE 0 * excPhUnit }
def wTpend : State := (w0.setFlag .EXC_STAT_TPEND 0 0 true).setExc 0 fun x => { x with acc := 2 ^ 32 }
def wExcOff : State := { (w0.setFlag .EXC_STAT_SHORT 0 0 true) with clk := { w0.clk with now := 1000 * msCounts } }
def wScan : State := (w0.setFld .PNL_SCAN_NCOL 0 0 1).setFld .PNL_SCAN_NROW 0 0 1
def wScanDown : State := wScan.setPanel fun p => { p with down := [0] }
def hold1 : KeyHold := ⟨0, 0, 0, false⟩
def wKeyDown : State := ripe ((wScanDown.setFld .PNL_KRPT_RPT 0 0 1).setPanel fun p => { p with holds := [hold1] })
def act1 : PanelAct := ⟨0, 0, 0⟩
def wActs : State := { (w0.setPanel fun p => { p with acts := [act1] }) with clk := { w0.clk with now := 24576000 } }
def chq1 : ChrByte := ⟨0x41, false, some ⟨16, 1, 1⟩, true⟩
def wChq : State := ripe ((w0.setFld .PNL_CHCFG_CHMODE 0 0 1).setPanel fun p => { p with chq := [chq1] })
def chq0 : ChrByte := ⟨0x41, false, none, false⟩
def wChq0 : State := ripe ((w0.setFld .PNL_CHCFG_CHMODE 0 0 1).setPanel fun p => { p with chq := [chq0] })
def wChq2 : State := ripe ((w0.setFld .PNL_CHCFG_CHMODE 0 0 2).setPanel fun p => { p with chq := [chq0] })
def wCombo : State := ((wScan.setFld .PNL_SCAN_NROW 0 0 4).setFld .PNL_COMBO_KB 0 0 1).setFld .PNL_COMBO_KA 0 0 0
def wCombo0 : State := wCombo.setFlag .PNL_COMBO_EN 0 0 true
def wCombo1 : State := ((wCombo.setFld .PNL_COMBO_KB 1 0 1).setFld .PNL_COMBO_KA 1 0 0).setFlag .PNL_COMBO_EN 1 0 true
def wOffer : State := ((w0.setFld .PNL_KACT_STN 0 0 0).setFld .PNL_KACT_ACT 0 0 1).setPanel fun p => { p with acts := [act1] }
def wUv : State := w0.setFld .FIO_GSTAT_STATE 0 0 1
def wG : State := w0.setFld .FIO_GSTAT_STATE 0 0 0
def wFioIn : State := (wG.setFld .FIO_CFG_FN 0 0 1).setFld .FIO_CFG_STN 0 0 4
def wOut5 : State := (wG.setFld .FIO_CFG_FN 0 0 5).setFld .FIO_CFG_STN 0 0 4
def wCond : State := wOut5.setFld .FIO_STAT_COND 0 0 1
def wCondOn : State := (wG.setFld .FIO_CFG_FN 0 0 4).setFld .FIO_CFG_STN 0 0 4
def wRetry : State := { (((wOut5.setFld .FIO_CFG_POL 0 0 2).setFld .FIO_CFG_ENAX 0 0 15).setFlag .FIO_STAT_LATCHOFF 0 0 true) with fio := { w0.fio with foutDev := [(0, true)] }, clk := { w0.clk with tick := 1000 * msCounts } }
def wRetrying : State := ripe (wOut5.setPin 0 fun p => { p with retrying := true })
def wBurst : State := { ((w0.setFlag .FIO_ACFG_OWEN 0 0 true).setFld .FIO_ACFG_POL 0 0 1) with clk := { w0.clk with tick := 1000000 * msCounts } }
def wAinC : State := (w0.setFld .FIO_ASTAT_COND 0 0 2).setFld .FIO_ACFG_POL 0 0 1
def wLink : State := w0.setFld .PWR_DOM_ON 0 0 64
def wUp : State := wLink.setFld .OLK_PSTAT_STATE 0 0 2
def wUpR : State := wUp.setFld .OLK_PCTL_POL 0 0 1
def wUpA : State := wUp.setFld .OLK_PCTL_POL 0 0 2
def fr0 : LinkFrame := ⟨1, 0, typTopo, 7, false, false, 5, 9, []⟩
def wTopo : State := w0.setLnk fun l => { l with rx := [⟨fr0, none⟩] }
def wUpSeen : State := wUp.setLPort 0 fun q => { q with seen := some 0 }
def frameBytes1 : List Byte := [(0x01 : Byte), 0x01, 0x01, 0x07, 0x01, 0x00, 0x05, 0x00, 0x00, 0x00, 0x00, 0x00, 0x09, 0x00, 0xC3, 0x20, 0xE6, 0x8A, 0x69, 0xC0]
def frame1 : LinkFrame := ⟨1, 1, 1, 7, false, false, 5, 9, []⟩
def wUpSeen1 : State := wUp.setLPort 0 fun q => { q with seen := some 1 }
def wPause : State := wUp.setLPort 0 fun q => { q with pauseQ := 5 }
def wCong : State := { (wUp.setLPort 0 fun q => { q with pausing := true }) with ringChg := [⟨13, 0, 0, 0⟩] }
def wUpS : State := wUp.setFld .OLK_STAT_MASTER 0 0 1
def wSynced : State := w0.setFlag .TC_STATUS_SYNCED 0 0 true
def frM : LinkFrame := { fr0 with typ := typMirror, src := 1, payload := List.replicate 96 (0 : Byte) }
def wMirror : State := { ((w0.setFlag .OLK_MIRROR_INEN 0 0 true).setFld .OLK_MIRROR_IN 0 0 1) with lnk := { w0.lnk with rx := [⟨frM, none⟩] } }
def frP : LinkFrame := ⟨1, 1, typLine, 7, false, true, 5, 9, []⟩
def wRxLine : State := { w0 with lnk := { w0.lnk with rx := [⟨{ frP with payload := textBytes "AUTH?" }, some fullAuth⟩] } }
def txn1 : Txn := ⟨some ⟨16, 1, 1⟩, .peer 0 1, 1, 5, 9, "HOLD", fullAuth, .sent, 0⟩
def wRxAns : State := { w0 with lnk := { w0.lnk with rx := [⟨{ frP with typ := typAnswer }, some fullAuth⟩], txns := [txn1] } }
def wRxRes : State := { w0 with lnk := { w0.lnk with rx := [⟨{ frP with typ := typResult, payload := [(2 : Byte), 0, 0, 0] }, some fullAuth⟩], txns := [txn1] } }
def wRxSq0 : State := { w0 with lnk := { w0.lnk with rx := [⟨{ frP with typ := typStatusq }, some fullAuth⟩] } }
def itemSq : Item := ⟨⟨17, (w0.source 17).ser, 5⟩, .done, 0, 0, 4, 0, 0, none, 0, none, none, 0⟩
def wRxSq : State := { wRxSq0 with jrn := { w0.jrn with items := [itemSq] } }
def txnD1 : Txn := { txn1 with st := .inDoubt 1 }
def wRxSa : State := { w0 with lnk := { w0.lnk with rx := [⟨{ frP with typ := typStatusa, payload := [(4 : Byte), 0, 0, 0] }, some fullAuth⟩], txns := [txnD1] } }
def wRxPrep : State := { w0 with lnk := { w0.lnk with rx := [⟨{ frP with typ := typPrepare, q := false, payload := (5 : Byte) :: (List.replicate 31 (0 : Byte) ++ textBytes "XYZ") }, some fullAuth⟩] } }
def wRxPrep2 : State := { w0 with lnk := { w0.lnk with rx := [⟨{ frP with typ := typPrepare, q := false, payload := (5 : Byte) :: (List.replicate 31 (0 : Byte) ++ textBytes "HOLD") }, some fullAuth⟩] } }
def leg1 : McLeg := ⟨1, 5, none, false, none, false⟩
def mc0 : Multicast := ⟨⟨16, 1, 1⟩, 9, 2, "HOLD", fullAuth, [leg1], .open_, 0, false, 0⟩
def wRxVote : State := { w0 with lnk := { w0.lnk with rx := [⟨{ frP with typ := typVote, payload := [(1 : Byte), 0, 0, 0] }, some fullAuth⟩], mcs := [mc0] } }
def mcv : Multicast := { mc0 with legs := [{ leg1 with vote := some (1, 0) }] }
def wRxCommit : State := { w0 with lnk := { w0.lnk with rx := [⟨{ frP with typ := typCommit, payload := List.replicate 8 (0 : Byte) }, some fullAuth⟩] } }
def wRxAbort : State := { w0 with lnk := { w0.lnk with rx := [⟨{ frP with typ := typAbort }, some fullAuth⟩] } }
def wRxHello : State := { w0 with lnk := { w0.lnk with rx := [⟨{ frP with typ := typHello, payload := [(1 : Byte), 0, 255, 255, 255, 255] }, some fullAuth⟩] } }
def wRxHello2 : State := { w0 with lnk := { w0.lnk with rx := [⟨{ frP with typ := typHello, payload := [(7 : Byte), 0, 255, 255, 255, 255] }, some fullAuth⟩] } }
def wRxSeries : State := { w0 with lnk := { w0.lnk with rx := [⟨{ frP with typ := typSeries, payload := [(7 : Byte), 0] }, some fullAuth⟩] } }
def txnQ : Txn := { txn1 with txn := 1, st := .query }
def wTxnQ : State := ripe (w0.setLnk fun l => { l with txns := [txnQ] })
def txnS : Txn := { txn1 with txn := 1 }
def wTxnS : State := ripe (w0.setLnk fun l => { l with txns := [txnS] })
def txnD : Txn := { txn1 with txn := 1, st := .inDoubt 1 }
def wTxnD : State := ripe (w0.setLnk fun l => { l with txns := [txnD] })
def txnD8 : Txn := { txn1 with txn := 1, st := .inDoubt 8 }
def wTxnD8 : State := ripe (w0.setLnk fun l => { l with txns := [txnD8] })
def txnB : Txn := { txn1 with txn := 1, st := .busy }
def wTxnB : State := ripe (w0.setLnk fun l => { l with txns := [txnB] })
def mc1 : Multicast := { mc0 with txn := 1 }
def wMc : State := ripe (w0.setLnk fun l => { l with mcs := [mc1] })
def flop1 : FlashOp := ⟨.erase, 0, [], some ⟨16, 1, 1⟩, true⟩
def wFlash : State := w0.setFlash fun f => { f with ops := [flop1] }
def flop2 : FlashOp := ⟨.erase, 0, [], none, true⟩
def wFlash2 : State := w0.setFlash fun f => { f with ops := [flop2] }
def wIdleFl : State := ripe w0
def wKeep : State := { w0 with phase := .keepOnly }
def wOff : State := { w0 with phase := .off }
def wInReset : State := { w0 with phase := .inReset }
def wWdt : State := setPwr w0 fun p => { p with wdt := some 0 }
def wClosing : State := setPwr { w0 with phase := .closing } fun p => { p with closing := some (.warm, 5) }
def wWstop : State := ripe { (w0.setStn 0 stRun) with phase := .closing }
def wWait : State := { w0 with phase := .waitRef }
def wLoad : State := { w0 with phase := .loading }
def wLoadX : State := setBoot (wLoad.setFlag .CFG_STAT_DEVALLOW 0 0 true) fun b => { b with cands := [⟨0, 2, false⟩] }
def stream48 : List Byte := [(0x55 : Byte), 0x4D, 0x59, 0x4D, 0x30, 0x00, 0x00, 0x00, 0x00, 0x00, 0x00, 0x00, 0x00, 0x00, 0x00, 0x00, 0x01, 0x00, 0x00, 0x00, 0x00, 0x00, 0x00, 0x00, 0x00, 0x00, 0x00, 0x00, 0x00, 0x00, 0x00, 0x00, 0x9C, 0x3E, 0x8E, 0xBF, 0x00, 0x00, 0x00, 0x00, 0x00, 0x00, 0x00, 0x00, 0x00, 0x00, 0x00, 0x00]
def img48 : Image := ⟨true, 1, 0, 2, 1, 0, 0, 0, [], [], [], none, [], []⟩
def own0 : Vector Nat 12 := (Vector.replicate 12 7).set 0 0
def wLoadC : State := setBoot wLoad fun b => { b with cands := [⟨0, 0, false⟩, ⟨1, 1, false⟩] }
def img0 : Image := ⟨true, 1, 0, 2, 1, 0, 0, 1, [], [], [], none, [], []⟩
def wLoadD2 : State := setBoot wLoad fun b => { b with cand := some (⟨0, 0, false⟩, img0), tested := true, calibrated := true }
def wDone : State := setBoot { w0 with phase := .waiting } fun b => { b with cand := some (⟨0, 0, false⟩, img0) }
def wSettle : State := setBoot w0 fun b => { b with settle := some 0, run := some img0 }
def wWaiting : State := ripe { w0 with phase := .waiting }
def wReplay : State := { w0 with phase := .replaying }
def wCons : State := { w0 with phase := .console }
def wConsX : State := setBoot (wCons.setFlag .CFG_STAT_DEVALLOW 0 0 true) fun b => { b with buf := (List.range 48).filterMap fun i => let v := stream48.getD i 0; if v = 0 then none else some (i, v) }
def wWake : State := w0.setFld .PWR_IDLE_NOW 3 0 3
def wVin : State := w0.setFlag .PWR_STAT_VINOK 0 0 true
def wSkim : State := { (w0.setFlag .OBS_SKCFG_RUN 0 0 true) with obs := { w0.obs with skNt := w0.obs.skNt.set 0 (some 0) } }
def wFrz : State := w0.setFlag .OBS_FRZ_PINEN 0 0 true
def wCoreV : State := wCore.setFld .SYS_CSTAT_ILV 0 0 3
def wCore7 : State := wCore.setFld .SYS_CSTAT_ILV 0 0 7
def wCnt : State := wCore.setCore 0 fun k => { k with cnt := 3 }
def wCntI : State := (wCore7.setCore 0 fun k => { k.setFb flIE true with cnt := 3 })
def wCoreMbx : State := { (wCore.setFld .DEC_OUT_OUT 4 0 1) with dec := { w0.dec with mbx := w0.dec.mbx.set 0 [⟨0, 0, 0⟩] } }
def noOwn : Vector Nat 12 := Vector.replicate 12 0

/-! One witness for each group of completion statements: for every clause with hypotheses, a state that meets them. -/

theorem witness_generalWorkCompletes :
  (∃ (s : State) (o : Origin) (x : Owner) (key : Nat), let w := workAuthset o x key s
 (s.offers o w)) ∧
  (∃ (s : State) (o : Origin) (d : DateTime), let w := workTimeRtc o d s
 (s.offers o w)) ∧
  (∃ (s : State) (o : Origin) (x : Nat) (src ser : Option Nat) (m : Item), let cmd : Instr := .cancel o x src ser
    let w := workCancel o x src ser s
    let t := s.taken o cmd w.stn
 (s.offers o w) ∧ (t.findItem (s.namedKey o x src ser) = some m) ∧ (m.st = .pending ∨ m.st = .held)) ∧
  (∃ (s : State) (o : Origin) (x : Nat) (src ser : Option Nat) (m : Item) (c : Instr) (v : Work), let cmd : Instr := .release o x src ser
    let w := workRelease o x src ser s
    let t := s.taken o cmd w.stn
 (s.offers o w) ∧ (t.releaseErr (s.namedKey o x src ser) = none) ∧ (t.findItem (s.namedKey o x src ser) = some m) ∧ (m.cmd = some c) ∧ (State.workN s.jrn.items.length t c = some v)) ∧
  (∃ (s : State) (o : Origin) (x : PolicyTarget) (i j : Nat) (m : PolicyMode), let w := workPolicy o x i j m s
 (s.offers o w)) ∧
  (∃ (s : State) (o : Origin), let w := workReset o .warm s
 (s.offers o w)) ∧
  (∃ (s : State) (o : Origin), let w := workReset o .cold s
 (s.offers o w)) ∧
  (∃ (s : State) (o : Origin) (r : Reg) (i j : Nat) (f : Fld) (v : Int) (x : RegWr), let cmd : Instr := .reg o (.field f i j) v
    let w := workReg o (.field f i j) v s
    let t := s.taken o cmd w.stn
 (s.offers o w) ∧ (regPl (.field f i j) = .reg r i j (some f)) ∧ (lineWrite r i j (some f) v = .ok x) ∧ (t.wrErr x = none) ∧ (r ≠ .DEC_MBX) ∧ ([Reg.DAC_CFG, .EXC_INC, .EXC_AMP, .EXC_PHASE].contains r = false)) ∧
  (∃ (s : State) (o : Origin) (r : Reg) (i j : Nat) (f : Fld) (v : Int) (x : RegWr) (u : State), let cmd : Instr := .reg o (.field f i j) v
    let w := workReg o (.field f i j) v s
    let t := s.taken o cmd w.stn
 (s.offers o w) ∧ (regPl (.field f i j) = .reg r i j (some f)) ∧ (lineWrite r i j (some f) v = .ok x) ∧ (t.wrErr x = none) ∧ (r ≠ .DEC_MBX) ∧ (t.regBegun ((t.wrApply (.line o) x).serOwn o x (s.candKey o)) r i (s.candKey o) = .running u)) ∧
  (∃ (s : State) (o : Origin) (r : Reg) (i j : Nat) (f : Fld) (v : Int) (x : RegWr) (u : State), let cmd : Instr := .reg o (.field f i j) v
    let w := workReg o (.field f i j) v s
    let t := s.taken o cmd w.stn
 (s.offers o w) ∧ (regPl (.field f i j) = .reg r i j (some f)) ∧ (lineWrite r i j (some f) v = .ok x) ∧ (t.wrErr x = none) ∧ (r ≠ .DEC_MBX) ∧ (t.regBegun ((t.wrApply (.line o) x).serOwn o x (s.candKey o)) r i (s.candKey o) = .done u)) ∧
  (∃ (s : State) (o : Origin) (r : Reg) (i j : Nat) (f : Fld) (v : Int) (x : RegWr), let cmd : Instr := .reg o (.field f i j) v
    let w := workReg o (.field f i j) v s
    let t := s.taken o cmd w.stn
 (s.offers o w) ∧ (regPl (.field f i j) = .reg r i j (some f)) ∧ (lineWrite r i j (some f) v = .ok x) ∧ (t.wrErr x = none) ∧ (r = .DEC_MBX) ∧ (i < 6)) ∧
  (∃ (s : State) (o : Origin) (a : Nat) (y : RegTarget) (v : Int), let w := workReg o y v s
 (s.offers o w) ∧ (regPl y = .hole a) ∧ ((wordOf v).isSome = true)) ∧
  (∃ (s : State) (o : Origin) (r : Fin 16) (n c : Nat), let cmd : Instr := .ringDepth o r n
    let w := workRingDepth o r n s
    let t := s.taken o cmd w.stn
 (s.offers o w) ∧ (depthCode n = some c) ∧ (t.ringDepthErr r c (t.fld .RING_CFG_BANK r) = none)) ∧
  (∃ (s : State) (o : Origin) (c : EvClass) (seq : Nat), let w := workEventAck o c seq s
 (s.offers o w)) :=
  ⟨⟨w0, (.peer 0 1), .board, 7, by first | decide | decide +kernel⟩,
   ⟨w0, (.peer 0 1), ⟨2026, 1, 2, 3, 4, 5⟩, by first | decide | decide +kernel⟩,
   ⟨w1, (.peer 0 2), 1, none, none, wHeldItem, by first | decide | decide +kernel⟩,
   ⟨w1, (.peer 0 2), 1, none, none, wHeldItem, (.timeRtc (.peer 0 1) ⟨2026, 1, 2, 3, 4, 5⟩), _, by first | decide | rfl | decide +kernel, by first | decide | rfl | decide +kernel, rfl, rfl, rfl⟩,
   ⟨w0, (.peer 0 1), .fio, 0, 3, .adapt, by first | decide | decide +kernel⟩,
   ⟨w0, (.peer 0 1), by first | decide | decide +kernel⟩,
   ⟨w0, (.peer 0 1), by first | decide | decide +kernel⟩,
   ⟨w0, (.peer 0 1), .PWR_HOLDC, 0, 0, .PWR_HOLDC_HOLDMIN, 5, (fieldWrites .PWR_HOLDC 0 0 [(.PWR_HOLDC_HOLDMIN, 5)]), by first | decide | rfl | decide +kernel, by first | decide | rfl | decide +kernel, rfl, by first | decide | rfl | decide +kernel, by first | decide | rfl | decide +kernel, by first | decide | rfl | decide +kernel⟩,
   ⟨w0, (.peer 0 1), .DAC_CFG, 0, 0, .DAC_CFG_SPAN, 1, (fieldWrites .DAC_CFG 0 0 [(.DAC_CFG_SPAN, 1)]), _, by first | decide | rfl | decide +kernel, by first | decide | rfl | decide +kernel, rfl, by first | decide | rfl | decide +kernel, by first | decide | rfl | decide +kernel, by first | decide | rfl | decide +kernel⟩,
   ⟨w0, (.peer 0 1), .DAC_CFG, 0, 0, .DAC_CFG_STN, 4, (fieldWrites .DAC_CFG 0 0 [(.DAC_CFG_STN, 4)]), _, by first | decide | rfl | decide +kernel, by first | decide | rfl | decide +kernel, rfl, by first | decide | rfl | decide +kernel, by first | decide | rfl | decide +kernel, by first | decide | rfl | decide +kernel⟩,
   ⟨w0, (.peer 0 1), .DEC_MBX, 0, 5, .DEC_MBX_POP, 1, _, by first | decide | rfl | decide +kernel, by first | decide | rfl | decide +kernel, rfl, by first | decide | rfl | decide +kernel, by first | decide | rfl | decide +kernel, by first | decide | rfl | decide +kernel⟩,
   ⟨w0, (.peer 0 1), _, (.addr 0x40000FFC), 0, by first | decide | rfl | decide +kernel, by first | decide | rfl | decide +kernel, by first | decide | rfl | decide +kernel⟩,
   ⟨w0, (.peer 0 1), 0, 128, 3, by first | decide | decide +kernel⟩,
   ⟨w0, (.peer 0 1), .fin, 0, by first | decide | decide +kernel⟩⟩

theorem witness_programWorkCompletes :
  (∃ (s : State) (o : Origin) (p : Nat) (title : String), let cmd : Instr := .progNew o p title
    let w := workProgNew o p title s
    let t := s.taken o cmd w.stn
 (s.offers o w) ∧ (t.progNewErr p = none)) ∧
  (∃ (s : State) (o : Origin) (p : Nat) (block : String), let cmd : Instr := .progAdd o p block
    let w := workProgAdd o p block s
    let t := s.taken o cmd w.stn
 (s.offers o w) ∧ (t.progAddRunErr p block (s.candKey o) = none)) ∧
  (∃ (s : State) (o : Origin) (p : Nat), let cmd : Instr := .progEnd o p
    let w := workProgEnd o p s
    let t := s.taken o cmd w.stn
 (s.offers o w) ∧ (t.progEndErr p = none)) ∧
  (∃ (s : State) (o : Origin) (p : Nat), let cmd : Instr := .progDel o p
    let w := workProgDel o p s
    let t := s.taken o cmd w.stn
 (s.offers o w) ∧ (t.progDelErr p = none)) ∧
  (∃ (s : State) (o : Origin) (p : Nat) (k : Option (Fin 4)) (frm : Nat), let w := workRun o p k frm s
 (s.offers o w)) ∧
  (∃ (s : State) (o : Origin) (text : String) (k : Option (Fin 4)) (x : Conv) (b : MBlock), let cmd : Instr := .mdi o text k
    let w := workMdi o text k s
    let t := s.taken o cmd w.stn
 (s.offers o w) ∧ (t.skipped (s.argStn o k) text = false) ∧ (t.mdiConv (s.argStn o k) (t.mdiModal (s.argStn o k)) (s.candKey o) 0 ((t.mot[s.argStn o k]).mdiCount + 1) text = .ok x) ∧ (x.block = some b) ∧ (State.textExtends ((((t.setMot (s.argStn o k) fun m => { m with mdiModal := x.modal, mdiCount := (t.mot[s.argStn o k]).mdiCount + 1 }).applySetting
 (s.argStn o k) x.set).modItem (s.candKey o) fun i => { i with blk := some (0, (t.mot[s.argStn o k]).mdiCount + 1, 0) })) (s.argStn o k) text = false)) ∧
  (∃ (s : State) (o : Origin) (p : Nat), let cmd : Instr := .tapeRead o p
    let w := workTapeRead o p s
    let t := s.taken o cmd w.stn
 (s.offers o w) ∧ (t.tapeReadErr o p = none)) ∧
  (∃ (s : State) (o : Origin) (k : Option (Fin 4)), let cmd : Instr := .tapeRun o k
    let w := workTapeRun o k s
    let t := s.taken o cmd w.stn
 (s.offers o w) ∧ ((!t.tapeResumes o (some (s.argStn o k)) none && t.tapeBusy) = false)) ∧
  (∃ (s : State) (o : Origin), let cmd : Instr := .tapeStop o
    let w := workTapeStop o s
    let t := s.taken o cmd w.stn
 (s.offers o w) ∧ (t.tapeBusy = true)) ∧
  (∃ (s : State) (o : Origin), let cmd : Instr := .tapeStop o
    let w := workTapeStop o s
    let t := s.taken o cmd w.stn
 (s.offers o w) ∧ (t.tapeBusy = false)) ∧
  (∃ (s : State) (o : Origin) (k : Option (Fin 4)) (h : Hand), let cmd : Instr := .mfin o k
    let w := workMfin o k s
    let t := s.taken o cmd w.stn
 (s.offers o w) ∧ ((t.mot[s.argStn o k]).strobePending = some h)) :=
  ⟨⟨w0, (.peer 0 1), 1, "", by first | decide | decide +kernel⟩,
   ⟨wProg, (.peer 0 1), 1, "", by first | decide | decide +kernel⟩,
   ⟨wProg, (.peer 0 1), 1, by first | decide | decide +kernel⟩,
   ⟨wProg2, (.peer 0 1), 1, by first | decide | decide +kernel⟩,
   ⟨wRun, (.peer 0 1), 1, none, 1, by first | decide | decide +kernel⟩,
   ⟨wMdi, (.peer 0 1), "M5", none, _, _, by first | decide | rfl | decide +kernel, by first | decide | rfl | decide +kernel, rfl, rfl, by first | decide | rfl | decide +kernel⟩,
   ⟨w0, (.peer 0 1), 1, by first | decide | decide +kernel⟩,
   ⟨wRun, (.peer 0 1), none, by first | decide | decide +kernel⟩,
   ⟨wTapeBusy, (.peer 0 2), by first | decide | decide +kernel⟩,
   ⟨w0, (.peer 0 1), by first | decide | decide +kernel⟩,
   ⟨wMfin, (.peer 0 1), none, wHand, by first | decide | decide +kernel⟩⟩

theorem witness_motionWorkCompletes :
  (∃ (s : State) (o : Origin) (k : Option (Fin 4)), let cmd : Instr := .hold o k none
    let w := workHold o k none s
    let t := s.taken o cmd w.stn
 (s.offers o w) ∧ ((t.stnState (s.argStn o k) = stIdle ∨ t.stnState (s.argStn o k) = stHeld ∨ t.stnState (s.argStn o k) = stTripped) ∧ (t.mot[s.argStn o k]).reqs = [])) ∧
  (∃ (s : State) (o : Origin) (k : Option (Fin 4)), let cmd : Instr := .hold o k none
    let w := workHold o k none s
    let t := s.taken o cmd w.stn
 (s.offers o w) ∧ (¬ ((t.stnState (s.argStn o k) = stIdle ∨ t.stnState (s.argStn o k) = stHeld ∨ t.stnState (s.argStn o k) = stTripped) ∧ (t.mot[s.argStn o k]).reqs = []))) ∧
  (∃ (s : State) (o : Origin) (k : Option (Fin 4)) (d : Decimal) (r : Nat), let cmd : Instr := .hold o k (some d)
    let w := workHold o k (some d) s
    let t := s.taken o cmd w.stn
 (s.offers o w) ∧ (holdMs d = some r) ∧ ((t.stnState (s.argStn o k) = stIdle ∨ t.stnState (s.argStn o k) = stHeld ∨ t.stnState (s.argStn o k) = stTripped) ∧ (t.mot[s.argStn o k]).reqs = [])) ∧
  (∃ (s : State) (o : Origin) (k : Option (Fin 4)) (d : Decimal) (r : Nat), let cmd : Instr := .hold o k (some d)
    let w := workHold o k (some d) s
    let t := s.taken o cmd w.stn
 (s.offers o w) ∧ (holdMs d = some r) ∧ (¬ ((t.stnState (s.argStn o k) = stIdle ∨ t.stnState (s.argStn o k) = stHeld ∨ t.stnState (s.argStn o k) = stTripped) ∧ (t.mot[s.argStn o k]).reqs = []))) ∧
  (∃ (s : State) (o : Origin) (k : Option (Fin 4)), let cmd : Instr := .stop o k
    let w := workStop o k s
    let t := s.taken o cmd w.stn
 (s.offers o w) ∧ ((t.stnState (s.argStn o k) = stIdle ∨ t.stnState (s.argStn o k) = stHeld ∨ t.stnState (s.argStn o k) = stTripped) ∧ (t.mot[s.argStn o k]).reqs = [])) ∧
  (∃ (s : State) (o : Origin) (k : Option (Fin 4)), let cmd : Instr := .stop o k
    let w := workStop o k s
    let t := s.taken o cmd w.stn
 (s.offers o w) ∧ (¬ ((t.stnState (s.argStn o k) = stIdle ∨ t.stnState (s.argStn o k) = stHeld ∨ t.stnState (s.argStn o k) = stTripped) ∧ (t.mot[s.argStn o k]).reqs = []))) ∧
  (∃ (s : State) (o : Origin) (k : Option (Fin 4)), let cmd : Instr := .resume o k
    let w := workResume o k s
    let t := s.taken o cmd w.stn
 (s.offers o w) ∧ (t.resumeErr (s.argStn o k) = none)) ∧
  (∃ (s : State) (o : Origin) (k : Option (Fin 4)) (f r p : Option Nat), let cmd : Instr := .ovr o k f r p
    let w := workOvr o k f r p s
    let t := s.taken o cmd w.stn
 (s.offers o w) ∧ (overErr f r p = false) ∧ (t.flag .MOT_OVR_SRC (s.argStn o k) = false)) ∧
  (∃ (s : State) (o : Origin) (a : Fin 12) (l : AxisLimits) (vs : List (Fld × Int)), let cmd : Instr := .limitAxis o a l
    let w := workLimitAxis o a l s
    let t := s.taken o cmd w.stn
 (s.offers o w) ∧ (t.limitAxisErr a l = .ok vs)) ∧
  (∃ (s : State) (o : Origin) (k : Fin 4) (l : StnLimits) (vs : List (Fld × Int)), let cmd : Instr := .limitStn o k l
    let w := workLimitStn o k l s
    let t := s.taken o cmd w.stn
 (s.offers o w) ∧ (t.limitStnErr k l = .ok vs)) ∧
  (∃ (s : State) (o : Origin) (a : Fin 12) (plus : Bool) (f d : Option Decimal) (v : Option Int) (k : Fin 4), let cmd : Instr := .axisJog o a plus f d
    let w := workAxisJog o a plus f d s
    let t := s.taken o cmd w.stn
 (s.offers o w) ∧ (t.jogErr a plus d = .ok v) ∧ (t.axisStation a = some k)) ∧
  (∃ (s : State) (o : Origin) (a : Fin 12), let w := workAxisJogStop o a s
 (s.offers o w)) ∧
  (∃ (s : State) (o : Origin) (a : Fin 12) (n : Fin 2) (m : Nat) (k : Fin 4), let cmd : Instr := .axisHw o a n m
    let w := workAxisHw o a n m s
    let t := s.taken o cmd w.stn
 (s.offers o w) ∧ (t.hwErr a n = none) ∧ (t.axisStation a = some k)) ∧
  (∃ (s : State) (o : Origin) (a : Fin 12), let w := workAxisHwOff o a s
 (s.offers o w)) ∧
  (∃ (s : State) (o : Origin) (a : Fin 12) (pos : Decimal) (k : Fin 4), let cmd : Instr := .axisRef o a pos
    let w := workAxisRef o a pos s
    let t := s.taken o cmd w.stn
 (s.offers o w) ∧ (t.refErr a = none) ∧ (t.axisStation a = some k)) ∧
  (∃ (s : State) (o : Origin) (a : Fin 12) (sets : List FieldSet), let cmd : Instr := .servo o a sets
    let w := workServo o a sets s
    let t := s.taken o cmd w.stn
 (s.offers o w) ∧ (t.servoErr a sets = none)) ∧
  (∃ (s : State) (o : Origin) (a : Fin 12) (k g : Nat), let cmd : Instr := .servoRescal o a
    let w := workServoRescal o a s
    let t := s.taken o cmd w.stn
 (s.offers o w) ∧ (t.rescalErr a = none) ∧ (t.axisPair a = some (k, g))) ∧
  (∃ (s : State) (o : Origin) (a : Fin 12) (sets : List FieldSet), let cmd : Instr := .comp o a sets
    let w := workComp o a sets s
    let t := s.taken o cmd w.stn
 (s.offers o w) ∧ (t.servoErr a sets = none)) ∧
  (∃ (s : State) (o : Origin) (a : Fin 12) (i : Nat) (v : Int), let cmd : Instr := .compPt o a i v
    let w := workCompPt o a i v s
    let t := s.taken o cmd w.stn
 (s.offers o w) ∧ (t.compPtErr a i v = none)) :=
  ⟨⟨w0, (.peer 0 1), none, by first | decide | decide +kernel⟩,
   ⟨wMoving, (.peer 0 1), none, by first | decide | decide +kernel⟩,
   ⟨w0, (.peer 0 1), none, ⟨false, 5, -1⟩, 500, by first | decide | decide +kernel⟩,
   ⟨wMoving, (.peer 0 1), none, ⟨false, 5, -1⟩, 500, by first | decide | decide +kernel⟩,
   ⟨w0, (.peer 0 1), none, by first | decide | decide +kernel⟩,
   ⟨wMoving, (.peer 0 1), none, by first | decide | decide +kernel⟩,
   ⟨wTrip, (.peer 0 1), none, by first | decide | decide +kernel⟩,
   ⟨w0, (.peer 0 1), none, (some 50), none, none, by first | decide | decide +kernel⟩,
   ⟨wAxis, (.peer 0 1), 0, ⟨some ⟨false, 1, 0⟩, none, none, none, none, none, none, none⟩, [(.MOT_VMAX_VMAX, 10000)], by first | decide | rfl | decide +kernel, ok_of (by decide +kernel)⟩,
   ⟨w0, (.peer 0 1), 0, ⟨some ⟨false, 1, 0⟩, none, none, none, none, none⟩, [(.MOT_HOLDT_HOLDT, 1)], by first | decide | rfl | decide +kernel, ok_of (by decide +kernel)⟩,
   ⟨wJog, (.peer 0 1), 0, true, none, none, none, 0, by first | decide | rfl | decide +kernel, rfl, rfl⟩,
   ⟨wAxis, (.peer 0 1), 0, by first | decide | decide +kernel⟩,
   ⟨wJog, (.peer 0 1), 0, 0, 1, 0, by first | decide | decide +kernel⟩,
   ⟨wAxis, (.peer 0 1), 0, by first | decide | decide +kernel⟩,
   ⟨wAxis, (.peer 0 1), 0, ⟨false, 1, 0⟩, 0, by first | decide | decide +kernel⟩,
   ⟨wAxis, (.peer 0 1), 0, [⟨.SRV_KP_KP, 5⟩], by first | decide | decide +kernel⟩,
   ⟨wRes, (.peer 0 1), 0, 0, 0, by first | decide | decide +kernel⟩,
   ⟨wAxis, (.peer 0 1), 0, [], by first | decide | decide +kernel⟩,
   ⟨wComp, (.peer 0 1), 0, 0, 5, by first | decide | decide +kernel⟩⟩

theorem witness_coreWorkCompletes :
  (∃ (s : State) (o : Origin) (c : Nat) (x : StnCode), let cmd : Instr := .coreAssign o c x
    let w := workCoreAssign o c x s
    let t := s.taken o cmd w.stn
 (s.offers o w) ∧ ((t.coreFailedErr c).or (t.assignErr (t.fld .SYS_CASN_STN c) x) = none)) ∧
  (∃ (s : State) (o : Origin) (c : Option Nat), let cmd : Instr := .coreSpare o c
    let w := workCoreSpare o c s
    let t := s.taken o cmd w.stn
 (s.offers o w) ∧ ((c.bind t.coreFailedErr).or (t.spareErr (c.getD 7)) = none)) ∧
  (∃ (s : State) (o : Origin) (c : Nat), let cmd : Instr := .coreHalt o c
    let w := workCoreHalt o c s
    let t := s.taken o cmd w.stn
 (s.offers o w) ∧ ((t.coreFailedErr c).or (t.coreBusyErr c) = none)) ∧
  (∃ (s : State) (o : Origin) (c : Nat), let cmd : Instr := .coreStart o c
    let w := workCoreStart o c s
    let t := s.taken o cmd w.stn
 (s.offers o w) ∧ ((t.coreFailedErr c).or (t.coreBusyErr c) = none)) ∧
  (∃ (s : State) (o : Origin) (c : Nat), let cmd : Instr := .coreClear o c
    let w := workCoreClear o c s
    let t := s.taken o cmd w.stn
 (s.offers o w) ∧ (t.assignErr (t.fld .SYS_CASN_STN c) 7 = none)) :=
  ⟨⟨w0, (.peer 0 1), 0, 4, by first | decide | decide +kernel⟩,
   ⟨w0, (.peer 0 1), none, by first | decide | decide +kernel⟩,
   ⟨w0, (.peer 0 1), 0, by first | decide | decide +kernel⟩,
   ⟨w0, (.peer 0 1), 0, by first | decide | decide +kernel⟩,
   ⟨w0, (.peer 0 1), 0, by first | decide | decide +kernel⟩⟩

theorem witness_fabricWorkCompletes :
  (∃ (s : State) (o : Origin) (img : Nat) (at_ : Option Nat) (g : Staged), let cmd : Instr := .regionLoad o img at_
    let w := workRegionLoad o img at_ s
    let t := s.taken o cmd w.stn
 (s.offers o w) ∧ (t.loadErr img at_ = none) ∧ (t.findStaged img = some g)) ∧
  (∃ (s : State) (o : Origin) (n : Fin 64) (v : Decimal) (c : Int), let cmd : Instr := .regionHandoffCell o n (some v)
    let w := workRegionHandoffCell o n (some v) s
    let t := s.taken o cmd w.stn
 (s.offers o w) ∧ (t.handoffErr (n.val / 8) (some v) = none) ∧ (levelCode312 v = some c)) ∧
  (∃ (s : State) (o : Origin) (n : Fin 64), let cmd : Instr := .regionHandoffCell o n none
    let w := workRegionHandoffCell o n none s
    let t := s.taken o cmd w.stn
 (s.offers o w) ∧ (t.handoffErr (n.val / 8) none = none)) ∧
  (∃ (s : State) (o : Origin) (r : Fin 8) (out : Fin 56) (b : Bool), let cmd : Instr := .regionHandoffRg o r out (some b)
    let w := workRegionHandoffRg o r out (some b) s
    let t := s.taken o cmd w.stn
 (s.offers o w) ∧ (t.handoffErr r none = none) ∧ (out.val < 32)) ∧
  (∃ (s : State) (o : Origin) (i : Fin 8) (v : Decimal) (c : Int), let w := workRegionRef o i v s
 (s.offers o w) ∧ (levelCode312 v = some c)) ∧
  (∃ (s : State) (o : Origin) (l : List (Fin 216 × Fin 105)), let cmd : Instr := .xpt o l
    let w := workXpt o l s
    let t := s.taken o cmd w.stn
 (s.offers o w) ∧ (t.xptErr (routePairs l) = none)) ∧
  (∃ (s : State) (o : Origin) (c : Chan) (x : StnCode), let cmd : Instr := .adcAssign o c x
    let w := workAdcAssign o c x s
    let t := s.taken o cmd w.stn
 (s.offers o w) ∧ (t.adcAssignErr c x = none)) ∧
  (∃ (s : State) (o : Origin) (ch : Option (Chan × Chan)), let cmd : Instr := .cal o ch
    let w := workCal o ch s
    let t := s.taken o cmd w.stn
 (s.offers o w) ∧ (t.calErr ch = none)) ∧
  (∃ (s : State) (o : Origin) (d a b : Int), let w := workCalRef o d a b s
 (s.offers o w) ∧ (calRefErr d a b = none)) ∧
  (∃ (s : State) (o : Origin) (n : Fin 16) (p : Fin 4), let cmd : Instr := .filterPreset o n p none
    let w := workFilterPreset o n p none s
    let t := s.taken o cmd w.stn
 (s.offers o w) ∧ (t.structErr n ([⟨.FCH_CFG_MODE, n, 0, 1⟩, ⟨.FCH_CFG_PRESET, n, 0, p⟩] ++ t.leavePair n) = none)) ∧
  (∃ (s : State) (o : Origin) (n : Fin 16) (p : Fin 4) (k : Nat), let cmd : Instr := .filterPreset o n p (some k)
    let w := workFilterPreset o n p (some k) s
    let t := s.taken o cmd w.stn
 (s.offers o w) ∧ (t.structErr n ([⟨.FCH_CFG_MODE, n, 0, 3⟩, ⟨.FCH_CFG_PRESET, n, 0, p⟩] ++ [⟨.FCH_SF_N, n, 0, k⟩] ++ t.leavePair n) = none)) ∧
  (∃ (s : State) (o : Origin) (n : Fin 16) (d c f : Nat), let cmd : Instr := .filterCustom o n d c f
    let w := workFilterCustom o n d c f s
    let t := s.taken o cmd w.stn
 (s.offers o w) ∧ (t.structErr n ([⟨.FCH_CFG_MODE, n, 0, 2⟩, ⟨.FCH_CFG_ORD, n, 0, d⟩, ⟨.FCH_CFG_CICDEC, n, 0, c⟩, ⟨.FCH_CFG_FIRDEC, n, 0, f⟩] ++ t.leavePair n) = none)) ∧
  (∃ (s : State) (o : Origin) (n : Fin 16) (i f : Nat), let cmd : Instr := .filterPhase o n i f
    let w := workFilterPhase o n i f s
    let t := s.taken o cmd w.stn
 (s.offers o w) ∧ (t.structErr n ([⟨.FCH_PHD_PHINT, n, 0, i⟩, ⟨.FCH_PHD_PHFRAC, n, 0, f⟩]) = none)) ∧
  (∃ (s : State) (o : Origin) (n : Fin 16) (b : Bool) (x : Nat), let cmd : Instr := .filterTaps o n b x
    let w := workFilterTaps o n b x s
    let t := s.taken o cmd w.stn
 (s.offers o w) ∧ (t.tapsErr n b x = none)) ∧
  (∃ (s : State) (o : Origin) (n : Fin 16) (b : Bool) (i : Nat) (vs : List Decimal), let cmd : Instr := .filterCoef o n b i vs
    let w := workFilterCoef o n b i vs s
    let t := s.taken o cmd w.stn
 (s.offers o w) ∧ (t.coefErr n b i vs = none)) ∧
  (∃ (s : State) (o : Origin) (n : Fin 16), let w := workFilterSwap o n s
 (s.offers o w)) ∧
  (∃ (s : State) (o : Origin) (n : Fin 16) (b : Nat), let cmd : Instr := .filterResolver o n b none
    let w := workFilterResolver o n b none s
    let t := s.taken o cmd w.stn
 (s.offers o w) ∧ (t.resolverErr n b ([⟨.FCH_CFG_MODE, n, 0, modeResolver⟩, ⟨.FCH_CFG_MODE, n + 1, 0, modeResolver⟩, ⟨.FCH_RES_TRK, n, 0, (trkCode b).getD 0⟩]) = none)) ∧
  (∃ (s : State) (o : Origin) (n : Fin 16) (b : Nat) (e : Fin 4), let cmd : Instr := .filterResolver o n b (some e)
    let w := workFilterResolver o n b (some e) s
    let t := s.taken o cmd w.stn
 (s.offers o w) ∧ (t.resolverErr n b ([⟨.FCH_CFG_MODE, n, 0, modeResolver⟩, ⟨.FCH_CFG_MODE, n + 1, 0, modeResolver⟩, ⟨.FCH_RES_TRK, n, 0, (trkCode b).getD 0⟩] ++ [⟨.FCH_RES_EXC, n, 0, e⟩]) = none)) ∧
  (∃ (s : State) (o : Origin) (n : Fin 16) (x : Int), let cmd : Instr := .filterResphase o n x
    let w := workFilterResphase o n x s
    let t := s.taken o cmd w.stn
 (s.offers o w) ∧ (t.resphaseErr n = none)) :=
  ⟨⟨wStaged, (.peer 0 1), 1, none, wStagedImg, by first | decide | decide +kernel⟩,
   ⟨w0, (.peer 0 1), 0, ⟨false, 1, 0⟩, 3200, by first | decide | decide +kernel⟩,
   ⟨w0, (.peer 0 1), 0, by first | decide | decide +kernel⟩,
   ⟨w0, (.peer 0 1), 0, 0, true, by first | decide | decide +kernel⟩,
   ⟨w0, (.peer 0 1), 0, ⟨false, 1, 0⟩, 3200, by first | decide | decide +kernel⟩,
   ⟨wX, (.peer 0 1), [(0, 104)], by first | decide | decide +kernel⟩,
   ⟨w0, (.peer 0 1), 0, 4, by first | decide | decide +kernel⟩,
   ⟨w0, (.peer 0 1), none, by first | decide | decide +kernel⟩,
   ⟨w0, (.peer 0 1), 0, 0, 0, by first | decide | decide +kernel⟩,
   ⟨w0, (.peer 0 1), 0, 1, by first | decide | decide +kernel⟩,
   ⟨w0, (.peer 0 1), 0, 2, 255, by first | decide | decide +kernel⟩,
   ⟨w0, (.peer 0 1), 0, 4, 128, 12, by first | decide | decide +kernel⟩,
   ⟨w0, (.peer 0 1), 0, 1, 1, by first | decide | decide +kernel⟩,
   ⟨w0, (.peer 0 1), 0, true, 12, by first | decide | decide +kernel⟩,
   ⟨w0, (.peer 0 1), 0, true, 0, [⟨false, 0, 0⟩], by first | decide | decide +kernel⟩,
   ⟨w0, (.peer 0 1), 0, by first | decide | decide +kernel⟩,
   ⟨wRes, (.peer 0 1), 0, 50, by first | decide | decide +kernel⟩,
   ⟨wRes, (.peer 0 1), 0, 50, 0, by first | decide | decide +kernel⟩,
   ⟨wRes, (.peer 0 1), 0, 5, by first | decide | decide +kernel⟩⟩

theorem witness_outputWorkCompletes :
  (∃ (s : State) (o : Origin) (n : Fin 16) (c : DacSet), let cmd : Instr := .dacConfig o n c
    let w := workDacConfig o n c s
    let t := s.taken o cmd w.stn
 (s.offers o w) ∧ (t.dacCfgErr n c = none) ∧ (c.span = none)) ∧
  (∃ (s : State) (o : Origin) (n : Fin 16) (c : DacSet) (p : Nat), let cmd : Instr := .dacConfig o n c
    let w := workDacConfig o n c s
    let t := s.taken o cmd w.stn
 (s.offers o w) ∧ (t.dacCfgErr n c = none) ∧ (c.span = some p) ∧ (p ≠ t.fld .DAC_CFG_SPAN n)) ∧
  (∃ (s : State) (o : Origin) (n : Fin 16) (v : Decimal) (ms c : Nat), let cmd : Instr := .dacValue o n v ms
    let w := workDacValue o n v ms s
    let t := s.taken o cmd w.stn
 (s.offers o w) ∧ (t.dacValueErr n v ms = .ok c) ∧ (t.dacAsleep n = false)) ∧
  (∃ (s : State) (o : Origin) (n : Fin 16), let cmd : Instr := .dacSafe o n
    let w := workDacSafe o n s
    let t := s.taken o cmd w.stn
 (s.offers o w) ∧ (t.dacSafeErr n = none)) ∧
  (∃ (s : State) (o : Origin) (g : Fin 4), let w := workDacLoad o g s
 (s.offers o w)) ∧
  (∃ (s : State) (o : Origin) (g x : Fin 4), let cmd : Instr := .dacLdg o g x
    let w := workDacLdg o g x s
    let t := s.taken o cmd w.stn
 (s.offers o w) ∧ (t.trigErr g x = none)) ∧
  (∃ (s : State) (o : Origin) (g : Fin 4) (c : ExcSet), let cmd : Instr := .exc o g c
    let w := workExc o g c s
    let t := s.taken o cmd w.stn
 (s.offers o w) ∧ (t.excErr g c = none) ∧ (c.amp = none) ∧ (c.f = none) ∧ (c.phase = none)) ∧
  (∃ (s : State) (o : Origin) (g : Fin 4) (c : ExcSet), let cmd : Instr := .exc o g c
    let w := workExc o g c s
    let t := s.taken o cmd w.stn
 (s.offers o w) ∧ (t.excErr g c = none) ∧ (c.amp.isSome = true) ∧ (((t.excApply g c).excReplaced g).excSettled g = false)) ∧
  (∃ (s : State) (o : Origin) (g : Fin 4) (i : Nat) (vs : List Nat), let cmd : Instr := .excTable o g i vs
    let w := workExcTable o g i vs s
    let t := s.taken o cmd w.stn
 (s.offers o w) ∧ (t.tableErr g i vs = none)) ∧
  (∃ (s : State) (o : Origin) (g : Fin 4), let cmd : Instr := .excTableSine o g
    let w := workExcTableSine o g s
    let t := s.taken o cmd w.stn
 (s.offers o w) ∧ (t.flag .EXC_STAT_TPEND g = false)) ∧
  (∃ (s : State) (o : Origin) (g : Fin 4), let w := workExcTableSwap o g s
 (s.offers o w)) :=
  ⟨⟨w0, (.peer 0 1), 0, ⟨some 4, none, none, none, none⟩, by first | decide | decide +kernel⟩,
   ⟨wDac, (.peer 0 1), 0, ⟨none, some 1, none, none, none⟩, 1, by first | decide | decide +kernel⟩,
   ⟨wDac, (.peer 0 1), 0, ⟨false, 1, 0⟩, 0, 52429, by first | decide | rfl | decide +kernel, ok_of (by decide +kernel), by first | decide | rfl | decide +kernel⟩,
   ⟨wDac, (.peer 0 1), 0, by first | decide | decide +kernel⟩,
   ⟨w0, (.peer 0 1), 0, by first | decide | decide +kernel⟩,
   ⟨w0, (.peer 0 1), 0, 1, by first | decide | decide +kernel⟩,
   ⟨w0, (.peer 0 1), 0, ⟨some 4, none, none, none, none, none⟩, by first | decide | decide +kernel⟩,
   ⟨wExc, (.peer 0 1), 0, ⟨none, some ⟨false, 4, 0⟩, none, none, none, none⟩, by first | decide | decide +kernel⟩,
   ⟨w0, (.peer 0 1), 0, 0, [5], by first | decide | decide +kernel⟩,
   ⟨w0, (.peer 0 1), 0, by first | decide | decide +kernel⟩,
   ⟨w0, (.peer 0 1), 0, by first | decide | decide +kernel⟩⟩

theorem witness_panelWorkCompletes :
  (∃ (s : State) (o : Origin) (row pos : Nat) (x : String), let cmd : Instr := .disp o row pos x
    let w := workDisp o row pos x s
    let t := s.taken o cmd w.stn
 (s.offers o w) ∧ (t.dispErr row pos x = none)) ∧
  (∃ (s : State) (o : Origin) (row pos : Nat) (x : String), let cmd : Instr := .dispFault o row pos x
    let w := workDispFault o row pos x s
    let t := s.taken o cmd w.stn
 (s.offers o w) ∧ (t.dispErr row pos x = none)) ∧
  (∃ (s : State) (o : Origin) (b : Bool), let w := workDispClear o b s
 (s.offers o w)) ∧
  (∃ (s : State) (o : Origin) (x : String), let w := workDispChr o x s
 (s.offers o w) ∧ ((charCodes x).isEmpty = false)) ∧
  (∃ (s : State) (o : Origin) (x : Nat), let w := workDispChrCmd o x s
 (s.offers o w) ∧ (x < 256)) ∧
  (∃ (s : State) (o : Origin) (sets : List FieldSet), let cmd : Instr := .panelScan o sets
    let w := workPanelScan o sets s
    let t := s.taken o cmd w.stn
 (s.offers o w) ∧ (t.setsErr 0 sets (fun _ => none) = none)) ∧
  (∃ (s : State) (o : Origin) (sets : List FieldSet), let cmd : Instr := .panelRepeat o sets
    let w := workPanelRepeat o sets s
    let t := s.taken o cmd w.stn
 (s.offers o w) ∧ (t.setsErr 0 sets (fun _ => none) = none)) ∧
  (∃ (s : State) (o : Origin) (k : Nat) (b : Bool), let w := workPanelKey o k b s
 (s.offers o w) ∧ (k < 256)) ∧
  (∃ (s : State) (o : Origin) (n : Fin 2) (sets : List FieldSet), let cmd : Instr := .panelCombo o n sets
    let w := workPanelCombo o n sets s
    let t := s.taken o cmd w.stn
 (s.offers o w) ∧ (t.setsErr n sets (fun t => if t.fld .PNL_COMBO_KA n = t.fld .PNL_COMBO_KB n then some 513 else none) = none)) ∧
  (∃ (s : State) (o : Origin) (i : Fin 16) (sets : List FieldSet), let cmd : Instr := .panelAction o i sets
    let w := workPanelAction o i sets s
    let t := s.taken o cmd w.stn
 (s.offers o w) ∧ (t.setsErr i sets (fun t => t.panelCombErr .PNL_KACT i) = none)) ∧
  (∃ (s : State) (o : Origin) (sets : List FieldSet), let cmd : Instr := .panelOwner o sets
    let w := workPanelOwner o sets s
    let t := s.taken o cmd w.stn
 (s.offers o w) ∧ (t.setsErr 0 sets (fun _ => none) = none)) ∧
  (∃ (s : State) (o : Origin) (sets : List FieldSet), let cmd : Instr := .panelDisplay o sets
    let w := workPanelDisplay o sets s
    let t := s.taken o cmd w.stn
 (s.offers o w) ∧ (t.setsErr 0 sets (fun t => t.panelCombErr .PNL_DCFG 0) = none)) ∧
  (∃ (s : State) (o : Origin) (x : Char) (sets : List FieldSet), let cmd : Instr := .panelFont o x sets
    let w := workPanelFont o x sets s
    let t := s.taken o cmd w.stn
 (s.offers o w) ∧ (t.setsErr (x.toNat - 0x20) sets (fun _ => if 0x20 ≤ x.toNat ∧ x.toNat ≤ 0x7E then none else some 511) = none)) ∧
  (∃ (s : State) (o : Origin) (sets : List FieldSet), let cmd : Instr := .panelChar o sets
    let w := workPanelChar o sets s
    let t := s.taken o cmd w.stn
 (s.offers o w) ∧ (t.setsErr 0 sets (fun _ => none) = none)) :=
  ⟨⟨wPan, (.peer 0 1), 0, 0, "", by first | decide | decide +kernel⟩,
   ⟨wPan, (.peer 0 1), 0, 0, "", by first | decide | decide +kernel⟩,
   ⟨wPan, (.peer 0 1), true, by first | decide | decide +kernel⟩,
   ⟨wPan, (.peer 0 1), "A", by first | decide | decide +kernel⟩,
   ⟨wPan, (.peer 0 1), 5, by first | decide | decide +kernel⟩,
   ⟨w0, (.peer 0 1), [⟨.PNL_SCAN_NROW, 1⟩], by first | decide | decide +kernel⟩,
   ⟨w0, (.peer 0 1), [], by first | decide | decide +kernel⟩,
   ⟨w0, (.peer 0 1), 5, true, by first | decide | decide +kernel⟩,
   ⟨w0, (.peer 0 1), 0, [⟨.PNL_COMBO_KA, 1⟩], by first | decide | decide +kernel⟩,
   ⟨w0, (.peer 0 1), 0, [], by first | decide | decide +kernel⟩,
   ⟨w0, (.peer 0 1), [], by first | decide | decide +kernel⟩,
   ⟨w0, (.peer 0 1), [], by first | decide | decide +kernel⟩,
   ⟨w0, (.peer 0 1), 'A', [], by first | decide | decide +kernel⟩,
   ⟨w0, (.peer 0 1), [], by first | decide | decide +kernel⟩⟩

theorem witness_pinWorkCompletes :
  (∃ (s : State) (o : Origin) (n m : Nat) (sets : List FieldSet), let cmd : Instr := .fio o n m sets
    let w := workFio o n m sets s
    let t := s.taken o cmd w.stn
 (s.offers o w) ∧ (t.fioErr n m sets = none)) ∧
  (∃ (s : State) (o : Origin) (n : Nat) (b : Bool), let cmd : Instr := .fioOut o n b
    let w := workFioOut o n b s
    let t := s.taken o cmd w.stn
 (s.offers o w) ∧ (t.fioOutErr n = none)) ∧
  (∃ (s : State) (o : Origin) (n : Nat) (u : State), let cmd : Instr := .fioClear o n
    let w := workFioClear o n s
    let t := s.taken o cmd w.stn
 (s.offers o w) ∧ (t.clearPinChecked n = (none, u))) ∧
  (∃ (s : State) (o : Origin) (i : Nat) (sets : List FieldSet), let cmd : Instr := .fioAin o i sets
    let w := workFioAin o i sets s
    let t := s.taken o cmd w.stn
 (s.offers o w) ∧ (t.setsErr i sets (fun _ => none) = none)) :=
  ⟨⟨w0, (.peer 0 1), 0, 0, [⟨.FIO_CFG_STN, 4⟩], by first | decide | decide +kernel⟩,
   ⟨wPin, (.peer 0 1), 0, true, by first | decide | decide +kernel⟩,
   ⟨wPin, (.peer 0 1), 0, _, by first | decide | rfl | decide +kernel, rfl⟩,
   ⟨w0, (.peer 0 1), 0, [], by first | decide | decide +kernel⟩⟩

theorem witness_linkWorkCompletes :
  (∃ (s : State) (o : Origin) (d : Fin 8) (x : String), let cmd : Instr := .peer o d x
    let w := workPeer o d x s
    let t := s.taken o cmd w.stn
 (s.offers o w) ∧ (t.txnOf (s.candKey o) = none)) ∧
  (∃ (s : State) (o : Origin) (m : Nat) (x : String), let cmd : Instr := .peerMask o m x
    let w := workPeerMask o m x s
    let t := s.taken o cmd w.stn
 (s.offers o w) ∧ (t.mcOf (s.candKey o) = none)) ∧
  (∃ (s : State) (o : Origin) (sets : List FieldSet), let cmd : Instr := .linkCfg o sets
    let w := workLinkCfg o sets s
    let t := s.taken o cmd w.stn
 (s.offers o w) ∧ (t.setsErr 0 sets (fun t => t.linkTimingErr) = none)) ∧
  (∃ (s : State) (o : Origin) (p : Fin 2), let w := workLinkClear o p s
 (s.offers o w)) ∧
  (∃ (s : State) (o : Origin) (p : Fin 2) (b : Bool), let w := workLinkPortRate o p b s
 (s.offers o w)) ∧
  (∃ (s : State) (o : Origin) (d : Fin 8), let cmd : Instr := .linkRestart o d
    let w := workLinkRestart o d s
    let t := s.taken o cmd w.stn
 (s.offers o w) ∧ (t.txnOf (s.candKey o) = none)) ∧
  (∃ (s : State) (o : Origin) (d : Fin 8) (x : Nat) (b : Bool), let w := workLinkAuth o d x b s
 (s.offers o w)) ∧
  (∃ (s : State) (o : Origin) (x : Nat) (i : Option Nat), let w := workLinkMirror o x i s
 (s.offers o w)) :=
  ⟨⟨wPeer, (.peer 0 1), 1, "HOLD", by first | decide | decide +kernel⟩,
   ⟨wPeer, (.peer 0 1), 1, "HOLD", by first | decide | decide +kernel⟩,
   ⟨w0, (.peer 0 1), [], by first | decide | decide +kernel⟩,
   ⟨w0, (.peer 0 1), 0, by first | decide | decide +kernel⟩,
   ⟨w0, (.peer 0 1), 0, true, by first | decide | decide +kernel⟩,
   ⟨wPeer, (.peer 0 1), 1, by first | decide | decide +kernel⟩,
   ⟨w0, (.peer 0 1), 0, 1, true, by first | decide | decide +kernel⟩,
   ⟨w0, (.peer 0 1), 1, none, by first | decide | decide +kernel⟩⟩

theorem witness_storageWorkCompletes :
  (∃ (s : State) (o : Origin) (n : Nat), let cmd : Instr := .flashErase o n
    let w := workFlashErase o n s
    let t := s.taken o cmd w.stn
 (s.offers o w) ∧ (t.flashEraseErr n = none)) ∧
  (∃ (s : State) (o : Origin) (a : Nat) (ws : List Nat), let cmd : Instr := .flashProg o a ws
    let w := workFlashProg o a ws s
    let t := s.taken o cmd w.stn
 (s.offers o w) ∧ (t.flashProgErr a ws = none) ∧ ((t.flash.cut.contains (s.candKey o)) = false) ∧ ((t.progLeft (s.candKey o) (granulesOf a ws)).any (fun g => !t.granErased g.1) = false) ∧ ((t.progLeft (s.candKey o) (granulesOf a ws)).isEmpty = false)) ∧
  (∃ (s : State) (o : Origin), let w := workFlashSuspend o s
 (s.offers o w)) ∧
  (∃ (s : State) (o : Origin), let w := workFlashResume o s
 (s.offers o w)) ∧
  (∃ (s : State) (o : Origin) (sets : List FieldSet), let cmd : Instr := .imagePolicy o sets
    let w := workImagePolicy o sets s
    let t := s.taken o cmd w.stn
 (s.offers o w) ∧ (t.wrErr (fieldWrites .CFG_POLICY 0 0 (sets.map fun e => (e.fld, e.val))) = none)) ∧
  (∃ (s : State) (o : Origin) (k : Fin 4) (x : Nat), let cmd : Instr := .imageKeySet o k x
    let w := workImageKeySet o k x s
    let t := s.taken o cmd w.stn
 (s.offers o w) ∧ (t.keySetErr k = none)) ∧
  (∃ (s : State) (o : Origin) (k : Fin 4), let cmd : Instr := .imageKeyRevoke o k
    let w := workImageKeyRevoke o k s
    let t := s.taken o cmd w.stn
 (s.offers o w) ∧ (t.revokeErr k = none)) ∧
  (∃ (s : State) (o : Origin), let cmd : Instr := .imageLock o
    let w := workImageLock o s
    let t := s.taken o cmd w.stn
 (s.offers o w) ∧ (t.lockErr = none)) ∧
  (∃ (s : State) (o : Origin) (n : Nat) (slot : Option (Fin 2)) (u : State) (r : Nat), let cmd : Instr := .imageStage o n slot
    let w := workImageStage o n slot s
    let t := s.taken o cmd w.stn
 (s.offers o w) ∧ (t.stage n slot = (.ok u, r))) ∧
  (∃ (s : State) (o : Origin) (n : Nat), let cmd : Instr := .imageUnstage o n
    let w := workImageUnstage o n s
    let t := s.taken o cmd w.stn
 (s.offers o w) ∧ (t.unstageErr n = none)) :=
  ⟨⟨w0, (.peer 0 1), 40, by first | decide | decide +kernel⟩,
   ⟨w0, (.peer 0 1), 268959744, [1, 2, 3, 4], by first | decide | decide +kernel⟩,
   ⟨w0, (.peer 0 1), by first | decide | decide +kernel⟩,
   ⟨w0, (.peer 0 1), by first | decide | decide +kernel⟩,
   ⟨w0, (.peer 0 1), [], by first | decide | decide +kernel⟩,
   ⟨w0, (.peer 0 1), 0, 5, by first | decide | decide +kernel⟩,
   ⟨wKey, (.peer 0 1), 0, by first | decide | decide +kernel⟩,
   ⟨wKey, (.peer 0 1), by first | decide | decide +kernel⟩,
   ⟨wStaged, (.peer 0 1), 1, none, _, _, by first | decide | rfl | decide +kernel, rfl⟩,
   ⟨wStaged, (.peer 0 1), 1, by first | decide | decide +kernel⟩⟩

theorem witness_powerWorkCompletes :
  (∃ (s : State) (o : Origin) (k : Fin 4) (sets : List FieldSet), let cmd : Instr := .pwrStnIdle o k sets
    let w := workPwrStnIdle o k sets s
    let t := s.taken o cmd w.stn
 (s.offers o w) ∧ (t.wrErr (fieldWrites .PWR_IDLE k 0 (sets.map fun e => (e.fld, e.val))) = none)) ∧
  (∃ (s : State) (o : Origin) (k : Fin 4), let cmd : Instr := .pwrStnOn o k
    let w := workPwrStnOn o k s
    let t := s.taken o cmd w.stn
 (s.offers o w) ∧ (t.fld .PWR_IDLE_NOW k = 0)) ∧
  (∃ (s : State) (o : Origin) (k : Fin 4), let cmd : Instr := .pwrStnOn o k
    let w := workPwrStnOn o k s
    let t := s.taken o cmd w.stn
 (s.offers o w) ∧ (t.fld .PWR_IDLE_NOW k = 2)) ∧
  (∃ (s : State) (o : Origin) (b : Bool), let w := workPwrObs o b s
 (s.offers o w)) ∧
  (∃ (s : State) (o : Origin) (b : Bool) (per : Option Nat), let cmd : Instr := .pwrWdt o b per
    let w := workPwrWdt o b per s
    let t := s.taken o cmd w.stn
 (s.offers o w) ∧ (t.wrErr (wdtWrite b per) = none)) ∧
  (∃ (s : State) (o : Origin) (c : Int), let cmd : Instr := .pwrHoldmin o c
    let w := workPwrHoldmin o c s
    let t := s.taken o cmd w.stn
 (s.offers o w) ∧ (t.wrErr (fieldWrites .PWR_HOLDC 0 0 [(.PWR_HOLDC_HOLDMIN, c)]) = none)) :=
  ⟨⟨w0, (.peer 0 1), 0, [], by first | decide | decide +kernel⟩,
   ⟨w0, (.peer 0 1), 0, by first | decide | decide +kernel⟩,
   ⟨wSleep, (.peer 0 1), 0, by first | decide | decide +kernel⟩,
   ⟨w0, (.peer 0 1), true, by first | decide | decide +kernel⟩,
   ⟨w0, (.peer 0 1), true, (some 100), by first | decide | decide +kernel⟩,
   ⟨w0, (.peer 0 1), 5, by first | decide | decide +kernel⟩⟩

theorem witness_observationWorkCompletes :
  (∃ (s : State) (o : Origin) (sc : ObsScope), let cmd : Instr := .obsClear o (some sc)
    let w := workObsClear o (some sc) s
    let t := s.taken o cmd w.stn
 (s.offers o w) ∧ (t.obsErr = none)) ∧
  (∃ (s : State) (o : Origin) (n : Nat) (sets : List FieldSet), let cmd : Instr := .obsProbe o n sets
    let w := workObsProbe o n sets s
    let t := s.taken o cmd w.stn
 (s.offers o w) ∧ ((t.obsErr).or (t.setsErr n sets (fun _ => none)) = none)) ∧
  (∃ (s : State) (o : Origin) (n : Nat) (sets : List FieldSet), let cmd : Instr := .obsWatch o n sets
    let w := workObsWatch o n sets s
    let t := s.taken o cmd w.stn
 (s.offers o w) ∧ ((t.obsErr).or (t.setsErr n sets (fun t => if t.fld .OBS_WPHI_ADDR n < t.fld .OBS_WPLO_ADDR n then some 513 else none)) = none)) ∧
  (∃ (s : State) (o : Origin) (sets : List FieldSet), let cmd : Instr := .trace o sets
    let w := workTrace o sets s
    let t := s.taken o cmd w.stn
 (s.offers o w) ∧ ((t.obsErr).or (t.setsErr 0 sets fun _ => none) = none)) ∧
  (∃ (s : State) (o : Origin) (k d i : Nat), let cmd : Instr := .skim o k (some d) (some i)
    let w := workSkim o k (some d) (some i) s
    let t := s.taken o cmd w.stn
 (s.offers o w) ∧ ((t.obsErr).or (t.skimErr (t.originAuth o) k d i) = none)) ∧
  (∃ (s : State) (o : Origin) (l : List Nat), let cmd : Instr := .skimStart o none l
    let w := workSkimStart o none l s
    let t := s.taken o cmd w.stn
 (s.offers o w) ∧ (t.obsErr = none)) ∧
  (∃ (s : State) (o : Origin) (l : List Nat), let cmd : Instr := .skimStop o l
    let w := workSkimStop o l s
    let t := s.taken o cmd w.stn
 (s.offers o w) ∧ (t.obsErr = none)) ∧
  (∃ (s : State) (o : Origin), let cmd : Instr := .freeze o
    let w := workFreeze o s
    let t := s.taken o cmd w.stn
 (s.offers o w) ∧ (t.obsErr = none)) ∧
  (∃ (s : State) (o : Origin), let cmd : Instr := .freezeOff o
    let w := workFreezeOff o s
    let t := s.taken o cmd w.stn
 (s.offers o w) ∧ (t.obsErr = none)) :=
  ⟨⟨wObs, (.peer 0 1), .all, by first | decide | decide +kernel⟩,
   ⟨wObs, (.peer 0 1), 0, [], by first | decide | decide +kernel⟩,
   ⟨wObs, (.peer 0 1), 0, [], by first | decide | decide +kernel⟩,
   ⟨wObs, (.peer 0 1), [], by first | decide | decide +kernel⟩,
   ⟨wObs, (.peer 0 1), 0, 0, 0, by first | decide | decide +kernel⟩,
   ⟨wObs, (.peer 0 1), [0], by first | decide | decide +kernel⟩,
   ⟨wObs, (.peer 0 1), [0], by first | decide | decide +kernel⟩,
   ⟨wObs, (.peer 0 1), by first | decide | decide +kernel⟩,
   ⟨wObs, (.peer 0 1), by first | decide | decide +kernel⟩⟩

theorem witness_generalQueriesAnswer :
  (∃ (s : State) (o : Origin) (key : Nat) (p : Fin 2), (s.takes o) ∧ (sessionPort o = some p) ∧ (s.authLocked p = false) ∧ ((s.matching key).any = true)) ∧
  (∃ (s : State) (o : Origin) (p : Fin 2), (s.takes o) ∧ (sessionPort o = some p)) ∧
  (∃ (s : State) (o : Origin) (k : Fin 4) (p : Fin 2), (s.takes o) ∧ (sessionPort o = some p) ∧ (s.configured k = true) ∧ ((s.sessAuth p).stn[k] = true)) ∧
  (∃ (s : State) (o : Origin), (s.takes o)) ∧
  (∃ (s : State) (o : Origin) (x : RegTarget) (r : Reg) (i j : Nat) (f : Fld) (u : State), (s.takes o) ∧ (u = (match sessionPort o with | some p => s.settleRegs p | none => s)) ∧ (u.takes o) ∧ (regPl x = .reg r i j (some f)) ∧ (u.mayRead (u.originAuth o) r i = true)) ∧
  (∃ (s : State) (o : Origin) (x : RegTarget) (r : Reg) (i j n : Nat) (u : State), (s.takes o) ∧ (u = (match sessionPort o with | some p => s.settleRegs p | none => s)) ∧ (u.takes o) ∧ (regPl x = .reg r i j none) ∧ (1 ≤ n ∧ n ≤ 16 ∧ regAddr r i j + 4 * n ≤ 0x40190000) ∧ (((List.range n).all fun k => u.mayReadAt (u.originAuth o) (regAddr r i j + 4 * k)) = true)) ∧
  (∃ (s : State) (o : Origin) (src : Option Nat), (s.takes o) ∧ (usedSource (src.getD (s.srcNo o).val) = true) ∧ ((s.ownSource o (src.getD (s.srcNo o).val) || (s.originAuth o).brd) = true)) ∧
  (∃ (s : State) (o : Origin) (x : Nat) (src : Option Nat) (n : Nat), (s.takes o) ∧ (1 ≤ x ∧ x ≤ 0xFFFFFFFF ∧ 1 ≤ n ∧ n ≤ 32) ∧ (usedSource (src.getD (s.srcNo o).val) = true) ∧ ((s.ownSource o (src.getD (s.srcNo o).val) || (s.originAuth o).brd) = true)) ∧
  (∃ (s : State) (o : Origin), (s.takes o) ∧ ((s.originAuth o).any = true)) ∧
  (∃ (s : State) (o : Origin), (s.takes o) ∧ ((s.originAuth o).brd = true)) ∧
  (∃ (s : State) (o : Origin) (t : PolicyTarget) (i j : Nat), (s.takes o) ∧ (policyPre t i j = none) ∧ (((policyRange t i j).all fun k => s.policyMay (s.originAuth o) t k) = true)) ∧
  (∃ (s : State) (o : Origin) (frm : Option Nat) (n : Nat), (s.takes o) ∧ (1 ≤ n ∧ n ≤ 32 ∧ frm ≠ some 0)) :=
  ⟨⟨wKeys, (.framed 0 1), 7, 0, by first | decide | decide +kernel⟩,
   ⟨w0, (.framed 0 1), 0, by first | decide | decide +kernel⟩,
   ⟨w0, (.framed 0 1), 0, 0, by first | decide | decide +kernel⟩,
   ⟨w0, (.peer 0 1), by first | decide | decide +kernel⟩,
   ⟨w0, (.framed 0 1), (.field .PWR_HOLDC_HOLDMIN 0 0), .PWR_HOLDC, 0, 0, .PWR_HOLDC_HOLDMIN, _, by first | decide | rfl | decide +kernel, by first | decide | rfl | decide +kernel, by first | decide | rfl | decide +kernel, by first | decide | rfl | decide +kernel, by first | decide | rfl | decide +kernel⟩,
   ⟨w0, (.framed 0 1), (.reg .PWR_HOLDC 0 0), .PWR_HOLDC, 0, 0, 1, _, by first | decide | rfl | decide +kernel, by first | decide | rfl | decide +kernel, by first | decide | rfl | decide +kernel, by first | decide | rfl | decide +kernel, by first | decide | rfl | decide +kernel, by first | decide | rfl | decide +kernel⟩,
   ⟨w0, (.peer 0 1), none, by first | decide | decide +kernel⟩,
   ⟨w0, (.peer 0 1), 1, none, 32, by first | decide | decide +kernel⟩,
   ⟨w0, (.peer 0 1), by first | decide | decide +kernel⟩,
   ⟨w0, (.peer 0 1), by first | decide | decide +kernel⟩,
   ⟨w0, (.peer 0 1), .fio, 0, 3, by first | decide | decide +kernel⟩,
   ⟨w0, (.peer 0 1), none, 32, by first | decide | decide +kernel⟩⟩

theorem witness_processQueriesAnswer :
  (∃ (s : State) (o : Origin), (s.takes o) ∧ (s.anyAuth o = true)) ∧
  (∃ (s : State) (o : Origin) (p f n : Nat) (g : Prog), (s.takes o) ∧ (s.anyAuth o = true) ∧ (progPre p = none) ∧ (1 ≤ n ∧ n ≤ 32 ∧ 1 ≤ f) ∧ (s.findProg p = some g) ∧ (s.storeErr g = none) ∧ (f ≤ g.blocks.length)) ∧
  (∃ (s : State) (o : Origin) (k : Option (Fin 4)), (s.takes o) ∧ (s.stnErr (s.argStn o k) = none) ∧ (s.hasAuth o (s.argStn o k) = true)) ∧
  (∃ (s : State) (o : Origin) (a : Fin 12) (k : Fin 4), (s.takes o) ∧ (s.axisPermit o a = true) ∧ (s.axisStation a = some k)) ∧
  (∃ (s : State) (o : Origin) (k : Fin 4), (s.takes o) ∧ (s.stnErr k = none) ∧ (s.hasAuth o k = true)) ∧
  (∃ (s : State) (o : Origin) (a : Fin 12) (frm n : Nat), (s.takes o) ∧ (1 ≤ n ∧ n ≤ 32 ∧ frm ≤ 127) ∧ (s.axisPermit o a = true) ∧ ((s.axisStation a).isNone = false)) ∧
  (∃ (s : State) (o : Origin) (x : String) (rm : Nat) (l : List ETok), (s.takes o) ∧ (readExpr x = .ok l) ∧ (rm ≤ 4)) ∧
  (∃ (s : State) (o : Origin), (s.takes o) ∧ ((s.originAuth o).any = true)) ∧
  (∃ (s : State) (o : Origin) (c : Nat), (s.takes o) ∧ (corePre c = none) ∧ ((s.originAuth o).any = true)) :=
  ⟨⟨w0, (.peer 0 1), by first | decide | decide +kernel⟩,
   ⟨wProg3, (.peer 0 1), 1, 1, 1, prog3, by first | decide | decide +kernel⟩,
   ⟨w0, (.peer 0 1), none, by first | decide | decide +kernel⟩,
   ⟨wAxis, (.peer 0 1), 0, 0, by first | decide | decide +kernel⟩,
   ⟨w0, (.peer 0 1), 0, by first | decide | decide +kernel⟩,
   ⟨wAxis, (.peer 0 1), 0, 0, 32, by first | decide | decide +kernel⟩,
   ⟨w0, (.peer 0 1), "1", 0, _, by first | decide | rfl | decide +kernel, rfl, by first | decide | rfl | decide +kernel⟩,
   ⟨w0, (.peer 0 1), by first | decide | decide +kernel⟩,
   ⟨w0, (.peer 0 1), 0, by first | decide | decide +kernel⟩⟩

theorem witness_unitQueriesAnswer :
  (∃ (s : State) (o : Origin) (k : Fin 216), (s.takes o) ∧ (s.hasAuth o (s.sinkOwner k) = true)) ∧
  (∃ (s : State) (o : Origin), (s.takes o) ∧ ((s.originAuth o).any = true)) ∧
  (∃ (s : State) (o : Origin) (c : Chan), (s.takes o) ∧ (s.hasAuth o (s.chanStn c) = true)) ∧
  (∃ (s : State) (o : Origin) (n : Fin 16), (s.takes o) ∧ (s.hasAuth o (s.chanStn n) = true)) ∧
  (∃ (s : State) (o : Origin) (n : Fin 16), (s.takes o) ∧ (s.dacPermit o n = true)) ∧
  (∃ (s : State) (o : Origin) (x : Fin 4), (s.takes o) ∧ (s.excPermit o x = true)) ∧
  (∃ (s : State) (o : Origin) (n m : Nat), (s.takes o) ∧ (n ≤ m ∧ m ≤ 63) ∧ (((pinRange n m).all fun (p : Nat) => if s.pinStn p = 7 then (s.originAuth o).any else (s.originAuth o).over (s.pinStn p)) = true)) ∧
  (∃ (s : State) (o : Origin) (i : Nat), (s.takes o) ∧ (i < 32) ∧ (s.ainMay (s.originAuth o) i = true)) ∧
  (∃ (s : State) (o : Origin) (x : Nat), (s.takes o) ∧ (x < 8) ∧ ((s.originAuth o).any = true)) ∧
  (∃ (s : State) (o : Origin) (x : Nat) (src : Option Nat) (i : Item) (d : Nat), (s.takes o) ∧ (selErr x (src.getD (s.srcNo o).val) = none) ∧ ((s.originAuth o).any = true) ∧ (s.findItem (s.namedKey o x src none) = some i) ∧ (i.cmd.bind peerDevices = some d)) ∧
  (∃ (s : State) (o : Origin) (n : Nat), (s.takes o) ∧ ((s.originAuth o).any = true) ∧ (n < 64)) ∧
  (∃ (s : State) (o : Origin) (n : Nat), (s.takes o) ∧ (1 ≤ n ∧ n ≤ 32) ∧ ((s.originAuth o).any = true) ∧ (s.obsErr = none)) ∧
  (∃ (s : State) (o : Origin) (l : List SnapLine), (s.takes o) ∧ ((s.originAuth o).any = true) ∧ (s.obsErr = none) ∧ (s.obs.snap = some l)) ∧
  (∃ (s : State) (o : Origin) (l : List SnapLine), (s.takes o) ∧ ((s.originAuth o).any = true) ∧ (s.obsErr = none) ∧ (s.takeSnap.obs.snap = some l)) ∧
  (∃ (s : State) (o : Origin), (s.takes o) ∧ ((s.originAuth o).any = true) ∧ (s.obsErr = none)) ∧
  (∃ (s : State) (o : Origin) (n : Nat), (s.takes o) ∧ ((s.originAuth o).brd = true) ∧ (s.obsErr = none) ∧ (n < 16)) ∧
  (∃ (s : State) (o : Origin) (n : Nat), (s.takes o) ∧ ((s.originAuth o).brd = true) ∧ (s.obsErr = none) ∧ (n < 8)) ∧
  (∃ (s : State) (o : Origin) (k : Nat), (s.takes o) ∧ (k < 16) ∧ (s.slotMay (s.originAuth o) k = true) ∧ (s.obsErr = none)) ∧
  (∃ (s : State) (o : Origin) (d : Fin 8) (x : String), (s.takes o) ∧ ((linePre x true).or (s.dupPre d) = none) ∧ ((s.originAuth o).brd = true) ∧ (s.devPresent d = true)) :=
  ⟨⟨w0, (.peer 0 1), 0, by first | decide | decide +kernel⟩,
   ⟨w0, (.peer 0 1), by first | decide | decide +kernel⟩,
   ⟨w0, (.peer 0 1), 0, by first | decide | decide +kernel⟩,
   ⟨w0, (.peer 0 1), 0, by first | decide | decide +kernel⟩,
   ⟨w0, (.peer 0 1), 0, by first | decide | decide +kernel⟩,
   ⟨w0, (.peer 0 1), 0, by first | decide | decide +kernel⟩,
   ⟨w0, (.peer 0 1), 0, 3, by first | decide | decide +kernel⟩,
   ⟨w0, (.peer 0 1), 0, by first | decide | decide +kernel⟩,
   ⟨w0, (.peer 0 1), 0, by first | decide | decide +kernel⟩,
   ⟨wTxn, (.peer 0 1), 1, none, txnItem, 2, by first | decide | decide +kernel⟩,
   ⟨w0, (.peer 0 1), 0, by first | decide | decide +kernel⟩,
   ⟨wObs, (.peer 0 1), 32, by first | decide | decide +kernel⟩,
   ⟨wSnap, (.peer 0 1), [], by first | decide | decide +kernel⟩,
   ⟨wObs, (.peer 0 1), _, by first | decide | rfl | decide +kernel, by first | decide | rfl | decide +kernel, by first | decide | rfl | decide +kernel, rfl⟩,
   ⟨wObs, (.peer 0 1), by first | decide | decide +kernel⟩,
   ⟨wObs, (.peer 0 1), 0, by first | decide | decide +kernel⟩,
   ⟨wObs, (.peer 0 1), 0, by first | decide | decide +kernel⟩,
   ⟨wObs, (.peer 0 1), 0, by first | decide | decide +kernel⟩,
   ⟨wPeer, (.peer 0 1), 1, "ID?", by first | decide | decide +kernel⟩⟩

theorem witness_serialEventsComplete :
  (∃ (s : State) (p : Fin 2), (s.portLive p = true) ∧ ((s.port[p]).afterCr = true)) ∧
  (∃ (s : State) (p : Fin 2) (lf : Bool), (s.portLive p = true) ∧ ((lf && (s.port[p]).afterCr) = false) ∧ ((s.port[p]).line = []) ∧ (charErr s.port[p] = 0)) ∧
  (∃ (s : State) (p : Fin 2) (lf : Bool) (l : List Byte), (s.portLive p = true) ∧ ((lf && (s.port[p]).afterCr) = false) ∧ ((s.port[p]).line = 0x23 :: l) ∧ ((s.port[p]).overrun = false) ∧ (s.ringHeld (cmdRing p) = false)) ∧
  (∃ (s : State) (p : Fin 2), (s.editing p = true) ∧ ((s.port[p]).excess = 0) ∧ ((s.port[p]).line.isEmpty = false)) ∧
  (∃ (s : State) (p : Fin 2), (s.editing p = true) ∧ (0 < (s.port[p]).excess)) ∧
  (∃ (s : State) (p : Fin 2), (s.editing p = true)) ∧
  (∃ (s : State) (p : Fin 2) (l : List Byte), (s.editing p = true) ∧ ((s.port[p]).hist[(s.port[p]).recalled]? = some l)) ∧
  (∃ (s : State) (p : Fin 2), (s.editing p = true) ∧ ((s.port[p]).recalled = 1)) ∧
  (∃ (s : State) (p : Fin 2) (n : Nat), (s.editing p = true) ∧ ((s.port[p]).recalled = n + 2)) ∧
  (∃ (s : State) (p : Fin 2), (s.portLive p = true) ∧ (s.portFlow p ≠ 0)) ∧
  (∃ (s : State) (p : Fin 2), (s.portLive p = true)) ∧
  (∃ (s : State) (p : Fin 2) (c : EvClass) (r : EvRec), (s.asyncOpen p = true) ∧ (s.ringHeld (rspRing p) = false) ∧ (¬ ((classNo c).val ≠ 0 ∧ (s.dueRec p 0).isSome = true)) ∧ (s.dueRec p (classNo c) = some r)) ∧
  (∃ (s : State) (p : Fin 2) (c : EvClass) (seq : Nat) (r : EvRec) (e : SentRec), ((s.ev.q[classNo c]).find? (fun x => x.seq == seq) = some r) ∧ ((s.port[p]).sent.find? (fun x => x.cls == c && x.seq == seq) = some e) ∧ (s.asyncOpen p = true) ∧ (s.ringHeld (rspRing p) = false) ∧ ((if ¬ r.ovf = true ∧ r.w ≠ 0 ∧ e.at_ < r.t + r.w * msCounts ∧ e.rep < r.wrep then decide (r.t + r.w * msCounts ≤ s.clk.now)
      else decide (e.at_ + 100 * msCounts ≤ s.clk.now)) = true) ∧ (r.rep ≠ e.rep) ∧ (s.selects p (classNo c) r = true)) ∧
  (∃ (s : State) (p : Fin 2), (¬ ((s.port[p]).mode = s.reg .SER_MODE p 0 ∧ (s.port[p]).baud = s.reg .SER_BAUD p 0)) ∧ (s.ownSent p = true) ∧ ((s.port[p]).farChange = true → s.atBoundary p = true)) ∧
  (∃ (s : State) (p : Fin 2), ((s.port[p]).on = true) ∧ (s.flag .SER_CTRL_ENABLE p = false) ∧ (s.ownSent p = true)) ∧
  (∃ (s : State) (p : Fin 2) (l : OutLine) (r : List OutLine), ((s.port[p]).rsp = l :: r) ∧ (s.portLive p = true) ∧ (s.flag .SER_STAT_TXSTOP p = false)) ∧
  (∃ (s : State) (p : Fin 2), (s.authLocked p = false)) ∧
  (∃ (s : State) (o : Origin), (s.takes o) ∧ ((sessionPort o).isNone = false) ∧ (s.judge o = .next) ∧ (s.seriesClosed (s.srcNo o).val = true) ∧ (s.commitFull = false)) :=
  ⟨⟨wCr, 0, by first | decide | decide +kernel⟩,
   ⟨wLive, 0, false, by first | decide | decide +kernel⟩,
   ⟨wHash, 0, false, [], by first | decide | decide +kernel⟩,
   ⟨wTyped, 0, by first | decide | decide +kernel⟩,
   ⟨wExcess, 0, by first | decide | decide +kernel⟩,
   ⟨wTyped, 0, by first | decide | decide +kernel⟩,
   ⟨wHist, 0, [65], by first | decide | decide +kernel⟩,
   ⟨wHist1, 0, by first | decide | decide +kernel⟩,
   ⟨wHist2, 0, 0, by first | decide | decide +kernel⟩,
   ⟨wFlow, 0, by first | decide | decide +kernel⟩,
   ⟨wLive, 0, by first | decide | decide +kernel⟩,
   ⟨wAsync, 0, .trip, evRec1, by first | decide | decide +kernel⟩,
   ⟨wResend, 0, .trip, 1, evRec1, sent1, by first | decide | decide +kernel⟩,
   ⟨wBaud, 0, by first | decide | decide +kernel⟩,
   ⟨wOn, 1, by first | decide | decide +kernel⟩,
   ⟨wRsp, 0, outl1, [], by first | decide | decide +kernel⟩,
   ⟨w0, 0, by first | decide | decide +kernel⟩,
   ⟨wSeries, (.framed 0 1), by first | decide | decide +kernel⟩⟩

theorem witness_journalEventsComplete :
  (∃ (s : State) (r : CommitRec) (n : Nat) (l : List QEnt), (s.jrn.queue = .item r n :: l) ∧ (r.err = 0) ∧ (isReset r.cmd = false) ∧ (s.flag .JRN_STAT_AFAIL = false) ∧ (s.flag .JRN_STAT_BFAIL = false)) ∧
  (∃ (s : State) (r : CommitRec) (n : Nat) (l : List QEnt), (s.jrn.queue = .item r n :: l) ∧ (s.flag .JRN_STAT_AFAIL = false) ∧ (s.flag .JRN_STAT_BFAIL = false)) ∧
  (∃ (s : State) (r : CommitRec) (n : Nat) (l : List QEnt), (s.jrn.queue = .item r n :: l)) ∧
  (∃ (s : State) (src wsn : Nat) (k : Key) (m : Item) (c : Instr) (w : Work), (s.readyKeys.find? (fun k => k.src == src && k.wsn == wsn) = some k) ∧ (s.mustWait k s.readyKeys = false) ∧ (s.phase = .running) ∧ (s.findItem k = some m) ∧ (m.cmd = some c) ∧ (({ s with jrn := { s.jrn with ready := s.readyKeys.filter fun e => e != k } } : State).workOf (pinStn c m.stn) = some w)) ∧
  (∃ (s : State) (src wsn : Nat) (k : Key) (m : Item) (c : Instr) (w : Work) (t : State), (s.readyKeys.find? (fun k => k.src == src && k.wsn == wsn) = some k) ∧ (s.mustWait k s.readyKeys = false) ∧ (s.phase = .running) ∧ (s.findItem k = some m) ∧ (m.cmd = some c) ∧ (({ s with jrn := { s.jrn with ready := s.readyKeys.filter fun e => e != k } } : State).workOf (pinStn c m.stn) = some w) ∧ (w.run k (({ s with jrn := { s.jrn with ready := s.readyKeys.filter fun e => e != k } } : State).setItem k .running) = .done t)) ∧
  (∃ (_s : State) (a : Nat), (a % 4 = 0) ∧ (inRegBlocks a = true)) ∧
  (∃ (s : State) (c : Fin 6) (a v i j : Nat) (r : Reg), (a % 4 = 0) ∧ (inRegBlocks a = true) ∧ (regAt a = some (r, i, j)) ∧ (r ≠ .CFG_POLICY ∧ r ≠ .DEC_MBX) ∧ (s.mayWrite (.core c) (coreTrim (wholeWrite r i j (v % 2 ^ 32))) = true) ∧ (s.wrErr (coreTrim (wholeWrite r i j (v % 2 ^ 32))) = none)) ∧
  (∃ (_s : State) (a : Nat), (a % 4 ≠ 0 ∨ inRegBlocks a = false)) :=
  ⟨⟨wQueue, rec1, 1, [], by first | decide | decide +kernel⟩,
   ⟨wQueue, rec1, 1, [], by first | decide | decide +kernel⟩,
   ⟨wQueue, rec1, 1, [], by first | decide | decide +kernel⟩,
   ⟨wReady, 16, 1, ⟨16, 1, 1⟩, readyItem, (.tapeStop (.peer 0 1)), _, rfl, by first | decide | rfl | decide +kernel, by first | decide | rfl | decide +kernel, rfl, rfl, rfl⟩,
   ⟨wReady, 16, 1, ⟨16, 1, 1⟩, readyItem, (.tapeStop (.peer 0 1)), _, _, rfl, by first | decide | rfl | decide +kernel, by first | decide | rfl | decide +kernel, rfl, rfl, rfl, by first | decide | rfl | decide +kernel⟩,
   ⟨w0, 0x40000000, by first | decide | decide +kernel⟩,
   ⟨wCore4, 0, 0x40080040, 1, 0, 0, .DEC_SFLAGS, by first | decide | decide +kernel⟩,
   ⟨w0, 1, by first | decide | decide +kernel⟩⟩

theorem witness_tickEventsComplete :
  (∃ (s : State), (s.ticking = true)) ∧
  (∃ (s : State), (s.flag .TC_STATUS_REFOK = false) ∧ (s.clk.taken = true) ∧ (s.phase = .running)) ∧
  (∃ (s : State) (x : TickObs), (s.ticking = true) ∧ (let u := (s.advance.setFld .LAT_STAGE_PS 0 0 (min x.stagePs 4095)).wireClear;
 (u.committed = true))) ∧
  (∃ (s : State) (x : TickObs), (s.ticking = true) ∧ (let u := (s.advance.setFld .LAT_STAGE_PS 0 0 (min x.stagePs 4095)).wireClear;
 (u.committed = false))) ∧
  (∃ (s : State) (k : Fin 4), (3 ≤ s.fld .LAT_OVR_CONSEC k) ∧ (s.lat.suspended[k] = false)) ∧
  (∃ (s : State) (k : Fin 4), (11 ≤ s.fld .LAT_OVR_CONSEC k) ∧ ((s.mot[k]).trips.contains Cause.LATTICE_OVERRUN = false)) ∧
  (∃ (s : State), (s.ticking = true) ∧ (s.lat.begun = true) ∧ (s.lat.known = false) ∧ (s.lat.winTicks = 63) ∧ ((List.finRange 6).any s.sectionLate = false)) ∧
  (∃ (s : State), (s.lat.holdLeft = 1)) ∧
  (∃ (s : State), (s.flag .LAT_CTRL_PEND = true) ∧ (s.clk.now % 6144 = 0) ∧ (s.lat.rateAt ≤ s.clk.now)) ∧
  (∃ (s : State), (s.ev.tripIn = false)) ∧
  (∃ (s : State) (n : Fin 64), (s.flag .REB_CMODE_TRIP n = true) ∧ (s.fld .REB_CMODE_MODE n = 3) ∧ (s.flag .REB_CSTAT_FROZEN n = false)) ∧
  (∃ (s : State) (k : Key) (kind : ResetKind), (s.resetReq = some (k, kind)) ∧ (s.phase = .running) ∧ ((s.statusSent k || (s.findItem k).any fun i => decide (i.acc + 100 * msCounts ≤ s.clk.now)) = true)) :=
  ⟨⟨wTick, by first | decide | decide +kernel⟩,
   ⟨wTaken, by first | decide | decide +kernel⟩,
   ⟨wTick, obs0, by first | decide | decide +kernel⟩,
   ⟨wLoadTick, obs0, by first | decide | decide +kernel⟩,
   ⟨wOvr, 0, by first | decide | decide +kernel⟩,
   ⟨wOvr, 0, by first | decide | decide +kernel⟩,
   ⟨wWin, by first | decide | decide +kernel⟩,
   ⟨wHoldLeft, by first | decide | decide +kernel⟩,
   ⟨wRate, by first | decide | decide +kernel⟩,
   ⟨w0, by first | decide | decide +kernel⟩,
   ⟨wCmp, 0, by first | decide | decide +kernel⟩,
   ⟨wReset, ⟨16, 1, 1⟩, .warm, by first | decide | decide +kernel⟩⟩

theorem witness_programEventsComplete :
  (∃ (s : State) (c : Byte), (s.flag .SER_TAPE_ENABLE = true) ∧ (s.fld .SER_TAPE_DET = 0) ∧ (s.fld .SER_TAPE_CODE = 0) ∧ (c = 0)) ∧
  (∃ (s : State) (c : Byte) (x : Nat), (s.flag .SER_TAPE_ENABLE = true) ∧ (s.fld .SER_TAPE_DET ≠ 0) ∧ (s.tape.drop = false) ∧ (s.tape.buf.length < 512) ∧ (readTape (s.fld .SER_TAPE_DET) c = .text x)) ∧
  (∃ (s : State) (c : Byte), (s.flag .SER_TAPE_ENABLE = true) ∧ (s.fld .SER_TAPE_DET ≠ 0) ∧ (s.tape.drop = false) ∧ (512 ≤ s.tape.buf.length)) ∧
  (∃ (s : State) (q : Key) (b rest : List Byte), (s.tape.item = some q) ∧ (firstBlock s.tape.buf = some (b, rest)) ∧ (s.tape.want = true) ∧ (s.tapeAdmits (bytesText b) = true) ∧ (s.tape.started = false) ∧ (isPercent b = true)) ∧
  (∃ (s : State) (q : Key) (b rest : List Byte) (p : Nat), (s.tape.item = some q) ∧ (firstBlock s.tape.buf = some (b, rest)) ∧ (s.tape.want = true) ∧ (s.tapeAdmits (bytesText b) = true) ∧ (isPercent b = false) ∧ (s.tape.started = true) ∧ (s.tape.seek = false) ∧ (blockErr (bytesText b) = none) ∧ (s.tape.toStn = none) ∧ (s.tape.toProg = some p) ∧ (let t := ({ s with tape := { s.tape with buf := rest } } : State).tapeBlocked false;
 (t.tapeTextEnds (bytesText b) = false) ∧ ((t.progAddErr p (bytesText b) = none)))) ∧
  (∃ (s : State) (q : Key) (b rest : List Byte) (k : Fin 4) (r : Reader) (c : Conv) (m : MBlock), (s.tape.item = some q) ∧ (firstBlock s.tape.buf = some (b, rest)) ∧ (s.tape.want = true) ∧ (s.tapeAdmits (bytesText b) = true) ∧ (isPercent b = false) ∧ (s.tape.started = true) ∧ (s.tape.seek = false) ∧ (blockErr (bytesText b) = none) ∧ (s.tape.toStn = some k) ∧ ((s.mot[k]).reader = some r) ∧ (let t := ({ s with tape := { s.tape with buf := rest } } : State).tapeBlocked false;
 (t.tapeTextEnds (bytesText b) = false) ∧ (let o := t.tapeOrigin;
      let key := t.candKey o;
 (t.tapeConv k r.modal key (s.tape.count + 1) (bytesText b) = .ok c) ∧ (c.block = some m) ∧ ((t.textExtends k (bytesText b) && !t.skipped k (bytesText b)) = false)))) ∧
  (∃ (s : State) (k : Fin 4) (r : Reader), ((s.mot[k]).reader = some r) ∧ (r.kind = .run) ∧ (r.ended = false) ∧ (r.ext = none) ∧ (((s.findItem r.key).map (·.st)) ≠ some .held) ∧ (s.nextText r = .ok none)) ∧
  (∃ (s : State) (k : Fin 4) (r : Reader) (x : String) (b : PBlock) (c : Conv), ((s.mot[k]).reader = some r) ∧ (r.kind = .run) ∧ (r.ended = false) ∧ (r.ext = none) ∧ (((s.findItem r.key).map (·.st)) ≠ some .held) ∧ (s.nextText r = .ok (some x)) ∧ (s.skipped k x = false) ∧ (parseBlock x = .ok b) ∧ (s.isExtension k b = false) ∧ (s.convert k r.modal ⟨r.key, false, r.prog, r.next, 0⟩ b = .ok c) ∧ (s.blockWaits k c = false)) ∧
  (∃ (s : State) (c : Fin 6) (k : Fin 4), (s.xctlAllowed c k = false)) ∧
  (∃ (s : State) (c : Fin 6) (k : Fin 4) (r : Reader) (e : Ext) (cv : Conv), (s.xctlAllowed c k = true) ∧ ((s.mot[k]).reader = some r) ∧ (r.ext = some e) ∧ (let key : Key := ⟨(s.srcNo (.core c)).val, (s.core[c]).ser, s.fld .MOT_XWSN_WSN k⟩;
 (judgeCore (s.srcNo (.core c)) (s.lastOf (s.srcNo (.core c))) key = .next) ∧ (r.ended = false) ∧ (s.accepting = true) ∧ (s.commitFull (s.slotText k).length = false) ∧ (s.replaceErr k r e (s.slotText k) key = .ok cv) ∧ (s.blockWaits k cv = false))) ∧
  (∃ (s : State) (c : Fin 6) (k : Fin 4) (r : Reader) (e : Ext), (s.xctlAllowed c k = true) ∧ ((s.mot[k]).reader = some r) ∧ (r.ext = some e) ∧ (r.kind ≠ .tape)) ∧
  (∃ (s : State) (c : Fin 6) (k : Fin 4) (r : Reader) (e : Ext), (s.xctlAllowed c k = true) ∧ ((s.mot[k]).reader = some r) ∧ (r.ext = some e) ∧ (r.kind = .tape) ∧ (r.ended = true)) ∧
  (∃ (s : State) (c : Fin 6) (k : Fin 4) (r : Reader) (e : Ext), (s.xctlAllowed c k = true) ∧ ((s.mot[k]).reader = some r) ∧ (r.ext = some e) ∧ (r.kind = .tape)) ∧
  (∃ (s : State) (k : Fin 4) (e : Ext), ((s.mot[k]).reader.bind (·.ext) = some e) ∧ (s.fld .MOT_PGM_XTMO k ≠ 0) ∧ (e.asked = true) ∧ (e.since + s.fld .MOT_PGM_XTMO k * msCounts ≤ s.clk.now)) ∧
  (∃ (s : State) (k : Fin 4) (h : Hand), ((s.mot[k]).hand = some h) ∧ (h.step = .strobed) ∧ (h.late = false) ∧ (s.fld .MOT_MFT_MFT k ≠ 0) ∧ (h.at_ + s.fld .MOT_MFT_MFT k * 100 * msCounts ≤ s.clk.now)) :=
  ⟨⟨wTape0, 0, by first | decide | decide +kernel⟩,
   ⟨wTape, 0x41, 65, by first | decide | decide +kernel⟩,
   ⟨wTapeFull, 0x41, by decide +kernel, by decide +kernel, by rw [show wTapeFull.tape.buf = List.replicate 512 (0x41 : Byte) from rfl, List.length_replicate]; exact ⟨rfl, Nat.le_refl _⟩⟩,
   ⟨wTapeB, ⟨16, 1, 1⟩, [0x25], [], by first | decide | decide +kernel⟩,
   ⟨wTapeProg, ⟨16, 1, 1⟩, [0x4D, 0x35], [], 1, by first | decide | decide +kernel⟩,
   ⟨wTapeStn, ⟨16, 1, 1⟩, [0x4D, 0x35], [], 0, reader4, _, _, rfl, rfl, by first | decide | rfl | decide +kernel, by first | decide | rfl | decide +kernel, by first | decide | rfl | decide +kernel, by first | decide | rfl | decide +kernel, by first | decide | rfl | decide +kernel, by first | decide | rfl | decide +kernel, rfl, rfl, by first | decide | rfl | decide +kernel, rfl, rfl, by first | decide | rfl | decide +kernel⟩,
   ⟨wReader, 0, reader1, by first | decide | decide +kernel⟩,
   ⟨wProgRun, 0, reader1, "M5", _, _, rfl, by first | decide | rfl | decide +kernel, by first | decide | rfl | decide +kernel, by first | decide | rfl | decide +kernel, by first | decide | rfl | decide +kernel, by first | decide | rfl | decide +kernel, by first | decide | rfl | decide +kernel, rfl, by first | decide | rfl | decide +kernel, rfl, by first | decide | rfl | decide +kernel⟩,
   ⟨w0, 0, 0, by first | decide | decide +kernel⟩,
   ⟨wExtSub, 0, 0, reader3, ext1, _, by first | decide | rfl | decide +kernel, rfl, rfl, by first | decide | rfl | decide +kernel, by first | decide | rfl | decide +kernel, by first | decide | rfl | decide +kernel, by first | decide | rfl | decide +kernel, rfl, by first | decide | rfl | decide +kernel⟩,
   ⟨wExt, 0, 0, reader2, ext1, by first | decide | decide +kernel⟩,
   ⟨wExtTape, 0, 0, reader5, ext1, by first | decide | decide +kernel⟩,
   ⟨wExtTape, 0, 0, reader5, ext1, by first | decide | decide +kernel⟩,
   ⟨wExtLate, 0, ext1, by first | decide | decide +kernel⟩,
   ⟨wMfinLate, 0, hand1, by first | decide | decide +kernel⟩⟩

theorem witness_motionEventsComplete :
  (∃ (s : State) (k : Fin 4) (b : Brake), ((s.mot[k]).brake = some b) ∧ (s.isBraking k = true) ∧ (b.begun = true) ∧ (s.standsStill k = true) ∧ (let t := forAll (s.axesOf k) s fun s a => s.setAxis a AxisSt.jogInterrupted;
 (t.interrupted k = true) ∧ (let t := (t.setStn k stHeld).setFld .MOT_STATE_WHY k 0 b.why
    let t := (if (t.mot[k]).app.isSome then t else t.pathRecord k).setMot k fun m => { m with brake := none, app := none }
    let t := (forAll b.keys t fun s q => s.workDone q).startWaiting k;
 ((t.mot[k]).resume = none)))) ∧
  (∃ (s : State) (k : Fin 4), ((s.mot[k]).delay = true) ∧ ((s.mot[k]).onAt + (s.mot[k]).lim.endly * msCounts ≤ s.clk.now) ∧ ((s.mot[k]).resume = none)) ∧
  (∃ (s : State) (k : Fin 4) (r : Resume), ((s.mot[k]).delay = true) ∧ ((s.mot[k]).onAt + (s.mot[k]).lim.endly * msCounts ≤ s.clk.now) ∧ ((s.mot[k]).resume = some r) ∧ (r.stage = .drives)) ∧
  (∃ (s : State) (k : Fin 4) (r : Resume) (p : Approach), ((s.mot[k]).resume = some r) ∧ ((s.mot[k]).app = some p) ∧ (r.stage = .approach) ∧ (s.stnState k = stApproach) ∧ ((s.approachGeo k p).len ≤ p.dist) ∧ (s.standsStill k = true)) ∧
  (∃ (s : State) (k : Fin 4) (b : MBlock) (l : List MBlock), ((s.mot[k]).win = b :: l) ∧ (b.motion = 5) ∧ ((s.mot[k]).stage = .moving) ∧ ((s.mot[k]).dwell = 0) ∧ (s.stnState k = stRun)) ∧
  (∃ (s : State) (k : Fin 4), (s.atSpeed k = true) ∧ ((s.mot[k]).resume = none)) ∧
  (∃ (s : State) (k : Fin 4) (r : Resume), (s.atSpeed k = true) ∧ ((s.mot[k]).resume = some r) ∧ (r.stage = .spindle)) ∧
  (∃ (s : State) (a : Fin 12) (k : Fin 4), (s.axisStation a = some k) ∧ (2 ≤ (s.axis[a]).feTicks) ∧ (s.flag .MOT_STATE_DRVON k = true) ∧ (s.stnState k ≠ stStopping)) ∧
  (∃ (_s : State) (d : Int), (d = 1 ∨ d = -1)) ∧
  (∃ (s : State) (n : Fin 12) (c : EncCond), (s.fld .ENC_CFG_POL n = 0) ∧ (c.illegal = false)) ∧
  (∃ (s : State) (n : Fin 12) (c : EncCond), (s.fld .ENC_CFG_POL n = 0) ∧ (c.illegal = true)) ∧
  (∃ (s : State) (n : Fin 12) (c : EncCond), (s.fld .ENC_CFG_POL n ≠ 0) ∧ (s.flag .ENC_CFG_ZEN n = false) ∧ (s.fld .ENC_STAT_LB n = 0) ∧ (c.lb.val % 4 ≠ 0) ∧ (c.ampl = false) ∧ (c.illegal = false)) ∧
  (∃ (s : State) (n : Fin 12), (s.flag .ENC_CFG_ZEN n = true) ∧ (s.flag .ENC_CFG_ZARM n = true) ∧ (s.zRefused n = false)) ∧
  (∃ (s : State) (a : Fin 12), ((s.axis[a]).satTicks = 64)) ∧
  (∃ (s : State) (a : Fin 12), ((s.axis[a]).amplTicks = 4)) ∧
  (∃ (s : State) (a : Fin 12) (k : Fin 4), (s.axisStation a = some k) ∧ ((s.axis[a]).tachTicks = 16)) ∧
  (∃ (s : State) (a : Fin 12) (k : Fin 4), (s.axisStation a = some k) ∧ (s.flag .SRV_STAT_LOSS a = true) ∧ ((s.axis[a]).lossLeft = 0) ∧ (s.axisStands k a = false) ∧ (s.stnState k ≠ stTripped)) :=
  ⟨⟨wBrake, 0, brake1, by first | decide | decide +kernel⟩,
   ⟨wDelay, 0, by first | decide | decide +kernel⟩,
   ⟨wDelayR, 0, ⟨⟨16, 1, 1⟩, .drives⟩, by first | decide | decide +kernel⟩,
   ⟨wAppr, 0, ⟨⟨16, 1, 1⟩, .approach⟩, app1, by first | decide | decide +kernel⟩,
   ⟨wDwell, 0, block5, [], by first | decide | decide +kernel⟩,
   ⟨w0, 0, by first | decide | decide +kernel⟩,
   ⟨wSpin, 0, ⟨⟨16, 1, 1⟩, .spindle⟩, by first | decide | decide +kernel⟩,
   ⟨wFe, 0, 0, by first | decide | decide +kernel⟩,
   ⟨w0, 1, by first | decide | decide +kernel⟩,
   ⟨wEnc0, 0, ⟨0, false, false⟩, by first | decide | decide +kernel⟩,
   ⟨wEnc0, 0, ⟨0, false, true⟩, by first | decide | decide +kernel⟩,
   ⟨wEnc, 0, ⟨1, false, false⟩, by first | decide | decide +kernel⟩,
   ⟨wZ, 0, by first | decide | decide +kernel⟩,
   ⟨wSat, 0, by first | decide | decide +kernel⟩,
   ⟨wSat, 0, by first | decide | decide +kernel⟩,
   ⟨wSat, 0, 0, by first | decide | decide +kernel⟩,
   ⟨wLoss, 0, 0, by first | decide | decide +kernel⟩⟩

theorem witness_decimalEventsComplete :
  (∃ (s : State) (r : DecReq), (r.req < 24) ∧ (s.decStalls r.req = false)) ∧
  (∃ (s : State) (r : DecReq), (s.decWindow.dec.busy = none) ∧ (s.decWindow.decNext = some r)) ∧
  (∃ (s : State) (r : DecReq) (x : DecRes), (s.dec.busy = some r) ∧ (s.dec.out = some x) ∧ (¬ (4 ≤ r.req ∧ r.req < 10)) ∧ (r.dsten = true) ∧ (let t := s.setFld .DEC_SFLAGS_FLAGS r.req 0 (s.fld .DEC_SFLAGS_FLAGS r.req ||| x.flags);
 (t.decDenied r = false))) ∧
  (∃ (s : State) (j : CalcJob), (s.calcu.job = some j) ∧ (j.goal = .func)) ∧
  (∃ (s : State) (k : Fin 256) (n : Nat), (s.calcOwns = true) ∧ (let t := s.setCalc fun c => { c with blank := false, keyAt := s.clk.now };
 (t.calcFn k = some n) ∧ (n < 10) ∧ (t.calcu.job = none) ∧ (t.calcu.await = none))) ∧
  (∃ (s : State), (s.phase = .keepOnly) ∧ (s.calcOwns = true) ∧ (s.fld .PNL_CALC_AUTOOFF ≠ 0) ∧ (s.calcu.keyAt + s.fld .PNL_CALC_AUTOOFF * 1000 * msCounts ≤ s.clk.now)) :=
  ⟨⟨w0, decReq1, by first | decide | decide +kernel⟩,
   ⟨wDecWin, decReq1, by first | decide | decide +kernel⟩,
   ⟨wDecOut, decReq1, ⟨0, 5, 0⟩, by first | decide | decide +kernel⟩,
   ⟨wJob, ⟨6, 0, 0, .func⟩, by first | decide | decide +kernel⟩,
   ⟨wCalc, 0, 5, by first | decide | decide +kernel⟩,
   ⟨wCalcOff, by first | decide | decide +kernel⟩⟩

theorem witness_coreEventsComplete :
  (∃ (s : State) (c k : Fin 6), (s.fld .SYS_CSTAT_STATE c ≠ 4) ∧ (let t := (s.setCoreState c 4).setCore c fun x => { x with wait := .none, load := [] }
    let t := t.commitRec.raise .fault Cause.CORE_FAILED (t.coreStn c) (inst := c.val);
 (t.fld .SYS_CFG_SPARE = k.val) ∧ (k ≠ c) ∧ (t.fld .SYS_CSTAT_STATE k ≠ 4) ∧ (t.fld .SYS_CASN_STN c ≠ 7))) ∧
  (∃ (s : State) (x : Takeover), (s.take = some x) ∧ (x.late = false) ∧ (x.at_ + 8 * s.divisor ≤ s.clk.tick)) ∧
  (∃ (s : State) (c : Fin 6), (s.fld .SYS_CCTL_SUPT c ≠ 0) ∧ (s.fld .SYS_CSTAT_STATE c = 1 ∨ s.fld .SYS_CSTAT_STATE c = 2 ∨ s.fld .SYS_CSTAT_STATE c = 3) ∧ ((s.core[c]).sup + s.fld .SYS_CCTL_SUPT c * s.divisor ≤ s.clk.tick)) ∧
  (∃ (s : State) (c : Fin 6) (n : Fin 4), ((List.finRange 4).find? (fun (n : Fin 4) => decide (n.val < s.ilv c) && s.levelPending c n) = some n) ∧ ((s.core[c]).wait = .none) ∧ (s.fld .SYS_CSTAT_STATE c = 1) ∧ ((s.core[c]).fb flIE = true) ∧ ((s.core[c]).load = [])) ∧
  (∃ (s : State) (c : Fin 6) (w : Nat × Half × Nat) (l : List (Nat × Half × Nat)), ((s.core[c]).wait = .tick) ∧ ((s.core[c]).wl = w :: l) ∧ (¬ s.clk.tick ≤ w.2.2) ∧ ((s.flag .SYS_CCTL_TICK c && (s.coreStations c).any fun k => s.lat.suspended[k]) = false)) ∧
  (∃ (s : State) (c : Fin 6) (r : Checkpoint), ((s.core[c]).wait = .chkpt r) ∧ (s.liveBytes + recBytes 768 ≤ 118784)) ∧
  (∃ (s : State) (c : Fin 6) (a : Half), ((s.core[c]).wait = .dpop a) ∧ ((s.dec.mbx[c]).isEmpty = false)) ∧
  (∃ (s : State) (c : Fin 6) (cls e w : Nat), ((s.core[c]).wait = .req) ∧ (((s.answers.find? fun x => x.1 == .core c).bind fun x => answerClass x.2) = some (cls, e, some w))) ∧
  (∃ (s : State) (c : Fin 6), (s.fld .SYS_CSTAT_STATE c = 3) ∧ ((s.core[c]).wait = .none)) :=
  ⟨⟨wSpare, 0, 1, by first | decide | decide +kernel⟩,
   ⟨wTake, ⟨0, 1, 0, false⟩, by first | decide | decide +kernel⟩,
   ⟨wSupt, 0, by first | decide | decide +kernel⟩,
   ⟨wInt, 0, 3, by first | decide | decide +kernel⟩,
   ⟨wWl, 0, (7, 0, 0), [], by first | decide | decide +kernel⟩,
   ⟨wChk, 0, (State.reset.checkpointOf 0), by first | decide | decide +kernel⟩,
   ⟨wDpop, 0, 0, by first | decide | decide +kernel⟩,
   ⟨wReqA, 0, 0, 0, 1, by first | decide | decide +kernel⟩,
   ⟨wStall, 0, by first | decide | decide +kernel⟩⟩

theorem witness_fabricEventsComplete :
  (∃ (s : State) (r : Fin 8) (l : RegionLoad), (s.loads.find? (fun l => l.cfg.any fun e => e.1 == r.val) = some l) ∧ (l.stage = .writing r false)) ∧
  (∃ (s : State) (r : Fin 8) (l : RegionLoad), (s.loads.find? (fun l => l.cfg.any fun e => e.1 == r.val) = some l) ∧ (l.stage = .writing r true)) ∧
  (∃ (s : State) (r : Fin 8) (l : RegionLoad) (e : Nat × RegionCfg) (b : Bool), (s.loads.find? (fun l => l.cfg.any fun e => e.1 == r.val) = some l) ∧ (l.stage = .writing r b) ∧ (l.cfg.find? (fun e => e.1 == r.val) = some e)) ∧
  (∃ (s : State) (r : Fin 8) (l : RegionLoad), (s.loads.find? (fun l => decide (l.stage = .due) && l.cfg.any fun e => e.1 == r.val) = some l) ∧ (s.loadLive l.cfg l.newRoutes = true)) ∧
  (∃ (s : State) (r : Fin 8) (l : RegionLoad), (s.loads.find? (fun l => decide (l.stage = .due) && l.cfg.any fun e => e.1 == r.val) = some l) ∧ (s.loadLive l.cfg l.newRoutes = false)) ∧
  (∃ (s : State) (n : Fin 64) (b : Bool), ((b && !s.flag .REB_CSTAT_SAT n) = false)) ∧
  (∃ (s : State) (n : Fin 64), (s.flag .REB_CSTAT_SAT n = false)) ∧
  (∃ (s : State) (c : Chan), (s.calOver c = true)) ∧
  (∃ (s : State) (n : Fin 16), (s.memoryPassed n = true)) ∧
  (∃ (s : State) (x : Int), ((s.setFldInt .ADC_TEMP_T 0 0 x).fld .ADC_CALCFG_CALDT = 0)) ∧
  (∃ (s : State) (x : Int), ((s.setFldInt .ADC_TEMP_T 0 0 x).fld .ADC_CALCFG_CALDT ≠ 0)) ∧
  (∃ (s : State) (d : Int), (s.fld .ADC_REF_POL ≠ 0) ∧ (s.flag .ADC_REF_FAILA = false) ∧ (s.flag .ADC_REF_FAILB = false) ∧ (s.conv.refAt + 10 * msCounts ≤ s.clk.now) ∧ (d.natAbs ≤ 80)) ∧
  (∃ (s : State) (n : Fin 16), (s.flag .FCH_TAPS_PEND n = true) ∧ (s.fld .FCH_CFG_MODE n = 2)) ∧
  (∃ (s : State) (n : Fin 16), (s.sfOver n = true)) :=
  ⟨⟨wLoadW, 0, load0, by first | decide | decide +kernel⟩,
   ⟨wLoadW2, 0, load1, by first | decide | decide +kernel⟩,
   ⟨wLoadW, 0, load0, (0, offCfg), false, by first | decide | decide +kernel⟩,
   ⟨wLoadT, 0, load4, by first | decide | decide +kernel⟩,
   ⟨wLoadD, 0, load2, by first | decide | decide +kernel⟩,
   ⟨w0, 0, false, by first | decide | decide +kernel⟩,
   ⟨w0, 0, by first | decide | decide +kernel⟩,
   ⟨wCal, 0, by first | decide | decide +kernel⟩,
   ⟨wRunCh, 0, by first | decide | decide +kernel⟩,
   ⟨wNoDt, 250, by first | decide | decide +kernel⟩,
   ⟨wDt, 250, by first | decide | decide +kernel⟩,
   ⟨wRef, 5, by first | decide | decide +kernel⟩,
   ⟨wPend, 0, by first | decide | decide +kernel⟩,
   ⟨wSf, 0, by first | decide | decide +kernel⟩⟩

theorem witness_outputEventsComplete :
  (∃ (s : State) (n : Fin 16), ((s.dac[n]).spanStep = 2)) ∧
  (∃ (s : State) (n : Fin 16), (s.flag .DAC_STAT_DGH n = true) ∧ ((s.dac[n]).dgAt + deglitchCounts ≤ s.clk.now)) ∧
  (∃ (s : State) (n : Fin 16), let t := ((s.setFlag .DAC_STAT_SHORT n 0 false).setFlag .DAC_STAT_COMPL n 0 false).setFlag .DAC_STAT_OPEN n 0 false;
 (t.dacAxisStn n = none)) ∧
  (∃ (s : State) (n : Fin 16), (s.flag .DAC_STAT_LATCHOFF n = true) ∧ (s.fld .DAC_STAT_RETRY n < 8) ∧ ((s.dac[n]).shortAt + 1010 * msCounts ≤ s.clk.now)) ∧
  (∃ (s : State) (n : Fin 16), (s.flag .DAC_STAT_LATCHOFF n = true) ∧ (s.fld .DAC_STAT_RETRY n < 7) ∧ ((s.dac[n]).shortAt + 1010 * msCounts ≤ s.clk.now)) ∧
  (∃ (s : State) (n : Fin 16), (s.flag .DAC_STAT_LATCHOFF n = true) ∧ (s.fld .DAC_STAT_RETRY n = 7) ∧ ((s.dac[n]).shortAt + 1010 * msCounts ≤ s.clk.now)) ∧
  (∃ (s : State) (g : Fin 4) (k : Key), (s.excSettled g = true) ∧ (s.flag .EXC_STAT_RAMPING g = true) ∧ ((s.exc[g]).key = some k)) ∧
  (∃ (s : State) (g : Fin 4), (s.flag .EXC_STAT_TPEND g = true) ∧ (s.excPasses g = true)) ∧
  (∃ (s : State) (g : Fin 4) (b : Bool), ((b && !s.flag .EXC_STAT_SHORT g) = false)) ∧
  (∃ (s : State) (g : Fin 4), (s.flag .EXC_STAT_SHORT g = false)) ∧
  (∃ (s : State) (g : Fin 4), (s.flag .EXC_STAT_SHORT g = true) ∧ ((s.exc[g]).shortAt + 1000 * msCounts ≤ s.clk.now) ∧ (s.flag .EXC_STAT_OFF g = false)) :=
  ⟨⟨wSpan, 0, by first | decide | decide +kernel⟩,
   ⟨wDgh, 0, by first | decide | decide +kernel⟩,
   ⟨w0, 0, by first | decide | decide +kernel⟩,
   ⟨wLatch, 0, by first | decide | decide +kernel⟩,
   ⟨wLatch, 0, by first | decide | decide +kernel⟩,
   ⟨wLatch7, 0, by first | decide | decide +kernel⟩,
   ⟨wRamp, 0, ⟨16, 1, 1⟩, by first | decide | decide +kernel⟩,
   ⟨wTpend, 0, by first | decide | decide +kernel⟩,
   ⟨w0, 0, false, by first | decide | decide +kernel⟩,
   ⟨w0, 0, by first | decide | decide +kernel⟩,
   ⟨wExcOff, 0, by first | decide | decide +kernel⟩⟩

theorem witness_panelEventsComplete :
  (∃ (s : State) (k : Fin 256), (s.powered = true) ∧ (s.keyScanned k = true) ∧ (s.panel.down.contains k.val = false) ∧ ((!s.flag .PNL_SCAN_NKEY && !s.panel.down.isEmpty) = false)) ∧
  (∃ (s : State) (k : Fin 256), ((s.comboUp k).powered = true) ∧ (s.panel.down.contains k.val = true)) ∧
  (∃ (s : State) (k : Fin 256), (s.repeatDue k = true)) ∧
  (∃ (s : State) (k : Fin 256), (s.longDue k = true)) ∧
  (∃ (s : State) (q : Requester), (s.kqMay (s.reqAuth q) = true)) ∧
  (∃ (s : State) (i : Fin 16) (a : PanelAct), (s.panel.acts.find? (fun a => a.entry == i.val && decide (a.at_ + 1000 * msCounts ≤ s.clk.now)) = some a)) ∧
  (∃ (s : State) (q : Requester) (v : Nat), (s.mayWrite q (fieldWrites .PNL_CHQ 0 0 [(.PNL_CHQ_BYTE, ((v % 256 : Nat) : Int)), (.PNL_CHQ_RS, ((v / 256 % 2 : Nat) : Int))]) = true)) ∧
  (∃ (s : State) (b : ChrByte) (l : List ChrByte) (k : Key), (s.panel.chq = b :: l) ∧ (s.fld .PNL_CHCFG_CHMODE ≠ 0) ∧ (s.panel.chrAt + s.chrCounts b ≤ s.clk.now) ∧ (b.key = some k) ∧ (b.last = true)) ∧
  (∃ (s : State) (b : ChrByte) (l : List ChrByte), (s.panel.chq = b :: l) ∧ (s.fld .PNL_CHCFG_CHMODE ≠ 0) ∧ (s.panel.chrAt + s.chrCounts b ≤ s.clk.now) ∧ (b.last = false)) ∧
  (∃ (s : State), (s.fld .PNL_CHCFG_CHMODE = 2) ∧ (s.panel.chq.isEmpty = false) ∧ (s.panel.chrAt + 20 * msCounts ≤ s.clk.now)) ∧
  (∃ (s : State), (s.comboReady 0 = true) ∧ (s.committed = true)) ∧
  (∃ (s : State), (s.phase = .running) ∧ (s.comboReady 1 = true)) ∧
  (∃ (s : State) (i : Fin 16) (a : PanelAct) (k : Fin 4) (c : Instr) (w : Work), (s.panel.acts.find? (fun a => a.entry == i.val && decide (s.clk.now < a.at_ + 1000 * msCounts)) = some a) ∧ (s.calcOwns = false) ∧ (k.val = s.fld .PNL_KACT_STN i % 4) ∧ (actCmd (s.fld .PNL_KACT_ACT i) k = some c) ∧ (s.actWork (s.fld .PNL_KACT_ACT i) k = some w) ∧ ((s.offer .panel c w).lastOf 4 ≠ s.lastOf 4)) :=
  ⟨⟨wScan, 0, by first | decide | decide +kernel⟩,
   ⟨wScanDown, 0, by first | decide | decide +kernel⟩,
   ⟨wKeyDown, 0, by first | decide | decide +kernel⟩,
   ⟨wKeyDown, 0, by first | decide | decide +kernel⟩,
   ⟨w0, (.line (.peer 0 1)), by first | decide | decide +kernel⟩,
   ⟨wActs, 0, act1, by first | decide | decide +kernel⟩,
   ⟨w0, (.line (.peer 0 1)), 0x141, by first | decide | decide +kernel⟩,
   ⟨wChq, chq1, [], ⟨16, 1, 1⟩, by first | decide | decide +kernel⟩,
   ⟨wChq0, chq0, [], by first | decide | decide +kernel⟩,
   ⟨wChq2, by first | decide | decide +kernel⟩,
   ⟨wCombo0, by first | decide | decide +kernel⟩,
   ⟨wCombo1, by first | decide | decide +kernel⟩,
   ⟨wOffer, 0, act1, 0, _, _, rfl, by first | decide | rfl | decide +kernel, by first | decide | rfl | decide +kernel, rfl, rfl, by first | decide | rfl | decide +kernel⟩⟩

theorem witness_pinEventsComplete :
  (∃ (s : State) (g : Fin 8), (s.groupState g ≠ 0) ∧ (s.fio.firstUv[g] = true ∨ s.fio.leftAt[g] + 100 * msCounts ≤ s.clk.now)) ∧
  (∃ (s : State) (g : Fin 8) (x : Fin 4), (s.groupState g = 0) ∧ (x ≠ 0)) ∧
  (∃ (s : State) (n : Fin 64), (s.pinFn n ≠ 0) ∧ ((s.isInput n && !s.groupOk n) = false)) ∧
  (∃ (s : State) (n : Fin 64) (c : Fin 7), (s.fieldLive = true) ∧ (s.groupOk n = true) ∧ (s.condBit n c = true)) ∧
  (∃ (s : State) (n : Fin 64) (c : Fin 7), (s.fieldLive = true) ∧ (s.groupOk n = true) ∧ (s.condBit n c = false) ∧ (s.condNow n c = true) ∧ (c.val ≠ 2)) ∧
  (∃ (s : State) (n : Fin 64), ((s.flag .FIO_STAT_LATCHOFF n && !(s.fio.pin[n]).retrying && !s.isEnable n && s.pinPol n == 2 && s.fld .FIO_STAT_RETRY n != 8
      && !s.pinForced n && s.isOut n && bitFind s.fio.foutDev n && decide ((s.fio.pin[n]).offAt + 1000 * msCounts ≤ s.clk.tick)) = true)) ∧
  (∃ (s : State) (n : Fin 64), ((s.fio.pin[n]).retrying = true) ∧ (s.pinForced n = false)) ∧
  (∃ (s : State) (n : Fin 64), ((s.fio.pin[n]).retrying = true) ∧ (s.pinForced n = false) ∧ ((s.fio.pin[n]).retryAt + 10 * msCounts ≤ s.clk.now)) ∧
  (∃ (s : State) (n : Fin 64), (s.flag .FIO_STAT_FAILED n = false) ∧ (s.pinFn n ≠ 0) ∧ (let t := s.setFlag .FIO_STAT_FAILED n 0 true
    let t := t.raise .fault Cause.FIO_PIN (evStn (s.pinStn n)) n.val;
 (t.enableStn n = none))) ∧
  (∃ (s : State) (i : Fin 32), ((s.fieldLive && s.flag .FIO_ACFG_OWEN i && s.fld .FIO_ACFG_POL i != 0
      && ((s.ainChans i).isEmpty || (s.ainChans i).any fun (c : Fin 24) => !s.chanAsleep c)
      && decide (s.fio.burst[i] + s.fld .FIO_ACFG_TPER i * 10 * msCounts ≤ s.clk.tick)) = true)) ∧
  (∃ (s : State) (i : Fin 32), (s.fieldLive = true) ∧ (s.fld .FIO_ASTAT_COND i / 2 ^ (1 : Fin 3).val % 2 = 1) ∧ (let t := s.setFld .FIO_ASTAT_COND i 0 (bitTo (s.fld .FIO_ASTAT_COND i) (1 : Fin 3) false);
 (t.fld .FIO_ACFG_POL i ≠ 2))) :=
  ⟨⟨wUv, 0, by first | decide | decide +kernel⟩,
   ⟨wG, 0, 1, by first | decide | decide +kernel⟩,
   ⟨wFioIn, 0, by first | decide | decide +kernel⟩,
   ⟨wCond, 0, 0, by first | decide | decide +kernel⟩,
   ⟨wCondOn, 0, 4, by first | decide | decide +kernel⟩,
   ⟨wRetry, 0, by first | decide | decide +kernel⟩,
   ⟨wRetrying, 0, by first | decide | decide +kernel⟩,
   ⟨wRetrying, 0, by first | decide | decide +kernel⟩,
   ⟨wFioIn, 0, by first | decide | decide +kernel⟩,
   ⟨wBurst, 0, by first | decide | decide +kernel⟩,
   ⟨wAinC, 0, by first | decide | decide +kernel⟩⟩

theorem witness_linkEventsComplete :
  (∃ (s : State) (p : Fin 2), (s.linkOn = true) ∧ (s.portUp p = false) ∧ (s.fld .OLK_PSTAT_STATE p ≠ 3)) ∧
  (∃ (s : State) (p : Fin 2), (s.fld .OLK_PSTAT_STATE p = 1 ∨ s.fld .OLK_PSTAT_STATE p = 2)) ∧
  (∃ (s : State) (p : Fin 2), (s.linkOn = true) ∧ (s.fld .OLK_PSTAT_STATE p = 0) ∧ (((s.lnk.port[p]).downAt.map fun t => decide (t + 100 * msCounts ≤ s.clk.now)).getD true = true)) ∧
  (∃ (s : State) (p : Fin 2) (l : List Nat), (s.portUp p = true) ∧ (s.flag .OLK_PSTAT_LOW p = false) ∧ ((s.lnk.port[p]).errAt.filter (fun t => decide (s.clk.now < t + 1000 * msCounts)) = l)) ∧
  (∃ (s : State) (p : Fin 2) (l : List Nat), (s.portUp p = true) ∧ (s.flag .OLK_PSTAT_LOW p = false) ∧ ((s.lnk.port[p]).errAt.filter (fun t => decide (s.clk.now < t + 1000 * msCounts)) = l) ∧ (l.length ≤ 8) ∧ (let t := (s.bump .OLK_PCNT_ERRS p 0 (8 - l.length)).setLPort p fun q => { q with errAt := l ++ List.replicate (8 - l.length) s.clk.now };
 (t.flag .OLK_PSTAT_LOW p = false) ∧ (t.portUp p = true))) ∧
  (∃ (s : State) (r : LinkRx) (u : State), (s.takeRx typTopo = some (r, u)) ∧ (r.f.src = u.ownAddr) ∧ (u.flag .OLK_STAT_ADDRDUP = false)) ∧
  (∃ (s : State) (p : Fin 2) (l : List Byte), (s.linkOn = true) ∧ (s.portUp p = true) ∧ (parseFrame l = none)) ∧
  (∃ (s : State) (p : Fin 2) (l : List Byte) (f : LinkFrame) (q n : Nat), (s.linkOn = true) ∧ (s.portUp p = true) ∧ (parseFrame l = some (f, q)) ∧ (¬ (f.hops = 0 ∧ f.dmask / 2 ^ s.ownAddr % 2 = 0)) ∧ ((s.lnk.port[p]).seen = some n) ∧ (q = (n + 1) % 65536)) ∧
  (∃ (s : State) (p : Fin 2) (l : List Byte) (f : LinkFrame) (q n : Nat), (s.linkOn = true) ∧ (s.portUp p = true) ∧ (parseFrame l = some (f, q)) ∧ (¬ (f.hops = 0 ∧ f.dmask / 2 ^ s.ownAddr % 2 = 0)) ∧ ((s.lnk.port[p]).seen = some n) ∧ (q ≠ (n + 1) % 65536) ∧ ((n + 65536 - q) % 65536 < 32768)) ∧
  (∃ (_s : State) (n : Nat), (n % 65536 ≠ 0)) ∧
  (∃ (_s : State) (n : Nat), (n % 65536 = 0)) ∧
  (∃ (s : State) (p : Fin 2), ((s.lnk.port[p]).pauseQ ≠ 0)) ∧
  (∃ (s : State) (p : Fin 2), ((s.portUp p && (s.lnk.port[p]).pausing && s.congested p) = true)) ∧
  (∃ (s : State) (p : Fin 2), ((s.portUp p && (s.lnk.port[p]).pausing && s.congested p) = false)) ∧
  (∃ (s : State) (p : Fin 2), ((s.lnk.port[p]).pauseQ = 0)) ∧
  (∃ (s : State) (p : Fin 2), (s.portUp p = true) ∧ (s.isMaster = false)) ∧
  (∃ (s : State), (s.isMaster = true) ∧ ((s.portUp 0 || s.portUp 1) = true) ∧ ((s.lnk.lastSync.map fun t => decide (t + msCounts ≤ s.clk.now)).getD true = true)) ∧
  (∃ (s : State), (s.flag .TC_STATUS_SYNCED = true) ∧ ((s.lnk.lastSync.map fun t => decide (s.clk.now < t + 10 * msCounts)).getD false = false)) ∧
  (∃ (s : State) (p : Fin 2), (s.portUp p = true)) ∧
  (∃ (s : State) (r : LinkRx) (u : State), (s.takeRx typMirror = some (r, u)) ∧ ((u.flag .OLK_MIRROR_INEN && u.fld .OLK_MIRROR_IN == r.f.src && r.f.payload.length == 96) = true)) :=
  ⟨⟨wLink, 0, by first | decide | decide +kernel⟩,
   ⟨wUp, 0, by first | decide | decide +kernel⟩,
   ⟨wLink, 0, by first | decide | decide +kernel⟩,
   ⟨wUpR, 0, [], by first | decide | decide +kernel⟩,
   ⟨wUpA, 0, [], by first | decide | decide +kernel⟩,
   ⟨wTopo, _, _, rfl, by first | decide | rfl | decide +kernel, by first | decide | rfl | decide +kernel⟩,
   ⟨wUp, 0, [], by first | decide | decide +kernel⟩,
   ⟨wUpSeen, 0, frameBytes1, frame1, 1, 0, by decide +kernel⟩,
   ⟨wUpSeen1, 0, frameBytes1, frame1, 1, 1, by decide +kernel⟩,
   ⟨w0, 5, by first | decide | decide +kernel⟩,
   ⟨w0, 0, by first | decide | decide +kernel⟩,
   ⟨wPause, 0, by first | decide | decide +kernel⟩,
   ⟨wCong, 0, by first | decide | decide +kernel⟩,
   ⟨w0, 0, by first | decide | decide +kernel⟩,
   ⟨w0, 0, by first | decide | decide +kernel⟩,
   ⟨wUpS, 0, by first | decide | decide +kernel⟩,
   ⟨wUp, by first | decide | decide +kernel⟩,
   ⟨wSynced, by first | decide | decide +kernel⟩,
   ⟨wUp, 0, by first | decide | decide +kernel⟩,
   ⟨wMirror, _, _, rfl, by decide +kernel⟩⟩

theorem witness_peerEventsComplete :
  (∃ (s : State) (r : LinkRx) (u : State) (d : Fin 8) (i : Instr), (s.answering = true) ∧ (s.takeRx typLine = some (r, u)) ∧ (srcDev r.f.src = some d) ∧ (r.f.q = true) ∧ (((u.openLine ⟨16 + d.val, 0, queryMark r.f.txn⟩ d r.f.txn).setLnk fun l => { l with auth := r.auth }).accepting = true) ∧ (((u.openLine ⟨16 + d.val, 0, queryMark r.f.txn⟩ d r.f.txn).setLnk fun l => { l with auth := r.auth }).peerText (.peer d (queryMark r.f.txn)) d true r.f.payload = .ok i)) ∧
  (∃ (s : State) (r : LinkRx) (u : State) (x : Txn), (s.takeRx typAnswer = some (r, u)) ∧ (u.findTxn r.f.txn = some x) ∧ (x.d.val = r.f.src)) ∧
  (∃ (s : State) (r : LinkRx) (u : State) (x : Txn), (s.takeRx typResult = some (r, u)) ∧ (u.findMc r.f.txn = none) ∧ (u.findTxn r.f.txn = some x) ∧ (x.d.val = r.f.src) ∧ (x.st ≠ .query)) ∧
  (∃ (s : State) (r : LinkRx) (u : State) (d : Fin 8) (m : Item), (s.takeRx typStatusq = some (r, u)) ∧ (srcDev r.f.src = some d) ∧ (u.findItem ⟨16 + d.val, (u.source (16 + d.val)).ser, r.f.wsn⟩ = some m) ∧ (4 ≤ stateCode m.st)) ∧
  (∃ (s : State) (r : LinkRx) (u : State) (x : Txn) (n : Nat), (s.takeRx typStatusa = some (r, u)) ∧ (u.findTxn r.f.txn = some x) ∧ (x.st = .inDoubt n) ∧ (x.d.val = r.f.src) ∧ (byteAt r.f.payload 0 = 4)) ∧
  (∃ (s : State) (r : LinkRx) (u : State) (d : Fin 8) (n : Nat), (s.answering = true) ∧ (s.takeRx typPrepare = some (r, u)) ∧ (srcDev r.f.src = some d) ∧ (u.accepting = true) ∧ (u.peerText (.peer d (leAt r.f.payload (4 * u.ownAddr) 4)) d false (r.f.payload.drop 32) = .error n)) ∧
  (∃ (s : State) (r : LinkRx) (u : State) (d : Fin 8) (i : Instr) (w : Work), (s.answering = true) ∧ (s.takeRx typPrepare = some (r, u)) ∧ (srcDev r.f.src = some d) ∧ (u.accepting = true) ∧ (u.peerText (.peer d (leAt r.f.payload (4 * u.ownAddr) 4)) d false (r.f.payload.drop 32) = .ok i) ∧ (((u.measured i).2.setLnk fun l => { l with auth := r.auth }).workOf (u.measured i).1 = some w) ∧ ((((u.measured i).2.setLnk fun l => { l with auth := r.auth }).legOf (u.candKey (.peer d (leAt r.f.payload (4 * u.ownAddr) 4)))).isSome = false)) ∧
  (∃ (s : State) (r : LinkRx) (u : State) (m : Multicast), (s.takeRx typVote = some (r, u)) ∧ (let v := (u.modMc r.f.txn (modLeg r.f.src fun e => { e with vote := some (byteAt r.f.payload 0, leAt r.f.payload 2 2) })).commitRec;
 (v.findMc r.f.txn = some m) ∧ (m.dec = .open_) ∧ (m.legs.any (fun e => e.d.val == r.f.src) = true) ∧ (byteAt r.f.payload 0 = 1))) ∧
  (∃ (s : State) (r : LinkRx) (u : State), (s.takeRx typCommit = some (r, u))) ∧
  (∃ (s : State) (r : LinkRx) (u : State), (s.takeRx typAbort = some (r, u))) ∧
  (∃ (s : State) (r : LinkRx) (u : State) (d : Fin 8), (s.takeRx typHello = some (r, u)) ∧ (srcDev r.f.src = some d) ∧ ((leAt r.f.payload (6 * u.ownAddr) 2 != (u.source (16 + d.val)).ser || decide (leAt r.f.payload (6 * u.ownAddr + 2) 4 < (u.source (16 + d.val)).last)) = false)) ∧
  (∃ (s : State) (r : LinkRx) (u : State) (d : Fin 8), (s.takeRx typHello = some (r, u)) ∧ (srcDev r.f.src = some d) ∧ ((leAt r.f.payload (6 * u.ownAddr) 2 != (u.source (16 + d.val)).ser || decide (leAt r.f.payload (6 * u.ownAddr + 2) 4 < (u.source (16 + d.val)).last)) = true)) ∧
  (∃ (s : State) (r : LinkRx) (u : State) (d : Fin 8), (s.answering = true) ∧ (s.takeRx typSeries = some (r, u)) ∧ (srcDev r.f.src = some d) ∧ (u.accepting = true) ∧ (u.seriesClosed (16 + d.val) = true) ∧ (u.commitFull = false)) ∧
  (∃ (s : State) (n : Nat) (x : Txn), (s.findTxn n = some x) ∧ (s.timedOut x.at_ = true) ∧ (x.st = .query)) ∧
  (∃ (s : State) (n : Nat) (x : Txn), (s.findTxn n = some x) ∧ (s.timedOut x.at_ = true) ∧ (x.st = .sent) ∧ (x.d.val ≠ s.ownAddr) ∧ ((((x.key.bind s.findItem).map (·.st)) == some .held) = false)) ∧
  (∃ (s : State) (n q : Nat) (x : Txn), (s.findTxn n = some x) ∧ (x.st = .inDoubt q) ∧ (q < 8) ∧ ((if q = 0 then s.portUp 0 || s.portUp 1 else s.timedOut x.at_) = true)) ∧
  (∃ (s : State) (n : Nat) (x : Txn), (s.findTxn n = some x) ∧ (x.st = .inDoubt 8) ∧ (s.timedOut x.at_ = true)) ∧
  (∃ (s : State) (n : Nat) (x : Txn), (s.findTxn n = some x) ∧ (x.st = .busy)) ∧
  (∃ (s : State) (n : Nat) (m : Multicast), (s.findMc n = some m) ∧ (m.dec = .open_) ∧ (s.timedOut m.at_ = true)) ∧
  (∃ (s : State) (n : Nat) (m : Multicast), (s.findMc n = some m) ∧ ((m.legs.foldl (fun (t : Nat) (e : McLeg) => if e.acked then t else t + 2 ^ e.d.val) 0) ≠ 0)) ∧
  (∃ (s : State), (s.flag .TC_STATUS_REFOK = true) ∧ (s.phase = .running)) :=
  ⟨⟨wRxLine, _, _, 1, (.authQuery (.peer 1 (queryMark 9))), by first | decide | rfl | decide +kernel, rfl, rfl, by first | decide | rfl | decide +kernel, by first | decide | rfl | decide +kernel, ok_of (by decide +kernel)⟩,
   ⟨wRxAns, _, _, _, rfl, rfl, by first | decide | rfl | decide +kernel⟩,
   ⟨wRxRes, _, _, _, rfl, by first | decide | rfl | decide +kernel, rfl, by first | decide | rfl | decide +kernel, by first | decide | rfl | decide +kernel⟩,
   ⟨wRxSq, _, _, _, _, rfl, rfl, rfl, by first | decide | rfl | decide +kernel⟩,
   ⟨wRxSa, _, _, _, 1, rfl, rfl, by first | decide | rfl | decide +kernel, by first | decide | rfl | decide +kernel, by first | decide | rfl | decide +kernel⟩,
   ⟨wRxPrep, _, _, 1, 101, by decide +kernel, rfl, rfl, by decide +kernel, err_of (by decide +kernel)⟩,
   ⟨wRxPrep2, _, _, 1, (.hold (.peer 1 5) none none), _, by decide +kernel, rfl, rfl, by decide +kernel, ok_of (by decide +kernel), rfl, by decide +kernel⟩,
   ⟨wRxVote, _, _, mcv, rfl, rfl, by first | decide | rfl | decide +kernel, by first | decide | rfl | decide +kernel, by first | decide | rfl | decide +kernel⟩,
   ⟨wRxCommit, _, _, rfl⟩,
   ⟨wRxAbort, _, _, rfl⟩,
   ⟨wRxHello, _, _, 1, rfl, rfl, by first | decide | rfl | decide +kernel⟩,
   ⟨wRxHello2, _, _, 1, rfl, rfl, by first | decide | rfl | decide +kernel⟩,
   ⟨wRxSeries, _, _, 1, by first | decide | rfl | decide +kernel, rfl, rfl, by first | decide | rfl | decide +kernel, by first | decide | rfl | decide +kernel, by first | decide | rfl | decide +kernel⟩,
   ⟨wTxnQ, 1, txnQ, by first | decide | decide +kernel⟩,
   ⟨wTxnS, 1, txnS, by first | decide | decide +kernel⟩,
   ⟨wTxnD, 1, 1, txnD, by first | decide | decide +kernel⟩,
   ⟨wTxnD8, 1, txnD8, by first | decide | decide +kernel⟩,
   ⟨wTxnB, 1, txnB, by first | decide | decide +kernel⟩,
   ⟨wMc, 1, mc1, by first | decide | decide +kernel⟩,
   ⟨wMc, 1, mc1, by first | decide | decide +kernel⟩,
   ⟨wTick, by first | decide | decide +kernel⟩⟩

theorem witness_storeEventsComplete :
  (∃ (s : State) (x : FlashOp) (l : List FlashOp) (k : Key), (s.flash.ops = x :: l) ∧ (s.flag .FLS_STAT_SUSP = false) ∧ (x.key = some k)) ∧
  (∃ (s : State) (x : FlashOp) (l : List FlashOp), (s.flash.ops = x :: l) ∧ (s.flag .FLS_STAT_SUSP = false) ∧ (s.flashBankBad (bankOfSect x.sect) = false) ∧ (x.key = none)) ∧
  (∃ (s : State), (s.flag .FLS_STAT_XSUSP = false)) ∧
  (∃ (s : State), (s.flash.ops = []) ∧ (s.phase = .running) ∧ (s.flash.restAt + 10 * msCounts ≤ s.clk.now)) ∧
  (∃ (s : State) (a : Nat), (inSram a = true) ∧ (s.wordFails a = false) ∧ (a / 0x200000 = 0) ∧ (generalPage a = none)) ∧
  (∃ (_s : State) (n : Nat), (n ≠ 0)) :=
  ⟨⟨wFlash, _, _, _, rfl, by first | decide | rfl | decide +kernel, rfl⟩,
   ⟨wFlash2, _, _, rfl, by first | decide | rfl | decide +kernel, by first | decide | rfl | decide +kernel, by first | decide | rfl | decide +kernel⟩,
   ⟨w0, by first | decide | decide +kernel⟩,
   ⟨wIdleFl, by first | decide | decide +kernel⟩,
   ⟨w0, 0x144000, by first | decide | decide +kernel⟩,
   ⟨w0, 1, by first | decide | decide +kernel⟩⟩

theorem witness_startUpEventsComplete :
  (∃ (s : State), (s.phase = .keepOnly)) ∧
  (∃ (s : State), (s.phase = .off)) ∧
  (∃ (s : State), (s.phase = .inReset)) ∧
  (∃ (s : State), (s.phase = .running)) ∧
  (∃ (s : State) (n : Nat), (s.pwr.wdt = some n) ∧ (n ≤ s.clk.now)) ∧
  (∃ (s : State) (n : Nat), (s.pwr.closing = some (.warm, n)) ∧ (s.phase = .closing) ∧ (s.allAtRest = true)) ∧
  (∃ (s : State) (k : Fin 4), (s.phase = .closing) ∧ (s.atRest k = false) ∧ (s.pwr.closeAt + 2000 * msCounts ≤ s.clk.now)) ∧
  (∃ (s : State), (s.coldClosed.phase = .inReset) ∧ (s.coldClosed.fld .TC_REFSEL_SEL = 0)) ∧
  (∃ (s : State), (s.phase = .waitRef) ∧ (s.clk.startTimeout = false)) ∧
  (∃ (s : State) (x : RefSrc), (s.phase = .waitRef) ∧ (x = s.clk.chosen ∨ s.clk.startTimeout = true)) ∧
  (∃ (s : State), (s.phase = .waitRef ∨ s.phase = .loading) ∧ (s.boot.tested = false)) ∧
  (∃ (s : State), (s.phase = .loading) ∧ (s.boot.calibrated = false)) ∧
  (∃ (s : State), (s.phase = .loading) ∧ (s.boot.cand = none) ∧ (s.boot.cands = [])) ∧
  (∃ (s : State) (l : List Byte) (c : Candidate) (m : Image) (r : List Candidate) (x y : Vector Nat 12), (s.phase = .loading) ∧ (s.boot.cand = none) ∧ (s.boot.cands = c :: r) ∧ (c.skip = false) ∧ (s.checkSource c.src l = (0, some m)) ∧ (s.contentBad (m.withOwners x.toList y.toList) = false)) ∧
  (∃ (s : State) (c d : Candidate) (r : List Candidate), (s.phase = .loading) ∧ (s.boot.cand = none) ∧ (s.boot.cands = c :: d :: r)) ∧
  (∃ (s : State), (s.phase = .loading) ∧ (s.boot.cand.isSome = true) ∧ (s.boot.tested = true) ∧ (s.boot.calibrated = true)) ∧
  (∃ (s : State) (c : Candidate) (m : Image), (s.phase = .waiting) ∧ (s.boot.cand = some (c, m)) ∧ (m.regions = [])) ∧
  (∃ (s : State) (m : Image), (s.committed = true) ∧ (s.boot.settle = some 0) ∧ (s.boot.run = some m)) ∧
  (∃ (s : State), (s.phase = .waiting) ∧ (s.boot.late = false) ∧ (s.boot.waitAt + s.fld .CFG_POLICY_WAIT * 1000 * msCounts ≤ s.clk.now)) ∧
  (∃ (s : State), (s.phase = .replaying)) ∧
  (∃ (s : State) (n : Nat) (l : List Nat), (s.phase = .console) ∧ ((l.isEmpty ∨ 16 < l.length ∨ n % 4 ≠ 0 ∨ 1048576 < n + 4 * l.length ∨ l.any (fun w => 2 ^ 32 ≤ w)) = False)) ∧
  (∃ (s : State) (x : Fin 2) (m : Image), (s.phase = .console) ∧ (s.flash.ops = []) ∧ (s.flashBankBad x = false) ∧ (s.checkStream s.bufRdr true 1 = (0, some m)) ∧ (s.contentBad m = false)) :=
  ⟨⟨wKeep, by first | decide | decide +kernel⟩,
   ⟨wOff, by first | decide | decide +kernel⟩,
   ⟨wInReset, by first | decide | decide +kernel⟩,
   ⟨w0, by first | decide | decide +kernel⟩,
   ⟨wWdt, 0, by first | decide | decide +kernel⟩,
   ⟨wClosing, 5, by first | decide | decide +kernel⟩,
   ⟨wWstop, 0, by first | decide | decide +kernel⟩,
   ⟨wInReset, by first | decide | decide +kernel⟩,
   ⟨wWait, by first | decide | decide +kernel⟩,
   ⟨wWait, .xtal, by first | decide | decide +kernel⟩,
   ⟨wWait, by first | decide | decide +kernel⟩,
   ⟨wLoad, by first | decide | decide +kernel⟩,
   ⟨wLoad, by first | decide | decide +kernel⟩,
   ⟨wLoadX, stream48, ⟨0, 2, false⟩, img48, [], own0, own0, rfl, rfl, rfl, rfl, by decide +kernel, by decide⟩,
   ⟨wLoadC, ⟨0, 0, false⟩, ⟨1, 1, false⟩, [], by first | decide | decide +kernel⟩,
   ⟨wLoadD2, by first | decide | decide +kernel⟩,
   ⟨wDone, ⟨0, 0, false⟩, img0, by first | decide | decide +kernel⟩,
   ⟨wSettle, img0, by first | decide | decide +kernel⟩,
   ⟨wWaiting, by first | decide | decide +kernel⟩,
   ⟨wReplay, by first | decide | decide +kernel⟩,
   ⟨wCons, 0, [1], by first | decide | decide +kernel⟩,
   ⟨wConsX, 0, img48, rfl, rfl, by decide, by decide +kernel, by decide⟩⟩

theorem witness_powerEventsComplete :
  (∃ (s : State) (k : Fin 4), (s.fld .PWR_IDLE_NOW k = 3) ∧ (((s.fbChans k).all (fun c => s.chFld .ADC_PSTAT_VALID .ADC_FSTAT_VALID c != 0)
    && (s.fbExcs k).all fun g => !s.flag .EXC_STAT_RAMPING g) = true)) ∧
  (∃ (s : State) (n : Nat), (s.phase ≠ .off) ∧ (¬ n < 2400)) ∧
  (∃ (s : State) (n : Nat), (n < 2400) ∧ (s.phase ≠ .off) ∧ (s.flag .PWR_STAT_VBATLOW = false) ∧ (s.flag .PWR_STAT_VINOK = true)) ∧
  (∃ (s : State), (s.pwr.hot = false) ∧ (s.committed = true)) ∧
  (∃ (s : State), (s.committed = true)) ∧
  (∃ (s : State) (k : Fin 16), (s.skimRuns k = true) ∧ (s.skimFull k = true)) ∧
  (∃ (s : State), (s.flag .OBS_FRZ_PINEN = true)) ∧
  (∃ (_s : State) (n : Nat), (3 ≤ n % 64)) ∧
  (∃ (_s : State) (n : Nat), (n % 64 = 0)) :=
  ⟨⟨wWake, 3, by first | decide | decide +kernel⟩,
   ⟨w0, 3000, by first | decide | decide +kernel⟩,
   ⟨wVin, 2000, by first | decide | decide +kernel⟩,
   ⟨w0, by first | decide | decide +kernel⟩,
   ⟨w0, by first | decide | decide +kernel⟩,
   ⟨wSkim, 0, by first | decide | decide +kernel⟩,
   ⟨wFrz, by first | decide | decide +kernel⟩,
   ⟨w0, 63, by first | decide | decide +kernel⟩,
   ⟨w0, 0, by first | decide | decide +kernel⟩⟩

theorem witness_writeOnlyRowsComplete :
  (∃ (s : State) (q : Requester) (r : Fin 16), (s.mayWrite q (fieldWrites .RING_CLR r 0 [(.RING_CLR_CLR, 1)]) = true) ∧ (s.wrErr (fieldWrites .RING_CLR r 0 [(.RING_CLR_CLR, 1)]) = none)) ∧
  (∃ (s : State) (q : Requester) (a : Fin 12), (s.mayWrite q (fieldWrites .SRV_APPLY a 0 [(.SRV_APPLY_APPLY, 1)]) = true) ∧ (s.wrErr (fieldWrites .SRV_APPLY a 0 [(.SRV_APPLY_APPLY, 1)]) = none)) ∧
  (∃ (s : State) (q : Requester), (s.mayWrite q (fieldWrites .DEC_CLR 0 0 [(.DEC_CLR_CLR, 1)]) = true) ∧ (s.wrErr (fieldWrites .DEC_CLR 0 0 [(.DEC_CLR_CLR, 1)]) = none)) ∧
  (∃ (s : State) (q : Requester) (v : Nat), (s.mayWrite q (fieldWrites .PWR_WDT 0 0 [(.PWR_WDT_KICK, ((v % 256 : Nat) : Int))]) = true) ∧ (s.wrErr (fieldWrites .PWR_WDT 0 0 [(.PWR_WDT_KICK, ((v % 256 : Nat) : Int))]) = none)) ∧
  (∃ (s : State) (q : Requester) (v : Nat), (s.mayWrite q (fieldWrites .OBS_TRMARK 0 0 [(.OBS_TRMARK_V, ((v % 2 ^ 32 : Nat) : Int))]) = true) ∧ (s.wrErr (fieldWrites .OBS_TRMARK 0 0 [(.OBS_TRMARK_V, ((v % 2 ^ 32 : Nat) : Int))]) = none)) ∧
  (∃ (s : State) (q : Requester), (s.mayWrite q (fieldWrites .LAT_CLR 0 0 [(.LAT_CLR_CLR_LOW, 1)]) = true) ∧ (s.wrErr (fieldWrites .LAT_CLR 0 0 [(.LAT_CLR_CLR_LOW, 1)]) = none)) ∧
  (∃ (s : State) (q : Requester) (k : Fin 4), (s.mayWrite q (fieldWrites .LAT_CLR 0 0 [(.LAT_CLR_CLR_OVR, ((2 ^ k.val : Nat) : Int))]) = true) ∧ (s.wrErr (fieldWrites .LAT_CLR 0 0 [(.LAT_CLR_CLR_OVR, ((2 ^ k.val : Nat) : Int))]) = none)) ∧
  (∃ (s : State) (q : Requester) (p : Fin 2), (s.mayWrite q (fieldWrites .SER_CLR p 0 [(.SER_CLR_CLR_REJ, 1)]) = true) ∧ (s.wrErr (fieldWrites .SER_CLR p 0 [(.SER_CLR_CLR_REJ, 1)]) = none)) ∧
  (∃ (s : State) (q : Requester) (p : Fin 2), (s.mayWrite q (fieldWrites .SER_CLR p 0 [(.SER_CLR_CLR_ALOST, 1)]) = true) ∧ (s.wrErr (fieldWrites .SER_CLR p 0 [(.SER_CLR_CLR_ALOST, 1)]) = none)) ∧
  (∃ (s : State) (q : Requester), (s.mayWrite q (fieldWrites .SYS_SCLR 0 0 [(.SYS_SCLR_CLR, 1)]) = true) ∧ (s.wrErr (fieldWrites .SYS_SCLR 0 0 [(.SYS_SCLR_CLR, 1)]) = none)) ∧
  (∃ (s : State) (q : Requester), (s.mayWrite q (fieldWrites .JRN_CLR 0 0 [(.JRN_CLR_CLR, 1)]) = true) ∧ (s.wrErr (fieldWrites .JRN_CLR 0 0 [(.JRN_CLR_CLR, 1)]) = none)) ∧
  (∃ (s : State) (q : Requester) (n : Fin 16), (s.mayWrite q (fieldWrites .NOC_PCLR n 0 [(.NOC_PCLR_CLR, 1)]) = true) ∧ (s.wrErr (fieldWrites .NOC_PCLR n 0 [(.NOC_PCLR_CLR, 1)]) = none)) ∧
  (∃ (s : State) (q : Requester) (c : Fin 6), (s.mayWrite q (fieldWrites .DEC_MBX c 5 []) = true)) :=
  ⟨⟨w0, (.line (.peer 0 1)), 0, by first | decide | decide +kernel⟩,
   ⟨w0, (.line (.peer 0 1)), 0, by first | decide | decide +kernel⟩,
   ⟨w0, (.line (.peer 0 1)), by first | decide | decide +kernel⟩,
   ⟨w0, (.line (.peer 0 1)), 0x5A, by first | decide | decide +kernel⟩,
   ⟨w0, (.line (.peer 0 1)), 5, by first | decide | decide +kernel⟩,
   ⟨w0, (.line (.peer 0 1)), by first | decide | decide +kernel⟩,
   ⟨w0, (.line (.peer 0 1)), 0, by first | decide | decide +kernel⟩,
   ⟨w0, (.line (.peer 0 1)), 0, by first | decide | decide +kernel⟩,
   ⟨w0, (.line (.peer 0 1)), 0, by first | decide | decide +kernel⟩,
   ⟨w0, (.line (.peer 0 1)), by first | decide | decide +kernel⟩,
   ⟨w0, (.line (.peer 0 1)), by first | decide | decide +kernel⟩,
   ⟨w0, (.line (.peer 0 1)), 0, by first | decide | decide +kernel⟩,
   ⟨w0, (.line (.peer 0 1)), 0, by first | decide | decide +kernel⟩⟩

theorem witness_coreControlCompletes :
  (∃ (s : State) (c : Fin 6), (s.executes c 1)) ∧
  (∃ (s : State) (c : Fin 6), (s.executes c 2)) ∧
  (∃ (s : State) (c : Fin 6), (s.executes c 1) ∧ (((s.fetched c 1).core[c]).wl = []) ∧ ((s.fetched c 1).take = none)) ∧
  (∃ (s : State) (c : Fin 6), (s.executes c 1) ∧ ((s.fetched c 1).ilv c ≠ 7)) ∧
  (∃ (s : State) (c : Fin 6), (s.executes c 1) ∧ ((s.fetched c 1).ilv c = 7)) ∧
  (∃ (s : State) (c : Fin 6) (w0 w1 : Half), (s.executes c 1) ∧ (isReserved w0.toNat w1.toNat = true)) :=
  ⟨⟨wCore, 0, by first | decide | decide +kernel⟩,
   ⟨wCore, 0, by first | decide | decide +kernel⟩,
   ⟨wCore, 0, by first | decide | decide +kernel⟩,
   ⟨wCoreV, 0, by first | decide | decide +kernel⟩,
   ⟨wCore7, 0, by first | decide | decide +kernel⟩,
   ⟨wCore, 0, 0xFFFF, 0, by first | decide | decide +kernel⟩⟩

theorem witness_coreMemoryCompletes :
  (∃ (s : State) (c : Fin 6), (s.executes c 1)) ∧
  (∃ (s : State) (c : Fin 6) (m : WinMode), (s.executes c (winWords m))) ∧
  (∃ (s : State) (c : Fin 6), (s.executes c 2)) :=
  ⟨⟨wCore, 0, by first | decide | decide +kernel⟩,
   ⟨wCore, 0, .inc, by first | decide | decide +kernel⟩,
   ⟨wCore, 0, by first | decide | decide +kernel⟩⟩

theorem witness_coreArithmeticCompletes :
  (∃ (s : State) (c : Fin 6), (s.executes c 1)) ∧
  (∃ (s : State) (c : Fin 6), (s.executes c 2)) :=
  ⟨⟨wCore, 0, by first | decide | decide +kernel⟩,
   ⟨wCore, 0, by first | decide | decide +kernel⟩⟩

theorem witness_coreBitsAndRepeatsComplete :
  (∃ (s : State) (c : Fin 6), (s.executes c 2)) ∧
  (∃ (s : State) (c : Fin 6), (s.executes c 1) ∧ ((s.core[c]).cnt = 0)) ∧
  (∃ (s : State) (c : Fin 6), (s.executes c 1) ∧ ((s.core[c]).cnt ≠ 0) ∧ (s.mayBreak c = false)) ∧
  (∃ (s : State) (c : Fin 6), (s.executes c 1) ∧ ((s.core[c]).cnt ≠ 0) ∧ (s.mayBreak c = true)) ∧
  (∃ (s : State) (c : Fin 6), (s.executes c 1) ∧ (s.decStalls (c.val + 4) = false)) ∧
  (∃ (s : State) (c : Fin 6), (s.executes c 1) ∧ ((s.fetched c 1).fld .DEC_OUT_OUT (c.val + 4) = 0)) ∧
  (∃ (s : State) (c : Fin 6), (s.executes c 1) ∧ ((s.fetched c 1).fld .DEC_OUT_OUT (c.val + 4) ≠ 0) ∧ (((s.fetched c 1).dec.mbx[c]).isEmpty = false)) ∧
  (∃ (s : State) (c : Fin 6), (s.executes c 1)) :=
  ⟨⟨wCore, 0, by first | decide | decide +kernel⟩,
   ⟨wCore, 0, by first | decide | decide +kernel⟩,
   ⟨wCnt, 0, by first | decide | decide +kernel⟩,
   ⟨wCntI, 0, by first | decide | decide +kernel⟩,
   ⟨wCore, 0, by first | decide | decide +kernel⟩,
   ⟨wCore, 0, by first | decide | decide +kernel⟩,
   ⟨wCoreMbx, 0, by first | decide | decide +kernel⟩,
   ⟨wCore, 0, by first | decide | decide +kernel⟩⟩

/-- A decimal request of code `n` in operation: each operation and the invalid codes have one. -/
def wDecOp (n : Nat) : State := { w0 with dec := { w0.dec with busy := some { decReq1 with op := n }, out := none } }

theorem witness_decimalOperationsComplete (n : Nat) :
    ∃ (s : State) (r : DecReq), s.dec.busy = some r ∧ s.dec.out = none ∧ s.decDenied r = false ∧ r.op = n :=
  ⟨wDecOp n, { decReq1 with op := n }, rfl, rfl,
    show w0.decDenied decReq1 = false by decide +kernel, rfl⟩

theorem witness_decimalOperationsComplete_invalid : decOpValid 99 = false := by decide

/-! Witnesses of the rules of the machine. -/

/-- A queue of one query. -/
def wPending : State := { State.reset with pending := [.idQuery (.peer 0 1)] }

theorem witness_stepRunsFront : ∃ (s : State) (c : Instr) (l : List Instr), s.pending = c :: l := ⟨wPending, _, [], rfl⟩

/-- A block without supply, one with the reference, and one that waits for it. -/
theorem witness_emptyQueueIdles : wOff.pending = [] ∧ wOff.phase = .off ∧
    wTick.pending = [] ∧ wTick.flag .TC_STATUS_REFOK 0 = true ∧
    w0.pending = [] ∧ w0.phase ≠ .off ∧ w0.flag .TC_STATUS_REFOK 0 = false := by decide +kernel

/-- Work that changes nothing. -/
def idleWork : Work := { run := fun _ s => .done s }

/-- SP0's last accepted WSN is 5; its item with WSN 4 is `e`'s, if any. -/
def wLast (e : Option Nat) : State :=
  { w0 with jrn := { w0.jrn with src := w0.jrn.src.set 0 ⟨1, 5⟩,
                                 items := e.toList.map fun n => { wItem with key := ⟨0, 1, 4⟩, err := n, chk := n } } }

/-- WSN 0; a gap; and duplicates of WSN 4 without an item, with an accepted item, and with a failed one. -/
theorem witness_wsnJudgement :
    (∀ w ∈ [0, 4, 5, 7], (wLast none).takes (.framed 0 w)) ∧ idleWork.pre = none ∧
    ((wLast none).lastOf ((wLast none).srcNo (.framed 0 0))).last = 5 ∧
    (wLast none).queuedKeys ((wLast none).srcNo (.framed 0 0)) = [] ∧
    (wLast none).findItem ((wLast none).candKey (.framed 0 4)) = none ∧
    (((wLast (some 0)).findItem ((wLast (some 0)).candKey (.framed 0 4))).map (·.chk)) = some 0 ∧
    (((wLast (some 511)).findItem ((wLast (some 511)).candKey (.framed 0 4))).map (·.chk)) = some 511 ∧
    (wLast (some 0)).takes (.framed 0 4) ∧ (wLast (some 511)).takes (.framed 0 4) := by decide +kernel

/-- Duplicates as above, and of a link frame. -/
theorem witness_duplicateAnswered : (wLast (some 0)).judge (.framed 0 4) = .dup ∧ (wLast (some 511)).judge (.framed 0 4) = .dup ∧
    (wLast none).judge (.framed 0 5) = .dup ∧ (wLast (some 0)).queuedKeys ((wLast (some 0)).srcNo (.framed 0 4)) = [] ∧
    (wLast (some 511)).queuedKeys ((wLast (some 511)).srcNo (.framed 0 4)) = [] ∧
    1 ≤ (wJ.lastOf (wJ.srcNo (.peer 0 1))).last := by decide +kernel

theorem witness_identityAnswered : w0.takes (.peer 0 1) ∧ 99999999 < 10 ^ 8 := by decide +kernel

/-- A framed line and a panel item. -/
theorem witness_failedCheckConsumesWsn :
    let s := w0
    let w : Work := { idleWork with chk := some 511 }
    (∀ o ∈ [Origin.framed 0 1, .panel], s.takes o ∧ w.pre = none ∧ s.judge o = .next ∧ s.commitFull (offerLen o) = false ∧
      w.permit = true ∧ w.chk = some 511 ∧ 0 < 511 ∧ s.jrn.queue = [] ∧ s.jrn.ready = [] ∧ s.findItem (s.candKey o) = none) ∧
    Origin.framed 0 1 ≠ .panel := by decide +kernel

/-- The widest field and a one-bit field, at the greatest value, beside another field of the register. -/
theorem witness_registerFieldReadAfterWrite :
    regsSorted w0.regs ∧ (Fld.LAT_OVR_COUNT).lo + (Fld.LAT_OVR_COUNT).wd ≤ 32 ∧ 1 < 2 ^ (Fld.LAT_OVR_COUNT).wd ∧
    (Fld.LAT_OVR_CONSEC).reg = (Fld.LAT_OVR_COUNT).reg ∧ fieldsApart .LAT_OVR_COUNT .LAT_OVR_CONSEC ∧
    regAddr .SYS_SPG 0 0 ≠ regAddr (Fld.LAT_OVR_COUNT).reg 0 0 ∧
    (Fld.OLK_PCTL_POL).lo + (Fld.OLK_PCTL_POL).wd ≤ 32 := by
  refine ⟨?_, by decide, by decide, by decide, ?_, by decide, by decide⟩
  · rw [show w0.regs = [] from rfl]; exact List.Pairwise.nil
  · unfold fieldsApart; decide

theorem witness_memoryReadAfterWrite : memWf State.reset.mem = true := by decide

theorem witness_byteArithmetic : wCore.executes 0 1 := by decide +kernel

theorem witness_branchConditions : wCore.executes 0 1 ∧
    condHolds 1 false false false false false ∧ ¬ condHolds 0 false false false false false := by
  refine ⟨by decide +kernel, rfl, fun h => nomatch h⟩

theorem witness_loadDelay : wCore.executes 0 1 ∧ (wCore.core[0]).load = [] ∧
    (match exec (.ld 0 .at_ 3 0) wCore with | .next t => decide (t.executes 0 1) | _ => false) = true := by decide +kernel

theorem witness_coreRegisterFrame : regOnly (.nop 0) = some (0, 1) ∧ wCore.executes 0 1 ∧
    regOnly (.jmpImm 0 8) = some (0, 2) ∧ wCore.executes 0 2 := by decide +kernel

theorem witness_tickNamedByCount : 0 < State.reset.divisor ∧ 0 < 1 ∧ 3 < 4 ∧ 6144 ∣ 6144 := by decide +kernel

/-- Sources of series 1 and of the last series. -/
theorem witness_seriesRestart : (State.reset.source 0).ser = 1 ∧ 1 < 65535 ∧
    (({ w0 with jrn := { w0.jrn with src := w0.jrn.src.set 3 ⟨65535, 9⟩ } } : State).source 3).ser = 65535 := by decide

/-- An empty ring of class TRIP, a ring whose newest record does not coalesce, and class FIN. -/
theorem witness_eventRecordWritten : regsSorted w0.regs ∧ w0.ringHeld 0 = false ∧ 2 ≤ w0.ringFree 0 ∧
    (w0.ev.q[0]).getLast? = none ∧ wAsync.ringHeld 0 = false ∧ 2 ≤ wAsync.ringFree 0 ∧
    (wAsync.ev.q[0]).getLast? = some evRec1 ∧ coalesces evRec1 { evRec1 with cause := 2 } = false ∧
    classNo .fin = 3 ∧ 2 ≤ w0.ringFree 3 := by
  refine ⟨?_, by decide +kernel, by decide +kernel, rfl, by decide +kernel, by decide +kernel, rfl, by decide, by decide, by decide +kernel⟩
  rw [show w0.regs = [] from rfl]; exact List.Pairwise.nil

/-- A session that ends, and one whose key is the board's. -/
theorem witness_sessionCommandsFrame : sessionPort (.framed 0 1) = some 0 ∧ wKeys.takes (.framed 0 1) ∧
    wKeys.authLocked 0 = false ∧ (wKeys.matching 7).any = true ∧
    (∃ t, exec (.authOff (.framed 0 1)) wKeys = .next t) ∧ (∃ t, exec (.auth (.framed 0 1) 7) wKeys = .next t) := by
  refine ⟨rfl, by decide +kernel, by decide +kernel, by decide +kernel, ⟨_, rfl⟩, ⟨_, rfl⟩⟩

theorem witness_windowByteStore : wCore.executes 0 (winWords .at_) ∧ memWf wCore.mem = true ∧
    ((wCore.core[0]).winAddr ((wCore.core[0]).winOp .at_ 0 1).1.toNat) < 0x400000 ∧
    ∃ g b, generalPage ((wCore.core[0]).winAddr ((wCore.core[0]).winOp .at_ 0 1).1.toNat) = some g ∧
      wCore.pageOk 0 true g = true ∧
      wCore.pageAddr g ((wCore.core[0]).winAddr ((wCore.core[0]).winOp .at_ 0 1).1.toNat) = some b := by
  refine ⟨by decide +kernel, by decide +kernel, by decide +kernel, 0, 0, ?_⟩; decide +kernel

/-- The greatest coefficient at both ends of the exponent, infinity, and the greatest payload of a NaN. -/
theorem witness_decimalRoundTrip : (DVal.fin true (10 ^ 34 - 1) 6111).fits ∧ (DVal.fin false 0 (-6176)).fits ∧
    (DVal.inf true).fits ∧ (DVal.nan false true (10 ^ 33 - 1)).fits := by
  refine ⟨?_, ?_, trivial, ?_⟩ <;> simp only [DVal.fits] <;> omega

/-- A frame with the longest payload and the greatest fields. -/
theorem witness_frameRoundTrip :
    (LinkFrame.mk 255 7 255 7 true true (2 ^ 32 - 1) 65535 (List.replicate 256 (0xA5 : Byte))).fits ∧ 65535 < 65536 := by
  refine ⟨⟨by decide, by decide, by decide, by decide, by decide, by decide, ?_⟩, by decide⟩
  exact Nat.le_of_eq List.length_replicate

theorem witness_queriesChangeNothing : asksOnly State.reset wPending ∧ ∃ t, step wPending = .next t := by
  refine ⟨⟨?_, 0, ?_, ?_, ?_⟩, _, rfl⟩
  · intro c hc; rw [List.mem_singleton.mp hc]; rfl
  · rfl
  · intro p; rfl
  · intro a _; rfl

/-! Worked examples of the spec. -/

/-- The CRC-8 of the examples of chapters 4 and 5. -/
theorem test_crc8_examples : crc8 (charCodes "00000001 ID?") = 0x07 ∧ crc8 (charCodes "00000422 RESET WARM") = 0x4C := by
  decide +kernel

/-- The example of chapter 18: the first tick at or after 0x3_0000_3A00, of divisor 3072. -/
theorem test_tick_named : firstMultiple 0x300003A00 3072 = 0x300003C00 := by decide

/-- The calculator's examples of chapter 10: 3/8 is 0.375, times 25.4 is 9.5250, and nothing is inexact. -/
theorem test_dec_inch :
    (let q := decOp 5 0 false (encodeDec (.fin false 3 0)) (encodeDec (.fin false 8 0)) 0
     let p := decOp 4 0 false q.1 (encodeDec (.fin false 254 (-1))) 0
     decide (decodeDec q.1 = .fin false 375 (-3)) && decide (decodeDec p.1 = .fin false 95250 (-4)) && p.2 == 0) = true := by
  decide +kernel

/-- The same chapter: SIN(30) in degrees is exactly 0.5. -/
theorem test_dec_sin30 : decodeDec (decOp 16 0 true (encodeDec (.fin false 30 0)) 0 0).1 = .fin false 5 (-1) := by
  decide +kernel

/-- A decimal register at reset holds +0 with exponent 0. -/
theorem test_decZero : decZero = encodeDec (.fin false 0 0) := by decide +kernel

/-- The rings at reset lie where the part places rings of the depths at reset. -/
theorem test_ring_bases : State.reset.placeRings.ringBase = State.reset.ringBase := by decide +kernel

/-- No word of the opcode table has bits. -/
theorem test_no_table_words (n w : Nat) : decodeTableWord n w = none := rfl

/-- A command put at the front by the host: none, since no word spells one. -/
theorem test_withFetchWord (s : State) (n w : Nat) : s.withFetchWord n w = s := rfl

/-- The package has 484 balls on 23 times 23 places, and a boundary chain of 256 cells (R607, R614). -/
theorem test_balls : grid.length = 529 ∧ (grid.filterMap id).length = 484 ∧ scanCells.length = 256 := by decide +kernel

/-! Ill-formed commands: one for each check. -/

theorem smoke_origin : (Instr.idQuery (.framed 0 (2 ^ 32))).wellFormed = false ∧
    (Instr.idQuery (.peer 0 (2 ^ 32))).wellFormed = false ∧ (Instr.idQuery (.framed 0 (2 ^ 32 - 1))).wellFormed = true := by
  decide

theorem smoke_requester : (Instr.latClrLow (.line (.peer 0 (2 ^ 32)))).wellFormed = false ∧
    (Instr.latClrLow (.core 0)).wellFormed = true := by decide

theorem smoke_sets : (Instr.fioAin .panel 0 [⟨.FIO_ACFG_POL, 0⟩, ⟨.FIO_ACFG_POL, 1⟩]).wellFormed = false ∧
    (Instr.fioAin .panel 0 [⟨.FIO_ACFG_POL, 0⟩]).wellFormed = true := by decide

theorem smoke_routes : (Instr.xpt .panel [(0, 1), (0, 2)]).wellFormed = false ∧
    (Instr.xpt .panel [(0, 1), (1, 2)]).wellFormed = true := by decide

/-- A tick that shows nothing. -/
def noObs : TickObs := ⟨0, [], [], 0, [], [], [], [], [], [], [], [], []⟩

theorem smoke_tick : (Instr.latticeTick noObs).wellFormed = true ∧
    (Instr.latticeTick { noObs with lateSet := [0, 0] }).wellFormed = false ∧
    (Instr.latticeTick { noObs with lateCh := [0, 0] }).wellFormed = false ∧
    (Instr.latticeTick { noObs with enc := [(0, 1), (0, 2)] }).wellFormed = false ∧
    (Instr.latticeTick { noObs with res := [(0, 1, 1), (0, 2, 2)] }).wellFormed = false ∧
    (Instr.latticeTick { noObs with pa := [(0, 1), (0, 2)] }).wellFormed = false ∧
    (Instr.latticeTick { noObs with fa := [(0, 1), (0, 2)] }).wellFormed = false ∧
    (Instr.latticeTick { noObs with lout := [(0, true), (0, false)] }).wellFormed = false ∧
    (Instr.latticeTick { noObs with eng := [⟨0, 0, 0, [], 0, 0, 0⟩, ⟨0, 1, 0, [], 0, 0, 0⟩] }).wellFormed = false ∧
    (Instr.latticeTick { noObs with blocked := [(0, 1), (0, 2)] }).wellFormed = false := by decide

theorem smoke_words : (Instr.itemExecutionBegin 0 (2 ^ 32)).wellFormed = false ∧
    (Instr.registerWrite 0 (2 ^ 32) 0).wellFormed = false ∧
    (Instr.registerWrite 0 0 (2 ^ 32)).wellFormed = false ∧
    (Instr.pnlChqWrite (.core 0) (2 ^ 32)).wellFormed = false ∧ (Instr.wdtKick (.core 0) (2 ^ 32)).wellFormed = false ∧
    (Instr.obsTrmark (.core 0) (2 ^ 32)).wellFormed = false := by decide

theorem smoke_owners : (Instr.candidateVerified false ⟨[], noOwn, noOwn⟩).wellFormed = true ∧
    (Instr.candidateVerified false ⟨[], noOwn.set 3 4, noOwn⟩).wellFormed = false ∧
    (Instr.candidateVerified false ⟨[], noOwn, noOwn.set 3 5⟩).wellFormed = false := by decide +kernel

theorem smoke_detent : (Instr.handwheelDetent 0 0).wellFormed = false ∧ (Instr.handwheelDetent 0 2).wellFormed = false ∧
    (Instr.handwheelDetent 0 (-1)).wellFormed = true := by decide

theorem smoke_decRequest : (Instr.decRequest decReq1).wellFormed = true ∧
    (Instr.decRequest { decReq1 with req := 24 }).wellFormed = false ∧
    (Instr.decRequest { decReq1 with op := 256 }).wellFormed = false ∧
    (Instr.decRequest { decReq1 with rm := 8 }).wellFormed = false ∧
    (Instr.decRequest { decReq1 with dst := 256 }).wellFormed = false ∧
    (Instr.decRequest { decReq1 with areg := 256 }).wellFormed = false ∧
    (Instr.decRequest { decReq1 with breg := 256 }).wellFormed = false ∧
    (Instr.decRequest { decReq1 with creg := 256 }).wellFormed = false ∧
    (Instr.decRequest { decReq1 with tag := 65536 }).wellFormed = false ∧
    (Instr.decRequest { decReq1 with a := 2 ^ 128 }).wellFormed = false ∧
    (Instr.decRequest { decReq1 with b := 2 ^ 128 }).wellFormed = false ∧
    (Instr.decRequest { decReq1 with c := 2 ^ 128 }).wellFormed = false := by decide

theorem smoke_frames : (Instr.dataFrameReceived 0 (List.replicate 277 (0 : Byte))).wellFormed = false ∧
    (Instr.ack 0 65536).wellFormed = false ∧ (Instr.pause 0 65536).wellFormed = false ∧
    (Instr.attemptTimeout 0 65536).wellFormed = false ∧ (Instr.nakFullResend 0 65536).wellFormed = false := by
  refine ⟨?_, by decide, by decide, by decide, by decide⟩
  simp only [Instr.wellFormed, List.length_replicate]; decide

theorem smoke_nak : (Instr.nak 0 65536 false).wellFormed = false := by decide

end Sys2Proof.Tests
end

section
/-! SUPPORT. What setting a register or a field leaves: the one written, the others of its register, every other register,
the canonical form of the store. Then O10. -/
namespace Sys2Proof.Machine
open Sys2Proof

/-- Setting a register keeps the canonical form of the register store. -/
theorem setReg_sorted (s : State) (r : Reg) (i j : Nat) (w : Word) (h : regsSorted s.regs) :
    regsSorted (s.setReg r i j w).regs :=
  sparsePut_sorted _ _ _ h

/-- Setting a register leaves the registers at every other address. -/
theorem reg_setReg_ne (s : State) (r q : Reg) (i j x y : Nat) (w : Word) (h : regAddr q x y ≠ regAddr r i j) :
    (s.setReg r i j w).reg q x y = s.reg q x y := by
  simp only [State.reg, State.setReg, sparseFind_put_ne _ _ _ _ h]

/-- Of the state, setting a register touches the register store alone. -/
theorem setReg_regs_only (s : State) (r : Reg) (i j : Nat) (w : Word) :
    ({ s.setReg r i j w with regs := s.regs } : State) = s := rfl

/-- The word that setting a field leaves in its register. -/
theorem reg_setFld (s : State) (f : Fld) (i j v : Nat) (h : regsSorted s.regs) :
    (s.setFld f i j v).reg f.reg i j = fldPut (s.reg f.reg i j) f v :=
  reg_setReg s f.reg i j _ h

/-- A field of a register reads what was put into it. -/
theorem fld_setFld_same (s : State) (f : Fld) (i j v : Nat) (h : regsSorted s.regs) (hf : f.lo + f.wd ≤ 32)
    (hv : v < 2 ^ f.wd) : (s.setFld f i j v).fld f i j = v := by
  rw [State.fld, reg_setFld s f i j v h, fldOf_put_same _ f v hf hv]

/-- A field of the same register that shares no bit with the one set reads as before. -/
theorem fld_setFld_apart (s : State) (f g : Fld) (i j v : Nat) (h : regsSorted s.regs) (hr : g.reg = f.reg)
    (hg : g.lo + g.wd ≤ 32) (ha : fieldsApart f g) : (s.setFld f i j v).fld g i j = s.fld g i j := by
  rw [State.fld, State.fld, hr, reg_setFld s f i j v h, fldOf_put_apart _ f g v hg ha]

/-- Settles O10: a field is set by writing its register's word with the field put into it (`reg_setFld`), so that the laws of
a word's fields and of one register's write give each clause. -/
theorem registerFieldReadAfterWrite : Obligations.RegisterFieldReadAfterWrite := by
  intro s f i j v hs hf hv
  refine ⟨fld_setFld_same s f i j v hs hf hv, setReg_sorted s f.reg i j _ hs, ?others, ?registers,
    setReg_regs_only s f.reg i j _⟩
  case others =>
    intro g hr hg ha
    exact fld_setFld_apart s f g i j v hs hr hg ha
  case registers =>
    intro r x y hne
    exact reg_setReg_ne s f.reg r i j x y _ hne

end Sys2Proof.Machine
end

section
/-! SUPPORT. What the state after reset holds: registers, sources and decimal registers. Then O4. -/
namespace Sys2Proof.Machine
open Sys2Proof

/-- The register store lists nothing at reset, so that every register reads its reset value. -/
theorem reg_reset (r : Reg) (i j : Nat) : State.reset.reg r i j = regReset r i j := rfl

/-- A field at reset is the field of its register's reset value. -/
theorem fld_reset (f : Fld) (i j : Nat) : State.reset.fld f i j = fldOf (regReset f.reg i j) f := by
  rw [State.fld, reg_reset]

/-- R60, R157: every source starts in series 1, with nothing accepted. -/
theorem source_reset (n : Nat) : State.reset.source n = ⟨1, 0⟩ := by
  by_cases h : n < 24
  · simp [State.source, h, State.reset, journalReset]
  · simp [State.source, h]

/-- No decimal register is listed at reset, so that each holds the pattern of zero. -/
theorem decReg_reset (n : Nat) : State.reset.decReg n = decZero := by
  have empty : State.reset.dec.regs = [] := rfl
  rw [State.decReg, empty, sparseFind, Option.getD_none]

/-- `decZero` is the pattern of +0 with exponent 0: its biased exponent is 6176. -/
theorem decodeDec_decZero : decodeDec decZero = .fin false 0 0 := by decide +kernel

/-- Settles O4: the stores of registers and of decimal registers list nothing, so that each reads its default; the other
parts stand in `State.reset` as stated. -/
theorem resetLeaves : Obligations.ResetLeaves := by
  refine ⟨reg_reset, rfl, fun n => source_reset n, fun n => ?decimal, rfl, rfl, rfl, rfl, ?major, ?minor, ?vcode⟩
  case decimal => rw [decReg_reset, decodeDec_decZero]
  case major => rw [fld_reset]; decide
  case minor => rw [fld_reset]; decide
  case vcode => rw [fld_reset]; decide

end Sys2Proof.Machine
end

section
/-! SUPPORT. What a write of bytes leaves in memory and beside it. Then O11. -/
namespace Sys2Proof.Machine
open Sys2Proof

/-- A write of a byte touches no part of the state but memory. -/
theorem memSet_mem_only (s : State) (a : Nat) (b : Byte) : ({ s.memSet a b with mem := s.mem } : State) = s := rfl

/-- A write of bytes touches no part of the state but memory: its later bytes change no more than its first one does. -/
theorem memPut_mem_only (l : List Byte) (s : State) (a : Nat) : ({ s.memPut a l with mem := s.mem } : State) = s := by
  induction l generalizing s a with
  | nil => rfl
  | cons b l ih =>
    calc ({ s.memPut a (b :: l) with mem := s.mem } : State)
        = { ({ (s.memSet a b).memPut (a + 1) l with mem := (s.memSet a b).mem } : State) with mem := s.mem } := rfl
      _ = { s.memSet a b with mem := s.mem } := by rw [ih]
      _ = s := memSet_mem_only s a b

/-- Bytes read back from where they were put: the first one stands because the later ones are put above it. -/
theorem memBytes_memPut_same (l : List Byte) (s : State) (a : Nat) (h : memWf s.mem = true) :
    (s.memPut a l).memBytes a l.length = l := by
  induction l generalizing s a with
  | nil => rfl
  | cons b l ih =>
    have first : ((s.memSet a b).memPut (a + 1) l).memGet a = b := by
      rw [memGet_memPut_out l _ _ _ (.inl a.lt_succ_self), memGet_memSet_same s a b h]
    have later : ((s.memSet a b).memPut (a + 1) l).memBytes (a + 1) l.length = l := ih _ _ (memSet_wf s a b h)
    rw [State.memPut, List.length_cons, State.memBytes, first, later]

/-- Settles O11: `memPut` is one `memSet` for each byte, so that the laws of one byte's write give each clause by induction on
the bytes. The canonical form is needed to read back a byte that equals its address's default. -/
theorem memoryReadAfterWrite : Obligations.MemoryReadAfterWrite := by
  intro s a l h
  exact ⟨memBytes_memPut_same l s a h, memPut_wf l s a h, fun x hx => memGet_memPut_out l s a x hx, memPut_mem_only l s a⟩

end Sys2Proof.Machine
end

section
/-! SUPPORT. The least multiple of a divisor at or above a count, and the lattice rates. Then O16. -/
namespace Sys2Proof.Machine
open Sys2Proof

/-- The model's first multiple is the library's quotient rounded up, taken times the divisor. -/
theorem firstMultiple_eq_mul_ceilDiv (n d : Nat) : firstMultiple n d = d * (n ⌈/⌉ d) := Nat.mul_comm _ _

/-- The multiples of `d` at or above `n` are those at or above the first one. -/
theorem firstMultiple_le_iff {n d m : Nat} (hd : 0 < d) (hm : d ∣ m) : firstMultiple n d ≤ m ↔ n ≤ m := by
  obtain ⟨k, rfl⟩ := hm
  rw [firstMultiple_eq_mul_ceilDiv, Nat.mul_le_mul_left_iff hd, ceilDiv_le_iff_le_mul hd]

theorem dvd_firstMultiple (n d : Nat) : d ∣ firstMultiple n d := Nat.dvd_mul_left d _

theorem le_firstMultiple (n : Nat) {d : Nat} (hd : 0 < d) : n ≤ firstMultiple n d :=
  (firstMultiple_le_iff hd (dvd_firstMultiple n d)).mp le_rfl

/-- R39: a divisor is 6144 divided by a power of two that itself divides 6144 = 2¹¹ · 3. -/
theorem rateDivisor_pos_and_dvd {r : Nat} (hr : r ≤ 11) : 0 < rateDivisor r ∧ rateDivisor r ∣ 6144 := by
  have hpow : 2 ^ r ∣ 6144 := (Nat.pow_dvd_pow 2 hr).trans (by decide)
  exact ⟨Nat.div_pos (Nat.le_of_dvd (by decide) hpow) (Nat.two_pow_pos r), Nat.div_dvd_of_dvd hpow⟩

/-- R38: the next tick is the one that the count after now names. -/
theorem nextTick_eq_firstMultiple (s : State) (hd : 0 < s.divisor) :
    s.nextTick = firstMultiple (s.clk.now + 1) s.divisor := by
  rw [State.nextTick, firstMultiple, Nat.add_right_comm, Nat.add_sub_cancel, Nat.add_div_right _ hd]

/-- Settles O16: a multiple of the divisor is at or above the first one exactly when it is at or above the count, and the next
tick is the first multiple at or above the count after now. -/
theorem tickNamedByCount : Obligations.TickNamedByCount := by
  refine ⟨fun n d hd => ⟨dvd_firstMultiple n d, le_firstMultiple n hd, fun m hm => (firstMultiple_le_iff hd hm).mpr⟩,
    fun r hr => rateDivisor_pos_and_dvd (by omega), fun s hd => ?next⟩
  rw [nextTick_eq_firstMultiple s hd]
  exact ⟨le_firstMultiple (s.clk.now + 1) hd, dvd_firstMultiple _ _, fun m hm => (firstMultiple_le_iff hd hm).mpr⟩

end Sys2Proof.Machine
end

section
/-! SUPPORT. A query that only reads the block, and a period of the KEEP oscillator. Then O1 and O23. -/
namespace Sys2Proof.Machine
open Sys2Proof

/-! ## What answers leave, beside other changes -/

/-- Answers leave the queue of commands. -/
theorem answersOnly_pending {s t : State} (h : s.answersOnly t) : t.pending = s.pending := by
  obtain ⟨rest, -, -⟩ := h
  exact (congrArg State.pending rest :)

/-- Two blocks that differ by answers still do with the same commands waiting. -/
theorem answersOnly_withPending {s t : State} (h : s.answersOnly t) (l : List Instr) :
    ({ s with pending := l } : State).answersOnly { t with pending := l } := by
  obtain ⟨rest, ports, regs⟩ := h
  exact ⟨congrArg (fun u : State => { u with pending := l }) rest, ports, regs⟩

/-- Two blocks that differ by answers still do once the same time has passed in both. -/
theorem answersOnly_later {s t : State} (h : s.answersOnly t) (n : Nat) : (s.later n).answersOnly (t.later n) := by
  obtain ⟨rest, ports, regs⟩ := h
  exact ⟨congrArg (State.later · n) rest, ports, regs⟩

theorem later_zero (s : State) : s.later 0 = s := rfl

theorem later_later (s : State) (m n : Nat) : (s.later m).later n = s.later (m + n) := by
  simp only [State.later, Nat.mul_add, Nat.add_assoc]

/-- R35: on an empty queue at most one period of the KEEP oscillator passes. -/
theorem idle_eq_later (s : State) : ∃ n, s.idle = s.later n := by
  unfold State.idle
  split
  · exact ⟨1, rfl⟩
  · exact ⟨0, rfl⟩

/-! ## Queries -/

/-- The outcome is a next state that differs from `s` by answers alone. -/
def onlyAnswers (s : State) (r : Host.Outcome State Fault Refusal) : Prop := ∃ t, r = .next t ∧ s.answersOnly t

/-- A query that only reads the block is answered. -/
theorem onlyAnswers_askPure (s : State) (o : Origin) (pre : Option Nat) (permit : Bool) (f : State → Nat × List (List Fd)) :
    onlyAnswers s (.next (s.askPure o pre permit f)) := ⟨_, rfl, answersOnly_askPure s o pre permit f⟩

/-- R58: each query of `onlyAsks` is an `askPure`, in every form that it has. -/
theorem exec_onlyAnswers {c : Instr} (h : onlyAsks c = true) (s : State) : onlyAnswers s (exec c s) := by
  cases c
  -- Those with a form for one object and a form for all of them.
  case adcQuery o n => cases n <;> exact onlyAnswers_askPure ..
  case dacQuery o n => cases n <;> exact onlyAnswers_askPure ..
  case excQuery o g => cases g <;> exact onlyAnswers_askPure ..
  case xptQuery o k => cases k <;> exact onlyAnswers_askPure ..
  case progQuery o p f n => cases p <;> exact onlyAnswers_askPure ..
  case skimQuery o k => cases k <;> exact onlyAnswers_askPure ..
  case limitQuery o axis n => cases axis <;> exact onlyAnswers_askPure ..
  case fioQuery o p =>
    obtain (_ | _) | _ | _ := p <;> exact onlyAnswers_askPure ..
  case authQuery | compQuery | decQuery | eventQuery | filterQuery | idQuery | imageCheck | imageQuery | jrnQuery |
      jrnSourcesQuery | linkQuery | linkTxnQuery | obsEngQuery | obsProbeQuery | obsRsvopQuery | obsWatchQuery |
      outcomeQuery | ovrQuery | policyQuery | pwrQuery | regionQuery | ringQuery | servoQuery | stnQuery | tapeQuery |
      timeQuery | traceQuery | wsnQuery => exact onlyAnswers_askPure ..
  all_goals exact absurd h Bool.false_ne_true

/-- Settles O1: `step_cons` is the law of the front of the queue. -/
theorem stepRunsFront : Obligations.StepRunsFront := fun _ _ _ h => step_cons h

/-- Settles O23: a step runs the query at the front, which is answered, or on an empty queue lets time pass. -/
theorem queriesChangeNothing : Obligations.QueriesChangeNothing := by
  rintro s0 s t ⟨waiting, n, same⟩ hstep
  cases hp : s.pending with
  | nil =>
    obtain ⟨m, hm⟩ := idle_eq_later s
    rw [step_nil hp, hm] at hstep
    cases hstep
    refine ⟨waiting, n + m, ?_⟩
    rw [← later_later]
    exact answersOnly_later same m
  | cons c l =>
    obtain ⟨hc, hl⟩ := List.forall_mem_cons.mp (hp ▸ waiting)
    obtain ⟨u, hu, answered⟩ := exec_onlyAnswers hc { s with pending := l }
    rw [step_cons hp, hu] at hstep
    cases hstep
    have left : t.pending = l := answersOnly_pending answered
    refine ⟨left ▸ hl, n, ?_⟩
    rw [left]
    exact answersOnly_trans (answersOnly_withPending same l) answered

end Sys2Proof.Machine
end

section
/-! SUPPORT. How a candidate is judged, and the answer to one that is not the next of its source (R56, R61, R64). Then O6
and O7. -/
namespace Sys2Proof.Machine
open Sys2Proof

/-! ## Judgement -/

/-- The origin is a line or a frame that carries WSN `w` itself. -/
def carriesWsn (o : Origin) (w : Nat) : Prop := (∃ p, o = .framed p w) ∨ ∃ d, o = .peer d w

/-- R56, R61: a WSN that the candidate carries is judged against the last one of its source. -/
theorem judge_of_carriesWsn (s : State) {o : Origin} {w : Nat} (h : carriesWsn o w) :
    s.judge o = if w = 0 then .zero else if w ≤ (s.lastOf (s.srcNo o)).last then .dup
      else if w = (s.lastOf (s.srcNo o)).last + 1 then .next else .gap := by
  obtain ⟨p, rfl⟩ | ⟨d, rfl⟩ := h <;> rfl

theorem judge_zero (s : State) {o : Origin} (h : carriesWsn o 0) : s.judge o = .zero := by
  rw [judge_of_carriesWsn s h, if_pos rfl]

theorem judge_dup (s : State) {o : Origin} {w : Nat} (h : carriesWsn o w) (h0 : 0 < w)
    (hl : w ≤ (s.lastOf (s.srcNo o)).last) : s.judge o = .dup := by
  rw [judge_of_carriesWsn s h, if_neg h0.ne', if_pos hl]

theorem judge_gap (s : State) {o : Origin} {w : Nat} (h : carriesWsn o w)
    (hl : (s.lastOf (s.srcNo o)).last + 1 < w) : s.judge o = .gap := by
  rw [judge_of_carriesWsn s h, if_neg (by omega), if_neg (by omega), if_neg (by omega)]

/-! ## The candidates that are not accepted -/

section
variable {s : State} {o : Origin} {cmd : Instr} {k : Work} (ht : s.takes o) (hp : k.pre = none)
include ht hp

theorem offer_zero (hj : s.judge o = .zero) : s.offer o cmd k = s.answer o (.er (originTag o) 611 false) := by
  obtain ⟨ha, hr, hc⟩ := ht
  simp [State.offer, State.offerAs, ha, hr, hc, hp, hj]

theorem offer_gap (hj : s.judge o = .gap) : s.offer o cmd k = s.answer o (.er (originTag o) 612 false) := by
  obtain ⟨ha, hr, hc⟩ := ht
  simp [State.offer, State.offerAs, ha, hr, hc, hp, hj]

/-- R64: with nothing of its source on its way to the journal, a duplicate is answered at once. -/
theorem offer_dup (hj : s.judge o = .dup) (hq : s.queuedKeys (s.srcNo o) = []) :
    s.offer o cmd k = s.answer o (s.dupLine o) := by
  obtain ⟨ha, hr, hc⟩ := ht
  simp [State.offer, State.offerAs, State.judgedDup, ha, hr, hc, hp, hj, hq]

end

/-- R64: the answer to a duplicate whose outcome is retained. -/
theorem dupLine_of_some {s : State} {o : Origin} {i : Item} (h : s.findItem (s.candKey o) = some i) :
    s.dupLine o = if i.chk = 0 then .ok (okTag o (s.candKey o)) true else .er (okTag o (s.candKey o)) i.chk true := by
  simp only [State.dupLine, h]

/-- R64: the answer to a duplicate whose outcome is no longer retained. -/
theorem dupLine_of_none {s : State} {o : Origin} (h : s.findItem (s.candKey o) = none) :
    s.dupLine o = .er (okTag o (s.candKey o)) 613 true := by
  simp only [State.dupLine, h]

/-- Settles O6: WSN 0, a gap and a duplicate are each answered, and an answer changes nothing else. -/
theorem wsnJudgement : Obligations.WsnJudgement := by
  intro s p w cmd k ht hp
  have hc : carriesWsn (.framed p w) w := .inl ⟨p, rfl⟩
  have zero (h : w = 0) := offer_zero (cmd := cmd) ht hp (judge_zero s (h ▸ hc))
  have gap (h : _ < w) := offer_gap (cmd := cmd) ht hp (judge_gap s hc h)
  have dup (h0 : 0 < w) (hl : w ≤ _) := offer_dup (cmd := cmd) ht hp (judge_dup s hc h0 hl)
  refine ⟨zero, gap, fun h0 hl hq => ?retained, ?frame⟩
  case retained =>
    rw [dup h0 hl hq]
    cases h : s.findItem (s.candKey (.framed p w)) with
    | none => rw [dupLine_of_none h]; rfl
    | some i => rw [dupLine_of_some h]; rfl
  case frame =>
    rintro (h | h | ⟨hl, hq⟩)
    · rw [zero h]; exact answersOnly_answer ..
    · rw [gap h]; exact answersOnly_answer ..
    · obtain h0 | h0 := Nat.eq_zero_or_pos w
      · rw [zero h0]; exact answersOnly_answer ..
      · rw [dup h0 hl hq]; exact answersOnly_answer ..

/-- Settles O7: a duplicate is answered with `dupLine`, which is read off its retained outcome, or off there being none. -/
theorem duplicateAnswered : Obligations.DuplicateAnswered := by
  refine ⟨fun s o w hc h0 hl => judge_dup s hc h0 hl, fun s o cmd k ht hp hj hq => ?_, fun g e => ⟨rfl, rfl, rfl⟩⟩
  have answered := offer_dup (cmd := cmd) ht hp hj hq
  refine ⟨?frame, fun i hi hok => ?passed, fun i hi hne => ?failed, fun hi => ?expired⟩
  case frame => rw [answered]; exact answersOnly_answer ..
  case passed => rw [answered, dupLine_of_some hi, if_pos hok]
  case failed => rw [answered, dupLine_of_some hi, if_neg hne]
  case expired => rw [answered, dupLine_of_none hi]

end Sys2Proof.Machine
end

section
/-! SUPPORT. The series of a source (R60). Then O17. -/
namespace Sys2Proof.Machine
open Sys2Proof

/-- A source reads what the journal holds of it. -/
theorem source_fin (s : State) (n : Fin 24) : s.source n = s.jrn.src[n] := by
  simp [State.source]

theorem nextSeries_of_lt {n : Nat} (h : n < 65535) : nextSeries n = n + 1 := if_neg (by omega)

theorem nextSeries_ne_zero (n : Nat) : nextSeries n ≠ 0 := by
  unfold nextSeries
  split <;> omega

/-- R59, R60: what a restart does to the journal. -/
theorem restartSeries_jrn (s : State) (n : Fin 24) :
    (s.restartSeries n).jrn = { s.jrn with
      src := s.jrn.src.set n ⟨nextSeries (s.source n).ser, 0⟩
      items := s.jrn.items.filter fun i => !(i.key.src == n) } := by
  simp [State.restartSeries, source_fin]

theorem source_restartSeries_same (s : State) (n : Fin 24) :
    (s.restartSeries n).source n = ⟨nextSeries (s.source n).ser, 0⟩ := by
  simp [source_fin, restartSeries_jrn]

theorem source_restartSeries_other (s : State) {n m : Fin 24} (h : m ≠ n) :
    (s.restartSeries n).source m = s.source m := by
  rw [source_fin, source_fin, restartSeries_jrn]
  exact Vector.getElem_set_ne n.isLt m.isLt fun e => h (Fin.ext e.symm)

/-- Of the retained items, those of the other sources stay. -/
theorem mem_items_restartSeries (s : State) (n : Fin 24) (i : Item) :
    i ∈ (s.restartSeries n).jrn.items ↔ i ∈ s.jrn.items ∧ i.key.src ≠ n := by
  simp [restartSeries_jrn]

/-- Settles O17: the restarted source holds the next series and 0, which every clause about it reads off `nextSeries`. -/
theorem seriesRestart : Obligations.SeriesRestart := by
  refine ⟨fun n => source_reset n, fun s n => ⟨?next, ?wraps, ?never, ?others, ?gone, ?kept⟩⟩
  case next =>
    rintro m rfl hm
    rw [source_restartSeries_same, nextSeries_of_lt hm]
  case wraps =>
    intro h
    rw [source_restartSeries_same, h]; rfl
  case never =>
    rw [source_restartSeries_same]
    exact nextSeries_ne_zero _
  case others => exact fun m hm => source_restartSeries_other s hm
  case gone => exact fun i hi => ((mem_items_restartSeries s n i).mp hi).2
  case kept => exact fun i hi hn => (mem_items_restartSeries s n i).mpr ⟨hi, hn⟩

end Sys2Proof.Machine
end

section
/-! SUPPORT. What an occurrence of an event changes: event records and what they are counted in. -/
namespace Sys2Proof.Machine
open Sys2Proof

/-- `t` differs from `s` by event records on their way or written, by trace records, and by what counts them. -/
def State.recordsOnly (s t : State) : Prop :=
  { t with regs := s.regs, port := s.port, ev := s.ev, evWait := s.evWait, obs := s.obs } = s

theorem recordsOnly_refl (s : State) : s.recordsOnly s := rfl

theorem recordsOnly_trans {a b c : State} (h : a.recordsOnly b) (k : b.recordsOnly c) : a.recordsOnly c := by
  unfold State.recordsOnly at h k ⊢
  rw [← h, ← k]

theorem recordsOnly_pushTrace (s : State) (r : TraceRec) : s.recordsOnly (s.pushTrace r) := by
  unfold State.pushTrace
  split
  · split <;> rfl
  · split <;> rfl

theorem recordsOnly_reportDrops (s : State) : s.recordsOnly s.reportDrops := by
  unfold State.reportDrops
  split
  · exact recordsOnly_refl s
  · exact recordsOnly_trans (b := { s with obs := { s.obs with dropped := 0 } }) rfl
      (recordsOnly_trans (recordsOnly_pushTrace ..) (recordsOnly_pushTrace ..))

theorem recordsOnly_capture (s : State) (r : TraceRec) : s.recordsOnly (s.capture r) := by
  unfold State.capture
  split
  · exact recordsOnly_refl s
  · exact recordsOnly_trans (recordsOnly_reportDrops s) (recordsOnly_pushTrace _ r)

theorem recordsOnly_traceRec (s : State) (kind stn eng data : Nat) : s.recordsOnly (s.traceRec kind stn eng data) :=
  recordsOnly_capture s _

theorem recordsOnly_ringPut (s : State) (r n : Nat) : s.recordsOnly (s.ringPut r n) := rfl

theorem recordsOnly_skipRec (s : State) (k : Fin 4) (r : EvRec) : s.recordsOnly (s.skipRec k r) := rfl

theorem recordsOnly_withEv {s t : State} (h : s.recordsOnly t) (e : Events) : s.recordsOnly { t with ev := e } := h

theorem recordsOnly_writeRec (s : State) (k : Fin 4) (r : EvRec) : s.recordsOnly (s.writeRec k r) := by
  unfold State.writeRec
  have numbered (q : Nat) : s.recordsOnly (s.setFld .EVT_SEQ_SEQ k 0 q) := rfl
  have placed (q : Nat) := recordsOnly_trans (numbered q) (recordsOnly_ringPut _ k 1)
  have traced (q d : Nat) := recordsOnly_trans (placed q) (recordsOnly_traceRec _ 1 r.stn 0xFF d)
  exact recordsOnly_withEv (recordsOnly_trans (traced _ _) (recordsOnly_skipRec _ k _)) _

/-- R157, R160, R162: whether it writes a record, joins one or is dropped. -/
theorem recordsOnly_post (s : State) (k : Fin 4) (r : EvRec) : s.recordsOnly (s.post k r) := by
  unfold State.post
  dsimp only
  split
  · rfl
  split
  · exact recordsOnly_writeRec s k r
  split
  · rfl
  split
  · rfl
  split
  · exact recordsOnly_trans (b := { s.bump .EVT_LOST_LOST k 0 1 with ev := _ }) rfl (recordsOnly_writeRec ..)
  · rfl

theorem recordsOnly_raise (s : State) (c : EvClass) (cause stn inst det src wsn : Nat) :
    s.recordsOnly (s.raise c cause stn inst det src wsn) := by
  unfold State.raise
  dsimp only
  split
  · rfl
  · exact recordsOnly_post ..

theorem recordsOnly_jrn {s t : State} (h : s.recordsOnly t) : t.jrn = s.jrn := (congrArg State.jrn h :)

end Sys2Proof.Machine
end

section
/-! SUPPORT. An item that is accepted (R62, R67), and one that fails its state check. Then O9. -/
namespace Sys2Proof.Machine
open Sys2Proof

/-! ## The retained items -/

/-- R67: the items of the source before its 1024 most recently accepted ones. -/
def olderItems (l : List Item) (src : Nat) : List Item :=
  (l.filter fun i => i.key.src == src).take ((l.filter fun i => i.key.src == src).length - 1024)

theorem mem_retain {l : List Item} {src : Nat} {i : Item} :
    i ∈ retain l src ↔ i ∈ l ∧ (i.isOpen = true ∨ ∀ o ∈ olderItems l src, o.key ≠ i.key) := by
  simp [retain, olderItems]

/-- The newest item of a source is none of its older ones. -/
theorem olderItems_append_subset (l : List Item) (i : Item) : olderItems (l ++ [i]) i.key.src ⊆ l := by
  intro o ho
  rw [olderItems, List.filter_append, List.filter_singleton, beq_self_eq_true, cond_true, List.length_append,
    List.length_singleton, List.take_append_of_le_length (by omega)] at ho
  exact (List.mem_filter.mp (List.mem_of_mem_take ho)).1

/-- R67: the newest item of its source is retained, where no other one has its key. -/
theorem mem_retain_newest {l : List Item} {i : Item} (h : ∀ j ∈ l, j.key ≠ i.key) : i ∈ retain (l ++ [i]) i.key.src :=
  mem_retain.mpr ⟨List.mem_append_right l (List.mem_singleton.mpr rfl),
    .inr fun o ho => h o (olderItems_append_subset l i ho)⟩

/-- No retained item has a key that `findItem` does not find. -/
theorem key_ne_of_findItem_none {s : State} {k : Key} (h : s.findItem k = none) : ∀ j ∈ s.jrn.items, j.key ≠ k := by
  intro j hj hk
  exact List.find?_eq_none.mp h j hj (beq_iff_eq.mpr hk)

/-! ## Acceptance -/

/-- The item as its acceptance records it, with its outcome. -/
def State.newItem (s : State) (r : CommitRec) : Item :=
  ⟨r.key, if r.err = 0 then .pending else .failed, r.err, r.err, r.stn, s.clk.now, s.clk.now, none,
    s.commitRec.fld .JRN_LSN_LSN, some r.cmd, s.itemBase r.cmd, r.len⟩

/-- The block once the record of an item is durable, before a failure of a panel item is announced. -/
def State.enrolled (s : State) (r : CommitRec) : State :=
  { s.commitRec with jrn := { s.jrn with
      items := retain (s.jrn.items ++ [s.newItem r]) r.key.src
      src := if h : r.key.src < 24 then s.jrn.src.set r.key.src ⟨r.key.ser, r.key.wsn⟩ else s.jrn.src } }

theorem accept_eq_enrolled (s : State) (r : CommitRec) :
    s.accept r = if r.org == .panel && r.err != 0 then
      (s.enrolled r).raise .fault Cause.WORK_FAILED r.stn (det := r.err) (src := r.key.src) (wsn := r.key.wsn)
    else s.enrolled r := rfl

theorem accept_of_ne_panel (s : State) {r : CommitRec} (h : r.org ≠ .panel) : s.accept r = s.enrolled r := by
  rw [accept_eq_enrolled, if_neg (by simp [h])]

/-- R429: the failure of a panel item is announced. -/
theorem accept_of_panel_failed (s : State) {r : CommitRec} (h : r.org = .panel) (he : 0 < r.err) :
    s.accept r =
      (s.enrolled r).raise .fault Cause.WORK_FAILED r.stn (det := r.err) (src := r.key.src) (wsn := r.key.wsn) := by
  rw [accept_eq_enrolled, if_pos (by simp [h, he.ne'])]

/-- Of the block, an acceptance touches the registers and the journal. -/
theorem enrolled_regs_jrn_only (s : State) (r : CommitRec) :
    ({ s.enrolled r with regs := s.regs, jrn := s.jrn } : State) = s := rfl

/-- The announcement leaves the journal as the acceptance made it. -/
theorem accept_jrn (s : State) (r : CommitRec) : (s.accept r).jrn = (s.enrolled r).jrn := by
  rw [accept_eq_enrolled]
  split
  · exact recordsOnly_jrn (recordsOnly_raise ..)
  · rfl

theorem answersOnly_jrn {s t : State} (h : s.answersOnly t) : t.jrn = s.jrn := by
  obtain ⟨rest, -, -⟩ := h
  exact (congrArg State.jrn rest :)

/-- R62: the record's WSN becomes its source's last one. -/
theorem source_of_accepted {s t : State} {r : CommitRec} (ht : t.jrn = (s.enrolled r).jrn) (h : r.key.src < 24) :
    t.source r.key.src = ⟨r.key.ser, r.key.wsn⟩ := by
  simp [State.source, ht, State.enrolled, h]

/-- R67: the accepted item is retained with its outcome. -/
theorem newItem_mem_of_accepted {s t : State} {r : CommitRec} (ht : t.jrn = (s.enrolled r).jrn)
    (h : s.findItem r.key = none) : s.newItem r ∈ t.jrn.items := by
  rw [ht]
  exact mem_retain_newest (i := s.newItem r) (key_ne_of_findItem_none h)

/-! ## A failed state check -/

theorem nextKey_src (n : Nat) (e : Source) : (nextKey n e).src = n := by
  unfold nextKey
  split <;> rfl

theorem candKey_src (s : State) (o : Origin) : (s.candKey o).src = s.srcNo o := by
  cases o with
  | framed p w => rfl
  | peer d w => rfl
  | typed p => exact nextKey_src ..
  | panel => exact nextKey_src ..
  | core c => exact nextKey_src ..

/-- The origin's candidate `w` is its source's next one, is permitted, and fails its state check with `e`; the journal has
room, and nothing is on its way before it. -/
def State.failsCheck (s : State) (o : Origin) (w : Work) (e : Nat) : Prop :=
  s.takes o ∧ w.pre = none ∧ s.judge o = .next ∧ s.commitFull (offerLen o) = false ∧ w.permit = true ∧ w.chk = some e ∧
    0 < e ∧ s.jrn.queue = [] ∧ s.jrn.ready = []

/-- The record of a candidate whose state check fails. -/
def State.failedRec (s : State) (o : Origin) (cmd : Instr) (w : Work) (e : Nat) : CommitRec :=
  ⟨s.candKey o, o, cmd, e, w.stn, offerLen o⟩

/-- R61, R62: a candidate whose state check fails is accepted, and answered with its error. -/
theorem offer_failsCheck {s : State} {o : Origin} {cmd : Instr} {w : Work} {e : Nat} (h : s.failsCheck o w e) :
    s.offer o cmd w = (s.accept (s.failedRec o cmd w e)).answer o (.er (okTag o (s.candKey o)) e false) := by
  obtain ⟨⟨answering, rescue, accepting⟩, pre, judged, room, permit, chk, pos, queue, ready⟩ := h
  have err : w.err = e := by simp [Work.err, permit, chk]
  simp [State.offer, State.offerAs, answering, rescue, accepting, pre, judged, room, err, pos.ne', State.enter, queue,
    ready, acceptLine, State.failedRec]

/-- Settles O9: the journal holds what the acceptance of the failed record leaves (`enrolled`), since neither the answer nor
the announcement touches it. -/
theorem failedCheckConsumesWsn : Obligations.FailedCheckConsumesWsn := by
  intro s o cmd w e takes pre judged room permit chk pos queue ready absent
  have fails : s.failsCheck o w e := ⟨takes, pre, judged, room, permit, chk, pos, queue, ready⟩
  let r := s.failedRec o cmd w e
  have offered : s.offer o cmd w = (s.accept r).answer o (.er (okTag o r.key) e false) := offer_failsCheck fails
  have jrn : (s.offer o cmd w).jrn = (s.enrolled r).jrn := by
    rw [offered, answersOnly_jrn (answersOnly_answer ..), accept_jrn]
  refine ⟨source_of_accepted (r := r) jrn (candKey_src s o ▸ (s.srcNo o).isLt),
    ⟨s.newItem r, newItem_mem_of_accepted jrn absent, rfl, if_neg pos.ne', rfl, rfl, rfl⟩, fun hne => ?line, fun hp => ?panel⟩
  case line =>
    have answers := answersOnly_answer (s.accept r) o (.er (okTag o r.key) e false)
    refine ⟨offered ▸ answers, offered, ?_⟩
    obtain ⟨rest, -, -⟩ := answers
    rw [accept_of_ne_panel s hne] at rest
    rw [offered, accept_of_ne_panel s hne]
    exact (congrArg (fun u : State => { u with regs := s.regs, port := s.port, answers := s.answers, jrn := s.jrn }) rest :)
  case panel =>
    refine ⟨s.enrolled r, enrolled_regs_jrn_only s r, ?_⟩
    subst hp
    exact offered.trans (accept_of_panel_failed s rfl pos)

end Sys2Proof.Machine
end

section
/-! SUPPORT. The decimal digits of a number spell it. Then O8. -/
namespace Sys2Proof.Machine
open Sys2Proof

theorem length_decDigits (w n : Nat) : (decDigits w n).length = w := by
  induction w with
  | zero => rfl
  | succ w ih => rw [decDigits, List.length_cons, ih]

theorem hexDigit_eq_digitChar {d : Nat} (h : d < 10) : hexDigit d = d.digitChar := by
  interval_cases d <;> rfl

/-- `w` digits read after what gave `v` shift it by `w` places and add the last `w` places of the number. -/
theorem ofDigitChars_decDigits (w n v : Nat) : Nat.ofDigitChars 10 (decDigits w n) v = 10 ^ w * v + n % 10 ^ w := by
  induction w generalizing v with
  | zero => rw [decDigits, Nat.ofDigitChars_nil]; omega
  | succ w ih =>
    have small : n / 10 ^ w % 10 < 10 := Nat.mod_lt _ (by decide)
    rw [decDigits, hexDigit_eq_digitChar small, Nat.ofDigitChars_cons_digitChar_of_lt_ten small, ih, Nat.mod_pow_succ]
    ring

/-- A number below 10 ^ `w` is read back from its `w` digits. -/
theorem ofDigitChars_decDigits_of_lt {w n : Nat} (h : n < 10 ^ w) : Nat.ofDigitChars 10 (decDigits w n) 0 = n := by
  rw [ofDigitChars_decDigits, Nat.mul_zero, Nat.zero_add, Nat.mod_eq_of_lt h]

/-- A data line of a text and an eight-digit number, one space between its words (R105). -/
theorem rlineText_text_w8 (a : String) (n : Nat) :
    rlineText (.data [.s a, .w8 n]) = "= " ++ a ++ " " ++ String.ofList (decDigits 8 n) := by
  simp only [rlineText, List.map, fdText, joinSp, ← String.append_assoc, String.reduceAppend]

/-- Settles O8: `ID?` has no local error and needs no authority, so that where it is taken it is answered with its line. -/
theorem identityAnswered : Obligations.IdentityAnswered :=
  ⟨fun s _ takes => ⟨congrArg Host.Outcome.next (askPure_next takes rfl), rlineText_text_w8 _ s.conf.serial⟩,
    fun n small => ⟨length_decDigits 8 n, ofDigitChars_decDigits_of_lt small⟩⟩

end Sys2Proof.Machine
end

section
/-! SUPPORT. Session commands (R120 to R122): what a query or session command leaves is what its own effect leaves, but for
answers. Then O19. -/
namespace Sys2Proof.Machine
open Sys2Proof

theorem answersOnly_told (s : State) (o : Origin) (ls : List (List Fd)) : s.answersOnly (s.told o ls) :=
  answersOnly_trans (answersOnly_fold o ls s) (answersOnly_answer ..)

theorem answersOnly_sess {s t : State} (h : s.answersOnly t) : t.sess = s.sess := by
  obtain ⟨rest, -, -⟩ := h
  exact (congrArg State.sess rest :)

/-- R58: a query or session command is answered, with its effect where it is let through. -/
theorem answersOnly_ask_or_effect (s : State) (o : Origin) (pre : Option Nat) (permit : Bool)
    (f : State → Nat × List (List Fd) × State) :
    s.answersOnly (s.ask o pre permit f) ∨ (f s).2.2.answersOnly (s.ask o pre permit f) := by
  unfold State.ask
  split
  · exact .inl (answersOnly_refl s)
  split
  · exact .inl (answersOnly_refuse ..)
  split
  · exact .inl (answersOnly_answer ..)
  split
  · exact .inl (answersOnly_refuse ..)
  split
  · exact .inl (answersOnly_answer ..)
  refine .inr ?_
  split
  next ls t effect =>
    rw [effect]
    exact answersOnly_told t o ls
  next e _ t _ effect =>
    rw [effect]
    exact answersOnly_trans (answersOnly_countRej t o e) (answersOnly_answer ..)

/-! ## Changes inside one session -/

/-- Of the sessions `t` changes none but that of port `p`, and outside the sessions nothing but registers, ports, answers, event
records and observation. -/
def State.sessionOnly (p : Fin 2) (s t : State) : Prop :=
  (∀ q : Fin 2, q ≠ p → t.sess[q] = s.sess[q]) ∧
  { t with sess := s.sess, regs := s.regs, port := s.port, answers := s.answers, ev := s.ev, evWait := s.evWait,
           obs := s.obs } = s

section
variable {p : Fin 2}

theorem sessionOnly_refl (s : State) : s.sessionOnly p s := ⟨fun _ _ => rfl, rfl⟩

theorem sessionOnly_trans {a b c : State} (h : a.sessionOnly p b) (k : b.sessionOnly p c) : a.sessionOnly p c := by
  obtain ⟨others, rest⟩ := h
  obtain ⟨others', rest'⟩ := k
  refine ⟨fun q hq => (others' q hq).trans (others q hq), ?_⟩
  rw [← rest, ← rest']

theorem sessionOnly_of_answersOnly {s t : State} (h : s.answersOnly t) : s.sessionOnly p t := by
  refine ⟨fun q _ => by rw [answersOnly_sess h], ?_⟩
  obtain ⟨rest, -, -⟩ := h
  rw [← rest]

theorem sessionOnly_of_recordsOnly {s t : State} (h : s.recordsOnly t) : s.sessionOnly p t := by
  unfold State.recordsOnly at h
  refine ⟨fun q _ => ?_, ?_⟩ <;> rw [← h]

theorem sessionOnly_setSess (s : State) (f : Session → Session) : s.sessionOnly p (s.setSess p f) :=
  ⟨fun q hq => setSess_other s p f q hq.symm, rfl⟩

/-- R126: the records that are not held back are listed with the port. -/
theorem sessionOnly_skipUnseen (s : State) (q : Fin 2) : s.sessionOnly p (s.skipUnseen q) := ⟨fun _ _ => rfl, rfl⟩

theorem sessionOnly_jrn {s t : State} (h : s.sessionOnly p t) : t.jrn = s.jrn := by
  obtain ⟨-, rest⟩ := h
  exact (congrArg State.jrn rest :)

theorem sessionOnly_ask {s : State} {f : State → Nat × List (List Fd) × State} (h : s.sessionOnly p (f s).2.2)
    (o : Origin) (pre : Option Nat) (permit : Bool) : s.sessionOnly p (s.ask o pre permit f) := by
  obtain unchanged | effect := answersOnly_ask_or_effect s o pre permit f
  · exact sessionOnly_of_answersOnly unchanged
  · exact sessionOnly_trans h (sessionOnly_of_answersOnly effect)

/-! ## The session commands -/

variable {s t : State} {o : Origin} {key : Nat}

/-- R120: a key that matches enters the session, one that matches nothing is counted and announced, and one during the lockout
is refused. -/
theorem exec_auth_sessionOnly (hp : sessionPort o = some p) (h : exec (.auth o key) s = .next t) : s.sessionOnly p t := by
  cases h
  apply sessionOnly_ask
  simp only [hp]
  split
  · exact sessionOnly_refl s
  split
  · exact sessionOnly_setSess s _
  · exact sessionOnly_trans (sessionOnly_setSess s _) (sessionOnly_of_recordsOnly (recordsOnly_raise ..))

theorem exec_authOff_sessionOnly (hp : sessionPort o = some p) (h : exec (.authOff o) s = .next t) :
    s.sessionOnly p t := by
  cases h
  apply sessionOnly_ask
  simp only [hp]
  exact sessionOnly_trans (sessionOnly_setSess s _) (sessionOnly_skipUnseen _ p)

/-- R121: only a configured station in authority is selected. -/
theorem exec_stnSelect_sessionOnly {k : Fin 4} (hp : sessionPort o = some p) (h : exec (.stnSelect o k) s = .next t) :
    s.sessionOnly p t := by
  cases h
  apply sessionOnly_ask
  simp only [hp]
  split
  · exact sessionOnly_refl s
  split
  · exact sessionOnly_refl s
  · exact sessionOnly_setSess s _

/-- A query of `onlyAsks` changes no session at all. -/
theorem exec_query_sessionOnly {i : Instr} (hi : onlyAsks i = true) (h : exec i s = .next t) : s.sessionOnly p t := by
  obtain ⟨u, hu, answered⟩ := exec_onlyAnswers hi s
  rw [hu] at h
  cases h
  exact sessionOnly_of_answersOnly answered

/-- R120: the session once the owners of `m` have entered it with a success. -/
def Session.withOwners (x : Session) (m : Auth) : Session :=
  { x with own := ⟨Vector.ofFn fun k => x.own.stn[k] || m.stn[k], x.own.brd || m.brd⟩, fails := 0, lock := none }

/-- A key that matches, on a port that is not locked out, is answered OK once its owners have entered the session. -/
theorem exec_auth_of_matching (hp : sessionPort o = some p) (takes : s.takes o) (free : s.authLocked p = false)
    (found : (s.matching key).any = true) :
    exec (.auth o key) s = .next ((s.setSess p (·.withOwners (s.matching key))).told o []) := by
  refine congrArg Host.Outcome.next ((ask_of takes (by rw [hp]; rfl) rfl).trans ?_)
  simp only [hp, free, found, Bool.false_eq_true, if_false, if_true]
  rfl

theorem exec_authOff_of_takes (hp : sessionPort o = some p) (takes : s.takes o) :
    exec (.authOff o) s = .next (((s.setSess p fun x => { x with own := noAuth }).skipUnseen p).told o []) := by
  refine congrArg Host.Outcome.next ((ask_of takes (by rw [hp]; rfl) rfl).trans ?_)
  simp only [hp]

/-- The session after `AUTH OFF`: `skipUnseen` and the answer touch no session. -/
theorem sess_of_authOff (hp : sessionPort o = some p) (takes : s.takes o) (h : exec (.authOff o) s = .next t) :
    t.sess[p] = { s.sess[p] with own := noAuth } := by
  rw [exec_authOff_of_takes hp takes] at h
  cases h
  rw [answersOnly_sess (answersOnly_told ..)]
  exact setSess_same s p fun x => { x with own := noAuth }

theorem sess_of_auth_matching (hp : sessionPort o = some p) (takes : s.takes o) (free : s.authLocked p = false)
    (found : (s.matching key).any = true) (h : exec (.auth o key) s = .next t) :
    t.sess[p] = (s.sess[p]).withOwners (s.matching key) := by
  rw [exec_auth_of_matching hp takes free found] at h
  cases h
  rw [answersOnly_sess (answersOnly_told ..)]
  exact setSess_same s p _

end

/-- Settles O19: the frame is `sessionOnly`, which each of the five commands keeps; the last two clauses are read off the
session that `AUTH OFF` or a matching key leaves. -/
theorem sessionCommandsFrame : Obligations.SessionCommandsFrame := by
  intro s t o p key k i hp hi h
  have inSession : s.sessionOnly p t := by
    obtain rfl | rfl | rfl | rfl | rfl := hi
    · exact exec_auth_sessionOnly hp h
    · exact exec_authOff_sessionOnly hp h
    · exact exec_query_sessionOnly rfl h
    · exact exec_stnSelect_sessionOnly hp h
    · exact exec_query_sessionOnly rfl h
  have jrn := sessionOnly_jrn inSession
  obtain ⟨others, rest⟩ := inSession
  refine ⟨jrn, others, rest, ?off, ?matched⟩
  case off =>
    rintro rfl takes
    rw [sess_of_authOff hp takes h]
    exact ⟨rfl, rfl⟩
  case matched =>
    rintro rfl takes free found
    rw [sess_of_auth_matching hp takes free found h]
    exact ⟨rfl, rfl, fun x => Vector.getElem_ofFn x.isLt⟩

end Sys2Proof.Machine
end

section
/-! SUPPORT. What the writing of an event record sets: its class and the last SEQ of the class, while its ring's counts and
its trace record touch neither. Then O18. -/
namespace Sys2Proof.Machine
open Sys2Proof

/-! ## SEQ (R157) -/

theorem nextSeq_ne_zero (n : Nat) : nextSeq n ≠ 0 := by
  unfold nextSeq
  split <;> omega

theorem nextSeq_lt (n : Nat) : nextSeq n < 2 ^ 32 := by
  unfold nextSeq
  split <;> omega

/-! ## What leaves the event records and every class's last SEQ -/

/-- No event record, written or waiting, and no class's last SEQ differs between `s` and `t`. -/
structure State.keepsRecords (s t : State) : Prop where
  ev : t.ev = s.ev
  evWait : t.evWait = s.evWait
  seq : ∀ k : Fin 4, t.reg .EVT_SEQ k 0 = s.reg .EVT_SEQ k 0

theorem keepsRecords_refl (s : State) : s.keepsRecords s := ⟨rfl, rfl, fun _ => rfl⟩

theorem keepsRecords_trans {a b c : State} (h : a.keepsRecords b) (k : b.keepsRecords c) : a.keepsRecords c :=
  ⟨k.ev.trans h.ev, k.evWait.trans h.evWait, fun n => (k.seq n).trans (h.seq n)⟩

theorem keepsRecords_withObs (s : State) (o : ObsSt) : s.keepsRecords { s with obs := o } := ⟨rfl, rfl, fun _ => rfl⟩

/-- R126: the ports list what they do not select. -/
theorem keepsRecords_skipRec (s : State) (k : Fin 4) (r : EvRec) : s.keepsRecords (s.skipRec k r) :=
  ⟨rfl, rfl, fun _ => rfl⟩

/-- A field of a register that holds no class's last SEQ. -/
theorem keepsRecords_setFld (s : State) {f : Fld} {i j : Nat} (v : Nat)
    (h : ∀ k : Fin 4, regAddr .EVT_SEQ k 0 ≠ regAddr f.reg i j) : s.keepsRecords (s.setFld f i j v) :=
  ⟨rfl, rfl, fun k => reg_setReg_ne s f.reg .EVT_SEQ i j k 0 _ (h k)⟩

theorem regAddr_evtSeq (k : Nat) : regAddr .EVT_SEQ k 0 = 0x40060010 + 4 * k := rfl

/-- The registers of the sixteen rings lie below those of the event records. -/
theorem regAddr_evtSeq_ne_ring {r : Nat} (hr : r < 16) (k : Nat) :
    regAddr .EVT_SEQ k 0 ≠ regAddr .RING_PTR r 0 ∧ regAddr .EVT_SEQ k 0 ≠ regAddr .RING_STAT r 0 := by
  have ptr : regAddr .RING_PTR r 0 = 0x40050004 + 16 * r := rfl
  have stat : regAddr .RING_STAT r 0 = 0x40050008 + 16 * r := rfl
  rw [regAddr_evtSeq, ptr, stat]
  omega

theorem regAddr_evtSeq_ne_trstat (k : Fin 4) : regAddr .EVT_SEQ k 0 ≠ regAddr .OBS_TRSTAT 0 0 := by
  have trstat : regAddr .OBS_TRSTAT 0 0 = 0x40180050 := rfl
  rw [regAddr_evtSeq, trstat]
  omega

/-- R150, R168: PUT and HWM are kept in registers of the rings. -/
theorem keepsRecords_ringPut (s : State) {r : Nat} (hr : r < 16) (n : Nat) : s.keepsRecords (s.ringPut r n) := by
  have apart (k : Fin 4) := regAddr_evtSeq_ne_ring hr k
  unfold State.ringPut
  exact keepsRecords_trans (keepsRecords_setFld (f := .RING_PTR_PUT) s _ fun k => (apart k).1)
    (keepsRecords_setFld (f := .RING_STAT_HWM) _ _ fun k => (apart k).2)

/-! ## Trace records (R598 to R600) -/

/-- A trace record is kept in OBS, and counted in OBS_TRSTAT. -/
theorem keepsRecords_pushTrace (s : State) (r : TraceRec) : s.keepsRecords (s.pushTrace r) := by
  unfold State.pushTrace
  dsimp only
  split
  · split
    · exact keepsRecords_trans (keepsRecords_withObs s _) (keepsRecords_setFld _ _ regAddr_evtSeq_ne_trstat)
    · exact keepsRecords_withObs s _
  split
  · exact keepsRecords_trans (keepsRecords_withObs s _) (keepsRecords_setFld _ _ regAddr_evtSeq_ne_trstat)
  · exact keepsRecords_refl s

theorem keepsRecords_reportDrops (s : State) : s.keepsRecords s.reportDrops := by
  unfold State.reportDrops
  split
  · exact keepsRecords_refl s
  · exact keepsRecords_trans (keepsRecords_withObs s _)
      (keepsRecords_trans (keepsRecords_pushTrace ..) (keepsRecords_pushTrace ..))

theorem keepsRecords_capture (s : State) (r : TraceRec) : s.keepsRecords (s.capture r) := by
  unfold State.capture
  split
  · exact keepsRecords_refl s
  · exact keepsRecords_trans (keepsRecords_reportDrops s)
      (keepsRecords_trans (keepsRecords_pushTrace ..) (keepsRecords_withObs _ _))

theorem keepsRecords_traceRec (s : State) (kind stn eng data : Nat) : s.keepsRecords (s.traceRec kind stn eng data) :=
  keepsRecords_capture s _

/-! ## A written record -/

/-- The record as it is written, with the SEQ after the last one of its class. -/
def State.numbered (s : State) (k : Fin 4) (r : EvRec) : EvRec := { r with seq := nextSeq (s.fld .EVT_SEQ_SEQ k) }

/-- A write sets the last SEQ of the class, counts and traces the record, and appends it. -/
theorem writeRec_appends (s : State) (k : Fin 4) (r : EvRec) :
    ∃ u, (s.setFld .EVT_SEQ_SEQ k 0 (s.numbered k r).seq).keepsRecords u ∧
      s.writeRec k r = { u with ev := { u.ev with q := u.ev.q.set k (u.ev.q[k] ++ [s.numbered k r]) } } := by
  have hk : k.val < 16 := k.isLt.trans (by decide)
  exact ⟨_, keepsRecords_trans (keepsRecords_ringPut _ hk 1)
    (keepsRecords_trans (keepsRecords_traceRec ..) (keepsRecords_skipRec ..)), rfl⟩

/-- R157: the record becomes the newest one of its class. -/
theorem writeRec_ev (s : State) (k : Fin 4) (r : EvRec) :
    (s.writeRec k r).ev = { s.ev with q := s.ev.q.set k (s.ev.q[k] ++ [s.numbered k r]) } := by
  obtain ⟨u, kept, written⟩ := writeRec_appends s k r
  rw [written, kept.ev]
  rfl

theorem writeRec_evWait (s : State) (k : Fin 4) (r : EvRec) : (s.writeRec k r).evWait = s.evWait := by
  obtain ⟨u, kept, written⟩ := writeRec_appends s k r
  rw [written]
  exact kept.evWait

/-- R157: the descriptor keeps the record's SEQ. -/
theorem writeRec_seq (s : State) (k : Fin 4) (r : EvRec) (h : regsSorted s.regs) :
    (s.writeRec k r).fld .EVT_SEQ_SEQ k = (s.numbered k r).seq := by
  obtain ⟨u, kept, written⟩ := writeRec_appends s k r
  calc (s.writeRec k r).fld .EVT_SEQ_SEQ k
      = fldOf (u.reg .EVT_SEQ k 0) .EVT_SEQ_SEQ := by rw [written]; rfl
    _ = (s.setFld .EVT_SEQ_SEQ k 0 (s.numbered k r).seq).fld .EVT_SEQ_SEQ k := by rw [kept.seq]; rfl
    _ = (s.numbered k r).seq := fld_setFld_same s .EVT_SEQ_SEQ k 0 _ h (by decide) (nextSeq_lt _)

/-! ## An occurrence that is written -/

/-- R160: an occurrence joins no record of class FIN, nor a newest record that it does not coalesce with. -/
theorem not_joins_newest {l : List EvRec} {k : Fin 4} {r : EvRec}
    (h : k.val = 3 ∨ ∀ o, l.getLast? = some o → coalesces o r = false) :
    ¬ (k.val ≠ 3 ∧ (l.getLast?.map fun o => coalesces o r) = some true) := by
  rintro ⟨notFin, joins⟩
  obtain ⟨o, newest, joined⟩ := Option.map_eq_some_iff.mp joins
  obtain fin | apart := h
  · exact notFin fin
  · exact Bool.false_ne_true ((apart o newest).symm.trans joined)

theorem post_of_room {s : State} {k : Fin 4} {r : EvRec} (room : 2 ≤ s.ringFree k)
    (h : k.val = 3 ∨ ∀ o, (s.ev.q[k]).getLast? = some o → coalesces o r = false) : s.post k r = s.writeRec k r :=
  (if_neg (not_joins_newest h)).trans (if_pos room)

/-- R153: an occurrence of a class that no depth change holds is posted at once. -/
theorem raise_of_not_held {s : State} {c : EvClass} (free : s.ringHeld (classNo c) = false)
    (cause stn inst det src wsn : Nat) :
    s.raise c cause stn inst det src wsn = s.post (classNo c)
      ⟨s.clk.now, 0, stn, cause, inst, src, false, false, wsn, det, 1, s.coalW (classNo c), 1⟩ :=
  if_neg (by simp [free])

/-- Settles O18: such an occurrence is a `writeRec`, whose record and SEQ are `writeRec_ev` and `writeRec_seq`; the frame is
that of every occurrence, with nothing waiting. -/
theorem eventRecordWritten : Obligations.EventRecordWritten := by
  intro s cl cause stn inst det src wsn k r t sorted free room apart
  have written : t = s.writeRec k r := (raise_of_not_held free ..).trans (post_of_room room apart)
  rw [written]
  refine ⟨?newest, writeRec_seq s k r sorted, nextSeq_ne_zero _, fun m hm => ?others, ?frame⟩
  case newest =>
    rw [writeRec_ev]
    exact Vector.getElem_set_self k.isLt
  case others =>
    rw [writeRec_ev]
    exact Vector.getElem_set_ne k.isLt m.isLt fun e => hm (Fin.ext e.symm)
  case frame =>
    have records := recordsOnly_writeRec s k r
    rw [State.recordsOnly, ← writeRec_evWait s k r] at records
    exact records

end Sys2Proof.Machine
end

section
/-! SUPPORT. The densely packed decimal encoding and the fields of a decimal128 word (R265): each is read back as it was
written. Then O21. -/
namespace Sys2Proof.Machine
open Sys2Proof

/-! ## One declet

The eight rows of the encoding, by which of the digits `x`, `y` and `z` are large (8 or 9) or small. -/

section

variable {n x y z x₀ y₀ y₁ z₀ z₁ : Nat}

theorem decletDigits_none_large (hn : n = x * 128 + y * 16 + z)
    (hx : x < 8) (hy : y < 8) (hz : z < 8) :
    decletDigits n = (x, y, z) := by
  have ind : n / 8 % 2 = 0 := by omega
  simp only [decletDigits, Nat.reducePow, ind, if_true, Prod.mk.injEq]
  omega

theorem decletDigits_last_large (hn : n = x * 128 + y * 16 + 8 + z₀)
    (hx : x < 8) (hy : y < 8) (hz₀ : z₀ < 2) :
    decletDigits n = (x, y, 8 + z₀) := by
  have ind : n / 8 % 2 = 1 := by omega
  have row : n / 2 % 4 = 0 := by omega
  simp only [decletDigits, Nat.reducePow, ind, row, one_ne_zero, if_false, Prod.mk.injEq]
  omega

theorem decletDigits_middle_large (hn : n = x * 128 + z₁ * 32 + y₀ * 16 + 10 + z₀)
    (hx : x < 8) (hz₁ : z₁ < 4) (hy₀ : y₀ < 2) (hz₀ : z₀ < 2) :
    decletDigits n = (x, 8 + y₀, 2 * z₁ + z₀) := by
  have ind : n / 8 % 2 = 1 := by omega
  have row : n / 2 % 4 = 1 := by omega
  simp only [decletDigits, Nat.reducePow, ind, row, one_ne_zero, if_false, Prod.mk.injEq]
  omega

theorem decletDigits_first_large (hn : n = z₁ * 256 + x₀ * 128 + y * 16 + 12 + z₀)
    (hz₁ : z₁ < 4) (hx₀ : x₀ < 2) (hy : y < 8) (hz₀ : z₀ < 2) :
    decletDigits n = (8 + x₀, y, 2 * z₁ + z₀) := by
  have ind : n / 8 % 2 = 1 := by omega
  have row : n / 2 % 4 = 2 := by omega
  simp only [decletDigits, Nat.reducePow, ind, row, one_ne_zero, if_false, Prod.mk.injEq]
  omega

theorem decletDigits_last_small (hn : n = z₁ * 256 + x₀ * 128 + y₀ * 16 + 14 + z₀)
    (hz₁ : z₁ < 4) (hx₀ : x₀ < 2) (hy₀ : y₀ < 2) (hz₀ : z₀ < 2) :
    decletDigits n = (8 + x₀, 8 + y₀, 2 * z₁ + z₀) := by
  have ind : n / 8 % 2 = 1 := by omega
  have row : n / 2 % 4 = 3 := by omega
  have sub : n / 32 % 4 = 0 := by omega
  simp only [decletDigits, Nat.reducePow, ind, row, sub, one_ne_zero, if_false, Prod.mk.injEq]
  omega

theorem decletDigits_middle_small (hn : n = y₁ * 256 + x₀ * 128 + 32 + y₀ * 16 + 14 + z₀)
    (hy₁ : y₁ < 4) (hx₀ : x₀ < 2) (hy₀ : y₀ < 2) (hz₀ : z₀ < 2) :
    decletDigits n = (8 + x₀, 2 * y₁ + y₀, 8 + z₀) := by
  have ind : n / 8 % 2 = 1 := by omega
  have row : n / 2 % 4 = 3 := by omega
  have sub : n / 32 % 4 = 1 := by omega
  simp only [decletDigits, Nat.reducePow, ind, row, sub, one_ne_zero, if_false, Prod.mk.injEq]
  omega

theorem decletDigits_first_small (hn : n = x * 128 + 64 + y₀ * 16 + 14 + z₀)
    (hx : x < 8) (hy₀ : y₀ < 2) (hz₀ : z₀ < 2) :
    decletDigits n = (x, 8 + y₀, 8 + z₀) := by
  have ind : n / 8 % 2 = 1 := by omega
  have row : n / 2 % 4 = 3 := by omega
  have sub : n / 32 % 4 = 2 := by omega
  simp only [decletDigits, Nat.reducePow, ind, row, sub, one_ne_zero, if_false, Prod.mk.injEq]
  omega

theorem decletDigits_all_large (hn : n = x₀ * 128 + 96 + y₀ * 16 + 14 + z₀)
    (hx₀ : x₀ < 2) (hy₀ : y₀ < 2) (hz₀ : z₀ < 2) :
    decletDigits n = (8 + x₀, 8 + y₀, 8 + z₀) := by
  have ind : n / 8 % 2 = 1 := by omega
  have row : n / 2 % 4 = 3 := by omega
  have sub : n / 32 % 4 = 3 := by omega
  simp only [decletDigits, Nat.reducePow, ind, row, sub, one_ne_zero, if_false, Prod.mk.injEq]
  omega

end

theorem declet_lt (v : Nat) : declet v < 1024 := by
  unfold declet
  dsimp only
  split <;> rename_i hx hy hz <;> simp only [decide_eq_true_eq, decide_eq_false_iff_not] at hx hy hz <;> omega

/-- Each of the eight rows of the encoding is read back, by which digits are large. -/
theorem decletDigits_declet (v : Nat) : decletDigits (declet v) = (v / 100 % 10, v / 10 % 10, v % 10) := by
  have bit (d : Nat) : d % 2 < 2 := Nat.mod_lt _ (by decide)
  have upper {d : Nat} (small : d < 8) : d / 2 < 4 := Nat.div_lt_of_lt_mul small
  have large (u : Nat) (h : 8 ≤ u % 10) : 8 + u % 10 % 2 = u % 10 := by omega
  have xLarge := large (v / 100)
  have yLarge := large (v / 10)
  have zLarge := large v
  unfold declet
  generalize v / 100 % 10 = x at *
  generalize v / 10 % 10 = y at *
  generalize v % 10 = z at *
  dsimp only
  split <;> rename_i hx hy hz <;> simp only [decide_eq_true_eq, decide_eq_false_iff_not, Nat.not_le] at hx hy hz
  case h_1 => rw [decletDigits_none_large rfl hx hy hz]
  case h_2 => rw [decletDigits_last_large rfl hx hy (bit z), zLarge hz]
  case h_3 => rw [decletDigits_middle_large rfl hx (upper hz) (bit y) (bit z), yLarge hy, Nat.div_add_mod]
  case h_4 => rw [decletDigits_first_large rfl (upper hz) (bit x) hy (bit z), xLarge hx, Nat.div_add_mod]
  case h_5 => rw [decletDigits_last_small rfl (upper hz) (bit x) (bit y) (bit z), xLarge hx, yLarge hy, Nat.div_add_mod]
  case h_6 => rw [decletDigits_middle_small rfl (upper hy) (bit x) (bit y) (bit z), xLarge hx, zLarge hz, Nat.div_add_mod]
  case h_7 => rw [decletDigits_first_small rfl hx (bit y) (bit z), yLarge hy, zLarge hz]
  case h_8 => rw [decletDigits_all_large rfl (bit x) (bit y) (bit z), xLarge hx, yLarge hy, zLarge hz]

theorem decletVal_declet {v : Nat} (h : v < 1000) : decletVal (declet v) = v := by
  rw [decletVal, decletDigits_declet]
  dsimp only
  omega

/-! ## A row of declets -/

theorem declets_lt (k v : Nat) : declets k v < 1024 ^ k := by
  induction k generalizing v with
  | zero => exact Nat.one_pos
  | succ k ih =>
    have rest := ih (v / 1000)
    have last := declet_lt (v % 1000)
    rw [declets, pow_succ]
    omega

/-- `k` declets hold every number of 3 × `k` digits. -/
theorem decletsVal_declets {k v : Nat} (h : v < 1000 ^ k) : decletsVal k (declets k v) = v := by
  induction k generalizing v with
  | zero => exact (Nat.lt_one_iff.mp h).symm
  | succ k ih =>
    have last := declet_lt (v % 1000)
    have upper : declets (k + 1) v / 1024 = declets k (v / 1000) := by rw [declets]; omega
    have lower : declets (k + 1) v % 1024 = declet (v % 1000) := by rw [declets]; omega
    have rest : v / 1000 < 1000 ^ k := Nat.div_lt_of_lt_mul (by rwa [← pow_succ'])
    rw [decletsVal, upper, lower, ih rest, decletVal_declet (Nat.mod_lt _ (by decide)), Nat.div_add_mod']

/-! ## The fields of the word -/

/-- The word of a sign, a combination `g`, an exponent continuation `x` and a coefficient continuation `low`. -/
def decWord (neg : Bool) (g x low : Nat) : Nat :=
  (if neg then 2 ^ 127 else 0) + g * 2 ^ 122 + x * 2 ^ 110 + declets 11 low

section

variable {g x low : Nat} (neg : Bool)

theorem declets_eleven_lt (low : Nat) : declets 11 low < 2 ^ 110 := declets_lt 11 low

theorem decWord_lt (hg : g < 32) (hx : x < 4096) : decWord neg g x low < 2 ^ 128 := by
  have hbits := declets_eleven_lt low
  unfold decWord
  split <;> omega

theorem decWord_sign (hg : g < 32) (hx : x < 4096) : (decWord neg g x low / 2 ^ 127 % 2 == 1) = neg := by
  have hbits := declets_eleven_lt low
  have top : decWord neg g x low / 2 ^ 127 = if neg then 1 else 0 := by
    unfold decWord
    split <;> omega
  rw [top]
  cases neg <;> rfl

theorem decWord_combination (hg : g < 32) (hx : x < 4096) : decWord neg g x low / 2 ^ 122 % 32 = g := by
  have hbits := declets_eleven_lt low
  unfold decWord
  split <;> omega

theorem decWord_exponent (hx : x < 4096) : decWord neg g x low / 2 ^ 110 % 4096 = x := by
  have hbits := declets_eleven_lt low
  unfold decWord
  split <;> omega

theorem decWord_coefficient (hlow : low < 10 ^ 33) : decletsVal 11 (decWord neg g x low % 2 ^ 110) = low := by
  have bits : decWord neg g x low % 2 ^ 110 = declets 11 low := by
    have hbits := declets_eleven_lt low
    unfold decWord
    split <;> omega
  rw [bits, decletsVal_declets hlow]

/-- The five combination bits of a finite value, by the two high bits of its exponent and its first digit. -/
def finComb (hi msd : Nat) : Nat := if msd < 8 then hi * 8 + msd else 24 + hi * 2 + msd % 2

theorem finComb_lt {hi msd : Nat} (hhi : hi < 3) (hmsd : msd < 10) : finComb hi msd < 30 := by
  unfold finComb
  split <;> omega

theorem finComb_read {hi msd : Nat} (hhi : hi < 3) (hmsd : msd < 10) :
    (if finComb hi msd / 8 = 3 then (finComb hi msd / 2 % 4, 8 + finComb hi msd % 2)
      else (finComb hi msd / 8, finComb hi msd % 8)) = (hi, msd) := by
  unfold finComb
  split <;> split <;> simp only [Prod.mk.injEq] <;> omega

/-! ## What a word holds -/

theorem decodeDec_decWord_nan (hx : x < 4096) (hlow : low < 10 ^ 33) :
    decodeDec (decWord neg 31 x low) = .nan neg (x ≥ 2048) low := by
  rw [decodeDec, decWord_sign neg (by decide) hx, decWord_combination neg (by decide) hx, decWord_exponent neg hx,
    decWord_coefficient neg hlow, if_pos rfl]

theorem decodeDec_decWord_inf (hx : x < 4096) : decodeDec (decWord neg 30 x low) = .inf neg := by
  rw [decodeDec, decWord_sign neg (by decide) hx, decWord_combination neg (by decide) hx, if_neg (by decide), if_pos rfl]

theorem decodeDec_decWord_fin {hi msd : Nat} (hhi : hi < 3) (hmsd : msd < 10) (hx : x < 4096) (hlow : low < 10 ^ 33) :
    decodeDec (decWord neg (finComb hi msd) x low) = .fin neg (msd * 10 ^ 33 + low) ((hi * 4096 + x : Nat) - 6176) := by
  have hg := finComb_lt hhi hmsd
  rw [decodeDec, decWord_sign neg (by omega) hx, decWord_combination neg (by omega) hx, decWord_exponent neg hx,
    decWord_coefficient neg hlow, if_neg (by omega), if_neg (by omega), finComb_read hhi hmsd]

end

/-! ## What a value is written as -/

theorem encodeDec_nan (neg sig : Bool) {p : Nat} (h : p < 10 ^ 33) :
    encodeDec (.nan neg sig p) = decWord neg 31 (if sig then 2048 else 0) p := by
  rw [encodeDec, decWord, Nat.mod_eq_of_lt h]
  cases sig <;> rfl

theorem encodeDec_inf (neg : Bool) : encodeDec (.inf neg) = decWord neg 30 0 0 := by
  cases neg <;> decide

theorem encodeDec_fin (neg : Bool) {c : Nat} {e : Int} (hc : c < 10 ^ 34) (he : e ≤ 6111) :
    encodeDec (.fin neg c e) =
      decWord neg (finComb ((e + 6176).toNat / 4096) (c / 10 ^ 33)) ((e + 6176).toNat % 4096) (c % 10 ^ 33) := by
  have hb : (e + 6176).toNat < 12288 := by omega
  rw [encodeDec, p34, Nat.mod_eq_of_lt hc, Nat.mod_eq_of_lt hb]
  rfl

/-- Settles O21: what each kind of value is written as, and what that word holds. -/
theorem decimalRoundTrip : Obligations.DecimalRoundTrip := by
  intro v hv
  cases v with
  | fin neg c e =>
    obtain ⟨hc, he, he'⟩ := hv
    have hhi : (e + 6176).toNat / 4096 < 3 := by omega
    have hmsd : c / 10 ^ 33 < 10 := by omega
    have hx : (e + 6176).toNat % 4096 < 4096 := Nat.mod_lt _ (by decide)
    have hg := finComb_lt hhi hmsd
    rw [encodeDec_fin neg hc he']
    refine ⟨?_, decWord_lt neg (by omega) hx⟩
    rw [decodeDec_decWord_fin neg hhi hmsd hx (Nat.mod_lt _ (by decide)), Nat.div_add_mod', Nat.div_add_mod']
    congr
    omega
  | inf neg =>
    rw [encodeDec_inf]
    exact ⟨decodeDec_decWord_inf neg (by decide), decWord_lt neg (by decide) (by decide)⟩
  | nan neg sig p =>
    have hx : (if sig then 2048 else 0) < 4096 := by split <;> decide
    rw [encodeDec_nan neg sig hv]
    refine ⟨?_, decWord_lt neg (by decide) hx⟩
    rw [decodeDec_decWord_nan neg hx hv]
    cases sig <;> rfl

end Sys2Proof.Machine
end

section
/-! SUPPORT. A read over the Boardwalk leaves every core as it is (R24, R28, R298). -/
namespace Sys2Proof.Machine
open Sys2Proof

/-- A read of `s` returned a value and a state with the cores of `s`. -/
def State.readKeepsCores (s : State) (p : Nat × State) : Prop := p.2.core = s.core

theorem recordsOnly_core {s t : State} (h : s.recordsOnly t) : t.core = s.core := (congrArg State.core h :)

theorem raise_core (s : State) (cl : EvClass) (cause stn inst det src wsn : Nat) :
    (s.raise cl cause stn inst det src wsn).core = s.core := recordsOnly_core (recordsOnly_raise ..)

theorem denied_core (s : State) (c : Fin 6) (a : Nat) : (s.denied c a).core = s.core := raise_core ..

theorem unmapped_core (s : State) (c : Fin 6) (a : Nat) : (s.unmapped c a).core = s.core := raise_core ..

theorem poison_core (s : State) (a : Nat) : (s.poison a).core = s.core := raise_core ..

theorem fresh_keepsCores (s : State) (w : Nat) : s.readKeepsCores (s.fresh w) := rfl

theorem readKnown_keepsCores (s : State) (l : List (Option Byte)) : s.readKeepsCores (s.readKnown l) := by
  unfold State.readKnown
  split <;> rfl

theorem sectShown_core (s : State) (n : Nat) : (s.sectShown n).2.2.core = s.core := by
  unfold State.sectShown
  split <;> rfl

theorem cpcWord_keepsCores (s : State) (c : Nat) : s.readKeepsCores (s.cpcWord c) := by
  unfold State.cpcWord
  split
  · dsimp only
    split <;> rfl
  · rfl

/-- A flash read suspends an operation of its bank, and may report bad data. -/
theorem flashRead_keepsCores (s : State) (a n : Nat) : s.readKeepsCores (s.flashRead a n) := by
  unfold State.flashRead
  extract_lets bank t
  have suspended : t.core = s.core := by
    simp only [t]
    split
    · split <;> rfl
    · rfl
  clear_value t
  split
  · exact (raise_core ..).trans suspended
  split
  · exact (poison_core ..).trans suspended
  split
  rename_i plain u hu
  have known : u.core = s.core := by
    split at hu
    · cases hu; exact suspended
    · have := readKnown_keepsCores t ((List.range n).map fun i => t.recordByte (a + i))
      rw [hu] at this
      exact this.trans suspended
  split
  · exact known
  split
  · exact (poison_core ..).trans known
  split <;> exact known

/-- SYS_CPC, FLS_SECT and FLS_ECNT may show free values; what a read of any other register does is to latch a word or take a
key. -/
theorem regShown_keepsCores (s : State) (r : Reg) (i j : Nat) : s.readKeepsCores (s.regShown r i j) := by
  unfold State.regShown
  cases r with
  | SYS_CPC => exact cpcWord_keepsCores s i
  | FLS_SECT =>
    dsimp only
    split
    · rfl
    · exact List.foldlRecOn (motive := s.readKeepsCores) _ _ rfl fun p h k _ => (sectShown_core ..).trans h
  | FLS_ECNT =>
    dsimp only
    split
    · rfl
    · exact sectShown_core s i
  | _ => rfl

theorem coreAddrRead_keepsCores (s : State) (c : Fin 6) (a : Nat) : s.readKeepsCores (s.coreAddrRead c a) := by
  unfold State.coreAddrRead
  split
  · split
    · unfold State.regRead
      split
      · rfl
      · exact regShown_keepsCores ..
    · exact raise_core ..
  · rfl

theorem packetRead_keepsCores (s : State) (c : Fin 6) (win : Bool) (a n : Nat) :
    s.readKeepsCores (s.packetRead c win a n) := by
  unfold State.packetRead
  split
  · split
    · split
      · exact denied_core ..
      split
      · rfl
      · exact fresh_keepsCores ..
    split
    · split
      · rfl
      · exact denied_core ..
    · split
      · exact readKnown_keepsCores ..
      · exact denied_core ..
  split
  · split
    · exact denied_core ..
    · exact flashRead_keepsCores ..
  split
  · exact fresh_keepsCores ..
  split
  · exact coreAddrRead_keepsCores ..
  · exact unmapped_core ..

theorem busRead_keepsCores (c : Fin 6) (win : Bool) (fuel : Nat) (s : State) (a n : Nat) :
    s.readKeepsCores (s.busRead c win fuel a n) := by
  induction fuel generalizing s a n with
  | zero => rfl
  | succ fuel ih =>
    unfold State.busRead
    split
    · rfl
    · exact (ih ..).trans (packetRead_keepsCores ..)

theorem winRead_keepsCores (s : State) (c : Fin 6) (a : Half) (n : Nat) : s.readKeepsCores (s.winRead c a n) := by
  unfold State.winRead
  dsimp only
  split
  · exact busRead_keepsCores ..
  · exact (busRead_keepsCores ..).trans (busRead_keepsCores ..)

end Sys2Proof.Machine
end

section
/-! SUPPORT. The core after an instruction: a window load, and the instruction that follows one (R301, R327). Then O14. -/
namespace Sys2Proof.Machine
open Sys2Proof

/-! ## A window load -/

@[simp] theorem settle_load (k : CoreSt) (l : List (Fin 16 × Byte)) : (k.settle l).load = k.load := rfl

theorem fetched_core (s : State) (c : Fin 6) (n : Nat) :
    (s.fetched c n).core[c] = { s.core[c] with load := [], wrote := [], pc := (s.core[c]).pc + BitVec.ofNat 16 (2 * n) } := by
  simp only [State.fetched, setCore_same]
  rfl

theorem instr_core {s : State} {c : Fin 6} {n : Nat} {f : State → State} (h : s.executes c n) :
    (s.instr c n f).core[c] = ((f (s.fetched c n)).core[c]).settle (s.core[c]).load := by
  rw [instr_next h, State.retired, setCore_same]

/-- A byte that is loaded goes behind the loads on their way. -/
theorem loadW_core (s : State) (c : Fin 6) (r : Fin 16) (v : Nat) :
    (s.loadW c r v).core[c] = { s.core[c] with load := (s.core[c]).load ++ [(r, BitVec.ofNat 8 v)] } := setCore_same ..

/-- A window load at Xn writes no register itself: when it ends its byte is on its way, and the loads before it have arrived. -/
theorem winLoad_at_core {s : State} {c : Fin 6} (r : Fin 16) (x : Fin 8) (h : s.executes c 1) :
    ∃ b : Byte, (s.winLoad c .at_ x 1 fun t v => t.loadW c r v).core[c] =
      ({ (s.fetched c 1).core[c] with load := [(r, b)] } : CoreSt).settle (s.core[c]).load := by
  have read (a : Half) (n : Nat) : ((((s.fetched c 1).setCore c fun k => (k.winOp .at_ x 1).2).winRead c a n).2).core[c] =
      (s.fetched c 1).core[c] := by
    rw [winRead_keepsCores, setCore_same]
    rfl
  rw [State.winLoad, show winWords .at_ = 1 from rfl, instr_core h]
  dsimp only
  rw [loadW_core, read, fetched_core]
  exact ⟨_, rfl⟩

/-! ## The instruction after a load (R301, R327) -/

/-- NOP writes no register, so that the load before it arrives, and none is on its way after it. -/
theorem exec_nop_delivers {s : State} {c : Fin 6} {r : Fin 16} {b : Byte} (h : s.executes c 1)
    (onWay : (s.core[c]).load = [(r, b)]) :
    ∃ u, exec (.nop c) s = .next u ∧ (u.core[c]).getW r = b ∧ (u.core[c]).load = [] := by
  have core : (s.instr c 1 id).core[c] = _ := instr_core h
  rw [id, fetched_core, onWay] at core
  refine ⟨_, rfl, ?_, ?_⟩
  · rw [core, settle_getW]
    simp
  · rw [core, settle_load]

/-- MOVI writes its register, and no load before it does so after it. -/
theorem exec_movi_getW {s : State} {c : Fin 6} (r : Fin 16) (v : Byte) (h : s.executes c 1) :
    ∃ u, exec (.movi c r v) s = .next u ∧ (u.core[c]).getW r = v := by
  refine ⟨_, rfl, ?_⟩
  rw [regInstr_core h, settle_getW, if_pos (by simp [CoreSt.setW]), getW_setW, if_pos rfl]

/-- Settles O14: LD ends with its byte on its way and the registers as they were (`winLoad_at_core`); NOP then lets the byte
arrive, and MOVI to the register keeps its own value. -/
theorem loadDelay : Obligations.LoadDelay := by
  intro s c r x hs noLoad
  obtain ⟨b, core⟩ := winLoad_at_core r x hs
  rw [noLoad, fetched_core] at core
  have onWay := congrArg CoreSt.load core
  have unchanged (e : Fin 16) := congrArg (CoreSt.getW · e) core
  exact ⟨_, b, rfl, onWay, unchanged, fun ht => ⟨exec_nop_delivers ht onWay, fun v => exec_movi_getW r v ht⟩⟩

end Sys2Proof.Machine
end

section
/-! SUPPORT. An instruction that touches only its core's registers: the state and the core after it (R299, R301, R327).
Then O15. -/
namespace Sys2Proof.Machine
open Sys2Proof

/-! ## The core at the instruction's effect, and after the loads before have arrived -/

/-- The core in which an instruction of `n` words has its effect: PC is past it, and it has written nothing yet. -/
def CoreSt.fetched (k : CoreSt) (n : Nat) : CoreSt :=
  { k with load := [], wrote := [], pc := k.pc + BitVec.ofNat 16 (2 * n) }

/-- The core after an instruction of its own registers with effect `f`, through `CoreSt.fetched`. -/
theorem regInstr_core_fetched {s : State} {c : Fin 6} {n : Nat} (f : CoreSt → CoreSt) (h : s.executes c n) :
    (s.regInstr c n f).core[c] = (f ((s.core[c]).fetched n)).settle (s.core[c]).load := regInstr_core h

/-! ## What such an instruction changes -/

/-- The core `u` differs from `k` in registers alone: the 8-bit ones with the note of those written, and the special ones. -/
def CoreSt.registersChange (k u : CoreSt) : Prop :=
  ({ u with w := k.w, wrote := k.wrote, sp := k.sp, pc := k.pc, fl := k.fl, am := k.am, cnt := k.cnt, src := k.src, dst := k.dst,
            modb := k.modb, modl := k.modl, bank := k.bank } : CoreSt) = k

@[simp] theorem registersChange_refl (k : CoreSt) : k.registersChange k := rfl

@[simp] theorem registersChange_setW_iff (k u : CoreSt) (d : Fin 16) (b : Byte) :
    k.registersChange (u.setW d b) ↔ k.registersChange u := Iff.rfl

@[simp] theorem registersChange_setFb_iff (k u : CoreSt) (n : Nat) (b : Bool) :
    k.registersChange (u.setFb n b) ↔ k.registersChange u := Iff.rfl

@[simp] theorem registersChange_setX_iff (k u : CoreSt) (d : Fin 8) (v : Half) :
    k.registersChange (u.setX d v) ↔ k.registersChange u := Iff.rfl

@[simp] theorem registersChange_setZN_iff (k u : CoreSt) (n v : Nat) :
    k.registersChange (u.setZN n v) ↔ k.registersChange u := by
  simp [CoreSt.setZN]

theorem addW_registersChange (k : CoreSt) (d : Fin 16) (b cin : Nat) : k.registersChange (k.addW d b cin) := by
  simp [CoreSt.addW, CoreSt.addFlags, CoreSt.putW]

theorem subW_registersChange (k : CoreSt) (d : Fin 16) (b bin : Nat) (keep : Bool) :
    k.registersChange (k.subW d b bin keep) := by
  cases keep <;> simp [CoreSt.subW, CoreSt.subFlags, CoreSt.putW]

theorem logicW_registersChange (k : CoreSt) (d : Fin 16) (b : Byte) (op : Byte → Byte → Byte) (keep : Bool) :
    k.registersChange (k.logicW d b op keep) := by
  cases keep <;> simp [CoreSt.logicW, CoreSt.logicFlags]

theorem addXv_registersChange (k : CoreSt) (d : Fin 8) (b : Nat) : k.registersChange (k.addXv d b) := by
  simp [CoreSt.addXv, CoreSt.addFlags, CoreSt.putX]

theorem subXv_registersChange (k : CoreSt) (d : Fin 8) (b : Nat) (keep : Bool) :
    k.registersChange (k.subXv d b keep) := by
  cases keep <;> simp [CoreSt.subXv, CoreSt.subFlags, CoreSt.putX]

/-- The loads on their way, the series, the bits of its task, the vectors and the wait are no registers. -/
theorem registersChange_keeps {k u : CoreSt} (h : k.registersChange u) :
    u.load = k.load ∧ u.ser = k.ser ∧ u.bits = k.bits ∧ u.vec = k.vec ∧ u.wait = k.wait := by
  rw [← h]
  exact ⟨rfl, rfl, rfl, rfl, rfl⟩

/-- R334: a special register is one of the core's registers, whichever it is. -/
theorem setSpecial_registersChange (k : CoreSt) (r : Nat) (v : Half) : k.registersChange (k.setSpecial r v) := by
  unfold CoreSt.setSpecial
  split <;> rfl

/-- R336: a branch that is not taken changes no register at all. -/
theorem condBranch_registersChange (k : CoreSt) (cc : Nat) (off : Int) :
    k.registersChange (if k.cond cc then k.branch off else k) := by
  split <;> rfl

theorem setCore_id (s : State) (c : Fin 6) : s.setCore c id = s := by
  have same : s.core.set c s.core[c] = s.core := Vector.set_getElem_self _
  rw [State.setCore, id, same]

/-- Tables 12.2 to 12.4, 12.7 and 12.9: an instruction of `regOnly` is a `regInstr` whose effect changes registers alone. -/
theorem exec_regOnly {i : Instr} {c : Fin 6} {n : Nat} (h : regOnly i = some (c, n)) :
    ∃ f : CoreSt → CoreSt, (∀ s, exec i s = .next (s.regInstr c n f)) ∧ ∀ k : CoreSt, k.registersChange (f k) := by
  cases i
  case nop =>
    cases h
    refine ⟨id, fun s => ?_, registersChange_refl⟩
    have nothing : (fun s : State => s.setCore c id) = id := funext (setCore_id · c)
    rw [State.regInstr, nothing]
    rfl
  case wrs => cases h; exact ⟨_, fun _ => rfl, fun k => setSpecial_registersChange k ..⟩
  case bcc => cases h; exact ⟨_, fun _ => rfl, fun k => condBranch_registersChange k ..⟩
  case ei | di | bfset | bfclr | bfnot | bfc | cbf | bldw | bstw | jmp | setam | mov | movi | movx | bra | movxi | jmpImm =>
    cases h; exact ⟨_, fun _ => rfl, fun _ => rfl⟩
  case add | adc | addi => cases h; exact ⟨_, fun _ => rfl, fun k => addW_registersChange k ..⟩
  case sub | sbc | cmp | cmpi => cases h; exact ⟨_, fun _ => rfl, fun k => subW_registersChange k ..⟩
  case and | or | xor | tst | not | andi | ori | xori | tsti =>
    cases h; exact ⟨_, fun _ => rfl, fun k => logicW_registersChange k ..⟩
  case addx | addxi => cases h; exact ⟨_, fun _ => rfl, fun k => addXv_registersChange k ..⟩
  case subx | cmpx | cmpxi => cases h; exact ⟨_, fun _ => rfl, fun k => subXv_registersChange k ..⟩
  case neg => cases h; exact ⟨_, fun _ => rfl, fun k => by simp [CoreSt.subFlags, CoreSt.putW]⟩
  case shl | shr | asr | roc =>
    cases h; exact ⟨_, fun _ => rfl, fun k => by simp [CoreSt.shiftFlags, CoreSt.logicFlags, CoreSt.putW]⟩
  case incx | decx | mulu => cases h; exact ⟨_, fun _ => rfl, fun k => by simp [CoreSt.putX]⟩
  all_goals exact nomatch h

/-! ## What such an instruction leaves -/

theorem regInstr_frame {s : State} {c : Fin 6} {n : Nat} (f : CoreSt → CoreSt) (h : s.executes c n) :
    ({ s.regInstr c n f with regs := s.regs, core := s.core } : State) = s := by
  rw [regInstr_next h]
  rfl

theorem regInstr_regs {s : State} {c : Fin 6} {n : Nat} (f : CoreSt → CoreSt) (h : s.executes c n) :
    (s.regInstr c n f).regs = (s.setFld .SYS_CSTAT_STATE c 0 1).regs := by
  rw [regInstr_next h]
  rfl

theorem regInstr_core_other {s : State} {c d : Fin 6} {n : Nat} (f : CoreSt → CoreSt) (h : s.executes c n) (hd : d ≠ c) :
    (s.regInstr c n f).core[d] = s.core[d] := by
  rw [regInstr_next h, State.retired, setCore_other _ _ _ _ hd.symm, setCore_other _ _ _ _ hd.symm, State.fetched,
    setCore_other _ _ _ _ hd.symm]
  rfl

/-- A core that executes waits for nothing in the middle of an instruction. -/
theorem executes_wait {s : State} {c : Fin 6} {n : Nat} (h : s.executes c n) : (s.core[c]).wait = .none := by
  obtain ⟨ready, -, -⟩ := h
  simp only [State.coreReady, Bool.and_eq_true, beq_iff_eq] at ready
  exact ready.2

/-- Settles O15: the instruction is a `regInstr` whose effect changes registers alone (`exec_regOnly`), and no other part of the
core after it is touched when earlier loads arrive. -/
theorem coreRegisterFrame : Obligations.CoreRegisterFrame := by
  intro s i c n hi hs
  obtain ⟨f, run, change⟩ := exec_regOnly hi
  obtain ⟨load, ser, bits, vec, wait⟩ := registersChange_keeps (change ((s.core[c]).fetched n))
  refine ⟨_, run s, regInstr_frame f hs, fun d hd => regInstr_core_other f hs hd, regInstr_regs f hs, ?_⟩
  rw [regInstr_core_fetched f hs]
  exact ⟨load, ser, bits, vec, wait.trans (executes_wait hs)⟩

end Sys2Proof.Machine
end

section
/-! SUPPORT. The registers and the flags after an instruction, and the conditions of branches (R332, R336). Then O13. -/
namespace Sys2Proof.Machine
open Sys2Proof

/-! ## Registers as the loads before leave them -/

/-- A register that the instruction has not written is as the loads on their way leave it (R301). -/
theorem settle_getW_of_not_wrote {k u : CoreSt} {e : Fin 16} (hw : e ∉ u.wrote) (same : u.getW e = k.getW e) :
    (u.settle k.load).getW e = k.loaded e := by
  rw [settle_getW, if_neg (by simpa using hw), same]
  rfl

/-- A register that the instruction has written keeps what it wrote (R301). -/
theorem settle_getW_of_wrote {u : CoreSt} {e : Fin 16} (l : List (Fin 16 × Byte)) (hw : e ∈ u.wrote) :
    (u.settle l).getW e = u.getW e := by
  rw [settle_getW, if_pos (by simpa using hw)]

/-! ## Branches (R336, Table 12.7) -/

theorem cond_eq_true_iff (k : CoreSt) (cc : Fin 16) :
    k.cond cc = true ↔ condHolds cc (k.fb flC) (k.fb flZ) (k.fb flN) (k.fb flV) (k.fb flBF) := by
  fin_cases cc <;> simp [CoreSt.cond, condHolds]

/-- A branch at the instruction's effect goes to its offset from the next instruction; flags and registers stand. -/
theorem branch_settled (k : CoreSt) (off : Int) :
    let u := ((k.fetched 1).branch off).settle k.load
    u.pc = k.pc + 2 + BitVec.ofInt 16 (2 * off) ∧ u.fl = k.fl ∧ ∀ e, u.getW e = k.loaded e :=
  ⟨rfl, rfl, fun _ => settle_getW_of_not_wrote List.not_mem_nil rfl⟩

/-- Without a branch the next instruction follows; flags and registers stand. -/
theorem fetched_settled (k : CoreSt) :
    let u := (k.fetched 1).settle k.load
    u.pc = k.pc + 2 ∧ u.fl = k.fl ∧ ∀ e, u.getW e = k.loaded e :=
  ⟨rfl, rfl, fun _ => settle_getW_of_not_wrote List.not_mem_nil rfl⟩

/-- Settles O13: BRA is `branch_settled`, and Bcc that or `fetched_settled`, as its condition holds or not. -/
theorem branchConditions : Obligations.BranchConditions := by
  intro s c cc v u hs k holds
  have bra : (s.regInstr c 1 fun k => k.branch u.toInt).core[c] = _ := regInstr_core_fetched _ hs
  have bcc : (s.regInstr c 1 fun k => if k.cond cc then k.branch v.toInt else k).core[c] = _ := regInstr_core_fetched _ hs
  have cond : (k.fetched 1).cond cc = true ↔ holds := cond_eq_true_iff k cc
  obtain ⟨braPc, braFl, braW⟩ := branch_settled k u.toInt
  refine ⟨_, _, rfl, rfl, ?_⟩
  rw [bra, bcc]
  by_cases hc : holds
  · obtain ⟨pc, fl, w⟩ := branch_settled k v.toInt
    rw [if_pos (cond.mpr hc)]
    exact ⟨fun _ => pc, fun no => absurd hc no, braPc, fl, braFl, fun e => ⟨w e, braW e⟩⟩
  · obtain ⟨pc, fl, w⟩ := fetched_settled k
    rw [if_neg (mt cond.mp hc)]
    exact ⟨fun yes => absurd yes hc, fun _ => pc, braPc, fl, braFl, fun e => ⟨w e, braW e⟩⟩

end Sys2Proof.Machine
end

section
/-! SUPPORT. The 8-bit sums and differences as operations on bytes, with their flags (R332, Table 12.3). Then O12. -/
namespace Sys2Proof.Machine
open Sys2Proof

/-! ## One flag -/

theorem getLsbD_bytePut (v : Byte) {n m : Nat} (b : Bool) (hm : m < 8) :
    (bytePut v n b).getLsbD m = if m = n then b else v.getLsbD m := by
  have power : (BitVec.ofNat 8 (2 ^ n)).getLsbD m = decide (m = n) := by
    rw [BitVec.getLsbD_ofNat, Nat.testBit_two_pow, decide_eq_true hm, Bool.true_and, decide_eq_decide, eq_comm]
  cases b with
  | true =>
    simp only [bytePut, if_true, BitVec.getLsbD_or, power]
    split <;> simp [*]
  | false =>
    simp only [bytePut, Bool.false_eq_true, if_false, BitVec.getLsbD_and, BitVec.getLsbD_not, power, hm]
    split <;> simp [*]

theorem fb_setFb (k : CoreSt) (n : Nat) {m : Nat} (b : Bool) (hm : m < 8) :
    (k.setFb n b).fb m = if m = n then b else k.fb m := getLsbD_bytePut k.fl b hm

/-! ## The four arithmetic flags -/

/-- The core with the flags of a result `r`: Z and N of it, C and V as given. -/
def CoreSt.resultFlags (k : CoreSt) (r : Byte) (cf vf : Bool) : CoreSt := ((k.setZN 8 r.toNat).setFb flC cf).setFb flV vf

/-- Z and N as `setZN` computes them from the number are those of the byte. -/
theorem setZN_toNat (k : CoreSt) (r : Byte) : k.setZN 8 r.toNat = (k.setFb flZ (r == 0)).setFb flN r.msb := by
  have zero : (r.toNat % 2 ^ 8 == 0) = (r == 0) := by
    rw [Nat.mod_eq_of_lt r.isLt, Bool.eq_iff_iff, beq_iff_eq, beq_iff_eq, BitVec.toNat_eq]
    rfl
  have sign : (r.toNat / 2 ^ (8 - 1) % 2 == 1) = r.msb := by
    have := r.isLt
    rw [BitVec.msb_eq_decide, Bool.eq_iff_iff, beq_iff_eq, decide_eq_true_iff]
    omega
  rw [CoreSt.setZN, zero, sign]

theorem resultFlags_flagsAre (k : CoreSt) (r : Byte) (cf vf : Bool) : flagsAre k (k.resultFlags r cf vf) r cf vf := by
  rw [CoreSt.resultFlags, setZN_toNat]
  simp [flagsAre, fb_setFb, flC, flZ, flN, flV, flBF, flIE]

/-! ## Sums and differences -/

/-- Overflow by the signs of operands and result is a sum outside the signed bytes. -/
theorem addOvf_eq_ovf8 (a b : Byte) {cin : Nat} (h : cin ≤ 1) :
    addOvf 8 a.toNat b.toNat ((a.toNat + b.toNat + cin) % 2 ^ 8) = ovf8 (a.toInt + b.toInt + cin) := by
  have ha := a.isLt
  have hb := b.isLt
  rw [BitVec.toInt_eq_toNat_cond, BitVec.toInt_eq_toNat_cond, Bool.eq_iff_iff]
  simp only [addOvf, ovf8, Bool.and_eq_true, bne_iff_ne, ne_eq, decide_eq_true_iff, beq_eq_decide, decide_eq_decide]
  split <;> split <;> omega

/-- The same for a difference. -/
theorem subOvf_eq_ovf8 (a b : Byte) {bin : Nat} (h : bin ≤ 1) :
    subOvf 8 a.toNat b.toNat ((a.toNat + 2 ^ (8 + 1) - b.toNat - bin) % 2 ^ 8) = ovf8 (a.toInt - b.toInt - bin) := by
  have ha := a.isLt
  have hb := b.isLt
  rw [BitVec.toInt_eq_toNat_cond, BitVec.toInt_eq_toNat_cond, Bool.eq_iff_iff]
  simp only [subOvf, ovf8, Bool.and_eq_true, bne_iff_ne, ne_eq, decide_eq_true_iff, beq_eq_decide, decide_eq_decide]
  split <;> split <;> omega

theorem addFlags_bytes (k : CoreSt) (a b : Byte) {cin : Nat} (h : cin ≤ 1) :
    k.addFlags 8 a.toNat b.toNat cin =
      ((a + b + BitVec.ofNat 8 cin).toNat, k.resultFlags (a + b + BitVec.ofNat 8 cin)
        (decide (256 ≤ a.toNat + b.toNat + cin)) (ovf8 (a.toInt + b.toInt + cin))) := by
  have sum : (a + b + BitVec.ofNat 8 cin).toNat = (a.toNat + b.toNat + cin) % 2 ^ 8 := by simp
  rw [CoreSt.resultFlags, sum, ← addOvf_eq_ovf8 a b h]
  rfl

theorem subFlags_bytes (k : CoreSt) (a b : Byte) {bin : Nat} (h : bin ≤ 1) :
    k.subFlags 8 a.toNat b.toNat bin =
      ((a - b - BitVec.ofNat 8 bin).toNat, k.resultFlags (a - b - BitVec.ofNat 8 bin)
        (decide (a.toNat < b.toNat + bin)) (ovf8 (a.toInt - b.toInt - bin))) := by
  have difference : (a - b - BitVec.ofNat 8 bin).toNat = (a.toNat + 2 ^ (8 + 1) - b.toNat - bin) % 2 ^ 8 := by
    have := b.isLt
    simp only [BitVec.toNat_sub, BitVec.toNat_ofNat]
    omega
  rw [CoreSt.resultFlags, difference, ← subOvf_eq_ovf8 a b h]
  rfl

/-- The core with the flags of a result `r`, which goes to Wd where it is kept. -/
def CoreSt.withResult (k : CoreSt) (d : Fin 16) (keep : Bool) (r : Byte) (cf vf : Bool) : CoreSt :=
  if keep then (k.resultFlags r cf vf).setW d r else k.resultFlags r cf vf

theorem putW_toNat (k : CoreSt) (d : Fin 16) (r : Byte) : k.putW d r.toNat = k.setW d r := by
  rw [CoreSt.putW, BitVec.ofNat_toNat, BitVec.setWidth_eq]

theorem addW_eq_withResult (k : CoreSt) (d : Fin 16) (b : Byte) {cin : Nat} (h : cin ≤ 1) :
    k.addW d b.toNat cin = k.withResult d true (k.getW d + b + BitVec.ofNat 8 cin)
      (decide (256 ≤ (k.getW d).toNat + b.toNat + cin)) (ovf8 ((k.getW d).toInt + b.toInt + cin)) := by
  rw [CoreSt.addW, addFlags_bytes k _ b h]
  exact putW_toNat ..

theorem subW_eq_withResult (k : CoreSt) (d : Fin 16) (b : Byte) {bin : Nat} (h : bin ≤ 1) (keep : Bool) :
    k.subW d b.toNat bin keep = k.withResult d keep (k.getW d - b - BitVec.ofNat 8 bin)
      (decide ((k.getW d).toNat < b.toNat + bin)) (ovf8 ((k.getW d).toInt - b.toInt - bin)) := by
  rw [CoreSt.subW, subFlags_bytes k _ b h]
  dsimp only
  rw [putW_toNat]
  rfl

/-- Without a carry the sum is that of the two bytes alone. -/
theorem addW_zero_eq_withResult (k : CoreSt) (d : Fin 16) (b : Byte) :
    k.addW d b.toNat 0 = k.withResult d true (k.getW d + b) (decide (256 ≤ (k.getW d).toNat + b.toNat))
      (ovf8 ((k.getW d).toInt + b.toInt)) := by
  simpa using addW_eq_withResult k d b (Nat.zero_le 1)

/-- Without a borrow the difference is that of the two bytes alone. -/
theorem subW_zero_eq_withResult (k : CoreSt) (d : Fin 16) (b : Byte) (keep : Bool) :
    k.subW d b.toNat 0 keep = k.withResult d keep (k.getW d - b) (decide ((k.getW d).toNat < b.toNat))
      (ovf8 ((k.getW d).toInt - b.toInt)) := by
  simpa using subW_eq_withResult k d b (Nat.zero_le 1) keep

/-- NEG is the difference of 0 and Wd, kept in Wd. -/
theorem subFlags_from_zero_eq_withResult (k : CoreSt) (d : Fin 16) :
    (k.subFlags 8 0 (k.getW d).toNat 0).2.putW d (k.subFlags 8 0 (k.getW d).toNat 0).1 =
      k.withResult d true (-k.getW d) (decide (0 < (k.getW d).toNat)) (ovf8 (-(k.getW d).toInt)) := by
  have difference := subFlags_bytes k 0#8 (k.getW d) (Nat.zero_le 1)
  simp only [BitVec.toNat_zero, BitVec.toInt_zero, BitVec.zero_sub, BitVec.sub_zero, Nat.add_zero, Nat.cast_zero,
    zero_sub, sub_zero] at difference
  rw [difference, putW_toNat]
  rfl

theorem carry_le_one (k : CoreSt) : k.carry ≤ 1 := by
  unfold CoreSt.carry b2n
  split <;> omega

/-! ## The instruction -/

/-- What the obligation asks of an instruction on core `c` with result `r` and flags `cf` and `vf`: `r` goes to Wd where it is
kept, and the registers not written are as loads leave them. -/
def completesWith (s : State) (c : Fin 6) (d : Fin 16) (i : Instr) (keep : Bool) (r : Byte) (cf vf : Bool) : Prop :=
  ∃ t, exec i s = .next t ∧ flagsAre s.core[c] t.core[c] r cf vf ∧ (keep = true → (t.core[c]).getW d = r) ∧
    (∀ e : Fin 16, keep = false ∨ e ≠ d → (t.core[c]).getW e = (s.core[c]).loaded e) ∧
    (t.core[c]).pc = (s.core[c]).pc + 2

/-- An instruction of one word whose effect on the core is a result with its flags completes so. -/
theorem completesWith_of_withResult {s : State} {c : Fin 6} {d : Fin 16} {i : Instr} {f : CoreSt → CoreSt} {keep : Bool}
    {r : Byte} {cf vf : Bool} (hs : s.executes c 1) (run : exec i s = .next (s.regInstr c 1 f))
    (effect : f ((s.core[c]).fetched 1) = ((s.core[c]).fetched 1).withResult d keep r cf vf) :
    completesWith s c d i keep r cf vf := by
  refine ⟨_, run, ?_⟩
  rw [regInstr_core_fetched f hs, effect]
  have flags := resultFlags_flagsAre ((s.core[c]).fetched 1) r cf vf
  cases keep with
  | true =>
    refine ⟨flags, fun _ => ?written, fun e he => ?others, rfl⟩
    case written => rw [settle_getW_of_wrote _ List.mem_cons_self, CoreSt.withResult, if_pos rfl, getW_setW, if_pos rfl]
    case others =>
      have ne : e ≠ d := he.resolve_left Bool.noConfusion
      refine settle_getW_of_not_wrote (List.not_mem_cons_of_ne_of_not_mem ne List.not_mem_nil) ?_
      rw [CoreSt.withResult, if_pos rfl, getW_setW, if_neg ne]
      rfl
  | false =>
    exact ⟨flags, nofun, fun e _ => settle_getW_of_not_wrote List.not_mem_nil rfl, rfl⟩

/-- Settles O12: each instruction is an `addW`, a `subW` or the difference from 0 in a `regInstr`, so that its effect is a result
with its flags; the forms without C have carry or borrow 0. -/
theorem byteArithmetic : Obligations.ByteArithmetic := by
  intro s c d q v hs k a b ci gives
  have carry := carry_le_one (k.fetched 1)
  refine ⟨?add, ?adc, ?sub, ?sbc, ?cmp, ?neg, ?addi, ?cmpi⟩
  case add => exact completesWith_of_withResult hs rfl (addW_zero_eq_withResult _ d b)
  case adc => exact completesWith_of_withResult hs rfl (addW_eq_withResult _ d b carry)
  case sub => exact completesWith_of_withResult hs rfl (subW_zero_eq_withResult _ d b true)
  case sbc => exact completesWith_of_withResult hs rfl (subW_eq_withResult _ d b carry true)
  case cmp => exact completesWith_of_withResult hs rfl (subW_zero_eq_withResult _ d b false)
  case neg => exact completesWith_of_withResult hs rfl (subFlags_from_zero_eq_withResult _ d)
  case addi => exact completesWith_of_withResult hs rfl (addW_zero_eq_withResult _ d v)
  case cmpi => exact completesWith_of_withResult hs rfl (subW_zero_eq_withResult _ d v false)

end Sys2Proof.Machine
end

section
/-! SUPPORT. Little-endian numbers in a byte string, the widths of the two CRCs, and the fields of a frame's header
(Table 18.1): each is read back where it was laid out. Then O22. -/
namespace Sys2Proof.Machine
open Sys2Proof

/-! ## Little-endian numbers (R6) -/

@[simp] theorem length_leBytes (n v : Nat) : (leBytes n v).length = n := by
  induction n generalizing v with
  | zero => rfl
  | succ n ih => rw [leBytes, List.length_cons, ih]

theorem leNat_leBytes (n v : Nat) : leNat (leBytes n v) = v % 256 ^ n := by
  induction n generalizing v with
  | zero => exact (Nat.mod_one v).symm
  | succ n ih => rw [leBytes, leNat, ih, pow_succ', Nat.mod_mul, BitVec.toNat_ofNat]

/-- A byte is the number of one byte. -/
theorem byteAt_eq_leAt (l : List Byte) (i : Nat) : byteAt l i = leAt l i 1 := by
  induction l generalizing i with
  | nil => simp [byteAt, leAt, leNat]
  | cons b l ih =>
    cases i with
    | zero => simp [byteAt, leAt, leNat]
    | succ i => exact ih i

/-- A number at the front of a string is read back. -/
theorem leAt_leBytes_zero (l : List Byte) {n v : Nat} (h : v < 256 ^ n) : leAt (leBytes n v ++ l) 0 n = v := by
  rw [leAt, List.drop_zero, List.take_left' (length_leBytes n v), leNat_leBytes, Nat.mod_eq_of_lt h]

/-- What lies past a string's first part is read from the rest. -/
theorem leAt_append_right (a l : List Byte) {i : Nat} (m : Nat) (h : a.length ≤ i) :
    leAt (a ++ l) i m = leAt l (i - a.length) m := by
  rw [leAt, List.drop_append, List.drop_eq_nil_of_le h, List.nil_append, leAt]

/-- What lies past the number at the front is read from the rest. -/
theorem leAt_leBytes_of_le (l : List Byte) {n i : Nat} (v m : Nat) (h : n ≤ i) :
    leAt (leBytes n v ++ l) i m = leAt l (i - n) m := by
  rw [leAt_append_right _ _ _ (by rwa [length_leBytes]), length_leBytes]

/-- A number inside a string is read back at the length of what stands before it. -/
theorem leAt_append_leBytes {a : List Byte} (l : List Byte) {i n v : Nat} (len : a.length = i) (h : v < 256 ^ n) :
    leAt (a ++ (leBytes n v ++ l)) i n = v := by
  rw [leAt_append_right _ _ _ len.le, len, Nat.sub_self, leAt_leBytes_zero l h]

/-! ## The widths of the CRCs -/

/-- A bound that each byte keeps holds of the fold over a string. -/
theorem foldl_bytes_lt {f : Nat → Byte → Nat} {m : Nat} (keep : ∀ c b, c < m → f c b < m) (l : List Byte) {c : Nat}
    (h : c < m) : l.foldl f c < m :=
  List.foldlRecOn (motive := (· < m)) l f h fun c hc b _ => keep c b hc

theorem crc16Step_lt (k : Nat) {c : Nat} (h : c < 2 ^ 16) : crc16Step k c < 2 ^ 16 := by
  induction k generalizing c with
  | zero => exact h
  | succ k ih =>
    refine ih ?_
    split
    · exact Nat.xor_lt_two_pow (Nat.mod_lt _ (by decide)) (by decide)
    · omega

theorem crc16_lt (l : List Byte) : crc16 l < 2 ^ 16 := by
  refine foldl_bytes_lt (fun c b hc => crc16Step_lt 8 (Nat.xor_lt_two_pow hc ?_)) l (by decide)
  have := b.isLt
  omega

theorem crcBits_lt (k : Nat) {c : Nat} (h : c < 2 ^ 32) : crcBits k c < 2 ^ 32 := by
  induction k generalizing c with
  | zero => exact h
  | succ k ih =>
    have half : c / 2 < 2 ^ 32 := by omega
    refine ih ?_
    split
    · exact Nat.xor_lt_two_pow half (by decide)
    · exact half

theorem crc32_lt (l : List Byte) : crc32 l < 2 ^ 32 := by
  refine Nat.xor_lt_two_pow (foldl_bytes_lt (fun c b hc => crcBits_lt 8 (Nat.xor_lt_two_pow hc ?_)) l (by decide)) (by decide)
  omega

/-! ## The header (Table 18.1) -/

theorem b2n_lt_two (b : Bool) : b2n b < 2 := by cases b <;> decide

theorem b2n_beq_one (b : Bool) : (b2n b == 1) = b := by cases b <;> rfl

/-- HOPS, MC and Q, as the FLAGS byte holds them. -/
def LinkFrame.flagsByte (f : LinkFrame) : Nat := f.hops % 8 + 8 * b2n f.mc + 16 * b2n f.q

theorem LinkFrame.flagsByte_lt (f : LinkFrame) : f.flagsByte < 32 := by
  have mc := b2n_lt_two f.mc
  have q := b2n_lt_two f.q
  unfold flagsByte
  omega

theorem LinkFrame.flagsByte_hops {f : LinkFrame} (h : f.hops < 8) : f.flagsByte % 8 = f.hops := by
  unfold flagsByte
  omega

theorem LinkFrame.flagsByte_mc (f : LinkFrame) : (f.flagsByte / 8 % 2 == 1) = f.mc := by
  have mc := b2n_lt_two f.mc
  have bit : f.flagsByte / 8 % 2 = b2n f.mc := by unfold flagsByte; omega
  rw [bit, b2n_beq_one]

theorem LinkFrame.flagsByte_q (f : LinkFrame) : (f.flagsByte / 16 % 2 == 1) = f.q := by
  have mc := b2n_lt_two f.mc
  have q := b2n_lt_two f.q
  have bit : f.flagsByte / 16 % 2 = b2n f.q := by unfold flagsByte; omega
  rw [bit, b2n_beq_one]

theorem LinkFrame.length_head (f : LinkFrame) (lseq : Nat) : (f.head lseq).length = 14 := by
  simp [head]

/-- The header's fields, each where Table 18.1 has it, in a string that begins with the header: past the fields before it, each is
at the front, and it fits its width. -/
theorem LinkFrame.head_fields {f : LinkFrame} {lseq : Nat} (hf : f.fits) (hl : lseq < 65536) (rest : List Byte) :
    let l := f.head lseq ++ rest
    byteAt l 0 = f.dmask ∧ byteAt l 1 = f.src ∧ byteAt l 2 = f.typ ∧ byteAt l 3 = f.flagsByte ∧ leAt l 4 2 = lseq ∧
      leAt l 6 4 = f.wsn ∧ leAt l 10 2 = f.payload.length ∧ leAt l 12 2 = f.txn := by
  obtain ⟨hdmask, hsrc, htyp, -, hwsn, htxn, hlen⟩ := hf
  have hflags := f.flagsByte_lt
  have flags : f.hops % 8 + 8 * b2n f.mc + 16 * b2n f.q = f.flagsByte := rfl
  simp (disch := omega) [head, byteAt_eq_leAt, flags, Nat.mod_eq_of_lt hsrc, leAt_leBytes_zero, leAt_leBytes_of_le]

/-! ## The parser's checks -/

/-- Bytes that pass each check of R476 are the frame of their fields. -/
theorem parseFrame_of_checks {l : List Byte} {n : Nat} (len : leAt l 10 2 = n) (whole : l.length = 20 + n)
    (short : n ≤ 256) (hcrc : crc16 (l.take 14) = leAt l 14 2) (crc : crc32 (l.take (16 + n)) = leAt l (16 + n) 4)
    (src : byteAt l 1 < 8) (flags : byteAt l 3 < 32) :
    parseFrame l =
      some (⟨byteAt l 0, byteAt l 1, byteAt l 2, byteAt l 3 % 8, byteAt l 3 / 8 % 2 == 1, byteAt l 3 / 16 % 2 == 1,
        leAt l 6 4, leAt l 12 2, (l.take (16 + n)).drop 16⟩, leAt l 4 2) := by
  rw [parseFrame, len, if_neg (by omega), if_neg (by simpa using hcrc), if_neg (by simpa using crc), if_neg (by omega)]

/-! ## The frame -/

/-- The bytes of a frame that its CRC-32 covers: header, HCRC and payload (R476). -/
def LinkFrame.covered (f : LinkFrame) (lseq : Nat) : List Byte :=
  f.head lseq ++ leBytes 2 (crc16 (f.head lseq)) ++ f.payload

theorem LinkFrame.bytes_eq_covered_append (f : LinkFrame) (lseq : Nat) :
    f.bytes lseq = f.covered lseq ++ leBytes 4 (crc32 (f.covered lseq)) := rfl

theorem LinkFrame.bytes_eq_head_append (f : LinkFrame) (lseq : Nat) :
    f.bytes lseq = f.head lseq ++
      (leBytes 2 (crc16 (f.head lseq)) ++ (f.payload ++ leBytes 4 (crc32 (f.covered lseq)))) := by
  simp [bytes_eq_covered_append, covered]

theorem LinkFrame.length_covered (f : LinkFrame) (lseq : Nat) : (f.covered lseq).length = 16 + f.payload.length := by
  simp only [covered, List.length_append, length_head, length_leBytes]

theorem LinkFrame.length_bytes (f : LinkFrame) (lseq : Nat) : (f.bytes lseq).length = 20 + f.payload.length := by
  rw [bytes_eq_covered_append, List.length_append, length_covered, length_leBytes]
  omega

theorem LinkFrame.take_head_bytes (f : LinkFrame) (lseq : Nat) : (f.bytes lseq).take 14 = f.head lseq := by
  rw [bytes_eq_head_append, List.take_left' (f.length_head lseq)]

theorem LinkFrame.take_covered_bytes (f : LinkFrame) (lseq : Nat) :
    (f.bytes lseq).take (16 + f.payload.length) = f.covered lseq := by
  rw [bytes_eq_covered_append, List.take_left' (f.length_covered lseq)]

theorem LinkFrame.drop_covered (f : LinkFrame) (lseq : Nat) : (f.covered lseq).drop 16 = f.payload :=
  List.drop_left' (by simp [length_head])

theorem LinkFrame.leAt_bytes_hcrc (f : LinkFrame) (lseq : Nat) : leAt (f.bytes lseq) 14 2 = crc16 (f.head lseq) := by
  rw [bytes_eq_head_append, leAt_append_leBytes _ (f.length_head lseq) (crc16_lt _)]

theorem LinkFrame.leAt_bytes_crc (f : LinkFrame) (lseq : Nat) :
    leAt (f.bytes lseq) (16 + f.payload.length) 4 = crc32 (f.covered lseq) := by
  rw [bytes_eq_covered_append, ← List.append_nil (leBytes 4 _),
    leAt_append_leBytes _ (f.length_covered lseq) (crc32_lt _)]

/-- Settles O22: the frame's bytes pass each check (`parseFrame_of_checks`), and their fields are those of the frame. -/
theorem frameRoundTrip : Obligations.FrameRoundTrip := by
  intro f lseq hf hl
  have fields := f.bytes_eq_head_append lseq ▸ LinkFrame.head_fields hf hl _
  obtain ⟨dmask, src, typ, flags, seq, wsn, len, txn⟩ := fields
  obtain ⟨-, hsrc, -, hhops, -, -, hlen⟩ := hf
  have hcrc : crc16 ((f.bytes lseq).take 14) = leAt (f.bytes lseq) 14 2 := by
    rw [f.take_head_bytes, f.leAt_bytes_hcrc]
  have crc : crc32 ((f.bytes lseq).take (16 + f.payload.length)) = leAt (f.bytes lseq) (16 + f.payload.length) 4 := by
    rw [f.take_covered_bytes, f.leAt_bytes_crc]
  rw [parseFrame_of_checks len (f.length_bytes lseq) hlen hcrc crc (src ▸ hsrc) (flags ▸ f.flagsByte_lt), dmask, src, typ,
    flags, seq, wsn, txn, f.take_covered_bytes, f.drop_covered, LinkFrame.flagsByte_hops hhops, f.flagsByte_mc, f.flagsByte_q]

end Sys2Proof.Machine
end

section
/-! SUPPORT. Every arm of `exec` ends in a next state: O3. -/
namespace Sys2Proof.Machine
open Sys2Proof

/-- An extension's submission, whether its block converts or not. -/
theorem execXctlSubmit_next (c : Fin 6) (k : Fin 4) (s : State) : ∃ t, execXctlSubmit c k s = .next t := by
  unfold execXctlSubmit
  dsimp only
  repeat' first | exact ⟨_, rfl⟩ | split

/-- A comparison of the references, whichever of them it finds wrong. -/
theorem execRefCompare_next (diff chkA chkB : Int) (s : State) :
    ∃ t, execRefCompare diff chkA chkB s = .next t := by
  unfold execRefCompare
  dsimp only
  repeat' first | exact ⟨_, rfl⟩ | split

/-- The end of an excitation ramp, whether an item waits for it or not. -/
theorem execExcRampDone_next (g : Fin 4) (s : State) : ∃ t, execExcRampDone g s = .next t := by
  unfold execExcRampDone
  dsimp only
  repeat' first | exact ⟨_, rfl⟩ | split

/-- Settles O3, by the arms of `exec`: most answer one state outright. The others choose between states, so
that each branch of their definition is such an answer; the three above choose by a value that they name
first (the model's choice: log entry 7). -/
theorem everyCommandAnswersNext : Obligations.EveryCommandAnswersNext := by
  intro c s
  cases c
  all_goals try exact ⟨_, rfl⟩
  case xctlSubmit c k => exact execXctlSubmit_next c k s
  case refCompare diff chkA chkB => exact execRefCompare_next diff chkA chkB s
  case excRampDone g => exact execExcRampDone_next g s
  all_goals
    delta exec
    dsimp -zeta only
    delta execRegQuery execSeriesRestart execProgQuery execLimitQuery execXptQuery execAdcQuery execDacQuery
      execExcQuery execFioQuery execSkimQuery execTripCmp execLineTerminated execJournalCommitComplete
      execItemExecutionBegin execTypedBackspace execTypedLineKill execHistoryPrevious execHistoryNext
      execXoffReceived execXonReceived execBreakReceived execAsyncLineSend execSerSettingsApply
      execSerEnableClear execTapeCharacter execTapeBlockAccept execEventResend execBlockConvert execXctlEnd
      execXctlReject execExtTimeout execMfinLate execBrakingComplete execMotionEnableDelayEnd
      execApproachComplete execDwellEnd execSpindleAtSpeed execFollowingError execHandwheelDetent
      execEncoderCondition execEncoderIndexCapture execOutputSat execResAmpl execTachMismatch execFeedbackLoss
      execDecRequest execDecIssue execDecResult execCalcKey execCalcComputationDone execCalcAutooff
      execCoreFailed execTakeoverLate execCoreLate execRegionWriteComplete execRegionEpoch execCalibrationDone
      execFirBankSwap execSfConversionDone execLdacEdge execDeglitchRelease execDacShortRetry
      execExcTableChange execExcShort execExcOff execKeyAccepted execKeyRepeat execKeyLongPress execPnlKqRead
      execPanelActionOffer execPanelBusy execChrByteDone execChrTimeout execVfgStateChange execFioInputChange
      execFioCondition execFioRetry execFioRetryEnd execFioPin execAinTestBurst execAinCondition
      execPortTrained execPortDown execPortRetrain execLinkRate execTopo execDataFrameReceived execNak
      execPauseExpiry execSync execSyncSend execSyncLost execFreezeFrame execMirror execPauseRefresh
      execNakFullResend execTransmitComplete regAnswer
    repeat' first | exact ⟨_, rfl⟩ | extract_lets | split

end Sys2Proof.Machine
end

section
/-! SUPPORT. An empty queue: O2. -/
namespace Sys2Proof.Machine
open Sys2Proof

/-- With the block off or its reference present, an idle block keeps its state. -/
theorem idle_of_off_or_ref {s : State} (h : s.phase = .off ∨ s.flag .TC_STATUS_REFOK 0 = true) :
    s.idle = s := by
  refine if_neg ?_
  rcases h with off | ref
  · simp [off]
  · simp [ref]

/-- R35: with the block supplied and its reference absent, an idle block lets one period of the KEEP
oscillator pass. -/
theorem idle_of_no_ref {s : State} (supplied : s.phase ≠ .off) (noRef : s.flag .TC_STATUS_REFOK 0 = false) :
    s.idle = { s with clk := { s.clk with now := s.clk.now + 750 } } :=
  if_pos (by simp [supplied, noRef])

/-- Settles O2: a step on an empty queue is `State.idle` (log entry 2), whose one test is that of R35. -/
theorem emptyQueueIdles : Obligations.EmptyQueueIdles := by
  intro s empty
  rw [step_nil empty]
  exact ⟨fun h => by rw [idle_of_off_or_ref h], fun supplied noRef => by rw [idle_of_no_ref supplied noRef]⟩

end Sys2Proof.Machine
end

section
/-! SUPPORT. The reset state: O5. -/
namespace Sys2Proof.Machine
open Sys2Proof

/-- No register holds a stored value at reset, so that none is out of order. -/
theorem regsSorted_reset : regsSorted State.reset.regs := List.Pairwise.nil

/-- The reset state has no command waiting and has answered nothing since itself. -/
theorem asksOnly_reset : asksOnly State.reset State.reset :=
  ⟨fun _ waiting => absurd waiting List.not_mem_nil, 0, answersOnly_refl _⟩

/-- Settles O5: memory, registers and queue are empty at reset. -/
theorem resetIsCanonical : Obligations.ResetIsCanonical :=
  ⟨memWf_reset, regsSorted_reset, asksOnly_reset⟩

end Sys2Proof.Machine
end

section
/-! SUPPORT. A work item that is offered whole begins at once: its command answers what its run answers (the
model's choice of log entry 40). Then the runs that several commands share. For O24 to O35. -/
namespace Sys2Proof.Machine
open Sys2Proof

variable {s u : State} {o : Origin} {cmd : Instr} {w : Work} {t : State}

/-- What an offered work item leaves, from what its run in the accepted state `t` answers. -/
theorem exec_of_run (offers : s.offers o w)
    (after : (match w.run (s.candKey o) t with
      | .done t => t.workDone (s.candKey o)
      | .running t => t
      | .fail e t => t.workFailed (s.candKey o) e) = u)
    (offered : exec cmd s = .next (s.offer o cmd w) := by rfl) (auto : w.auto = true := by rfl)
    (taken : s.taken o cmd w.stn = t := by rfl) : exec cmd s = .next u := by
  subst taken
  rw [offered, offer_next offers, if_pos auto]
  exact congrArg _ after

/-- An offered work item whose run completes. -/
theorem exec_done {f : State → State} (offers : s.offers o w) (run : w.run (s.candKey o) t = .done (f t))
    (offered : exec cmd s = .next (s.offer o cmd w) := by rfl) (auto : w.auto = true := by rfl)
    (taken : s.taken o cmd w.stn = t := by rfl) : exec cmd s = .next (s.done o cmd w.stn f) := by
  subst taken
  exact exec_of_run offers (by rw [run]; rfl) offered auto

/-- An offered work item whose run goes on. -/
theorem exec_runs {f : Key → State → State} (offers : s.offers o w)
    (run : w.run (s.candKey o) t = .running (f (s.candKey o) t))
    (offered : exec cmd s = .next (s.offer o cmd w) := by rfl) (auto : w.auto = true := by rfl)
    (taken : s.taken o cmd w.stn = t := by rfl) : exec cmd s = .next (s.runs o cmd w.stn f) := by
  subst taken
  exact exec_of_run offers (by rw [run]; rfl) offered auto

/-- A station at rest that has nothing queued is stopped already (R222, R223). -/
theorem askStop_at_rest {k : Fin 4} {stop : Bool} {key : Key} {ramp : Nat}
    (rest : (s.stnState k = stIdle ∨ s.stnState k = stHeld ∨ s.stnState k = stTripped) ∧ (s.mot[k]).reqs = []) :
    s.askStop k stop key ramp = .done s := if_pos rest

/-- Any other station stops with the next tick (R231). -/
theorem askStop_in_motion {k : Fin 4} {stop : Bool} {key : Key} {ramp : Nat}
    (moving : ¬ ((s.stnState k = stIdle ∨ s.stnState k = stHeld ∨ s.stnState k = stTripped) ∧
      (s.mot[k]).reqs = [])) :
    s.askStop k stop key ramp =
      .running (s.setMot k fun m => { m with reqs := m.reqs ++ [.halt stop key ramp] }) :=
  if_neg moving

/-- The work of a `REG` waits for no event of its own, whatever its target. -/
theorem workReg_auto (y : RegTarget) (v : Int) : (workReg o y v s).auto = true := by
  unfold workReg
  split <;> rfl

/-- What a `REG` runs when its target is a register, its value fits and the write passes its checks (R130,
R131). -/
theorem workReg_run {y : RegTarget} {v : Int} {r : Reg} {i j : Nat} {f : Option Fld} {x : RegWr} (k : Key)
    (target : regPl y = .reg r i j f) (fits : lineWrite r i j f v = .ok x) (passes : t.wrErr x = none) :
    (workReg o y v s).run k t =
      if r = .DEC_MBX then
        if h : i < 6 then .done (if j = 5 ∧ v % 2 = 1 then t.mbxPop ⟨i, h⟩ else t) else .done t
      else t.regBegun ((t.wrApply (.line o) x).serOwn o x k) r i k := by
  simp only [workReg, target, fits, passes]

/-- A register that begins nothing that lasts: its write is done at once. -/
theorem regBegun_at_once {r : Reg} {i : Nat} {key : Key}
    (atOnce : [Reg.DAC_CFG, .EXC_INC, .EXC_AMP, .EXC_PHASE].contains r = false) :
    s.regBegun t r i key = .done t := by
  unfold State.regBegun
  split
  case h_5 => rfl
  all_goals cases atOnce
end Sys2Proof.Machine
end

section
/-! SUPPORT. The work items of keys, time, held work, policies, reset, REG, RING and EVENT ACK: O24. -/
namespace Sys2Proof.Machine
open Sys2Proof

/-- Settles O24: each run takes its successful branch, and a `REG` goes through `workReg_run` (the model's
choices: log entries 9 and 40). -/
theorem generalWorkCompletes : Obligations.GeneralWorkCompletes := by
  refine ⟨?authset, ?timeRtc, ?cancel, ?release, ?policy, ?resetWarm, ?resetCold, ?regAtOnce, ?regRuns, ?regDone,
    ?regMailbox, ?regHole, ?ringDepth, ?eventAck⟩
  case authset =>
    intro s o x key cmd w offers
    exact exec_done offers rfl
  case timeRtc =>
    intro s o d cmd w offers
    exact exec_done offers rfl
  case cancel =>
    intro s o x src ser m cmd w t offers found open_
    exact exec_done (t := t) offers (by simp only [w, workCancel, if_pos, found, open_])
  case release =>
    intro s o x src ser m c v cmd w t offers noErr found hasCmd inner
    exact exec_done (t := t) offers
      (by simp only [w, workRelease, workReleaseOf, Option.bind_some, noErr, found, hasCmd, inner])
  case policy =>
    intro s o x i j m cmd w offers
    exact exec_done offers rfl
  case resetWarm =>
    intro s o cmd w offers
    exact exec_runs offers rfl
  case resetCold =>
    intro s o cmd w offers
    exact exec_runs offers rfl
  case regAtOnce =>
    intro s o r i j f v x cmd w t offers target fits passes notMailbox atOnce
    exact exec_done (t := t) offers (auto := workReg_auto _ _)
      (by rw [workReg_run _ target fits passes, if_neg notMailbox, regBegun_at_once atOnce])
  case regRuns =>
    intro s o r i j f v x u cmd w t offers target fits passes notMailbox begun
    exact exec_of_run (t := t) offers (auto := workReg_auto _ _)
      (by rw [workReg_run _ target fits passes, if_neg notMailbox, begun])
  case regDone =>
    intro s o r i j f v x u cmd w t offers target fits passes notMailbox begun
    exact exec_done (t := t) offers (auto := workReg_auto _ _)
      (by rw [workReg_run _ target fits passes, if_neg notMailbox, begun])
  case regMailbox =>
    intro s o r i j f v x cmd w t offers target fits passes mailbox inRange
    have number : Fin.ofNat 6 i = ⟨i, inRange⟩ := Fin.ext (Nat.mod_eq_of_lt inRange)
    exact exec_done (t := t) offers (auto := workReg_auto _ _)
      (by rw [workReg_run _ target fits passes, if_pos mailbox, dif_pos inRange, number])
  case regHole =>
    intro s o a y v cmd w offers hole fits
    exact exec_done offers (by simp only [w, workReg, hole]) (auto := workReg_auto _ _)
  case ringDepth =>
    intro s o r n c cmd w t offers hasDepthCode noErr
    exact exec_done (t := t) offers (by simp only [w, workRingDepth, hasDepthCode, noErr])
  case eventAck =>
    intro s o c seq cmd w offers
    exact exec_done offers rfl

end Sys2Proof.Machine
end

section
/-! SUPPORT. The work items of part programs, MDI and tape: O25. -/
namespace Sys2Proof.Machine
open Sys2Proof

/-- Settles O25: each run takes its successful branch (the model's choices: log entry 40). -/
theorem programWorkCompletes : Obligations.ProgramWorkCompletes := by
  refine ⟨?progNew, ?progAdd, ?progEnd, ?progDel, ?run, ?mdi, ?tapeRead, ?tapeRun, ?tapeStopBusy, ?tapeStopIdle,
    ?mfin⟩
  case progNew =>
    intro s o p title cmd w t offers noErr
    exact exec_done (t := t) offers (by simp only [w, workProgNew, noErr])
  case progAdd =>
    intro s o p block cmd w t offers noErr
    exact exec_runs (t := t) offers (by simp only [w, workProgAdd, noErr])
  case progEnd =>
    intro s o p cmd w t offers noErr
    exact exec_done (t := t) offers (by simp only [w, workProgEnd, noErr])
  case progDel =>
    intro s o p cmd w t offers noErr
    exact exec_done (t := t) offers (by simp only [w, workProgDel, noErr])
  case run =>
    intro s o p k frm cmd w offers
    exact exec_runs offers rfl
  case mdi =>
    intro s o text k x b cmd w t offers notSkipped converts hasBlock notExtended
    exact exec_runs (t := t) offers
      (by simp only [w, workMdi, State.startMdi, Bool.false_eq_true, reduceIte, notSkipped, converts, hasBlock,
        notExtended])
  case tapeRead =>
    intro s o p cmd w t offers noErr
    exact exec_runs (t := t) offers (by simp only [w, workTapeRead, noErr])
  case tapeRun =>
    intro s o k cmd w t offers free
    exact exec_runs (t := t) offers (by simp only [w, workTapeRun, Bool.false_eq_true, reduceIte, free])
  case tapeStopBusy =>
    intro s o cmd w t offers isTapeBusy
    exact exec_done (t := t) offers (by simp only [w, workTapeStop, reduceIte, isTapeBusy])
  case tapeStopIdle =>
    intro s o cmd w t offers notTapeBusy
    exact exec_done (t := t) offers (by simp only [w, workTapeStop, Bool.false_eq_true, reduceIte, notTapeBusy])
  case mfin =>
    intro s o k h cmd w t offers strobe
    exact exec_done (t := t) offers (by simp only [w, workMfin, strobe])

end Sys2Proof.Machine
end

section
/-! SUPPORT. The work items of motion, axes, servo and compensation: O26. -/
namespace Sys2Proof.Machine
open Sys2Proof

/-- Settles O26: each run takes its successful branch; HOLD and STOP part on whether the station is at rest
(the model's choices: log entries 40 and 57). -/
theorem motionWorkCompletes : Obligations.MotionWorkCompletes := by
  refine ⟨?holdAtRest, ?holdInMotion, ?holdRampAtRest, ?holdRampInMotion, ?stopAtRest, ?stopInMotion, ?resume,
    ?ovr, ?limitAxis, ?limitStn, ?axisJog, ?axisJogStop, ?axisHw, ?axisHwOff, ?axisRef, ?servo, ?servoRescal,
    ?comp, ?compPt⟩
  case holdAtRest =>
    intro s o k cmd w t offers rest
    exact exec_done (t := t) offers (askStop_at_rest rest)
  case holdInMotion =>
    intro s o k cmd w t offers moving
    exact exec_runs (t := t) offers (askStop_in_motion moving)
  case holdRampAtRest =>
    intro s o k d r cmd w t offers ramp rest
    exact exec_done (t := t) offers (by simp only [w, workHold, ramp, askStop_at_rest rest])
  case holdRampInMotion =>
    intro s o k d r cmd w t offers ramp moving
    exact exec_runs (t := t) offers (by simp only [w, workHold, ramp, askStop_in_motion moving])
  case stopAtRest =>
    intro s o k cmd w t offers rest
    exact exec_done (t := t) offers (askStop_at_rest rest)
  case stopInMotion =>
    intro s o k cmd w t offers moving
    exact exec_runs (t := t) offers (askStop_in_motion moving)
  case resume =>
    intro s o k cmd w t offers noErr
    exact exec_runs (t := t) offers (by simp only [w, workResume, noErr])
  case ovr =>
    intro s o k f r p cmd w t offers inRange notFromKnobs
    exact exec_done (t := t) offers
      (by simp only [w, workOvr, Bool.false_eq_true, reduceIte, inRange, notFromKnobs])
  case limitAxis =>
    intro s o a l vs cmd w t offers accepts
    exact exec_done (t := t) offers (by simp only [w, workLimitAxis, accepts])
  case limitStn =>
    intro s o k l vs cmd w t offers accepts
    exact exec_done (t := t) offers (by simp only [w, workLimitStn, accepts])
  case axisJog =>
    intro s o a plus f d v k cmd w t offers accepts hasStation
    exact exec_runs (t := t) offers
      (by simp only [w, workAxisJog, Fin.is_lt, reduceDIte, Fin.eta, accepts, hasStation])
  case axisJogStop =>
    intro s o a cmd w offers
    exact exec_done offers (by simp only [w, workAxisJogStop, Fin.is_lt, reduceDIte, Fin.eta])
  case axisHw =>
    intro s o a n m k cmd w t offers noErr hasStation
    exact exec_done (t := t) offers (by simp only [w, workAxisHw, noErr, hasStation])
  case axisHwOff =>
    intro s o a cmd w offers
    exact exec_done offers (by simp only [w, workAxisHwOff, Fin.is_lt, reduceDIte, Fin.eta])
  case axisRef =>
    intro s o a pos k cmd w t offers noErr hasStation
    exact exec_done (t := t) offers
      (by simp only [w, workAxisRef, Fin.is_lt, reduceDIte, Fin.eta, noErr, hasStation])
  case servo =>
    intro s o a sets cmd w t offers noErr
    refine exec_done (t := t) offers ?_
    simp only [w, workServo, noErr, Fin.is_lt, reduceDIte, Fin.eta]
    split <;> rfl
  case servoRescal =>
    intro s o a k g cmd w t offers noErr hasPair
    exact exec_done (t := t) offers
      (by simp only [w, workServoRescal, Fin.is_lt, reduceDIte, Fin.eta, noErr, hasPair])
  case comp =>
    intro s o a sets cmd w t offers noErr
    exact exec_done (t := t) offers (by simp only [w, workComp, noErr])
  case compPt =>
    intro s o a i v cmd w t offers noErr
    exact exec_done (t := t) offers (by simp only [w, workCompPt, noErr])

end Sys2Proof.Machine
end

section
/-! SUPPORT. The work items of cores: O27. -/
namespace Sys2Proof.Machine
open Sys2Proof

/-- Settles O27: each run takes its successful branch; CORE CLEAR parts on the outcome of the self-test (the
model's choices: log entries 30 and 40). -/
theorem coreWorkCompletes : Obligations.CoreWorkCompletes := by
  refine ⟨?coreAssign, ?coreSpare, ?coreHalt, ?coreStart, ?coreClear⟩
  case coreAssign =>
    intro s o c x cmd w t offers noErr
    exact exec_done (t := t) offers (by simp only [w, workCoreAssign, State.coreItem, noErr])
  case coreSpare =>
    intro s o c cmd w t offers noErr
    exact exec_done (t := t) offers (by simp only [w, workCoreSpare, noErr])
  case coreHalt =>
    intro s o c cmd w t offers noErr
    exact exec_done (t := t) offers (by simp only [w, workCoreHalt, State.coreItem, noErr])
  case coreStart =>
    intro s o c cmd w t offers noErr
    exact exec_done (t := t) offers (by simp only [w, workCoreStart, State.coreItem, noErr])
  case coreClear =>
    intro s o c cmd w t offers noErr
    refine exec_of_run (t := t) offers ?_
    by_cases failed : (t.fresh 1).1 = 0 <;> simp only [w, workCoreClear, noErr, failed, reduceIte]

end Sys2Proof.Machine
end

section
/-! SUPPORT. The work items of regions, routes, converters and filters: O28. -/
namespace Sys2Proof.Machine
open Sys2Proof

/-- Settles O28: each run takes its successful branch (the model's choices: log entries 19, 20 and 40). -/
theorem fabricWorkCompletes : Obligations.FabricWorkCompletes := by
  refine ⟨?regionLoad, ?regionHandoffCellConst, ?regionHandoffCellHold, ?regionHandoffRg, ?regionRef, ?xpt,
    ?adcAssign, ?cal, ?calRef, ?filterPreset, ?filterPresetSf, ?filterCustom, ?filterPhase, ?filterTaps,
    ?filterCoef, ?filterSwap, ?filterResolver, ?filterResolverExc, ?filterResphase⟩
  case regionLoad =>
    intro s o img at_ g cmd w t offers noErr staged
    exact exec_runs (t := t) offers (by simp only [w, workRegionLoad, noErr, staged])
  case regionHandoffCellConst =>
    intro s o n v c cmd w t offers noErr level
    exact exec_done (t := t) offers (by simp only [w, workRegionHandoffCell, Option.bind_some, noErr, level])
  case regionHandoffCellHold =>
    intro s o n cmd w t offers noErr
    exact exec_done (t := t) offers (by simp only [w, workRegionHandoffCell, Option.bind_none, noErr])
  case regionHandoffRg =>
    intro s o r out b cmd w t offers noErr fabricOut
    exact exec_done (t := t) offers
      (by simp only [w, workRegionHandoffRg, Option.isSome_some, Option.getD_some, reduceIte,
        noErr, fabricOut])
  case regionRef =>
    intro s o i v c cmd w offers level
    exact exec_done offers (by simp only [w, workRegionRef, level])
  case xpt =>
    intro s o l cmd w t offers noErr
    exact exec_done (t := t) offers (by simp only [w, workXpt, noErr])
  case adcAssign =>
    intro s o c x cmd w t offers noErr
    exact exec_done (t := t) offers (by simp only [w, workAdcAssign, noErr])
  case cal =>
    intro s o ch cmd w t offers noErr
    exact exec_runs (t := t) offers (by simp only [w, workCal, noErr])
  case calRef =>
    intro s o d a b cmd w offers noErr
    exact exec_done offers (by simp only [w, workCalRef, noErr])
  case filterPreset =>
    intro s o n p cmd w t offers noErr
    exact exec_done (t := t) offers
      (by simp only [w, workFilterPreset, workStruct, Option.isSome_none, List.append_nil,
        Bool.false_eq_true, reduceIte, noErr])
  case filterPresetSf =>
    intro s o n p k cmd w t offers noErr
    exact exec_done (t := t) offers
      (by simp only [w, workFilterPreset, workStruct, Option.isSome_some,
        reduceIte, noErr])
  case filterCustom =>
    intro s o n d c f cmd w t offers noErr
    exact exec_done (t := t) offers (by simp only [w, workFilterCustom, workStruct, noErr])
  case filterPhase =>
    intro s o n i f cmd w t offers noErr
    exact exec_done (t := t) offers (by simp only [w, workFilterPhase, workStruct, noErr])
  case filterTaps =>
    intro s o n b x cmd w t offers noErr
    exact exec_done (t := t) offers (by simp only [w, workFilterTaps, noErr])
  case filterCoef =>
    intro s o n b i vs cmd w t offers noErr
    exact exec_done (t := t) offers (by simp only [w, workFilterCoef, noErr])
  case filterSwap =>
    intro s o n cmd w offers
    exact exec_done offers rfl
  case filterResolver =>
    intro s o n b cmd w t offers noErr
    exact exec_done (t := t) offers (by simp only [w, workFilterResolver, workStruct, List.append_nil, noErr])
  case filterResolverExc =>
    intro s o n b e cmd w t offers noErr
    exact exec_done (t := t) offers (by simp only [w, workFilterResolver, workStruct, noErr])
  case filterResphase =>
    intro s o n x cmd w t offers noErr
    exact exec_done (t := t) offers (by simp only [w, workFilterResphase, noErr])

end Sys2Proof.Machine
end

section
/-! SUPPORT. The work items of DACs and excitation: O29. -/
namespace Sys2Proof.Machine
open Sys2Proof

/-- Settles O29: each run takes its successful branch, with or without a lasting effect (the model's
choices: log entries 38, 40 and 60). -/
theorem outputWorkCompletes : Obligations.OutputWorkCompletes := by
  refine ⟨?dacConfigNoSpan, ?dacConfigSpan, ?dacValue, ?dacSafe, ?dacLoad, ?dacLdg, ?excNoTarget, ?excAmp,
    ?excTable, ?excTableSine, ?excTableSwap⟩
  case dacConfigNoSpan =>
    intro s o n c cmd w t offers noErr noSpan
    exact exec_done (t := t) offers (by simp only [w, workDacConfig, noErr, noSpan])
  case dacConfigSpan =>
    intro s o n c p cmd w t offers noErr span changed
    exact exec_runs (t := t) offers
      (by simp only [w, workDacConfig, reduceIte, noErr, span, changed])
  case dacValue =>
    intro s o n v ms c cmd w t offers code awake
    exact exec_runs (t := t) offers (by simp only [w, workDacValue, Bool.false_eq_true, reduceIte, code, awake])
  case dacSafe =>
    intro s o n cmd w t offers noErr
    exact exec_done (t := t) offers (by simp only [w, workDacSafe, noErr])
  case dacLoad =>
    intro s o g cmd w offers
    exact exec_done offers rfl
  case dacLdg =>
    intro s o g x cmd w t offers noErr
    exact exec_done (t := t) offers (by simp only [w, workDacLdg, noErr])
  case excNoTarget =>
    intro s o g c cmd w t offers noErr noAmp noF noPhase
    exact exec_done (t := t) offers
      (by simp only [w, workExc, Option.isSome_none, Bool.or_self, Bool.not_false, reduceIte, noErr, noAmp, noF,
        noPhase])
  case excAmp =>
    intro s o g c cmd w t offers noErr hasAmp notSettled
    exact exec_runs (t := t) offers
      (by simp only [w, workExc, Bool.true_or, Bool.not_true, Bool.false_eq_true, reduceIte, noErr, hasAmp,
        notSettled])
  case excTable =>
    intro s o g i vs cmd w t offers noErr
    exact exec_done (t := t) offers (by simp only [w, workExcTable, noErr])
  case excTableSine =>
    intro s o g cmd w t offers notTpend
    exact exec_done (t := t) offers (by simp only [w, workExcTableSine, Bool.false_eq_true, reduceIte, notTpend])
  case excTableSwap =>
    intro s o g cmd w offers
    exact exec_done offers rfl

end Sys2Proof.Machine
end

section
/-! SUPPORT. The work items of the panel and its display: O30. -/
namespace Sys2Proof.Machine
open Sys2Proof

/-- Settles O30: each run takes its successful branch, through the shared work of texts and settings (the
model's choices: log entry 40). -/
theorem panelWorkCompletes : Obligations.PanelWorkCompletes := by
  refine ⟨?disp, ?dispFault, ?dispClear, ?dispChr, ?dispChrCmd, ?panelScan, ?panelRepeat, ?panelKey, ?panelCombo,
    ?panelAction, ?panelOwner, ?panelDisplay, ?panelFont, ?panelChar⟩
  case disp =>
    intro s o row pos x cmd w t offers noErr
    exact exec_done (t := t) offers (by simp only [w, workDisp, workText, noErr])
  case dispFault =>
    intro s o row pos x cmd w t offers noErr
    exact exec_done (t := t) offers (by simp only [w, workDispFault, workText, noErr])
  case dispClear =>
    intro s o b cmd w offers
    exact exec_done offers rfl
  case dispChr =>
    intro s o x cmd w offers nonempty
    exact exec_runs offers (by simp only [w, workDispChr, workChr, Bool.false_eq_true, reduceIte, nonempty])
  case dispChrCmd =>
    intro s o x cmd w offers inRange
    exact exec_runs offers
      (by simp only [w, workDispChrCmd, workChr, List.isEmpty_cons, Bool.false_eq_true, reduceIte, inRange])
  case panelScan =>
    intro s o sets cmd w t offers noErr
    exact exec_done (t := t) offers (by simp only [w, workPanelScan, workPanelSets, noErr])
  case panelRepeat =>
    intro s o sets cmd w t offers noErr
    exact exec_done (t := t) offers (by simp only [w, workPanelRepeat, workPanelSets, noErr])
  case panelKey =>
    intro s o k b cmd w offers inRange
    exact exec_done offers (by simp only [w, workPanelKey, reduceIte, inRange])
  case panelCombo =>
    intro s o n sets cmd w t offers noErr
    exact exec_done (t := t) offers (by simp only [w, workPanelCombo, workPanelSets, noErr])
  case panelAction =>
    intro s o i sets cmd w t offers noErr
    exact exec_done (t := t) offers (by simp only [w, workPanelAction, workPanelSets, noErr])
  case panelOwner =>
    intro s o sets cmd w t offers noErr
    exact exec_done (t := t) offers (by simp only [w, workPanelOwner, workPanelSets, noErr])
  case panelDisplay =>
    intro s o sets cmd w t offers noErr
    exact exec_done (t := t) offers (by simp only [w, workPanelDisplay, workPanelSets, noErr])
  case panelFont =>
    intro s o x sets cmd w t offers noErr
    exact exec_done (t := t) offers (by simp only [w, workPanelFont, workPanelSets, noErr])
  case panelChar =>
    intro s o sets cmd w t offers noErr
    exact exec_done (t := t) offers (by simp only [w, workPanelChar, workPanelSets, noErr])

end Sys2Proof.Machine
end

section
/-! SUPPORT. The work items of field pins: O31. -/
namespace Sys2Proof.Machine
open Sys2Proof

/-- Settles O31: each run takes its successful branch (the model's choices: log entries 25 and 40). -/
theorem pinWorkCompletes : Obligations.PinWorkCompletes := by
  refine ⟨?fio, ?fioOut, ?fioClear, ?fioAin⟩
  case fio =>
    intro s o n m sets cmd w t offers noErr
    exact exec_done (t := t) offers (by simp only [w, workFio, noErr])
  case fioOut =>
    intro s o n b cmd w t offers noErr
    exact exec_done (t := t) offers (by simp only [w, workFioOut, noErr])
  case fioClear =>
    intro s o n u cmd w t offers hClearPinChecked
    exact exec_done (t := t) offers (by simp only [w, workFioClear, hClearPinChecked])
  case fioAin =>
    intro s o i sets cmd w t offers noErr
    exact exec_done (t := t) offers (by simp only [w, workFioAin, noErr])

end Sys2Proof.Machine
end

section
/-! SUPPORT. The work items of the link: O32. -/
namespace Sys2Proof.Machine
open Sys2Proof

/-- Settles O32: each run takes its successful branch, and a fresh transaction starts (the model's choices:
log entries 27 and 40). -/
theorem linkWorkCompletes : Obligations.LinkWorkCompletes := by
  refine ⟨?peer, ?peerMask, ?linkCfg, ?linkClear, ?linkPortRate, ?linkRestart, ?linkAuth, ?linkMirror⟩
  case peer =>
    intro s o d x cmd w t offers fresh
    exact exec_runs (t := t) offers (by simp only [w, workPeer, runTxn, fresh])
  case peerMask =>
    intro s o m x cmd w t offers fresh
    exact exec_runs (t := t) offers (by simp only [w, workPeerMask, fresh])
  case linkCfg =>
    intro s o sets cmd w t offers noErr
    exact exec_done (t := t) offers (by simp only [w, workLinkCfg, workPanelSets, noErr])
  case linkClear =>
    intro s o p cmd w offers
    exact exec_done offers rfl
  case linkPortRate =>
    intro s o p b cmd w offers
    exact exec_done offers rfl
  case linkRestart =>
    intro s o d cmd w t offers fresh
    exact exec_runs (t := t) offers (by simp only [w, workLinkRestart, runTxn, fresh])
  case linkAuth =>
    intro s o d x b cmd w offers
    exact exec_done offers rfl
  case linkMirror =>
    intro s o x i cmd w offers
    exact exec_done offers rfl

end Sys2Proof.Machine
end

section
/-! SUPPORT. The work items of flash and images: O33. -/
namespace Sys2Proof.Machine
open Sys2Proof

/-- Settles O33: each run takes its successful branch (the model's choices: log entries 33 and 40). -/
theorem storageWorkCompletes : Obligations.StorageWorkCompletes := by
  refine ⟨?flashErase, ?flashProg, ?flashSuspend, ?flashResume, ?imagePolicy, ?imageKeySet, ?imageKeyRevoke,
    ?imageLock, ?imageStage, ?imageUnstage⟩
  case flashErase =>
    intro s o n cmd w t offers noErr
    exact exec_runs (t := t) offers (by simp only [w, workFlashErase, noErr])
  case flashProg =>
    intro s o a ws cmd w t offers noErr notCut allErased someLeft
    exact exec_runs (t := t) offers
      (by simp only [w, workFlashProg, Bool.false_and, Bool.false_eq_true, reduceIte, noErr, notCut, allErased,
        someLeft])
  case flashSuspend =>
    intro s o cmd w offers
    exact exec_done offers rfl
  case flashResume =>
    intro s o cmd w offers
    exact exec_done offers rfl
  case imagePolicy =>
    intro s o sets cmd w t offers noErr
    exact exec_done (t := t) offers (by simp only [w, workImagePolicy, noErr])
  case imageKeySet =>
    intro s o k x cmd w t offers noErr
    exact exec_done (t := t) offers (by simp only [w, workImageKeySet, noErr])
  case imageKeyRevoke =>
    intro s o k cmd w t offers noErr
    exact exec_done (t := t) offers (by simp only [w, workImageKeyRevoke, noErr])
  case imageLock =>
    intro s o cmd w t offers noErr
    exact exec_done (t := t) offers (by simp only [w, workImageLock, noErr])
  case imageStage =>
    intro s o n slot u r cmd w t offers hStage
    exact exec_done (t := t) offers (by simp only [w, workImageStage, hStage])
  case imageUnstage =>
    intro s o n cmd w t offers noErr
    exact exec_done (t := t) offers (by simp only [w, workImageUnstage, noErr])

end Sys2Proof.Machine
end

section
/-! SUPPORT. The work items of power domains: O34. -/
namespace Sys2Proof.Machine
open Sys2Proof

/-- Settles O34: each run takes its successful branch (the model's choices: log entry 40). -/
theorem powerWorkCompletes : Obligations.PowerWorkCompletes := by
  refine ⟨?pwrStnIdle, ?pwrStnOnActive, ?pwrStnOnIdle, ?pwrObs, ?pwrWdt, ?pwrHoldmin⟩
  case pwrStnIdle =>
    intro s o k sets cmd w t offers noErr
    exact exec_done (t := t) offers (by simp only [w, workPwrStnIdle, noErr])
  case pwrStnOnActive =>
    intro s o k cmd w t offers active
    exact exec_done (t := t) offers (by simp only [w, workPwrStnOn, reduceIte, active])
  case pwrStnOnIdle =>
    intro s o k cmd w t offers idle
    exact exec_runs (t := t) offers (by simp only [w, workPwrStnOn, reduceIte, OfNat.ofNat_ne_zero, idle])
  case pwrObs =>
    intro s o b cmd w offers
    exact exec_done offers rfl
  case pwrWdt =>
    intro s o b per cmd w t offers noErr
    exact exec_done (t := t) offers (by simp only [w, workPwrWdt, workSetting, noErr])
  case pwrHoldmin =>
    intro s o c cmd w t offers noErr
    exact exec_done (t := t) offers (by simp only [w, workPwrHoldmin, workSetting, noErr])

end Sys2Proof.Machine
end

section
/-! SUPPORT. The work items of observation and trace: O35. -/
namespace Sys2Proof.Machine
open Sys2Proof

/-- Settles O35: each run takes its successful branch (the model's choices: log entry 40). -/
theorem observationWorkCompletes : Obligations.ObservationWorkCompletes := by
  refine ⟨?obsClear, ?obsProbe, ?obsWatch, ?trace, ?skim, ?skimStart, ?skimStop, ?freeze, ?freezeOff⟩
  case obsClear =>
    intro s o sc cmd w t offers noErr
    exact exec_done (t := t) offers (by simp only [w, workObsClear, Option.getD_some, noErr])
  case obsProbe =>
    intro s o n sets cmd w t offers noErr
    exact exec_done (t := t) offers (by simp only [w, workObsProbe, workObsSets, noErr])
  case obsWatch =>
    intro s o n sets cmd w t offers noErr
    exact exec_done (t := t) offers (by simp only [w, workObsWatch, workObsSets, noErr])
  case trace =>
    intro s o sets cmd w t offers noErr
    exact exec_done (t := t) offers (by simp only [w, workTrace, noErr])
  case skim =>
    intro s o k d i cmd w t offers noErr
    exact exec_done (t := t) offers (by simp only [w, workSkim, Option.getD_some, noErr])
  case skimStart =>
    intro s o l cmd w t offers noErr
    exact exec_done (t := t) offers
      (by simp only [w, workSkimStart, Option.or_none, Bool.false_eq_true, reduceIte, noErr])
  case skimStop =>
    intro s o l cmd w t offers noErr
    exact exec_done (t := t) offers (by simp only [w, workSkimStop, noErr])
  case freeze =>
    intro s o cmd w t offers noErr
    exact exec_done (t := t) offers (by simp only [w, workFreeze, noErr])
  case freezeOff =>
    intro s o cmd w t offers noErr
    exact exec_done (t := t) offers (by simp only [w, workFreezeOff, noErr])

end Sys2Proof.Machine
end

section
/-! SUPPORT. A query that is taken, permitted and free of local errors answers its lines and OK: `r` is what
its command answers. For O36 to O38. -/
namespace Sys2Proof.Machine
open Sys2Proof

variable {r : Host.Outcome State Fault Refusal} {s t : State} {o : Origin}
  {pre : Option Nat} {ok : Bool} {ls : List (List Fd)}

/-- A query that may leave another state `t`. -/
theorem query_told {f : State → Nat × List (List Fd) × State} (takes : s.takes o)
    (asked : r = .next (s.ask o pre ok f)) (formed : pre = none) (permitted : ok = true)
    (answer : f s = (0, ls, t)) : r = .next (t.told o ls) := by
  rw [asked, ask_of takes formed permitted, answer]
  rfl

/-- A query that leaves the state alone. -/
theorem query_tells {f : State → Nat × List (List Fd)} (takes : s.takes o)
    (asked : r = .next (s.askPure o pre ok f)) (formed : pre = none) (permitted : ok = true)
    (answer : f s = (0, ls)) : r = .next (s.told o ls) := by
  subst formed permitted
  rw [asked, askPure_next takes answer]

/-- A query of the observation domain while it is supplied. -/
theorem query_observes {f : State → List (List Fd)} (takes : s.takes o)
    (asked : r = .next (s.obsAsk o pre ok f)) (formed : pre = none) (permitted : ok = true)
    (noErr : s.obsErr = none) (answer : f s = ls) : r = .next (s.told o ls) :=
  query_tells takes asked formed permitted (by simp only [noErr, answer])

end Sys2Proof.Machine
end

section
/-! SUPPORT. Session commands and general queries: O36. -/
namespace Sys2Proof.Machine
open Sys2Proof

/-- A line on a port has the session of that port. -/
theorem session_formed {o : Origin} {p : Fin 2} (port : sessionPort o = some p) :
    (if (sessionPort o).isSome then none else some 109) = (none : Option Nat) := by
  simp only [port, Option.isSome_some, if_true]

/-- The state in which `REG?` answers: a port's register writes take effect first (R130). -/
theorem exec_regQuery {s u : State} {o : Origin} {x : RegTarget} {n : Nat} (takes : s.takes o)
    (settled : u = (match sessionPort o with | some p => s.settleRegs p | none => s)) :
    exec (.regQuery o x n) s = regAnswer o x n u := by
  obtain ⟨-, -, accepting⟩ := takes
  subst settled
  show execRegQuery o x n s = _
  unfold execRegQuery
  cases sessionPort o <;> simp only [accepting, if_true]

/-- Settles O36: every query here is a `State.ask`, whose local checks and permission are the premises (the
model's choices: log entries 9, 47 and 51). -/
theorem generalQueriesAnswer : Obligations.GeneralQueriesAnswer := by
  refine ⟨?auth, ?authOff, ?authQuery, ?stnSelect, ?stnQuery, ?idQuery, ?timeQuery, ?regField, ?regWords, ?wsnQuery,
    ?outcomeQuery, ?jrnQuery, ?jrnSourcesQuery, ?policyQuery, ?ringOne, ?ringAll, ?eventQuery⟩
  case auth =>
    intro s o key p takes port unlocked matched
    exact query_told takes rfl (session_formed port) rfl
      (by simp only [port, unlocked, matched, Bool.false_eq_true, if_true, if_false])
  case authOff =>
    intro s o p takes port
    exact query_told takes rfl (session_formed port) rfl (by simp only [port])
  case authQuery =>
    intro s o p takes port
    exact query_tells takes rfl (session_formed port) rfl rfl
  case stnSelect =>
    intro s o k p takes port configured held
    exact query_told takes rfl (session_formed port) rfl
      (by simp only [port, configured, held, Bool.not_true, Bool.false_eq_true, if_false])
  case stnQuery =>
    intro s o p takes port
    exact query_tells takes rfl (session_formed port) rfl rfl
  case idQuery =>
    intro s o takes
    exact query_tells takes rfl rfl rfl rfl
  case timeQuery =>
    intro s o takes
    exact query_tells takes rfl rfl rfl rfl
  case regField =>
    intro s o x r i j f u takes settled asks target permitted
    rw [exec_regQuery takes settled]
    simp only [regAnswer, target, if_true]
    exact query_told asks rfl rfl permitted rfl
  case regWords =>
    intro s o x r i j n u takes settled asks target inRange permitted
    rw [exec_regQuery takes settled]
    simp only [regAnswer, target]
    obtain ⟨low, high, inBlocks⟩ := inRange
    refine query_told asks rfl ?_ ?_ rfl
    · rw [if_neg (by omega), if_neg (by omega)]
    · rw [min_eq_left high]
      exact permitted
  case wsnQuery =>
    intro s o src takes used permitted
    exact query_tells takes rfl (if_pos used) permitted rfl
  case outcomeQuery =>
    intro s o x src ser n takes inRange used permitted
    refine query_tells takes rfl ?_ permitted rfl
    rw [if_neg (by omega), if_pos used]
  case jrnQuery =>
    intro s o takes permitted
    exact query_tells takes rfl rfl permitted rfl
  case jrnSourcesQuery =>
    intro s o takes permitted
    exact query_tells takes rfl rfl permitted rfl
  case policyQuery =>
    intro s o t i j takes formed permitted
    exact query_tells takes rfl formed permitted rfl
  case ringOne =>
    intro s o r takes permitted
    exact query_tells takes rfl rfl permitted rfl
  case ringAll =>
    intro s o takes permitted
    exact query_tells takes rfl rfl permitted rfl
  case eventQuery =>
    intro s o c frm n takes inRange
    obtain ⟨low, high, named⟩ := inRange
    refine query_tells takes rfl (if_neg ?_) rfl rfl
    simp only [Bool.or_eq_true, decide_eq_true_eq, beq_iff_eq, named, or_false]
    omega

end Sys2Proof.Machine
end

section
/-! SUPPORT. Queries of programs, motion, servo, decimals, cores and regions: O37. -/
namespace Sys2Proof.Machine
open Sys2Proof

/-- An axis number below 12 is well formed. -/
theorem axisPre_fin (a : Fin 12) : axisPre a = none := if_pos (Nat.le_of_lt_succ a.isLt)

/-- Settles O37: every query here is a `State.ask`, whose local checks and permission are the premises (the
model's choices: log entries 15, 22 and 46). -/
theorem processQueriesAnswer : Obligations.ProcessQueriesAnswer := by
  refine ⟨?progs, ?progBlocks, ?tapeQuery, ?ovrQuery, ?limitAxis, ?limitStation, ?stateQuery, ?servoQuery, ?compQuery,
    ?calcQuery, ?decQuery, ?coreOne, ?coreAll, ?regionOne, ?regionAll⟩
  case progs =>
    intro s o frm n takes permitted
    exact query_tells takes rfl rfl permitted rfl
  case progBlocks =>
    intro s o p f n g takes permitted formed inRange found stored fromBlock
    refine query_tells takes rfl ?_ permitted ?_
    · simp only [formed, Option.getD_some, Option.none_or, if_pos inRange]
    · simp only [found, stored, Option.isSome_none, Option.getD_some, Bool.false_eq_true, if_false,
        Nat.not_lt.mpr fromBlock]
  case tapeQuery =>
    intro s o takes permitted
    exact query_tells takes rfl rfl permitted rfl
  case ovrQuery =>
    intro s o k takes formed permitted
    exact query_tells takes rfl formed permitted rfl
  case limitAxis =>
    intro s o a k takes permitted hasStation
    exact query_tells takes rfl (axisPre_fin a) permitted (by simp only [hasStation])
  case limitStation =>
    intro s o k takes formed permitted
    have number : k.val % 4 = k.val := Nat.mod_eq_of_lt k.isLt
    show execLimitQuery o false k s = _
    simp only [execLimitQuery, number, k.isLt, Fin.eta, Bool.false_eq_true, if_true, if_false]
    exact query_tells takes rfl formed permitted rfl
  case stateQuery =>
    intro s o k takes formed permitted
    exact query_tells takes rfl formed permitted rfl
  case servoQuery =>
    intro s o a k takes permitted hasStation
    exact query_tells takes rfl (axisPre_fin a) permitted (by simp only [a.isLt, hasStation, dite_true])
  case compQuery =>
    intro s o a frm n takes inRange permitted hasStation
    refine query_tells takes rfl ?_ permitted ?_
    · rw [axisPre_fin, if_pos inRange]; rfl
    · simp only [hasStation, Bool.false_eq_true, if_false]
  case calcQuery =>
    intro s o x rm deg l takes reads mode
    refine query_told takes rfl ?_ rfl ?_
    · simp only [reads, mode, if_true]
    · simp only [reads] <;> rfl
  case decQuery =>
    intro s o takes permitted
    exact query_tells takes rfl rfl permitted rfl
  case coreOne =>
    intro s o c takes formed permitted
    exact query_told takes rfl formed permitted rfl
  case coreAll =>
    intro s o takes permitted
    exact query_told takes rfl rfl permitted rfl
  case regionOne =>
    intro s o r takes permitted
    exact query_tells takes rfl rfl permitted rfl
  case regionAll =>
    intro s o takes permitted
    exact query_tells takes rfl rfl permitted rfl

end Sys2Proof.Machine
end

section
/-! SUPPORT. Queries of the other units: O38. -/
namespace Sys2Proof.Machine
open Sys2Proof

/-- Settles O38: every query but `PEER?` is a `State.ask`, whose local checks and permission are the
premises; `PEER?` makes the same tests and then sends its line (the model's choices: log entries 24, 26, 27,
38 and 43). -/
theorem unitQueriesAnswer : Obligations.UnitQueriesAnswer := by
  refine ⟨?xptOne, ?xptAll, ?adcOne, ?adcAll, ?filterQuery, ?dacOne, ?dacAll, ?excOne, ?excAll, ?panelQueue, ?panelAll,
    ?fioPins, ?fioAin, ?fioGroup, ?linkQuery, ?linkTxnQuery, ?flashBanks, ?flashSector, ?imageQuery, ?imageCheck,
    ?pwrQuery, ?traceRead, ?snapOld, ?snapNew, ?obsEngQuery, ?obsRsvopQuery, ?obsProbeQuery, ?obsWatchQuery, ?traceQuery,
    ?skimOne, ?skimAll, ?peerQuery⟩
  case xptOne =>
    intro s o k takes permitted
    exact query_tells takes rfl rfl permitted rfl
  case xptAll =>
    intro s o takes permitted
    exact query_tells takes rfl rfl permitted rfl
  case adcOne =>
    intro s o c takes permitted
    exact query_tells takes rfl rfl permitted rfl
  case adcAll =>
    intro s o takes permitted
    exact query_tells takes rfl rfl permitted rfl
  case filterQuery =>
    intro s o n takes permitted
    exact query_tells takes rfl rfl permitted rfl
  case dacOne =>
    intro s o n takes permitted
    exact query_tells takes rfl rfl permitted rfl
  case dacAll =>
    intro s o takes permitted
    exact query_tells takes rfl rfl permitted rfl
  case excOne =>
    intro s o x takes permitted
    exact query_tells takes rfl rfl permitted rfl
  case excAll =>
    intro s o takes permitted
    exact query_tells takes rfl rfl permitted rfl
  case panelQueue =>
    intro s o takes permitted
    exact query_told takes rfl rfl permitted rfl
  case panelAll =>
    intro s o takes permitted
    exact query_told takes rfl rfl permitted rfl
  case fioPins =>
    intro s o n m takes inRange permitted
    refine query_tells takes rfl ?_ permitted rfl
    rw [if_neg (by omega), if_neg (by omega)]
  case fioAin =>
    intro s o i takes inRange permitted
    exact query_tells takes rfl (if_pos inRange) permitted rfl
  case fioGroup =>
    intro s o x takes inRange permitted
    exact query_tells takes rfl (if_pos inRange) permitted rfl
  case linkQuery =>
    intro s o takes permitted
    exact query_tells takes rfl rfl permitted rfl
  case linkTxnQuery =>
    intro s o x src i d takes formed permitted found devices
    exact query_tells takes rfl formed permitted (by simp only [found, devices])
  case flashBanks =>
    intro s o takes permitted
    exact query_told takes rfl rfl permitted rfl
  case flashSector =>
    intro s o n takes permitted inRange
    exact query_told takes rfl rfl permitted (if_neg (Nat.not_le.mpr inRange))
  case imageQuery =>
    intro s o takes permitted
    exact query_tells takes rfl rfl permitted rfl
  case imageCheck =>
    intro s o src ext takes permitted
    exact query_tells takes rfl rfl permitted rfl
  case pwrQuery =>
    intro s o takes permitted
    exact query_tells takes rfl rfl permitted rfl
  case traceRead =>
    intro s o n takes inRange permitted noErr
    exact query_told takes rfl (if_pos inRange) permitted (by simp only [noErr])
  case snapOld =>
    intro s o l takes permitted noErr taken
    exact query_told takes rfl rfl permitted (by simp only [noErr, taken, Bool.false_eq_true, if_false])
  case snapNew =>
    intro s o l takes permitted noErr taken
    exact query_told takes rfl rfl permitted (by simp only [noErr, taken, if_true])
  case obsEngQuery =>
    intro s o takes permitted noErr
    refine query_observes takes rfl rfl permitted noErr ?_
    simp only [Bool.and_true, Bool.false_eq_true, if_false]
    exact List.flatMap_pure_eq_map _ _
  case obsRsvopQuery =>
    intro s o takes permitted noErr
    exact query_observes takes rfl rfl permitted noErr rfl
  case obsProbeQuery =>
    intro s o n takes permitted noErr inRange
    refine query_observes takes rfl ?_ permitted noErr rfl
    simp only [List.all_cons, List.all_nil, inRange, decide_true, Bool.and_self, if_true]
  case obsWatchQuery =>
    intro s o n takes permitted noErr inRange
    refine query_observes takes rfl ?_ permitted noErr rfl
    simp only [List.all_cons, List.all_nil, inRange, decide_true, Bool.and_self, if_true]
  case traceQuery =>
    intro s o takes permitted noErr
    exact query_observes takes rfl rfl permitted noErr rfl
  case skimOne =>
    intro s o k takes inRange permitted noErr
    exact query_observes takes rfl (if_pos inRange) permitted noErr rfl
  case skimAll =>
    intro s o takes permitted noErr
    exact query_observes takes rfl rfl permitted noErr rfl
  case peerQuery =>
    intro s o d x takes formed permitted present
    obtain ⟨answering, noRescue, accepting⟩ := takes
    show execPeerQuery o d x s = _
    simp only [execPeerQuery, answering, noRescue, accepting, formed, permitted, present, Bool.not_true,
      Bool.false_eq_true, if_false]

end Sys2Proof.Machine
end

section
/-! SUPPORT. Characters, lines and port events: O39. -/
namespace Sys2Proof.Machine
open Sys2Proof

/-- Settles O39: each event takes the branch that its premises name (the model's choices: log entries 40, 42
and 53). -/
theorem serialEventsComplete : Obligations.SerialEventsComplete := by
  refine ⟨?lineFeedAfterCr, ?lineEmpty, ?lineFramed, ?typedCharacter, ?framedCharacter, ?backspaceChar,
    ?backspaceExcess, ?typedLineKill, ?historyPrevious, ?historyNextEmpty, ?historyNext, ?xoffReceived,
    ?xonReceived, ?breakReceived, ?asyncLineSend, ?eventResend, ?serSettingsApply, ?serEnableClear,
    ?transmitComplete, ?authLockoutEnd, ?seriesRestart⟩
  case lineFeedAfterCr =>
    intro s p isPortLive isAfterCr
    show execLineTerminated p true s = _
    simp only [execLineTerminated, isPortLive, isAfterCr, Bool.false_eq_true, Bool.not_true, if_false]
    rfl
  case lineEmpty =>
    intro s p lf isPortLive notLf lineEq charErrEq
    show execLineTerminated p lf s = _
    simp only [execLineTerminated, isPortLive, notLf, lineEq, charErrEq, Bool.false_eq_true, Bool.not_true,
      if_false]
    rfl
  case lineFramed =>
    intro s p lf l isPortLive notLf lineEq notOverrun notRingHeld
    have framed : isFramed (0x23 :: l) = true := rfl
    show execLineTerminated p lf s = _
    simp only [execLineTerminated, isPortLive, notLf, framed, notOverrun, notRingHeld, lineEq, List.isEmpty_cons,
      Bool.false_and, Bool.false_eq_true, Bool.not_true, if_false]
  case typedCharacter =>
    intro s p ch bad
    rfl
  case framedCharacter =>
    intro s p ch bad
    rfl
  case backspaceChar =>
    intro s p isEditing excessEq notLineIsEmpty
    show execTypedBackspace p s = _
    simp only [execTypedBackspace, isEditing, excessEq, notLineIsEmpty, Bool.false_eq_true, Bool.not_true, if_false]
    rfl
  case backspaceExcess =>
    intro s p isEditing ltExcess
    show execTypedBackspace p s = _
    simp only [execTypedBackspace, isEditing, ltExcess, Bool.false_eq_true, Bool.not_true, if_true, if_false]
  case typedLineKill =>
    intro s p isEditing
    show execTypedLineKill p s = _
    simp only [execTypedLineKill, isEditing, Bool.false_eq_true, Bool.not_true, if_false]
  case historyPrevious =>
    intro s p l isEditing hasRecalled
    show execHistoryPrevious p s = _
    simp only [execHistoryPrevious, isEditing, hasRecalled, Bool.false_eq_true, Bool.not_true, if_false]
  case historyNextEmpty =>
    intro s p isEditing recalledEq
    show execHistoryNext p s = _
    simp only [execHistoryNext, isEditing, recalledEq, Bool.not_true, if_true]
    rfl
  case historyNext =>
    intro s p n isEditing recalledEq
    show execHistoryNext p s = _
    simp only [execHistoryNext, isEditing, recalledEq, Bool.not_true]
    rfl
  case xoffReceived =>
    intro s p isPortLive portFlowNe
    show execXoffReceived p s = _
    simp [execXoffReceived, isPortLive, portFlowNe]
  case xonReceived =>
    intro s p isPortLive portFlowNe
    show execXonReceived p s = _
    simp [execXonReceived, isPortLive, portFlowNe]
  case breakReceived =>
    intro s p isPortLive
    show execBreakReceived p s = _
    simp only [execBreakReceived, isPortLive, if_true]
  case asyncLineSend =>
    intro s p c r isAsyncOpen notRingHeld notClassNo hasDueRec
    show execAsyncLineSend p c s = _
    simp only [execAsyncLineSend, isAsyncOpen, notRingHeld, notClassNo, hasDueRec, Bool.not_true, if_false]
    rfl
  case eventResend =>
    intro s p c seq r e found sent isAsyncOpen notRingHeld due repNe isSelects
    have due' : (if (!r.ovf) = true ∧ r.w ≠ 0 ∧ e.at_ < r.t + r.w * msCounts ∧ e.rep < r.wrep then
        decide (r.t + r.w * msCounts ≤ s.clk.now) else decide (e.at_ + 100 * msCounts ≤ s.clk.now)) = true := by
      simpa using due
    have repNe' : (r.rep != e.rep) = true := bne_iff_ne.mpr repNe
    show execEventResend p c seq s = _
    simp only [execEventResend, found, sent, isAsyncOpen, notRingHeld, due', repNe', isSelects, Bool.and_self,
      Bool.not_false, if_true]
  case serSettingsApply =>
    intro s p changed isOwnSent atBoundary
    refine if_neg ?_
    have settled : ((s.port[p]).farChange && !s.atBoundary p) = false := by
      cases far : (s.port[p]).farChange
      · rfl
      · rw [atBoundary far]; rfl
    simp only [decide_eq_false changed, isOwnSent, settled, Bool.not_true, Bool.or_self, Bool.false_eq_true,
      not_false_eq_true]
  case serEnableClear =>
    intro s p isOn notEnable isOwnSent
    show execSerEnableClear p s = _
    simp only [execSerEnableClear, isOn, notEnable, isOwnSent, Bool.not_false]
    rfl
  case transmitComplete =>
    intro s p l r rspEq isPortLive notTxstop
    show execTransmitComplete p s = _
    simp only [execTransmitComplete, rspEq, isPortLive, notTxstop, Bool.not_true]
    rfl
  case authLockoutEnd =>
    intro s p notAuthLocked
    show execAuthLockoutEnd p s = _
    simp only [execAuthLockoutEnd, notAuthLocked, Bool.false_eq_true, if_false]
  case seriesRestart =>
    intro s o hTakes notSessionPort judgeEq isSeriesClosed notCommitFull
    show execSeriesRestart o s = _
    simp only [execSeriesRestart, hTakes, notSessionPort, judgeEq, isSeriesClosed, notCommitFull,
      Bool.false_eq_true, Bool.not_true, if_false]

end Sys2Proof.Machine
end

section
/-! SUPPORT. Reference, lattice, trip input and reset events: O41. -/
namespace Sys2Proof.Machine
open Sys2Proof

/-- Settles O41: each event takes the branch that its premises name (the model's choices: log entries 2 and
50). -/
theorem tickEventsComplete : Obligations.TickEventsComplete := by
  refine ⟨?refLost, ?refReturn, ?latticeTickCommitted, ?latticeTickUncommitted, ?latticeOverrun,
    ?latticeOverrunTrip, ?slackWindowEnd, ?vcoreHoldEnd, ?rateChangeEffect, ?tripInputAsserted, ?tripInputCleared,
    ?tripCmp, ?resetCommandBegin⟩
  case refLost =>
    intro s isTicking
    show execRefLost s = _
    simp only [execRefLost, isTicking, Bool.false_eq_true, Bool.not_true, if_false]
  case refReturn =>
    intro s n notRefok isTaken phaseEq
    show execRefReturn n s = _
    simp only [execRefReturn, notRefok, isTaken, phaseEq, Bool.or_self, Bool.false_eq_true, Bool.not_true, if_false]
  case latticeTickCommitted =>
    intro s x isTicking u isCommitted
    show execLatticeTick x s = _
    refine congrArg Host.Outcome.next ?_
    rw [if_neg (by rw [isTicking]; decide)]
    exact congrArg (fun v : State => v.obsTick (s.nextTick - s.clk.now) x) (if_pos isCommitted)
  case latticeTickUncommitted =>
    intro s x isTicking u notCommitted
    show execLatticeTick x s = _
    refine congrArg Host.Outcome.next ?_
    rw [if_neg (by rw [isTicking]; decide)]
    exact congrArg (fun v : State => v.obsTick (s.nextTick - s.clk.now) x) (if_neg (by rw [notCommitted]; decide))
  case latticeOverrun =>
    intro s k leConsec notSuspended
    show execLatticeOverrun k s = _
    simp only [execLatticeOverrun, leConsec, notSuspended, and_self, Bool.not_false, if_true]
  case latticeOverrunTrip =>
    intro s k leConsec notContains
    show execLatticeOverrunTrip k s = _
    simp only [execLatticeOverrunTrip, leConsec, notContains, Bool.not_false]
    rfl
  case slackWindowEnd =>
    intro s isTicking isBegun notKnown winTicksEq noneLate
    show execSlackWindowEnd s = _
    simp only [execSlackWindowEnd, isTicking, isBegun, notKnown, winTicksEq, noneLate, Bool.and_self,
      beq_self_eq_true, Bool.not_false, if_true]
  case vcoreHoldEnd =>
    intro s holdLeftEq
    show execVcoreHoldEnd s = _
    simp only [execVcoreHoldEnd, holdLeftEq, if_true]
  case rateChangeEffect =>
    intro s isPend nowEq rateAtLe
    show execRateChangeEffect s = _
    simp only [execRateChangeEffect, isPend, nowEq, rateAtLe, Bool.and_self, beq_self_eq_true, decide_true, if_true]
  case tripInputAsserted =>
    intro s notTripIn
    show execTripInputAsserted s = _
    simp only [execTripInputAsserted, notTripIn, Bool.false_eq_true, if_false]
  case tripInputCleared =>
    intro s
    rfl
  case tripCmp =>
    intro s n isTrip modeEq notFrozen
    show execTripCmp n s = _
    simp only [execTripCmp, isTrip, modeEq, notFrozen, Bool.and_self, beq_self_eq_true, Bool.not_false, if_true]
  case resetCommandBegin =>
    intro s k kind hasResetReq phaseEq isStatusSent
    show execResetCommandBegin s = _
    simp only [execResetCommandBegin, hasResetReq, phaseEq, isStatusSent, Bool.and_self, beq_self_eq_true, if_true]

end Sys2Proof.Machine
end

section
/-! SUPPORT. Tape, block conversion, extension and handshake events: O42. -/
namespace Sys2Proof.Machine
open Sys2Proof

/-- A tape block that is admitted leaves the buffer and is taken. -/
theorem exec_tapeBlockAccept {s : State} {q : Key} {b rest : List Byte} (item : s.tape.item = some q)
    (first : firstBlock s.tape.buf = some (b, rest)) (want : s.tape.want = true)
    (admits : s.tapeAdmits (bytesText b) = true) :
    exec .tapeBlockAccept s =
      .next ((({ s with tape := { s.tape with buf := rest } } : State).tapeBlocked false).tapeTake b) := by
  show execTapeBlockAccept s = _
  simp only [execTapeBlockAccept, item, first, want, admits, Bool.not_true, Bool.false_eq_true, if_false]

section
variable {s : State} {b : List Byte} (notPercent : isPercent b = false) (started : s.tape.started = true)
  (notSeek : s.tape.seek = false) (noErr : blockErr (bytesText b) = none)
  (goesOn : s.tapeTextEnds (bytesText b) = false)
include notPercent started notSeek noErr goesOn

/-- A block of a TAPE RUN that does not end the tape goes to its station. -/
theorem tapeTake_to_stn {k : Fin 4} (toStn : s.tape.toStn = some k) :
    s.tapeTake b = s.tapeToStn k (bytesText b) := by
  simp only [State.tapeTake, notPercent, started, notSeek, noErr, goesOn, toStn, Bool.not_true, Bool.false_and,
    Bool.false_eq_true, if_false]

/-- One of a TAPE READ goes to its program. -/
theorem tapeTake_to_prog {p : Nat} (noStn : s.tape.toStn = none) (toProg : s.tape.toProg = some p) :
    s.tapeTake b = s.tapeToProg p (bytesText b) := by
  simp only [State.tapeTake, notPercent, started, notSeek, noErr, goesOn, noStn, toProg, Bool.not_true,
    Bool.false_and, Bool.false_eq_true, if_false]

end

/-- Settles O42: each event takes the branch that its premises name; an accepted tape block goes where the
tape reads to (the model's choices: log entries 56 and 63). -/
theorem programEventsComplete : Obligations.ProgramEventsComplete := by
  refine ⟨?tapeCharacterRunout, ?tapeCharacterText, ?tapeCharacterOverrun, ?tapePercent, ?tapeBlockToProgram,
    ?tapeBlockToStation, ?blockConvertEnd, ?blockConvertBlock, ?xctlDenied, ?xctlTaken, ?xctlEndRun, ?xctlEndTape,
    ?xctlRejectRun, ?xctlRejectTape, ?extTimeout, ?mfinLate⟩
  case tapeCharacterRunout =>
    intro s c isEnable detEq codeEq cEq
    show execTapeCharacter c s = _
    simp only [execTapeCharacter, isEnable, detEq, codeEq, cEq, ne_eq, not_true_eq_false, Bool.false_eq_true,
      Bool.not_true, if_true, if_false]
  case tapeCharacterText =>
    intro s c x isEnable detNe notDrop bufLengthLt readTapeEq
    show execTapeCharacter c s = _
    simp [execTapeCharacter, isEnable, detNe, notDrop, readTapeEq, not_le.mpr bufLengthLt]
  case tapeCharacterOverrun =>
    intro s c isEnable detNe notDrop leLength
    show execTapeCharacter c s = _
    simp [execTapeCharacter, isEnable, detNe, notDrop, leLength]
  case tapePercent =>
    intro s q b rest item first want admits notStarted percent
    rw [exec_tapeBlockAccept item first want admits]
    have unchanged :
        (({ s with tape := { s.tape with buf := rest } } : State).tapeBlocked false).tape.started = false :=
      notStarted
    simp only [State.tapeTake, percent, unchanged, Bool.false_eq_true, if_true, if_false]
  case tapeBlockToProgram =>
    intro s q b rest p item first want admits notPercent started notSeek noErr noStn toProg t goesOn o key appends
    rw [exec_tapeBlockAccept item first want admits,
      tapeTake_to_prog (s := t) notPercent started notSeek noErr goesOn noStn toProg]
    simp only [State.tapeToProg, appends, Option.getD_none]
    rfl
  case tapeBlockToStation =>
    intro s q b rest k r c m item first want admits notPercent started notSeek noErr toStn reader t goesOn o key
      converts hasBlock notExt
    rw [exec_tapeBlockAccept item first want admits,
      tapeTake_to_stn (s := t) notPercent started notSeek noErr goesOn toStn]
    have reader' : (t.mot[k]).reader = some r := reader
    have converts' : t.tapeConv k r.modal (t.candKey t.tapeOrigin) (t.tape.count + 1) (bytesText b) = .ok c := converts
    simp only [State.tapeToStn, reader', converts', hasBlock, notExt, Bool.false_eq_true, if_false]
    rfl
  case blockConvertEnd =>
    intro s k r hasReader kindEq notEnded noExt found hasNextText
    show execBlockConvert k s = _
    simp only [execBlockConvert, hasReader, kindEq, notEnded, noExt, found, hasNextText, Bool.false_eq_true]
    rfl
  case blockConvertBlock =>
    intro s k r x b c hasReader kindEq notEnded noExt found hasNextText notSkipped hasParseBlock notIsExtension
      hasConvert notBlockWaits
    show execBlockConvert k s = _
    simp only [execBlockConvert, hasReader, kindEq, notEnded, noExt, found, hasNextText, notSkipped, hasParseBlock,
      notIsExtension, hasConvert, notBlockWaits, Bool.false_eq_true, if_false]
    rfl
  case xctlDenied =>
    intro s c k notXctlAllowed
    show execXctlSubmit c k s = _
    simp only [execXctlSubmit, notXctlAllowed, Bool.not_false, if_true]
  case xctlTaken =>
    intro s c k r e cv isXctlAllowed hasReader hasExt key judgeCoreEq notEnded isAccepting notCommitFull
      hasReplaceErr notBlockWaits
    show execXctlSubmit c k s = _
    have next : judgeCore (s.srcNo (.core c)) (s.lastOf (s.srcNo (.core c)))
        ⟨(s.srcNo (.core c)).val, (s.core[c]).ser, s.fld .MOT_XWSN_WSN k⟩ = .next := judgeCoreEq
    have converts : s.replaceErr k r e (s.slotText k)
        ⟨(s.srcNo (.core c)).val, (s.core[c]).ser, s.fld .MOT_XWSN_WSN k⟩ = .ok cv := hasReplaceErr
    simp only [execXctlSubmit, isXctlAllowed, hasReader, hasExt, next, converts, notEnded, isAccepting,
      notCommitFull, notBlockWaits, ne_eq, not_true_eq_false, false_and, or_self, Bool.not_true,
      Bool.false_eq_true, if_false]
    rfl
  case xctlEndRun =>
    intro s c k r e isXctlAllowed hasReader hasExt kindNe
    show execXctlEnd c k s = _
    simp only [execXctlEnd, isXctlAllowed, hasReader, hasExt, kindNe, Bool.false_eq_true, Bool.not_true, if_false]
    rfl
  case xctlEndTape =>
    intro s c k r e isXctlAllowed hasReader hasExt kindEq isEnded
    show execXctlEnd c k s = _
    simp only [execXctlEnd, isXctlAllowed, hasReader, hasExt, kindEq, isEnded, Bool.false_eq_true, Bool.not_true,
      if_false]
    rfl
  case xctlRejectRun =>
    intro s c k x r e isXctlAllowed hasReader hasExt kindNe
    show execXctlReject c k x s = _
    simp only [execXctlReject, isXctlAllowed, hasReader, hasExt, kindNe, Bool.false_eq_true, Bool.not_true,
      if_false]
  case xctlRejectTape =>
    intro s c k x r e isXctlAllowed hasReader hasExt kindEq
    show execXctlReject c k x s = _
    simp only [execXctlReject, isXctlAllowed, hasReader, hasExt, kindEq, Bool.false_eq_true, Bool.not_true,
      if_true, if_false]
  case extTimeout =>
    intro s k e hasBind xtmoNe isAsked sinceLe
    show execExtTimeout k s = _
    simp only [execExtTimeout, hasBind, xtmoNe, isAsked, not_lt.mpr sinceLe, or_self, Bool.false_eq_true,
      Bool.not_true, if_false]
  case mfinLate =>
    intro s k h hasHand stepEq notLate mftNe atLe
    show execMfinLate k s = _
    simp only [execMfinLate, hasHand, stepEq, notLate, mftNe, not_lt.mpr atLe, ne_eq, not_true_eq_false, or_self,
      Bool.false_eq_true, if_false]

end Sys2Proof.Machine
end

section
/-! SUPPORT. Motion, encoder and feedback events: O43. -/
namespace Sys2Proof.Machine
open Sys2Proof

/-- Settles O43: each event takes the branch that its premises name (the model's choices: log entries 57 and
59). -/
theorem motionEventsComplete : Obligations.MotionEventsComplete := by
  refine ⟨?brakingComplete, ?motionEnableDelayEnd, ?motionEnableDelayEndResume, ?approachComplete, ?dwellEnd,
    ?spindleAtSpeed, ?spindleAtSpeedResume, ?followingError, ?handwheelDetent, ?encoderOff, ?encoderOffIllegal,
    ?encoderLineBreak, ?encoderIndexCapture, ?outputSat, ?resAmpl, ?tachMismatch, ?feedbackLoss⟩
  case brakingComplete =>
    intro s k b braking isBraking begun stands jogs interrupted held stopped t noResume
    show execBrakingComplete k s = _
    have interrupted' : (forAll (s.axesOf k) s fun s a => s.setAxis a AxisSt.jogInterrupted).interrupted k = true :=
      interrupted
    simp only [execBrakingComplete, braking, isBraking, begun, stands, interrupted', Bool.not_true, Bool.or_self,
      Bool.false_eq_true, if_true, if_false]
    split
    · next r resumes => exact nomatch noResume.symm.trans resumes
    · rfl
  case motionEnableDelayEnd =>
    intro s k isDelay onAtLe noResume
    show execMotionEnableDelayEnd k s = _
    simp [-Fin.getElem_fin, execMotionEnableDelayEnd, isDelay, noResume, not_lt.mpr onAtLe]
  case motionEnableDelayEndResume =>
    intro s k r isDelay onAtLe hasResume stageEq
    show execMotionEnableDelayEnd k s = _
    simp [-Fin.getElem_fin, execMotionEnableDelayEnd, isDelay, hasResume, stageEq, not_lt.mpr onAtLe]
  case approachComplete =>
    intro s k r p hasResume hasApp stageEq stnStateEq approachGeoLe isStandsStill
    show execApproachComplete k s = _
    simp only [execApproachComplete, hasResume, hasApp, stageEq, stnStateEq, isStandsStill,
      not_lt.mpr approachGeoLe, ne_eq, not_true_eq_false, or_self, Bool.false_eq_true, Bool.not_true, if_false]
  case dwellEnd =>
    intro s k b l winEq motionEq stageEq dwellEq stnStateEq
    show execDwellEnd k s = _
    simp only [execDwellEnd, winEq, motionEq, stageEq, dwellEq, stnStateEq]
    rfl
  case spindleAtSpeed =>
    intro s k isAtSpeed noResume
    show execSpindleAtSpeed k s = _
    simp [-Fin.getElem_fin, execSpindleAtSpeed, isAtSpeed, noResume]
  case spindleAtSpeedResume =>
    intro s k r isAtSpeed hasResume stageEq
    show execSpindleAtSpeed k s = _
    simp [-Fin.getElem_fin, execSpindleAtSpeed, isAtSpeed, hasResume, stageEq]
  case followingError =>
    intro s a k hasAxisStation leFeTicks isDrvon stnStateNe
    show execFollowingError a s = _
    simp only [execFollowingError, hasAxisStation, isDrvon, stnStateNe, not_lt.mpr leFeTicks, or_self,
      Bool.false_eq_true, Bool.not_true, if_false]
  case handwheelDetent =>
    intro s n d oneStep
    exact if_neg (by omega)
  case encoderOff =>
    intro s n c polEq notIllegal
    show execEncoderCondition n c s = _
    simp only [execEncoderCondition, polEq, notIllegal, Bool.not_false, if_true]
  case encoderOffIllegal =>
    intro s n c polEq isIllegal
    show execEncoderCondition n c s = _
    simp only [execEncoderCondition, polEq, isIllegal, Bool.false_eq_true, Bool.not_true, if_true, if_false]
  case encoderLineBreak =>
    intro s n c polNe notZen lbEq lbValNe notAmpl notIllegal
    have small : ¬ 4 ≤ c.lb.val % 4 := Nat.not_le.mpr (Nat.mod_lt _ (by decide))
    show execEncoderCondition n c s = _
    simp [execEncoderCondition, polNe, notZen, lbEq, lbValNe, notAmpl, notIllegal, small]
  case encoderIndexCapture =>
    intro s n v isZen isZarm notZRefused
    show execEncoderIndexCapture n v s = _
    simp only [execEncoderIndexCapture, isZen, isZarm, notZRefused, Bool.and_self, Bool.not_false, if_true]
  case outputSat =>
    intro s a satTicksEq
    show execOutputSat a s = _
    simp only [execOutputSat, satTicksEq, if_true]
  case resAmpl =>
    intro s a amplTicksEq
    show execResAmpl a s = _
    simp only [execResAmpl, amplTicksEq, if_true]
  case tachMismatch =>
    intro s a k hasAxisStation tachTicksEq
    show execTachMismatch a s = _
    simp only [execTachMismatch, hasAxisStation, tachTicksEq, if_true]
  case feedbackLoss =>
    intro s a k hasAxisStation isLoss lossLeftEq notAxisStands stnStateNe
    show execFeedbackLoss a s = _
    simp only [execFeedbackLoss, hasAxisStation, isLoss, lossLeftEq, notAxisStands, stnStateNe, ne_eq,
      not_false_eq_true, and_self, Bool.not_false, if_true]

end Sys2Proof.Machine
end

section
/-! SUPPORT. Decimal requests, issue, results and calculator events: O44. -/
namespace Sys2Proof.Machine
open Sys2Proof

/-- Settles O44: each event takes the branch that its premises name (the model's choices: log entry 23). -/
theorem decimalEventsComplete : Obligations.DecimalEventsComplete := by
  refine ⟨?decRequest, ?decIssue, ?decResult, ?calcComputationDone, ?calcKey, ?calcAutooff⟩
  case decRequest =>
    intro s r reqLt notDecStalls
    show execDecRequest r s = _
    simp only [execDecRequest, notDecStalls, not_le.mpr reqLt, or_self, Bool.false_eq_true, if_false]
  case decIssue =>
    intro s r noBusy hasDecNext
    show execDecIssue s = _
    simp only [execDecIssue, noBusy, hasDecNext]
  case decResult =>
    intro s r x busy out notCore toRegister t allowed
    dsimp only [t] at allowed
    show execDecResult 0 s = _
    simp only [execDecResult, busy, out, notCore, toRegister, allowed, Bool.not_false, Bool.and_self, if_true,
      dite_false, Fin.reduceEq, if_false]
    rfl
  case calcComputationDone =>
    intro s j hasJob goalEq
    show execCalcComputationDone s = _
    simp only [execCalcComputationDone, hasJob, goalEq]
  case calcKey =>
    intro s k n owns t digit isDigit noJob noAwait
    dsimp only [t] at digit noJob noAwait
    show execCalcKey k s = _
    simp only [execCalcKey, owns, digit, noJob, noAwait, isDigit, Option.isSome_none, dite_true, Bool.not_true,
      Bool.false_eq_true, if_false]
    rfl
  case calcAutooff =>
    intro s phaseEq isCalcOwns autooffNe keyAtLe
    show execCalcAutooff s = _
    simp only [execCalcAutooff, phaseEq, isCalcOwns, autooffNe, keyAtLe, ne_eq, not_false_eq_true, and_self,
      if_true]

end Sys2Proof.Machine
end

section
/-! SUPPORT. The decimal operations: O45. -/
namespace Sys2Proof.Machine
open Sys2Proof

/-- A request in operation whose registers are its requester's has its result computed by the row of its
code. -/
theorem decRun_result {s : State} {r : DecReq} {p : Nat → Bool} (busy : s.dec.busy = some r)
    (noOut : s.dec.out = none) (allowed : s.decDenied r = false) (code : p r.op = true) :
    s.decRun p =
      (let opnd (src : Bool) (n v : Nat) : Nat := if src then s.decReg n else v
       let v := decOp r.op r.rm r.deg (opnd r.asrc r.areg r.a) (opnd r.bsrc r.breg r.b) (opnd r.csrc r.creg r.c)
       { s with dec := { s.dec with out := some ⟨v.1, r.tag, v.2⟩ } }) := by
  simp only [State.decRun, busy, noOut, allowed, code, Bool.not_true, Bool.false_eq_true, if_false]

/-- Settles O45: each row runs the request in operation whose code is its own (`decRun_result`) (the model's
choice: log entry 22). -/
theorem decimalOperationsComplete : Obligations.DecimalOperationsComplete := by
  intro s r busy noOut allowed opnd v t
  have answers (p : Nat → Bool) (code : p r.op = true) :
      (.next (s.decRun p) : Host.Outcome State Fault Refusal) = .next t :=
    congrArg _ (decRun_result busy noOut allowed code)
  refine ⟨?decLoad, ?decAdd, ?decSub, ?decMul, ?decDiv, ?decSqrt, ?decFma, ?decQuant, ?decRint, ?decCmp, ?decToint,
    ?decFromint, ?decSin, ?decCos, ?decTan, ?decAtan, ?decAtan2, ?decExp, ?decLn, ?decLog10, ?decPow, ?decInvalidOp⟩
  all_goals
    intro code
    exact answers _ (by rw [code]; rfl)

end Sys2Proof.Machine
end

section
/-! SUPPORT. Core supervision, interrupt entry and arrivals: O46. -/
namespace Sys2Proof.Machine
open Sys2Proof

/-- Settles O46: each event takes the branch that its premises name (the model's choices: log entry 30). -/
theorem coreEventsComplete : Obligations.CoreEventsComplete := by
  refine ⟨?coreFailed, ?takeoverLate, ?coreLate, ?interruptEntry, ?waitlTickRelease, ?chkptCommitted, ?dpopResult,
    ?reqAnswer, ?loadDataArrival⟩
  case coreFailed =>
    intro s c k working failed t spare other ready assigned
    dsimp only [t, failed] at spare ready assigned
    have other' : ¬ k.val = c.val := Fin.val_ne_of_ne other
    show execCoreFailed c s = _
    simp only [execCoreFailed, working, spare, other', ready, assigned, k.isLt, or_self, if_false, dite_true,
      Fin.eta]
    rfl
  case takeoverLate =>
    intro s x hasTake notLate atLe
    show execTakeoverLate s = _
    simp only [execTakeoverLate, hasTake, notLate, not_lt.mpr atLe, or_self, Bool.false_eq_true, if_false]
  case coreLate =>
    intro s c supervised counting late
    refine if_neg ?_
    rintro (off | ⟨notRun, notWait, notStall⟩ | early)
    · exact supervised off
    · rcases counting with h | h | h <;> contradiction
    · exact absurd early (Nat.not_lt.mpr late)
  case interruptEntry =>
    intro s c n level waitEq stateEq enabled noLoad
    show execInterruptEntry c s = _
    simp only [execInterruptEntry, level, waitEq, stateEq, enabled, noLoad, Bool.not_true]
    rfl
  case waitlTickRelease =>
    intro s c w l waitEq wlEq notTick notTick'
    show execWaitlTickRelease c s = _
    simp only [execWaitlTickRelease, waitEq, wlEq, notTick, notTick']
    rfl
  case chkptCommitted =>
    intro s c r waitEq liveBytesLe
    show execChkptCommitted c s = _
    simp only [execChkptCommitted, waitEq, not_lt.mpr liveBytesLe, if_false]
  case dpopResult =>
    intro s c a waitEq notMbxIsEmpty
    show execDpopResult c s = _
    simp only [execDpopResult, waitEq, notMbxIsEmpty, Bool.false_eq_true, if_false]
  case reqAnswer =>
    intro s c cls e w waitEq hasFind
    show execReqAnswer c s = _
    simp only [execReqAnswer, waitEq, hasFind]
  case loadDataArrival =>
    intro s c stateEq waitEq
    show execLoadDataArrival c s = _
    simp only [execLoadDataArrival, stateEq, waitEq]
    rfl

end Sys2Proof.Machine
end

section
/-! SUPPORT. Region, cell, calibration and converter events: O47. -/
namespace Sys2Proof.Machine
open Sys2Proof

/-- Settles O47: each event takes the branch that its premises name. -/
theorem fabricEventsComplete : Obligations.FabricEventsComplete := by
  refine ⟨?regionVerifyRetried, ?regionVerifyFailed, ?regionWritten, ?regionEpochLive, ?regionEpochTaken,
    ?cellSatKnown, ?cellSatNew, ?calibrationPassed, ?calibrationFailed, ?chainMemoryPassed, ?calDueOff, ?calDueOn,
    ?adcChannel, ?refCompare, ?firBankSwap, ?sfConversionDone⟩
  case regionVerifyRetried =>
    intro s r l hasFind stageEq
    show execRegionWriteComplete r false s = _
    simp only [execRegionWriteComplete, hasFind, stageEq, ne_eq, not_true_eq_false, Bool.false_eq_true, if_false]
  case regionVerifyFailed =>
    intro s r l hasFind stageEq
    show execRegionWriteComplete r false s = _
    simp only [execRegionWriteComplete, hasFind, stageEq, ne_eq, not_true_eq_false, Bool.false_eq_true, if_true,
      if_false]
  case regionWritten =>
    intro s r l e b hasFind stageEq hasFind'
    show execRegionWriteComplete r true s = _
    simp only [execRegionWriteComplete, hasFind, stageEq, hasFind', ne_eq, not_true_eq_false, if_true, if_false]
      <;> rfl
  case regionEpochLive =>
    intro s r l hasFind isLoadLive
    show execRegionEpoch r s = _
    simp only [execRegionEpoch, hasFind, isLoadLive, if_true]
  case regionEpochTaken =>
    intro s r l hasFind notLoadLive
    show execRegionEpoch r s = _
    simp only [execRegionEpoch, hasFind, notLoadLive, Bool.false_eq_true, if_false] <;> rfl
  case cellSatKnown =>
    intro s n b notB
    show execCellSat n b s = _
    simp only [execCellSat, notB, Bool.false_eq_true, if_false]
  case cellSatNew =>
    intro s n notSat
    show execCellSat n true s = _
    simp only [execCellSat, notSat, Bool.and_self, Bool.not_false, if_true]
  case calibrationPassed =>
    intro s c x isCalOver
    show execCalibrationDone c true x s = _
    simp only [execCalibrationDone, isCalOver, Bool.false_eq_true, Bool.not_true, if_true, if_false]
  case calibrationFailed =>
    intro s c x isCalOver
    show execCalibrationDone c false x s = _
    simp only [execCalibrationDone, isCalOver, Bool.false_eq_true, Bool.not_true, if_false]
  case chainMemoryPassed =>
    intro s n isMemoryPassed
    show execChainMemoryPassed n s = _
    simp only [execChainMemoryPassed, isMemoryPassed, if_true]
  case calDueOff =>
    intro s x off
    exact congrArg Host.Outcome.next (if_pos off)
  case calDueOn =>
    intro s x on
    exact congrArg Host.Outcome.next (if_neg on)
  case adcChannel =>
    intro s c
    rfl
  case refCompare =>
    intro s d a b polNe notFaila notFailb refAtLe natAbsLe
    show execRefCompare d a b s = _
    simp only [execRefCompare, polNe, notFaila, notFailb, not_lt.mpr refAtLe, not_lt.mpr natAbsLe, ne_eq, or_self,
      Bool.false_eq_true, if_false]
    rfl
  case firBankSwap =>
    intro s n isPend modeEq
    show execFirBankSwap n s = _
    simp only [execFirBankSwap, isPend, modeEq, Bool.and_self, beq_self_eq_true, if_true]
  case sfConversionDone =>
    intro s n v isSfOver
    show execSfConversionDone n v s = _
    simp only [execSfConversionDone, isSfOver, if_true]

end Sys2Proof.Machine
end

section
/-! SUPPORT. DAC and excitation events: O48. -/
namespace Sys2Proof.Machine
open Sys2Proof

/-- Settles O48: each event takes the branch that its premises name (the model's choices: log entry 60). -/
theorem outputEventsComplete : Obligations.OutputEventsComplete := by
  refine ⟨?spanReconfigured, ?ldacRise, ?ldacFall, ?deglitchRelease, ?dacCondition, ?dacShortRetryGone,
    ?dacShortRetryMore, ?dacShortRetryLast, ?excRampDone, ?excTableChange, ?excShortKnown, ?excShortNew, ?excOff⟩
  case spanReconfigured =>
    intro s n spanStepEq
    show execSpanReconfigured n s = _
    simp only [execSpanReconfigured, spanStepEq, if_true]
    rfl
  case ldacRise =>
    intro s
    rfl
  case ldacFall =>
    intro s
    rfl
  case deglitchRelease =>
    intro s n isDgh dgAtLe
    show execDeglitchRelease n s = _
    simp only [execDeglitchRelease, isDgh, dgAtLe]
    rfl
  case dacCondition =>
    intro s n t noAxis
    dsimp only [t] at noAxis
    show execDacCondition n false false false s = _
    simp only [execDacCondition, noAxis, Bool.false_and, Bool.false_eq_true, if_false]
    rfl
  case dacShortRetryGone =>
    intro s n isLatchoff retryLt shortAtLe
    show execDacShortRetry n false s = _
    simp [-Fin.getElem_fin, execDacShortRetry, isLatchoff, not_lt.mpr shortAtLe, not_le.mpr retryLt]
  case dacShortRetryMore =>
    intro s n isLatchoff more due
    have fewer : ¬ s.fld .DAC_STAT_RETRY n ≥ 8 := by omega
    have notLast : ¬ s.fld .DAC_STAT_RETRY n + 1 = 8 := by omega
    show execDacShortRetry n true s = _
    simp only [execDacShortRetry, isLatchoff, fewer, notLast, Nat.not_lt.mpr due, Bool.not_true,
      Bool.false_eq_true, or_self, if_false]
  case dacShortRetryLast =>
    intro s n isLatchoff retryEq shortAtLe
    show execDacShortRetry n true s = _
    simp only [execDacShortRetry, isLatchoff, retryEq, not_lt.mpr shortAtLe, or_false, false_or,
      Bool.false_eq_true, Bool.not_true, if_true, if_false]
    rfl
  case excRampDone =>
    intro s g k isExcSettled isRamping hasKey
    show execExcRampDone g s = _
    simp only [execExcRampDone, isExcSettled, isRamping, hasKey, Bool.false_eq_true, Bool.not_true]
    rfl
  case excTableChange =>
    intro s g isTpend isExcPasses
    show execExcTableChange g s = _
    simp only [execExcTableChange, isTpend, isExcPasses, Bool.or_self, Bool.false_eq_true, Bool.not_true, if_false]
  case excShortKnown =>
    intro s g b notB
    show execExcShort g b s = _
    simp only [execExcShort, notB, Bool.false_eq_true, if_false]
  case excShortNew =>
    intro s g notShort
    show execExcShort g true s = _
    simp only [execExcShort, notShort, Bool.and_self, Bool.not_false, if_true]
    rfl
  case excOff =>
    intro s g isShort shortAtLe notOff
    show execExcOff g s = _
    simp only [execExcOff, isShort, shortAtLe, notOff, Bool.not_false]
    rfl

end Sys2Proof.Machine
end

section
/-! SUPPORT. Key, panel queue, character port and combination events: O49. -/
namespace Sys2Proof.Machine
open Sys2Proof

/-- Settles O49: each event takes the branch that its premises name (the model's choices: log entries 24 and
60). -/
theorem panelEventsComplete : Obligations.PanelEventsComplete := by
  refine ⟨?keyPressed, ?keyReleased, ?keyRepeat, ?keyLongPress, ?pnlKqRead, ?panelBusy, ?pnlChqWrite, ?chrByteLast,
    ?chrByteMore, ?chrTimeout, ?combo0Fired, ?combo1Fired, ?panelActionOffer⟩
  case keyPressed =>
    intro s k isPowered isKeyScanned notContains notNkey
    show execKeyAccepted k true s = _
    simp only [execKeyAccepted, isPowered, isKeyScanned, notContains, notNkey, Bool.not_true, if_true]
    rfl
  case keyReleased =>
    intro s k isComboUp isContains
    show execKeyAccepted k false s = _
    simp only [execKeyAccepted, isComboUp, isContains, Bool.false_eq_true, Bool.not_true, if_false]
    rfl
  case keyRepeat =>
    intro s k isRepeatDue
    show execKeyRepeat k s = _
    simp only [execKeyRepeat, isRepeatDue, if_true]
  case keyLongPress =>
    intro s k isLongDue
    show execKeyLongPress k s = _
    simp only [execKeyLongPress, isLongDue, if_true]
  case pnlKqRead =>
    intro s q isKqMay
    show execPnlKqRead q s = _
    simp only [execPnlKqRead, isKqMay, if_true]
  case panelBusy =>
    intro s i a hasFind
    show execPanelBusy i s = _
    simp only [execPanelBusy, hasFind]
    rfl
  case pnlChqWrite =>
    intro s q v permitted
    push_cast at permitted ⊢
    exact congrArg Host.Outcome.next (if_pos permitted)
  case chrByteLast =>
    intro s b l k chqEq chmodeNe chrAtLe hasKey isLast
    show execChrByteDone s = _
    simp only [execChrByteDone, chqEq, chmodeNe, hasKey, isLast, not_lt.mpr chrAtLe, or_self, if_false]
  case chrByteMore =>
    intro s b l chqEq chmodeNe chrAtLe notLast
    show execChrByteDone s = _
    simp [execChrByteDone, chqEq, chmodeNe, notLast, not_lt.mpr chrAtLe]
  case chrTimeout =>
    intro s chmodeEq notChqIsEmpty chrAtLe
    show execChrTimeout s = _
    simp only [execChrTimeout, chmodeEq, notChqIsEmpty, not_lt.mpr chrAtLe, ne_eq, not_true_eq_false, or_self,
      Bool.false_eq_true, if_false] <;> rfl
  case combo0Fired =>
    intro s isComboReady isCommitted
    show execCombo0Fired s = _
    simp only [execCombo0Fired, isComboReady, isCommitted, Bool.and_self, if_true]
  case combo1Fired =>
    intro s phaseEq isComboReady
    show execCombo1Fired s = _
    simp only [execCombo1Fired, phaseEq, isComboReady, Bool.false_eq_true, Bool.not_true, if_false]
  case panelActionOffer =>
    intro s i a k c w found notCalcOwns stationEq command work accepted
    have station : (⟨s.fld .PNL_KACT_STN i % 4, by omega⟩ : Fin 4) = k := Fin.ext stationEq.symm
    have accepted' : ((s.offer .panel c w).lastOf 4 != s.lastOf 4) = true := bne_iff_ne.mpr accepted
    show execPanelActionOffer i s = _
    simp only [execPanelActionOffer, found, notCalcOwns, station, command, work, accepted', Bool.true_or,
      Bool.false_eq_true, if_true, if_false]

end Sys2Proof.Machine
end

section
/-! SUPPORT. Field pin and group supply events: O50. -/
namespace Sys2Proof.Machine
open Sys2Proof

/-- Settles O50: each event takes the branch that its premises name (the model's choices: log entry 25). -/
theorem pinEventsComplete : Obligations.PinEventsComplete := by
  refine ⟨?vfgStateRestored, ?vfgStateLost, ?fioInputChange, ?fioConditionCleared, ?fioConditionSet, ?fioRetry,
    ?fioRetryFails, ?fioRetryHolds, ?fioPin, ?ainTestBurst, ?ainCondition⟩
  case vfgStateRestored =>
    intro s g notUp settled
    refine (if_neg ?_).trans (if_pos rfl)
    rintro (up | ⟨-, high⟩ | ⟨-, notFirst, soon⟩)
    · exact notUp up
    · exact absurd high (by decide)
    · rcases settled with first | waited
      · exact Bool.noConfusion (first.symm.trans notFirst)
      · exact absurd soon (Nat.not_lt.mpr waited)
  case vfgStateLost =>
    intro s g x up lost
    have lost' : ¬ x.val = 0 := Fin.val_ne_of_ne lost
    show execVfgStateChange g x s = _
    simp only [execVfgStateChange, up, lost', Ne.symm lost', OfNat.zero_ne_ofNat, false_and, or_self, if_true,
      if_false]
    rfl
  case fioInputChange =>
    intro s n v pinFnNe notIsInput
    show execFioInputChange n v s = _
    simp only [execFioInputChange, pinFnNe, notIsInput, or_self, Bool.false_eq_true, if_false]
  case fioConditionCleared =>
    intro s n c isFieldLive isGroupOk isCondBit
    show execFioCondition n c false s = _
    simp only [execFioCondition, isFieldLive, isGroupOk, isCondBit, Bool.or_self, Bool.false_or,
      Bool.false_eq_true, Bool.not_true, if_false]
    rfl
  case fioConditionSet =>
    intro s n c isFieldLive isGroupOk notCondBit isCondNow cValNe
    show execFioCondition n c true s = _
    simp only [execFioCondition, isFieldLive, isGroupOk, notCondBit, isCondNow, cValNe, Bool.or_self,
      Bool.or_false, Bool.false_or, Bool.true_and, Bool.not_true, if_true, if_false]
    rfl
  case fioRetry =>
    intro s n due
    show execFioRetry n s = _
    simp only [execFioRetry, due, if_true]
  case fioRetryFails =>
    intro s n isRetrying notPinForced
    show execFioRetryEnd n true s = _
    simp only [execFioRetryEnd, isRetrying, notPinForced, Bool.false_eq_true, Bool.not_true, if_true, if_false]
    rfl
  case fioRetryHolds =>
    intro s n isRetrying notPinForced retryAtLe
    show execFioRetryEnd n false s = _
    simp only [execFioRetryEnd, isRetrying, notPinForced, not_lt.mpr retryAtLe, Bool.true_and, decide_false,
      Bool.false_eq_true, Bool.not_true, Bool.not_false, if_false]
  case fioPin =>
    intro s n working hasFn failed t noEnable
    dsimp only [t, failed] at noEnable
    have hasFn' : (s.pinFn n == 0) = false := beq_eq_false_iff_ne.mpr hasFn
    show execFioPin n s = _
    simp only [execFioPin, working, hasFn', noEnable, Bool.or_self, Bool.false_eq_true, if_false]
    rfl
  case ainTestBurst =>
    intro s i due
    show execAinTestBurst i s = _
    simp only [execAinTestBurst, due, if_true]
  case ainCondition =>
    intro s i isFieldLive condEq t polNe
    dsimp only [t] at polNe
    have now : (s.fld .FIO_ASTAT_COND i / 2 ^ (1 : Fin 3).val % 2 == 1) = true := beq_iff_eq.mpr condEq
    show execAinCondition i 1 false s = _
    simp only [execAinCondition, isFieldLive, now, polNe, Bool.not_true, Bool.false_and, Bool.or_false,
      Bool.true_beq, Bool.false_eq_true, if_false]
    rfl

end Sys2Proof.Machine
end

section
/-! SUPPORT. Link training, frame and synchronisation events: O51. -/
namespace Sys2Proof.Machine
open Sys2Proof

/-- Settles O51: each event takes the branch that its premises name (the model's choices: log entries 27 and
61). -/
theorem linkEventsComplete : Obligations.LinkEventsComplete := by
  refine ⟨?portTrained, ?portDown, ?portRetrain, ?linkRateErrors, ?linkRateActs, ?topo, ?dataFrameDamaged,
    ?dataFrameNext, ?dataFrameSeen, ?ack, ?nakFull, ?nakLost, ?attemptTimeout, ?pauseBegin, ?pauseEnd,
    ?pauseExpiry, ?pauseRefreshDue, ?pauseRefreshNotDue, ?nakFullResend, ?sync, ?syncSend, ?syncLost, ?freezeFrame,
    ?mirror⟩
  case portTrained =>
    intro s p b d n isLinkOn notPortUp stateNe
    show execPortTrained p b d n s = _
    simp [execPortTrained, isLinkOn, notPortUp, stateNe]
  case portDown =>
    intro s p trained
    exact if_pos (Or.symm trained)
  case portRetrain =>
    intro s p isLinkOn stateEq waited
    show execPortRetrain p s = _
    simp only [execPortRetrain, isLinkOn, stateEq, waited]
    rfl
  case linkRateErrors =>
    intro s p l isPortUp notLow filterEq
    show execLinkRate p s = _
    simp only [execLinkRate, isPortUp, notLow, filterEq, Bool.not_true]
    rfl
  case linkRateActs =>
    intro s p l isPortUp notLow near atMost t stillFast stillUp
    have eight : 8 ≤ (l ++ List.replicate (8 - l.length) s.clk.now).length := by
      rw [List.length_append, List.length_replicate]; omega
    subst near
    show execLinkRate p s = _
    simp only [execLinkRate, isPortUp, notLow, Bool.not_true, Bool.or_self, Bool.false_eq_true, if_false]
    exact congrArg Host.Outcome.next (if_pos ⟨eight, congrArg not stillFast, stillUp⟩)
  case topo =>
    intro s r u arrived own notDup
    show execTopo s = _
    simp only [execTopo, arrived, own, notDup, Bool.false_eq_true, or_false, if_true]
    cases Config.topoPayload (r.f.payload.map (·.toNat)) with
    | none => rfl
    | some i => exact (apply_ite Host.Outcome.next _ _ _).symm
  case dataFrameDamaged =>
    intro s p l isLinkOn isPortUp noParseFrame
    show execDataFrameReceived p l s = _
    simp only [execDataFrameReceived, isLinkOn, isPortUp, noParseFrame, Bool.or_self, Bool.false_eq_true,
      Bool.not_true, if_false]
  case dataFrameNext =>
    intro s p l f q n isLinkOn isPortUp hasParseFrame notHops hasSeen qEq
    show execDataFrameReceived p l s = _
    simp only [execDataFrameReceived, isLinkOn, isPortUp, hasParseFrame, notHops, hasSeen, qEq, Bool.not_true,
      if_true, if_false]
    rfl
  case dataFrameSeen =>
    intro s p l f q n isLinkOn isPortUp hasParseFrame notHops hasSeen qNe nLt
    show execDataFrameReceived p l s = _
    simp only [execDataFrameReceived, isLinkOn, isPortUp, hasParseFrame, notHops, hasSeen, qNe, nLt, Bool.not_true,
      if_true, if_false]
    rfl
  case ack =>
    intro s p q
    rfl
  case nakFull =>
    intro s p q
    rfl
  case nakLost =>
    intro s p q
    rfl
  case attemptTimeout =>
    intro s p q
    rfl
  case pauseBegin =>
    intro s p n nNe
    show execPause p n s = _
    simp only [execPause, nNe, if_false]
  case pauseEnd =>
    intro s p n nEq
    show execPause p n s = _
    simp only [execPause, nEq, if_true]
    rfl
  case pauseExpiry =>
    intro s p pauseQNe
    show execPauseExpiry p s = _
    simp only [execPauseExpiry, pauseQNe, if_false]
  case pauseRefreshDue =>
    intro s p due
    show execPauseRefresh p s = _
    simp only [execPauseRefresh, due, if_true]
  case pauseRefreshNotDue =>
    intro s p notDue
    show execPauseRefresh p s = _
    simp only [execPauseRefresh, notDue, Bool.false_eq_true, if_false]
  case nakFullResend =>
    intro s p q pauseQEq
    show execNakFullResend p q s = _
    simp only [execNakFullResend, pauseQEq]
    rfl
  case sync =>
    intro s p v d isPortUp notIsMaster
    show execSync p v d s = _
    simp only [execSync, isPortUp, notIsMaster, Bool.or_self, Bool.false_eq_true, Bool.not_true, if_false]
  case syncSend =>
    intro s isMaster isPortUp due
    show execSyncSend s = _
    simp only [execSyncSend, isMaster, isPortUp, due, Bool.or_self, Bool.false_eq_true, Bool.not_true, if_false]
  case syncLost =>
    intro s isSynced notMap
    show execSyncLost s = _
    simp only [execSyncLost, isSynced, notMap, Bool.false_eq_true, if_true, if_false]
  case freezeFrame =>
    intro s p isPortUp
    show execFreezeFrame p s = _
    simp only [execFreezeFrame, isPortUp, Bool.false_eq_true, Bool.not_true, if_false]
  case mirror =>
    intro s r u hasTakeRx isInen
    show execMirror s = _
    simp only [execMirror, hasTakeRx, isInen, if_true]

end Sys2Proof.Machine
end

section
/-! SUPPORT. Transaction and multicast events: O52. -/
namespace Sys2Proof.Machine
open Sys2Proof

/-- Settles O52: each event takes the branch that its premises name (the model's choices: log entry 43). -/
theorem peerEventsComplete : Obligations.PeerEventsComplete := by
  refine ⟨?line, ?answer, ?result, ?statusq, ?statusa, ?prepareRefused, ?prepareStaged, ?vote, ?commit, ?abort,
    ?helloAgrees, ?helloMismatch, ?series, ?txnTimeoutQuery, ?txnTimeoutDoubt, ?statusQueryRetry,
    ?statusQueryGivenUp, ?peerBusyResend, ?multicastTimeout, ?decisionResend, ?multicastApply⟩
  case line =>
    intro s r u d i isAnswering hasTakeRx hasSrcDev isQ isOpenLine hasOpenLine
    show execLine s = _
    simp only [execLine, isAnswering, hasTakeRx, hasSrcDev, isQ, isOpenLine, hasOpenLine, Bool.false_eq_true,
      Bool.not_true, if_true, if_false]
  case answer =>
    intro s r u x hasTakeRx hasFindTxn dValEq
    show execAnswer s = _
    simp only [execAnswer, hasTakeRx, hasFindTxn, dValEq, ne_eq, not_true_eq_false, if_false]
  case result =>
    intro s r u x hasTakeRx noFindMc hasFindTxn dValEq stNe
    show execResult s = _
    simp only [execResult, hasTakeRx, noFindMc, hasFindTxn, dValEq, stNe, ne_eq, not_true_eq_false, or_self,
      if_false]
  case statusq =>
    intro s r u d m arrived src found ended
    have notOpen : ¬ (1 ≤ stateCode m.st ∧ stateCode m.st ≤ 3) := by omega
    show execStatusq s = _
    simp only [execStatusq, arrived, src, found, notOpen, if_false]
  case statusa =>
    intro s r u x n hasTakeRx hasFindTxn stEq dValEq byteAtEq
    show execStatusa s = _
    simp only [execStatusa, hasTakeRx, hasFindTxn, stEq, dValEq, byteAtEq, ne_eq, not_true_eq_false, if_false]
  case prepareRefused =>
    intro s r u d n isAnswering hasTakeRx hasSrcDev isAccepting peerTextEq
    show execPrepare s = _
    simp only [execPrepare, isAnswering, hasTakeRx, hasSrcDev, isAccepting, peerTextEq, Bool.false_eq_true,
      Bool.not_true, if_false]
  case prepareStaged =>
    intro s r u d i w isAnswering hasTakeRx hasSrcDev isAccepting hasPeerText hasMeasured notMeasured
    show execPrepare s = _
    simp only [execPrepare, isAnswering, hasTakeRx, hasSrcDev, isAccepting, hasPeerText, hasMeasured, notMeasured,
      Bool.false_eq_true, Bool.not_true, if_false]
  case vote =>
    intro s r u m arrived v found undecided leg no
    dsimp only [v] at found
    show execVote s = _
    simp only [execVote, arrived, found, undecided, leg, ne_eq, not_true_eq_false, Bool.not_true,
      Bool.false_eq_true, or_self, if_false]
    exact congrArg Host.Outcome.next (if_pos no)
  case commit =>
    intro s r u hasTakeRx
    show execCommit s = _
    simp only [execCommit, hasTakeRx]
  case abort =>
    intro s r u hasTakeRx
    show execAbort s = _
    simp only [execAbort, hasTakeRx]
  case helloAgrees =>
    intro s r u d hasTakeRx hasSrcDev notLeAt
    show execHello s = _
    simp only [execHello, hasTakeRx, hasSrcDev, notLeAt, Bool.false_eq_true, if_false]
  case helloMismatch =>
    intro s r u d hasTakeRx hasSrcDev isLeAt
    show execHello s = _
    simp only [execHello, hasTakeRx, hasSrcDev, isLeAt, if_true]
  case series =>
    intro s r u d isAnswering hasTakeRx hasSrcDev isAccepting isSeriesClosed notCommitFull
    show execSeries s = _
    simp only [execSeries, isAnswering, hasTakeRx, hasSrcDev, isAccepting, isSeriesClosed, notCommitFull,
      Bool.false_eq_true, Bool.not_true, if_false]
  case txnTimeoutQuery =>
    intro s n x hasFindTxn isTimedOut stEq
    show execTxnTimeout n s = _
    simp only [execTxnTimeout, hasFindTxn, isTimedOut, stEq, Bool.false_eq_true, Bool.not_true, if_false]
  case txnTimeoutDoubt =>
    intro s n x hasFindTxn isTimedOut stEq dValNe notBind
    show execTxnTimeout n s = _
    simp only [execTxnTimeout, hasFindTxn, isTimedOut, stEq, dValNe, notBind, Bool.false_eq_true, Bool.not_true,
      if_false]
    rfl
  case statusQueryRetry =>
    intro s n q x found stEq fewer due
    have waited : (if q = 0 then !(s.portUp 0 || s.portUp 1) else !s.timedOut x.at_) = false := by
      rw [← apply_ite not, due]; rfl
    show execStatusQueryRetry n s = _
    simp only [execStatusQueryRetry, found, stEq, waited, fewer, Bool.false_eq_true, if_true, if_false]
  case statusQueryGivenUp =>
    intro s n x hasFindTxn stEq isTimedOut
    show execStatusQueryRetry n s = _
    simp only [execStatusQueryRetry, hasFindTxn, stEq, isTimedOut, Bool.not_true, if_true]
    rfl
  case peerBusyResend =>
    intro s n x hasFindTxn stEq
    show execPeerBusyResend n s = _
    simp only [execPeerBusyResend, hasFindTxn, stEq, if_true]
  case multicastTimeout =>
    intro s n m hasFindMc decEq isTimedOut
    show execMulticastTimeout n s = _
    simp only [execMulticastTimeout, hasFindMc, decEq, isTimedOut, and_self, if_true]
  case decisionResend =>
    intro s n m hasFindMc foldlEq
    show execDecisionResend n s = _
    simp only [execDecisionResend, hasFindMc, foldlEq, if_false]
  case multicastApply =>
    intro s isRefok phaseEq
    show execMulticastApply s = _
    simp only [execMulticastApply, isRefok, phaseEq, Bool.not_true]
    rfl

end Sys2Proof.Machine
end

section
/-! SUPPORT. Flash and SRAM events: O53. -/
namespace Sys2Proof.Machine
open Sys2Proof

/-- Settles O53: each event takes the branch that its premises name (the model's choices: log entries 31 and
54). -/
theorem storeEventsComplete : Obligations.StoreEventsComplete := by
  refine ⟨?flashOpFails, ?flashOpPasses, ?flashAutoResume, ?stewardIdle, ?sramUncorr, ?sramBank,
    ?sramScrubCorrects, ?sramScrubClean⟩
  case flashOpFails =>
    intro s x l k opsEq notSusp hasKey
    show execFlashOpDone false s = _
    simp only [execFlashOpDone, opsEq, notSusp, hasKey, Bool.false_eq_true, if_false]
    rfl
  case flashOpPasses =>
    intro s x l opsEq notSusp notFlashBankBad noKey
    show execFlashOpDone true s = _
    simp only [execFlashOpDone, opsEq, notSusp, notFlashBankBad, noKey, Bool.and_self, Bool.false_eq_true,
      Bool.not_false, if_true, if_false]
  case flashAutoResume =>
    intro s notXsusp
    show execFlashAutoResume s = _
    simp only [execFlashAutoResume, notXsusp, Bool.false_eq_true, if_false]
  case stewardIdle =>
    intro s opsEq phaseEq restAtLe
    show execStewardIdle s = _
    simp only [execStewardIdle, opsEq, phaseEq, not_lt.mpr restAtLe, Bool.or_false, beq_self_eq_true, decide_false,
      Bool.not_true]
    rfl
  case sramUncorr =>
    intro s a x isInSram notWordFails aEq noGeneralPage
    show execSramUncorr a x s = _
    simp only [execSramUncorr, isInSram, notWordFails, aEq, noGeneralPage, Bool.false_eq_true, Bool.not_true,
      if_false]
    rfl
  case sramBank =>
    intro s b
    rfl
  case sramScrubCorrects =>
    intro s n l nNe
    show execSramScrub ⟨n, l⟩ s = _
    simp only [execSramScrub, nNe, if_false]
  case sramScrubClean =>
    intro s l
    rfl

end Sys2Proof.Machine
end

section
/-! SUPPORT. Supply, reset, start-up and replay events: O54. -/
namespace Sys2Proof.Machine
open Sys2Proof

/-- Settles O54: each event takes the branch that its premises name (the model's choices: log entries 2, 36
and 37). -/
theorem startUpEventsComplete : Obligations.StartUpEventsComplete := by
  refine ⟨?powerUpHolds, ?powerUpFirst, ?keepLoss, ?brownOutInReset, ?brownOutRunning, ?nreset, ?watchdog,
    ?warmReset, ?warmStop, ?resetRelease, ?refStartTimeoutOther, ?refStartTimeoutNone, ?refSourceTaken,
    ?sramSelfTestDone, ?startupCalibrationDone, ?noCandidateLeft, ?candidatePasses, ?candidateUnreadable,
    ?cfgDoneRelease, ?cfgDoneHigh, ?commitRegionRelease, ?cfgTimeout, ?journalReplayDone, ?imagePut, ?imageWrite⟩
  case powerUpHolds =>
    intro s c n phaseEq
    show execPowerUp (some c) n s = _
    simp only [execPowerUp, phaseEq, beq_self_eq_true, if_true]
  case powerUpFirst =>
    intro s n phaseEq
    show execPowerUp none n s = _
    simp only [execPowerUp, phaseEq]
    rfl
  case keepLoss =>
    intro s phaseEq
    show execKeepLoss s = _
    simp only [execKeepLoss, phaseEq, beq_self_eq_true, if_true]
  case brownOutInReset =>
    intro s d phaseEq
    show execBrownOut d s = _
    simp only [execBrownOut, phaseEq]
  case brownOutRunning =>
    intro s d phaseEq
    show execBrownOut d s = _
    simp only [execBrownOut, phaseEq]
  case nreset =>
    intro s phaseEq
    show execNreset s = _
    simp only [execNreset, phaseEq]
  case watchdog =>
    intro s n hasWdt nLe
    show execWatchdog s = _
    simp only [execWatchdog, hasWdt, nLe, if_true]
  case warmReset =>
    intro s n hasClosing phaseEq isAllAtRest
    show execWarmReset s = _
    simp only [execWarmReset, hasClosing, phaseEq, isAllAtRest, Bool.and_self, beq_self_eq_true, if_true]
  case warmStop =>
    intro s k phaseEq notAtRest closeAtLe
    show execWarmStop k s = _
    simp only [execWarmStop, phaseEq, notAtRest, closeAtLe, Bool.and_self, beq_self_eq_true, decide_true,
      Bool.not_false, if_true]
  case resetRelease =>
    intro s b x d phaseEq selEq
    show execResetRelease b x d s = _
    simp only [execResetRelease, phaseEq, selEq, beq_self_eq_true, if_true]
  case refStartTimeoutOther =>
    intro s phaseEq notStartTimeout
    show execRefStartTimeout true s = _
    simp only [execRefStartTimeout, phaseEq, notStartTimeout, Bool.and_self, beq_self_eq_true, Bool.not_false,
      if_true]
  case refStartTimeoutNone =>
    intro s phaseEq notStartTimeout
    show execRefStartTimeout false s = _
    simp only [execRefStartTimeout, phaseEq, notStartTimeout, Bool.and_self, beq_self_eq_true, Bool.false_eq_true,
      Bool.not_false, if_true, if_false]
  case refSourceTaken =>
    intro s x phaseEq chosen
    show execRefSourceTaken x s = _
    simp [execRefSourceTaken, phaseEq, chosen]
  case sramSelfTestDone =>
    intro s a b phaseEq notTested
    show execSramSelfTestDone a b s = _
    simp [execSramSelfTestDone, phaseEq, notTested]
  case startupCalibrationDone =>
    intro s l x phaseEq notCalibrated
    show execStartupCalibrationDone l x s = _
    simp only [execStartupCalibrationDone, phaseEq, notCalibrated, Bool.and_self, beq_self_eq_true, Bool.not_false,
      if_true]
  case noCandidateLeft =>
    intro s l x y phaseEq noCand candsEq
    show execCandidateVerified false ⟨l, x, y⟩ s = _
    simp only [execCandidateVerified, phaseEq, noCand, candsEq]
  case candidatePasses =>
    intro s l c m r x y phaseEq noCand candsEq notSkip checkSourceEq notContentBad
    show execCandidateVerified false ⟨l, x, y⟩ s = _
    simp only [execCandidateVerified, phaseEq, noCand, candsEq, notSkip, checkSourceEq, notContentBad,
      Bool.or_self, Bool.false_eq_true, if_false]
  case candidateUnreadable =>
    intro s l c d r x y phaseEq noCand candsEq
    show execCandidateVerified true ⟨l, x, y⟩ s = _
    simp [execCandidateVerified, phaseEq, noCand, candsEq]
  case cfgDoneRelease =>
    intro s phaseEq isCandIsSome isTested isCalibrated
    show execCfgDoneRelease s = _
    simp only [execCfgDoneRelease, phaseEq, isCandIsSome, isTested, isCalibrated, Bool.and_self, beq_self_eq_true,
      if_true]
  case cfgDoneHigh =>
    intro s c m phaseEq hasCand regionsEq
    show execCfgDoneHigh s = _
    simp only [execCfgDoneHigh, phaseEq, hasCand, regionsEq]
    rfl
  case commitRegionRelease =>
    intro s m isCommitted hasSettle hasRun
    show execCommitRegionRelease s = _
    simp only [execCommitRegionRelease, isCommitted, hasSettle, hasRun, Bool.and_self, beq_self_eq_true, if_true]
    rfl
  case cfgTimeout =>
    intro s phaseEq notLate waitAtLe
    show execCfgTimeout s = _
    simp only [execCfgTimeout, phaseEq, notLate, waitAtLe, Bool.and_self, beq_self_eq_true, decide_true,
      Bool.not_false, if_true]
  case journalReplayDone =>
    intro s phaseEq
    show execJournalReplayDone 0 0 false s = _
    simp [execJournalReplayDone, phaseEq]
  case imagePut =>
    intro s n l phaseEq wellFormed
    show execImagePut n l s = _
    simp only [execImagePut, phaseEq, wellFormed, if_false]
    rfl
  case imageWrite =>
    intro s x m phaseEq opsEq notFlashBankBad checkStreamEq notContentBad
    show execImageWrite x s = _
    simp only [execImageWrite, phaseEq, opsEq, notFlashBankBad, checkStreamEq, notContentBad, Bool.false_or,
      beq_self_eq_true, Bool.false_eq_true, Bool.not_true, if_false]
    rfl

end Sys2Proof.Machine
end

section
/-! SUPPORT. Idle, supply monitor, die and test-port events: O55. -/
namespace Sys2Proof.Machine
open Sys2Proof

/-- Settles O55: each event takes the branch that its premises name (the model's choices: log entries 39 and
61). -/
theorem powerEventsComplete : Obligations.PowerEventsComplete := by
  refine ⟨?stationIdleEntry, ?wakeComplete, ?vbatGood, ?vbatLow, ?dieHot, ?dieOvertemp, ?skimCountDone, ?frzPin,
    ?extest, ?idcode, ?samplePreload, ?bypassCode, ?bypassExtest, ?testLogicReset⟩
  case stationIdleEntry =>
    intro s k
    rfl
  case wakeComplete =>
    intro s k nowEq isFbChans
    show execWakeComplete k s = _
    simp only [execWakeComplete, nowEq, isFbChans, and_self, if_true]
  case vbatGood =>
    intro s n phaseNe notN
    show execVbatMonitor n s = _
    simp [execVbatMonitor, phaseNe, notN]
  case vbatLow =>
    intro s n nLt phaseNe notVbatlow isVinok
    show execVbatMonitor n s = _
    simp [execVbatMonitor, nLt, phaseNe, notVbatlow, isVinok]
  case dieHot =>
    intro s notHot isCommitted
    have notHot' : (s.dieAt 1300).pwr.hot = false := notHot
    have isCommitted' : (s.dieAt 1300).committed = true := isCommitted
    show execDieHot s = _
    simp only [execDieHot, State.dieHot, notHot', isCommitted', Bool.not_true, Bool.or_self, Bool.false_eq_true,
      if_false]
  case dieOvertemp =>
    intro s isCommitted
    have isCommitted' : (s.dieAt 1450).committed = true := isCommitted
    show execDieOvertemp s = _
    simp only [execDieOvertemp, State.dieOver, isCommitted', Bool.not_true, Bool.false_eq_true, if_false]
  case skimCountDone =>
    intro s k isSkimRuns isSkimFull
    show execSkimCountDone k s = _
    simp only [execSkimCountDone, isSkimRuns, isSkimFull, Bool.and_self, if_true]
  case frzPin =>
    intro s isPinen
    show execFrzPin s = _
    simp only [execFrzPin, isPinen, if_true]
  case extest =>
    intro s
    rfl
  case idcode =>
    intro s
    rfl
  case samplePreload =>
    intro s c
    rfl
  case bypassCode =>
    intro s n other
    show execBypass n s = _
    unfold execBypass
    split
    · omega
    · omega
    · omega
    · rfl
  case bypassExtest =>
    intro s n nEq
    show execBypass n s = _
    simp only [execBypass, nEq]
  case testLogicReset =>
    intro s
    rfl

end Sys2Proof.Machine
end

section
/-! SUPPORT. Write-only register rows: O56. -/
namespace Sys2Proof.Machine
open Sys2Proof

/-- A permitted write of a row's field, which no rule refuses, has the effect of the field. -/
theorem rowWrite_applies {s : State} {q : Requester} {r : Reg} {i j : Nat} {f : Fld} {v : Nat}
    (permitted : s.mayWrite q (fieldWrites r i j [(f, v)]) = true)
    (passes : s.wrErr (fieldWrites r i j [(f, v)]) = none) :
    s.rowWrite q r i j f v = s.wrApply q (fieldWrites r i j [(f, v)]) := by
  simp only [State.rowWrite, permitted, passes, Bool.not_true, Bool.false_eq_true, if_false]

/-- Settles O56: every row but DEC_MBX is a `State.rowWrite`; that of DEC_MBX pops the mailbox. -/
theorem writeOnlyRowsComplete : Obligations.WriteOnlyRowsComplete := by
  refine ⟨?ringClr, ?servoApply, ?decClr, ?wdtKick, ?obsTrmark, ?latClrLow, ?latClrOvr, ?serClrRej, ?serClrAlost,
    ?sysSclr, ?jrnClr, ?nocPclr, ?decMbxPop⟩
  case ringClr =>
    intro s q r permitted passes
    exact congrArg _ (rowWrite_applies permitted passes)
  case servoApply =>
    intro s q a permitted passes
    exact congrArg _ (rowWrite_applies permitted passes)
  case decClr =>
    intro s q permitted passes
    exact congrArg _ (rowWrite_applies permitted passes)
  case wdtKick =>
    intro s q v permitted passes
    exact congrArg _ (rowWrite_applies permitted passes)
  case obsTrmark =>
    intro s q v permitted passes
    exact congrArg _ (rowWrite_applies permitted passes)
  case latClrLow =>
    intro s q permitted passes
    exact congrArg _ (rowWrite_applies permitted passes)
  case latClrOvr =>
    intro s q k permitted passes
    exact congrArg _ (rowWrite_applies permitted passes)
  case serClrRej =>
    intro s q p permitted passes
    exact congrArg _ (rowWrite_applies permitted passes)
  case serClrAlost =>
    intro s q p permitted passes
    exact congrArg _ (rowWrite_applies permitted passes)
  case sysSclr =>
    intro s q permitted passes
    exact congrArg _ (rowWrite_applies permitted passes)
  case jrnClr =>
    intro s q permitted passes
    exact congrArg _ (rowWrite_applies permitted passes)
  case nocPclr =>
    intro s q n permitted passes
    exact congrArg _ (rowWrite_applies permitted passes)
  case decMbxPop =>
    intro s q c permitted
    exact congrArg _ (if_pos permitted)

end Sys2Proof.Machine
end

section
/-! SUPPORT. A core that runs and may fetch. For O57 to O60. -/
namespace Sys2Proof.Machine
open Sys2Proof

variable {r : Host.Outcome State Fault Refusal} {s t : State} {c : Fin 6} {n : Nat}

/-- An instruction, once fetched, has its effect `t` and retires: `r` is what its command answers. -/
theorem executes_instr {f : State → State} (runs : s.executes c n) (answers : r = .next (s.instr c n f))
    (effect : f (s.fetched c n) = t) : r = .next (t.retired s c) := by
  rw [answers, instr_next runs, effect]

/-- A block repeat of CNT 0 handles no element. -/
theorem repeats_none {d : CoreSt → Bool} {f : State → Nat → State} (runs : s.executes c 1)
    (zero : (s.core[c]).cnt = 0)
    (answers : r = .next (s.repeat_ c d f)) : r = .next ((s.fetched c 1).retired s c) := by
  unfold State.repeat_ at answers
  exact executes_instr runs answers (if_pos (by rw [fetched_cnt, zero]; rfl))

/-- One that no interrupt breaks handles all its elements. -/
theorem repeats_whole {d : CoreSt → Bool} {f : State → Nat → State} (runs : s.executes c 1)
    (nonzero : (s.core[c]).cnt ≠ 0) (unbroken : s.mayBreak c = false) (answers : r = .next (s.repeat_ c d f))
    (effect : f (s.fetched c 1) (s.core[c]).cnt.toNat = t) : r = .next (t.retired s c) := by
  rw [answers, repeat_next runs nonzero unbroken, effect]

/-- One that an interrupt may break handles some of them. -/
theorem repeats_part {d : CoreSt → Bool} {f : State → Nat → State} (runs : s.executes c 1)
    (nonzero : (s.core[c]).cnt ≠ 0) (breaks : s.mayBreak c = true) (answers : r = .next (s.repeat_ c d f)) :
    r = .next (((s.fetched c 1).repeatPart c d f).retired s c) := by
  rw [answers, repeat_breaks runs nonzero breaks]

end Sys2Proof.Machine
end

section
/-! SUPPORT. System, move, branch and reserved instructions: O57. -/
namespace Sys2Proof.Machine
open Sys2Proof

/-- Settles O57: each is an instruction of the core (`executes_instr`), and its effect is the one stated
(the model's choice: log entry 30). -/
theorem coreControlCompletes : Obligations.CoreControlCompletes := by
  refine ⟨?nop, ?ei, ?di, ?bfset, ?bfclr, ?bfnot, ?bfc, ?cbf, ?bldw, ?bstw, ?jmp, ?setam, ?mov, ?movi, ?movx,
    ?rds, ?wrs, ?bcc, ?bra, ?take, ?movxi, ?jmpImm, ?waitl, ?chkptRefused, ?chkptTaken, ?reservedOpcode⟩
  case nop =>
    intro s c runs
    exact executes_instr runs rfl rfl
  case ei =>
    intro s c runs t
    exact executes_instr runs rfl rfl
  case di =>
    intro s c runs t
    exact executes_instr runs rfl rfl
  case bfset =>
    intro s c runs t
    exact executes_instr runs rfl rfl
  case bfclr =>
    intro s c runs t
    exact executes_instr runs rfl rfl
  case bfnot =>
    intro s c runs t
    exact executes_instr runs rfl rfl
  case bfc =>
    intro s c runs t
    exact executes_instr runs rfl rfl
  case cbf =>
    intro s c runs t
    exact executes_instr runs rfl rfl
  case bldw =>
    intro s c d b runs t
    exact executes_instr runs rfl rfl
  case bstw =>
    intro s c d b runs t
    exact executes_instr runs rfl rfl
  case jmp =>
    intro s c x runs t
    exact executes_instr runs rfl rfl
  case setam =>
    intro s c v runs t
    exact executes_instr runs rfl rfl
  case mov =>
    intro s c d s_ runs t
    exact executes_instr runs rfl rfl
  case movi =>
    intro s c d v runs t
    exact executes_instr runs rfl rfl
  case movx =>
    intro s c d s_ runs t
    exact executes_instr runs rfl rfl
  case rds =>
    intro s c d r runs t
    exact executes_instr runs rfl rfl
  case wrs =>
    intro s c r s_ runs t
    exact executes_instr runs rfl rfl
  case bcc =>
    intro s c cc v runs t
    exact executes_instr runs rfl rfl
  case bra =>
    intro s c v runs t
    exact executes_instr runs rfl rfl
  case take =>
    intro s c q runs t
    exact executes_instr runs rfl rfl
  case movxi =>
    intro s c d v runs t
    exact executes_instr runs rfl rfl
  case jmpImm =>
    intro s c a runs t
    exact executes_instr runs rfl rfl
  case waitl =>
    intro s c runs noWaits noTakeover
    refine executes_instr runs rfl ?_
    have kept (f : CoreSt → CoreSt) : (((s.fetched c 1).setCore c f).take.map (·.spare) == some c) = false := by
      rw [show ((s.fetched c 1).setCore c f).take = none from noTakeover]
      rfl
    simp only [noWaits, kept, List.head?_nil, Option.filter_none, List.filter_nil, Bool.false_eq_true, if_false]
  case chkptRefused =>
    intro s c runs level
    exact executes_instr runs rfl (if_pos level)
  case chkptTaken =>
    intro s c runs level
    exact executes_instr runs rfl (if_neg (not_not.mpr level))
  case reservedOpcode =>
    intro s c w0 w1 runs isReserved
    obtain ⟨ready, fetches⟩ := runs
    refine executes_instr ⟨ready, fetches⟩ (congrArg _ (if_neg ?_)) rfl
    simp only [ready, isReserved, Bool.not_true, Bool.or_self, Bool.false_eq_true, not_false_eq_true]

end Sys2Proof.Machine
end

section
/-! SUPPORT. Stack, window and far accesses: O58. -/
namespace Sys2Proof.Machine
open Sys2Proof

/-- Settles O58: each is an instruction of the core (`executes_instr`), and its effect is the one stated. -/
theorem coreMemoryCompletes : Obligations.CoreMemoryCompletes := by
  refine ⟨?reti, ?ret, ?push, ?pop, ?call, ?ld, ?st, ?ldx, ?stx, ?bsr, ?ldf8, ?stf8, ?ldf16, ?stf16, ?ldf32,
    ?stf32, ?lda, ?sta, ?ldax, ?stax, ?callImm⟩
  case reti =>
    intro s c runs t
    exact executes_instr runs rfl rfl
  case ret =>
    intro s c runs t
    exact executes_instr runs rfl rfl
  case push =>
    intro s c d runs t
    exact executes_instr runs rfl rfl
  case pop =>
    intro s c d runs t
    exact executes_instr runs rfl rfl
  case call =>
    intro s c x runs t
    exact executes_instr runs rfl rfl
  case ld =>
    intro s c m r x runs t
    exact executes_instr runs rfl rfl
  case st =>
    intro s c m r x runs t
    exact executes_instr runs rfl rfl
  case ldx =>
    intro s c m r x runs t
    exact executes_instr runs rfl rfl
  case stx =>
    intro s c m r x runs t
    exact executes_instr runs rfl rfl
  case bsr =>
    intro s c v runs t
    exact executes_instr runs rfl rfl
  case ldf8 =>
    intro s c d k off runs t
    exact executes_instr runs rfl rfl
  case stf8 =>
    intro s c d k off runs t
    exact executes_instr runs rfl rfl
  case ldf16 =>
    intro s c d k off runs t
    exact executes_instr runs rfl rfl
  case stf16 =>
    intro s c d k off runs t
    exact executes_instr runs rfl rfl
  case ldf32 =>
    intro s c q k off runs t
    exact executes_instr runs rfl rfl
  case stf32 =>
    intro s c q k off runs t
    exact executes_instr runs rfl rfl
  case lda =>
    intro s c d a runs t
    exact executes_instr runs rfl rfl
  case sta =>
    intro s c d a runs t
    exact executes_instr runs rfl rfl
  case ldax =>
    intro s c d a runs t
    exact executes_instr runs rfl rfl
  case stax =>
    intro s c d a runs t
    exact executes_instr runs rfl rfl
  case callImm =>
    intro s c a runs t
    exact executes_instr runs rfl rfl

end Sys2Proof.Machine
end

section
/-! SUPPORT. Arithmetic, logic and shifts: O59. -/
namespace Sys2Proof.Machine
open Sys2Proof

/-- Settles O59: each is an instruction of the core (`executes_instr`), and its effect is the one stated. -/
theorem coreArithmeticCompletes : Obligations.CoreArithmeticCompletes := by
  refine ⟨?add, ?adc, ?sub, ?sbc, ?cmp, ?and, ?or, ?xor, ?tst, ?not, ?neg, ?shl, ?shr, ?asr, ?roc, ?addi, ?cmpi,
    ?mulu, ?andi, ?ori, ?xori, ?tsti, ?addx, ?subx, ?cmpx, ?incx, ?decx, ?addxi, ?cmpxi⟩
  case add =>
    intro s c d s_ runs t
    exact executes_instr runs rfl rfl
  case adc =>
    intro s c d s_ runs t
    exact executes_instr runs rfl rfl
  case sub =>
    intro s c d s_ runs t
    exact executes_instr runs rfl rfl
  case sbc =>
    intro s c d s_ runs t
    exact executes_instr runs rfl rfl
  case cmp =>
    intro s c d s_ runs t
    exact executes_instr runs rfl rfl
  case and =>
    intro s c d s_ runs t
    exact executes_instr runs rfl rfl
  case or =>
    intro s c d s_ runs t
    exact executes_instr runs rfl rfl
  case xor =>
    intro s c d s_ runs t
    exact executes_instr runs rfl rfl
  case tst =>
    intro s c d s_ runs t
    exact executes_instr runs rfl rfl
  case not =>
    intro s c d runs t
    exact executes_instr runs rfl rfl
  case neg =>
    intro s c d runs t
    exact executes_instr runs rfl rfl
  case shl =>
    intro s c d runs t
    exact executes_instr runs rfl rfl
  case shr =>
    intro s c d runs t
    exact executes_instr runs rfl rfl
  case asr =>
    intro s c d runs t
    exact executes_instr runs rfl rfl
  case roc =>
    intro s c d runs t
    exact executes_instr runs rfl rfl
  case addi =>
    intro s c d v runs t
    exact executes_instr runs rfl rfl
  case cmpi =>
    intro s c d v runs t
    exact executes_instr runs rfl rfl
  case mulu =>
    intro s c d s_ runs t
    exact executes_instr runs rfl rfl
  case andi =>
    intro s c d v runs t
    exact executes_instr runs rfl rfl
  case ori =>
    intro s c d v runs t
    exact executes_instr runs rfl rfl
  case xori =>
    intro s c d v runs t
    exact executes_instr runs rfl rfl
  case tsti =>
    intro s c d v runs t
    exact executes_instr runs rfl rfl
  case addx =>
    intro s c d s_ runs t
    exact executes_instr runs rfl rfl
  case subx =>
    intro s c d s_ runs t
    exact executes_instr runs rfl rfl
  case cmpx =>
    intro s c d s_ runs t
    exact executes_instr runs rfl rfl
  case incx =>
    intro s c d runs t
    exact executes_instr runs rfl rfl
  case decx =>
    intro s c d runs t
    exact executes_instr runs rfl rfl
  case addxi =>
    intro s c d v runs t
    exact executes_instr runs rfl rfl
  case cmpxi =>
    intro s c d v runs t
    exact executes_instr runs rfl rfl

end Sys2Proof.Machine
end

section
/-! SUPPORT. Bits, block repeats, DREQ, DPOP and REQ: O60. -/
namespace Sys2Proof.Machine
open Sys2Proof

/-- Settles O60: each is an instruction of the core (`executes_instr`); the block repeats part on CNT and on
a break (the model's choice: log entry 30). -/
theorem coreBitsAndRepeatsComplete : Obligations.CoreBitsAndRepeatsComplete := by
  refine ⟨?ldb, ?ldbn, ?andb, ?andbn, ?orb, ?orbn, ?xorb, ?stb, ?stbn, ?setb, ?clrb, ?tglb, ?tsetb, ?tclrb,
    ?setbc, ?clrbc, ?movsNone, ?movsWhole, ?movsPart, ?cmpsNone, ?cmpsWhole, ?cmpsPart, ?filsNone,
    ?filsWhole, ?filsPart, ?scnsNone, ?scnsWhole, ?scnsPart, ?dreq, ?dpopNone, ?dpopReady, ?req⟩
  case ldb =>
    intro s c a runs t
    exact executes_instr runs rfl rfl
  case ldbn =>
    intro s c a runs t
    exact executes_instr runs rfl rfl
  case andb =>
    intro s c a runs t
    exact executes_instr runs rfl rfl
  case andbn =>
    intro s c a runs t
    exact executes_instr runs rfl rfl
  case orb =>
    intro s c a runs t
    exact executes_instr runs rfl rfl
  case orbn =>
    intro s c a runs t
    exact executes_instr runs rfl rfl
  case xorb =>
    intro s c a runs t
    exact executes_instr runs rfl rfl
  case stb =>
    intro s c a runs t
    exact executes_instr runs rfl rfl
  case stbn =>
    intro s c a runs t
    exact executes_instr runs rfl rfl
  case setb =>
    intro s c a runs t
    exact executes_instr runs rfl rfl
  case clrb =>
    intro s c a runs t
    exact executes_instr runs rfl rfl
  case tglb =>
    intro s c a runs t
    exact executes_instr runs rfl rfl
  case tsetb =>
    intro s c a runs t
    exact executes_instr runs rfl rfl
  case tclrb =>
    intro s c a runs t
    exact executes_instr runs rfl rfl
  case setbc =>
    intro s c a runs t
    exact executes_instr runs rfl rfl
  case clrbc =>
    intro s c a runs t
    exact executes_instr runs rfl rfl
  case movsNone =>
    intro s c sdec ddec runs zero
    exact repeats_none runs zero rfl
  case movsWhole =>
    intro s c sdec ddec runs nonzero unbroken t
    exact repeats_whole runs nonzero unbroken rfl rfl
  case movsPart =>
    intro s c sdec ddec runs nonzero breaks t
    exact repeats_part runs nonzero breaks rfl
  case cmpsNone =>
    intro s c sdec ddec runs zero
    exact repeats_none runs zero rfl
  case cmpsWhole =>
    intro s c sdec ddec runs nonzero unbroken t
    exact repeats_whole runs nonzero unbroken rfl rfl
  case cmpsPart =>
    intro s c sdec ddec runs nonzero breaks t
    exact repeats_part runs nonzero breaks rfl
  case filsNone =>
    intro s c sdec ddec v runs zero
    exact repeats_none runs zero rfl
  case filsWhole =>
    intro s c sdec ddec v runs nonzero unbroken t
    exact repeats_whole runs nonzero unbroken rfl rfl
  case filsPart =>
    intro s c sdec ddec v runs nonzero breaks t
    exact repeats_part runs nonzero breaks rfl
  case scnsNone =>
    intro s c sdec ddec v runs zero
    exact repeats_none runs zero rfl
  case scnsWhole =>
    intro s c sdec ddec v runs nonzero unbroken t
    exact repeats_whole runs nonzero unbroken rfl rfl
  case scnsPart =>
    intro s c sdec ddec v runs nonzero breaks t
    exact repeats_part runs nonzero breaks rfl
  case dreq =>
    intro s c x runs noStall
    refine executes_instr runs (congrArg _ (if_neg ?_)) rfl
    simp only [noStall, Bool.and_false, Bool.false_eq_true, not_false_eq_true]
  case dpopNone =>
    intro s c x runs none_
    exact executes_instr runs rfl (if_pos none_)
  case dpopReady =>
    intro s c x runs some_ delivered
    refine executes_instr runs rfl ?_
    simp only [if_neg some_, delivered, Bool.false_eq_true, if_false]
  case req =>
    intro s c x runs
    exact executes_instr runs rfl rfl

end Sys2Proof.Machine
end
